-- ==== Sys2Proof/Word.lean ====
section
/-!
DEFINITION. Bytes and byte strings: every structure the module defines is a string of bytes (R4, R5).
-/
namespace Sys2Proof

/-- One byte. -/
abbrev Byte := BitVec 8

/-- A string of bytes, offset +0x00 first (R4). -/
abbrev Bytes := List Byte

end Sys2Proof
end

