-- ==== Sys2Proof/Types.lean ====
section
/-!
DEFINITION. The fixed sets of names the spec uses (operations, pools, modes, states, status codes) and the data that reaches
the block from outside: what a command of the opcode table carries as operands.
-/
namespace Sys2Proof

/-- KEY_REF [31:30] (R43). -/
inductive KeyKind where
  | none | slot | wrapped | graft
  deriving DecidableEq, Repr

/-- The operations of the engine classes (20, *Opcodes and PARAM codes*). -/
inductive Op where
  | nop | mlKemKeygen | mlKemEncaps | mlKemDecaps | mlKemEkCheck | mlKemKeygenInternal | mlKemEncapsInternal
  | mlDsaKeygen | mlDsaSign | mlDsaSignPrehash | mlDsaSignMu | mlDsaVerify | mlDsaVerifyPrehash | mlDsaVerifyMu
  | mlDsaKeygenInternal | hybridInitKeygen | hybridRespond | hybridInitFinish | hqcKeygen | hqcEncaps | hqcDecaps
  | hqcKeygenInternal | hqcEncapsInternal | mcelieceKeygen | mcelieceEncaps | mcelieceDecaps | mceliecePkCache | mcelieceKeygenInternal
  | mcelieceEncapsInternal | slhDsaKeygen | slhDsaSign | slhDsaSignPrehash | slhDsaVerify | slhDsaVerifyPrehash | slhDsaKeygenInternal
  | lmsKeygen | lmsSign | lmsVerify | lmsStateGet | xmssKeygen | xmssSign | xmssVerify
  | xmssStateGet | hashDigest | hashVerify | hashOpen | hashUpdate | hashFinal | hashFinalVerify
  | hashAbort | ecdsaKeygen | ecdsaSign | ecdsaVerify | eddsaKeygen | eddsaSign | eddsaVerify
  | ecdhKeygen | ecdhDerive | rsaKeygen | rsaSignPkcs1 | rsaSignPss | rsaVerifyPkcs1 | rsaVerifyPss
  | rsaDecryptOaep | rsaEncryptOaep | gcmEncrypt | gcmDecrypt | ccmEncrypt | ccmDecrypt | ctr
  | xtsEncrypt | xtsDecrypt | cmacGenerate | cmacVerify | gmacGenerate | gmacVerify | kwWrap
  | kwUnwrap | kwpWrap | kwpUnwrap | chachaEncrypt | chachaDecrypt | dlmsProtect | dlmsUnprotect
  | keyTransfer | exportWrapped | checkValue | kmGenerate | kmImport | kmExport | kmDestroy
  | kmPublicGet | kmRewrap | kmRestore | kmInfo | rngGenerate | quote
  deriving DecidableEq, Repr

/-- The engine pools (R16, R163, R337), with the control complex and the operations that reach no engine. -/
inductive Pool where
  | press | cooper | sha2 | keccak | dray | drbg | control | noEngine
  deriving DecidableEq, Repr

/-- The microcode kinds (R104): KIND 1 to 3 of PATCH_LOAD. -/
inductive MicroKind where
  | press | cooper | dray
  deriving DecidableEq, Repr

/-- The twelve modes (R39). -/
inductive Mode where
  | off | standby | boot | service | derated | hold | recovery | trainJoin | provisioning | debug | entropyTest | tasting
  deriving DecidableEq, Repr

/-- The six life-cycle states (R478). -/
inductive LifeCycle where
  | wafer | moduleTest | zawardProvisioned | oemField | returned | scrapped
  deriving DecidableEq, Repr

/-- Time states (R428). -/
inductive TimeState where
  | unsynced | locked | holdover | ahead
  deriving DecidableEq, Repr

/-- DRBG states (R316). -/
inductive DrbgState where
  | unseeded | seeded | reseedDue | failed | blocked
  deriving DecidableEq, Repr

/-- SLOT_STATE of a slot record header (R271). -/
inductive SlotState where
  | empty | prepared | live | corked
  deriving DecidableEq, Repr

/-- Work queue states (R80). -/
inductive QueueState where
  | absent | idle | active | crWait | broken | draining
  deriving DecidableEq, Repr

/-- Carriage states (R334). -/
inductive CarriageState where
  | absent | active | disabled | destroying
  deriving DecidableEq, Repr

/-- Train states (R452). -/
inductive TrainState where
  | noRoster | notListed | listed | joining | member
  deriving DecidableEq, Repr

/-- LINK_STATE (R408). -/
inductive LinkState where
  | idle | training | up | fault | member
  deriving DecidableEq, Repr

/-- PATCH_STATE of a vintage register (R37, R105). -/
inductive PatchState where
  | none | loaded | verified
  deriving DecidableEq, Repr

/-- Owner of a Boot Digest message, and writer of its registers (R497, R498). -/
inductive BdOwner where
  | rom | firmware
  deriving DecidableEq, Repr

/-- Status codes (R360; 20, *Status codes*). -/
inductive Status where
  | success | lengthMismatch | malformedEncoding | pointNotOnCurve | outOfRange | signatureInvalid | bufferTooSmall
  | decapsImplicitReject | keyNotFound | keyCorked | keyUseDenied | keyExhausted | keyLifecycleDenied | inputFetchError
  | outputPlaceError | translationFault | generationMismatch | entropyNotReady | entropyFailed | engineUnavailable
  | quotaExceeded | bookFull | notExecuted | faultUnrecovered | unknownOpcode | unsupportedParam | flagsInvalid
  | mbUnknownCommand | mbNoSession | mbSequence | mbNotInMode | mbStateConflict | mbRange | mbVinLow | mbLifecycleDenied
  | mbRightsDenied | mbRollback | mbInUse
  deriving DecidableEq, Repr

/-- What a fault of a Press tile or Dray is (R94, R95, R243). -/
inductive FaultKind where
  | fault | trap
  deriving DecidableEq, Repr

/-- What a fault of a Cooper engine is (R215). -/
inductive CooperFault where
  | fault | trap | mismatch
  deriving DecidableEq, Repr

/-- Who waits for a Cellar record (R268): a job, or the mailbox command that runs. -/
inductive RecordWaiter where
  | job (id : Nat)
  | mailbox
  deriving DecidableEq, Repr

/-- What an uncorrectable GDDR7 error or tag mismatch touches (R63, R153, R155, R189, R205, R208). -/
inductive GddrTarget where
  | other
  | jobInput (job : Nat)
  | jobOutput (job : Nat)
  | publicKey (entry : Nat)
  | expandedKey (materialHash : Bytes)
  | tree (slot level index : Nat)
  | session (index : Nat)
  | largeMode (job : Nat)
  deriving DecidableEq, Repr

/-- Why a connection leaves the ready state (R395, R378). -/
inductive ConnCause where
  | dreq | retries | rnrRetries | nakRemoteAccess | nakInvalidRequest | laneMode | mtu
  deriving DecidableEq, Repr

/-- A connection-manager REQ (R387, R388, R390, R392). -/
structure CmReq where
  serviceId : Nat
  peerQp : Nat
  pathMtu : Nat
  responderResources : Nat
  initiatorDepth : Nat
  retryCount : Nat
  rnrRetryCount : Nat
  ackTimeout : Nat
  pcp : Nat
  dscp : Nat
  peerAddr : Bytes
  deriving DecidableEq, Repr

/-- The registers that have no behaviour of their own when written (R9, R322, R497). -/
inductive WritableReg where
  | bdExpect (n : Nat)
  | bdSnoop
  | bdStatus
  | rngStatus
  | rngData
  | vintage (kind : Nat)
  | fuseMirror
  deriving DecidableEq, Repr

/-- An IPv4 UDP datagram on a port: the carrier of a Maldin request (R465, R466, R468). -/
structure MaldinFrame where
  port : Nat
  srcAddr : Nat
  srcPort : Nat
  dstAddr : Nat
  udpLen : Nat
  checksumOk : Bool
  vlan : Nat
  pcp : Nat
  dscp : Nat
  payload : Bytes
  deriving DecidableEq, Repr

/-- A Train message as the Train path delivers it: port, source MAC, the association it was protected under and the packet number recovered,
header and body (R447, R450). -/
structure TrainMsg where
  port : Nat
  srcMac : Nat
  assocNo : Nat
  pn : Nat
  tagOk : Bool
  header : Bytes
  body : Bytes
  deriving DecidableEq, Repr

/-- A memory fault that a Tasting step finds (R527). -/
structure MemFault where
  memId : Nat
  kind : Nat
  row : Nat
  column : Nat
  bit : Nat
  deriving DecidableEq, Repr

end Sys2Proof
end

