-- ==== Sys2Proof/Syntax.lean ====
section
/-!
DEFINITION. The commands the block takes from outside, one constructor per row of the opcode table. Each carries first `t`, the
instant at which it acts, in nanoseconds of the module's own clock (log entry 1), then the row's operands.
-/
namespace Sys2Proof

/-- One constructor per row of spec/opcode_table.json, in the table's order. -/
inductive Instr where
  /-- RING_ENTRY_WRITE (R46): A host RDMA WRITE places one or more whole 64-byte work queue entries atomically into ring memory. -/
  | ringEntryWrite (t : Nat) (conn rkey addr : Nat) (data : Bytes)
  /-- DOORBELL (R50): An 8-byte doorbell write handles INV, then consumes posted entries from CONS up to PROD_INDEX when 1 ≤ d ≤ ring size. -/
  | doorbell (t : Nat) (conn offset : Nat) (data : Bytes)
  /-- CREDIT_WORD (R67): A credit word advances CR_CONS of a completion ring, freeing slots and resuming queues in CR_WAIT. -/
  | creditWord (t : Nat) (conn offset : Nat) (data : Bytes)
  /-- PREFETCH (R54): The module reads ahead a run of OWN = 1 slots from CONS into the prefetch cache, and may consume them. -/
  | prefetch (t : Nat) (queue count : Nat) (consume : Bool)
  /-- UNKNOWN_OPCODE_ENTRY (R59): An entry whose OPCODE names no defined class and operation completes with UNKNOWN_OPCODE. -/
  | unknownOpcodeEntry (t : Nat) (job : Nat)
  /-- NOP (R74): NOP 0x7F00 completes with SUCCESS and no output other than the trailer, honouring FENCE. -/
  | nop (t : Nat) (job : Nat)
  /-- ML_KEM_KEYGEN (R115): ML-KEM KEYGEN places ek and a wrapped seed object. -/
  | mlKemKeygen (t : Nat) (job : Nat)
  /-- ML_KEM_ENCAPS (R118): ML-KEM ENCAPS checks ek and places K (or wrapped K) and c. -/
  | mlKemEncaps (t : Nat) (job : Nat)
  /-- ML_KEM_DECAPS (R119): ML-KEM DECAPS places K, or the implicit-rejection key, at the same release time. -/
  | mlKemDecaps (t : Nat) (job : Nat)
  /-- ML_KEM_EK_CHECK (R118): EK_CHECK applies the FIPS 203 modulus check to an ek. -/
  | mlKemEkCheck (t : Nat) (job : Nat)
  /-- ML_KEM_KEYGEN_INTERNAL (R120): KEYGEN_INTERNAL runs KeyGen_internal on host seeds in WAFER and MODULE_TEST only. -/
  | mlKemKeygenInternal (t : Nat) (job : Nat)
  /-- ML_KEM_ENCAPS_INTERNAL (R120): ENCAPS_INTERNAL runs Encaps_internal on host inputs in WAFER and MODULE_TEST only. -/
  | mlKemEncapsInternal (t : Nat) (job : Nat)
  /-- ML_DSA_KEYGEN (R129): ML-DSA KEYGEN places pk and a wrapped seed object. -/
  | mlDsaKeygen (t : Nat) (job : Nat)
  /-- ML_DSA_SIGN (R100): ML-DSA SIGN builds M′ and signs in rounds of four candidates. -/
  | mlDsaSign (t : Nat) (job : Nat)
  /-- ML_DSA_SIGN_PREHASH (R123): SIGN_PREHASH signs a host-supplied pre-hash with its OID. -/
  | mlDsaSignPrehash (t : Nat) (job : Nat)
  /-- ML_DSA_SIGN_MU (R123): SIGN_MU signs a host-supplied 64-byte μ. -/
  | mlDsaSignMu (t : Nat) (job : Nat)
  /-- ML_DSA_VERIFY (R128): ML-DSA VERIFY completes with SUCCESS only for a valid signature. -/
  | mlDsaVerify (t : Nat) (job : Nat)
  /-- ML_DSA_VERIFY_PREHASH (R128): VERIFY_PREHASH verifies over a host-supplied pre-hash. -/
  | mlDsaVerifyPrehash (t : Nat) (job : Nat)
  /-- ML_DSA_VERIFY_MU (R128): VERIFY_MU verifies over a host-supplied μ. -/
  | mlDsaVerifyMu (t : Nat) (job : Nat)
  /-- ML_DSA_KEYGEN_INTERNAL (R129): KEYGEN_INTERNAL places pk and sk from host ξ in WAFER and MODULE_TEST only. -/
  | mlDsaKeygenInternal (t : Nat) (job : Nat)
  /-- HYBRID_INIT_KEYGEN (R130): INIT_KEYGEN places a client share and a wrapped private object. -/
  | hybridInitKeygen (t : Nat) (job : Nat)
  /-- HYBRID_RESPOND (R133): RESPOND encapsulates to the client share and places the shared secret and server share. -/
  | hybridRespond (t : Nat) (job : Nat)
  /-- HYBRID_INIT_FINISH (R133): INIT_FINISH decapsulates the server share and places the shared secret. -/
  | hybridInitFinish (t : Nat) (job : Nat)
  /-- HQC_KEYGEN (R142): HQC KEYGEN places pk and a wrapped seed object. -/
  | hqcKeygen (t : Nat) (job : Nat)
  /-- HQC_ENCAPS (R144): HQC ENCAPS checks pk and places K and c. -/
  | hqcEncaps (t : Nat) (job : Nat)
  /-- HQC_DECAPS (R145): HQC DECAPS places K or the implicit-rejection key. -/
  | hqcDecaps (t : Nat) (job : Nat)
  /-- HQC_KEYGEN_INTERNAL (R146): HQC KEYGEN_INTERNAL places pk and sk from a host seed in test states only. -/
  | hqcKeygenInternal (t : Nat) (job : Nat)
  /-- HQC_ENCAPS_INTERNAL (R146): HQC ENCAPS_INTERNAL encapsulates with host m and salt in test states only. -/
  | hqcEncapsInternal (t : Nat) (job : Nat)
  /-- MCELIECE_KEYGEN (R156): Classic McEliece KEYGEN runs up to 16 attempts per dispatch and places pk and a wrapped seed. -/
  | mcelieceKeygen (t : Nat) (job : Nat)
  /-- MCELIECE_ENCAPS (R152): McEliece ENCAPS samples e and places K and c, from an input key, handle or slot. -/
  | mcelieceEncaps (t : Nat) (job : Nat)
  /-- MCELIECE_DECAPS (R151): McEliece DECAPS places K or the implicit-rejection key, regenerating on a cache miss. -/
  | mcelieceDecaps (t : Nat) (job : Nat)
  /-- MCELIECE_PK_CACHE (R149): PK_CACHE checks a public key, caches it and places a handle. -/
  | mceliecePkCache (t : Nat) (job : Nat)
  /-- MCELIECE_KEYGEN_INTERNAL (R157): KEYGEN_INTERNAL runs up to 64 attempts from host δ in test states only. -/
  | mcelieceKeygenInternal (t : Nat) (job : Nat)
  /-- MCELIECE_ENCAPS_INTERNAL (R150): ENCAPS_INTERNAL encapsulates with a host e of weight t in test states only. -/
  | mcelieceEncapsInternal (t : Nat) (job : Nat)
  /-- SLH_DSA_KEYGEN (R172): SLH-DSA KEYGEN places pk and a wrapped private object. -/
  | slhDsaKeygen (t : Nat) (job : Nat)
  /-- SLH_DSA_SIGN (R173): SLH-DSA SIGN signs ctx ∥ M, deterministic or hedged. -/
  | slhDsaSign (t : Nat) (job : Nat)
  /-- SLH_DSA_SIGN_PREHASH (R173): SLH-DSA SIGN_PREHASH signs a host pre-hash. -/
  | slhDsaSignPrehash (t : Nat) (job : Nat)
  /-- SLH_DSA_VERIFY (R176): SLH-DSA VERIFY checks a signature over M′. -/
  | slhDsaVerify (t : Nat) (job : Nat)
  /-- SLH_DSA_VERIFY_PREHASH (R176): SLH-DSA VERIFY_PREHASH checks a signature over a pre-hash. -/
  | slhDsaVerifyPrehash (t : Nat) (job : Nat)
  /-- SLH_DSA_KEYGEN_INTERNAL (R177): SLH-DSA KEYGEN_INTERNAL places pk and sk in test states only. -/
  | slhDsaKeygenInternal (t : Nat) (job : Nat)
  /-- LMS_KEYGEN (R190): LMS/HSS KEYGEN builds the top trees into a PREPARED slot and makes it LIVE. -/
  | lmsKeygen (t : Nat) (job : Nat)
  /-- LMS_SIGN (R183): LMS/HSS SIGN assigns a journalled leaf index and signs. -/
  | lmsSign (t : Nat) (job : Nat)
  /-- LMS_VERIFY (R191): LMS/HSS VERIFY checks a signature against pk and SIG_LEN. -/
  | lmsVerify (t : Nat) (job : Nat)
  /-- LMS_STATE_GET (R187): LMS STATE_GET places the 32-byte state record without using a team. -/
  | lmsStateGet (t : Nat) (job : Nat)
  /-- XMSS_KEYGEN (R190): XMSS/XMSS^MT KEYGEN builds the top trees into a PREPARED slot. -/
  | xmssKeygen (t : Nat) (job : Nat)
  /-- XMSS_SIGN (R183): XMSS SIGN assigns a journalled leaf index and signs. -/
  | xmssSign (t : Nat) (job : Nat)
  /-- XMSS_VERIFY (R191): XMSS VERIFY checks a signature against pk. -/
  | xmssVerify (t : Nat) (job : Nat)
  /-- XMSS_STATE_GET (R187): XMSS STATE_GET places the state record. -/
  | xmssStateGet (t : Nat) (job : Nat)
  /-- HASH_DIGEST (R200): DIGEST computes a hash, MAC or XOF output in one job. -/
  | hashDigest (t : Nat) (job : Nat)
  /-- HASH_VERIFY (R205): VERIFY compares a computed tag with the given tag in constant time. -/
  | hashVerify (t : Nat) (job : Nat)
  /-- HASH_OPEN (R202): OPEN creates a session object and places a HANDLE. -/
  | hashOpen (t : Nat) (job : Nat)
  /-- HASH_UPDATE (R203): UPDATE applies a chunk in CHUNK_NO order or makes it wait. -/
  | hashUpdate (t : Nat) (job : Nat)
  /-- HASH_FINAL (R203): FINAL applies the last chunk, places the output and closes the session. -/
  | hashFinal (t : Nat) (job : Nat)
  /-- HASH_FINAL_VERIFY (R205): FINAL_VERIFY applies the last chunk, compares the tag and closes the session. -/
  | hashFinalVerify (t : Nat) (job : Nat)
  /-- HASH_ABORT (R203): ABORT closes a session at once. -/
  | hashAbort (t : Nat) (job : Nat)
  /-- ECDSA_KEYGEN (R220): ECDSA KEYGEN places Q and a wrapped private object. -/
  | ecdsaKeygen (t : Nat) (job : Nat)
  /-- ECDSA_SIGN (R223): ECDSA SIGN signs a digest with RFC 6979 or hedged nonces. -/
  | ecdsaSign (t : Nat) (job : Nat)
  /-- ECDSA_VERIFY (R235): ECDSA VERIFY checks Q and the signature at full time. -/
  | ecdsaVerify (t : Nat) (job : Nat)
  /-- EDDSA_KEYGEN (R224): EdDSA KEYGEN places A and a wrapped seed object. -/
  | eddsaKeygen (t : Nat) (job : Nat)
  /-- EDDSA_SIGN (R225): EdDSA SIGN signs deterministically in the selected variant. -/
  | eddsaSign (t : Nat) (job : Nat)
  /-- EDDSA_VERIFY (R227): EdDSA VERIFY uses the cofactored equation. -/
  | eddsaVerify (t : Nat) (job : Nat)
  /-- ECDH_KEYGEN (R220): ECDH KEYGEN places Q or u and a wrapped private object. -/
  | ecdhKeygen (t : Nat) (job : Nat)
  /-- ECDH_DERIVE (R228): DERIVE computes Z from a peer value, or wraps it with SS_WRAP. -/
  | ecdhDerive (t : Nat) (job : Nat)
  /-- RSA_KEYGEN (R234): RSA KEYGEN searches primes and releases at T_REL or restarts. -/
  | rsaKeygen (t : Nat) (job : Nat)
  /-- RSA_SIGN_PKCS1 (R230): SIGN_PKCS1 signs a digest under PKCS#1 v1.5. -/
  | rsaSignPkcs1 (t : Nat) (job : Nat)
  /-- RSA_SIGN_PSS (R230): SIGN_PSS signs a digest under PSS. -/
  | rsaSignPss (t : Nat) (job : Nat)
  /-- RSA_VERIFY_PKCS1 (R235): VERIFY_PKCS1 checks a PKCS#1 v1.5 signature. -/
  | rsaVerifyPkcs1 (t : Nat) (job : Nat)
  /-- RSA_VERIFY_PSS (R235): VERIFY_PSS checks a PSS signature. -/
  | rsaVerifyPss (t : Nat) (job : Nat)
  /-- RSA_DECRYPT_OAEP (R233): DECRYPT_OAEP decodes without branching and places M. -/
  | rsaDecryptOaep (t : Nat) (job : Nat)
  /-- RSA_ENCRYPT_OAEP (R232): ENCRYPT_OAEP places c for a message within the length limit. -/
  | rsaEncryptOaep (t : Nat) (job : Nat)
  /-- GCM_ENCRYPT (R252): GCM_ENCRYPT encrypts and tags, drawing the IV with IV_GEN. -/
  | gcmEncrypt (t : Nat) (job : Nat)
  /-- GCM_DECRYPT (R255): GCM_DECRYPT places P only when the tag matches. -/
  | gcmDecrypt (t : Nat) (job : Nat)
  /-- CCM_ENCRYPT (R252): CCM_ENCRYPT encrypts and tags. -/
  | ccmEncrypt (t : Nat) (job : Nat)
  /-- CCM_DECRYPT (R255): CCM_DECRYPT places P only when the tag matches. -/
  | ccmDecrypt (t : Nat) (job : Nat)
  /-- CTR (R252): CTR applies AES counter mode with a 128-bit incrementing counter block. -/
  | ctr (t : Nat) (job : Nat)
  /-- XTS_ENCRYPT (R252): XTS_ENCRYPT encrypts with a tweak. -/
  | xtsEncrypt (t : Nat) (job : Nat)
  /-- XTS_DECRYPT (R252): XTS_DECRYPT decrypts with a tweak. -/
  | xtsDecrypt (t : Nat) (job : Nat)
  /-- CMAC_GENERATE (R252): CMAC_GENERATE places a CMAC tag. -/
  | cmacGenerate (t : Nat) (job : Nat)
  /-- CMAC_VERIFY (R255): CMAC_VERIFY checks a CMAC tag. -/
  | cmacVerify (t : Nat) (job : Nat)
  /-- GMAC_GENERATE (R252): GMAC_GENERATE places a GMAC tag. -/
  | gmacGenerate (t : Nat) (job : Nat)
  /-- GMAC_VERIFY (R255): GMAC_VERIFY checks a GMAC tag. -/
  | gmacVerify (t : Nat) (job : Nat)
  /-- KW_WRAP (R252): KW_WRAP wraps key data under AES-KW. -/
  | kwWrap (t : Nat) (job : Nat)
  /-- KW_UNWRAP (R255): KW_UNWRAP unwraps and checks integrity under SP 800-38F. -/
  | kwUnwrap (t : Nat) (job : Nat)
  /-- KWP_WRAP (R252): KWP_WRAP wraps key data under AES-KWP. -/
  | kwpWrap (t : Nat) (job : Nat)
  /-- KWP_UNWRAP (R255): KWP_UNWRAP unwraps and checks integrity. -/
  | kwpUnwrap (t : Nat) (job : Nat)
  /-- CHACHA_ENCRYPT (R252): CHACHA_ENCRYPT encrypts with ChaCha20-Poly1305. -/
  | chachaEncrypt (t : Nat) (job : Nat)
  /-- CHACHA_DECRYPT (R255): CHACHA_DECRYPT places P only when the tag matches. -/
  | chachaDecrypt (t : Nat) (job : Nat)
  /-- DLMS_PROTECT (R261): PROTECT derives grafts and protects each DLMS/COSEM record. -/
  | dlmsProtect (t : Nat) (job : Nat)
  /-- DLMS_UNPROTECT (R262): UNPROTECT checks counter and tag and places each plaintext APDU. -/
  | dlmsUnprotect (t : Nat) (job : Nat)
  /-- KEY_TRANSFER (R257): KEY_TRANSFER places a new graft wrapped under a master graft. -/
  | keyTransfer (t : Nat) (job : Nat)
  /-- EXPORT_WRAPPED (R257): EXPORT_WRAPPED places a graft under AES-256-KWP with a transport key. -/
  | exportWrapped (t : Nat) (job : Nat)
  /-- CHECK_VALUE (R256): CHECK_VALUE places the first 4 bytes of AES(graft, zeros). -/
  | checkValue (t : Nat) (job : Nat)
  /-- KM_GENERATE (R286): GENERATE fills a target slot with a new key, or leaves it PREPARED for stateful keys. -/
  | kmGenerate (t : Nat) (job : Nat)
  /-- KM_IMPORT (R285): IMPORT unwraps material into a slot or an external object. -/
  | kmImport (t : Nat) (job : Nat)
  /-- KM_EXPORT (R282): EXPORT places a slot as a wrapped object. -/
  | kmExport (t : Nat) (job : Nat)
  /-- KM_DESTROY (R291): DESTROY empties a slot with one directory write. -/
  | kmDestroy (t : Nat) (job : Nat)
  /-- KM_PUBLIC_GET (R282): PUBLIC_GET places the public key of a slot or object. -/
  | kmPublicGet (t : Nat) (job : Nat)
  /-- KM_REWRAP (R281): REWRAP places an object's material under the current epoch. -/
  | kmRewrap (t : Nat) (job : Nat)
  /-- KM_RESTORE (R277): RESTORE restores or regenerates the oversized part of a record. -/
  | kmRestore (t : Nat) (job : Nat)
  /-- KM_INFO (R282): INFO places header bytes +0x00 to +0x5F of a slot. -/
  | kmInfo (t : Nat) (job : Nat)
  /-- RNG_GENERATE (R321): GENERATE produces LENGTH random bytes in generate calls, optionally with prediction resistance. -/
  | rngGenerate (t : Nat) (job : Nat)
  /-- QUOTE (R306): QUOTE takes claims and places a doubly signed COSE_Sign quote. -/
  | quote (t : Nat) (job : Nat)
  /-- INPUT_FETCH_DONE (R64): A job's input has been read, and its content checks run before dispatch. -/
  | inputFetchDone (t : Nat) (job : Nat)
  /-- KEY_EXPANSION_DONE (R111): An expansion routine for a cache miss completes and its result enters the expanded-key cache. -/
  | keyExpansionDone (t : Nat) (job : Nat)
  /-- JOURNAL_WRITE_DURABLE (R183): A journalled HIGH_WATER write becomes durable and the first index of the new block is assigned. -/
  | journalWriteDurable (t : Nat) (slot : Nat)
  /-- JOB_DISPATCH (R22): The scheduler dispatches a waiting job to an engine in service with a free bank, buffer or context. -/
  | jobDispatch (t : Nat) (job part : Nat)
  /-- SCHEDULING_EPOCH (R341): At each 100 µs epoch the scheduler refills ceilings and applies shares, resizes and limits. -/
  | schedulingEpoch (t : Nat)
  /-- ENGINE_WAIT_TIMEOUT (R61): A job's 50 ms count without any engine of its pool in service ends with ENGINE_UNAVAILABLE. -/
  | engineWaitTimeout (t : Nat) (job : Nat)
  /-- BOOK_PLACE_TIMEOUT (R297): A job waiting 10 ms for Book tail places completes with BOOK_FULL. -/
  | bookPlaceTimeout (t : Nat) (job : Nat)
  /-- RECORD_WAIT_TIMEOUT (R268): A creation or replacement that finds no free record within 10 ms completes with QUOTA_EXCEEDED. -/
  | recordWaitTimeout (t : Nat) (who : RecordWaiter)
  /-- KEY_CHANGE_PLACE_TIMEOUT (R563): A mailbox command waiting 10 ms for a tail place answers QUOTA_EXCEEDED. -/
  | keyChangePlaceTimeout (t : Nat)
  /-- ENTROPY_WAIT_TIMEOUT (R317): A draw waiting on an unseeded DRBG for 50 ms from consumption completes with ENTROPY_NOT_READY. -/
  | entropyWaitTimeout (t : Nat) (job : Nat)
  /-- CHUNK_WAIT_TIMEOUT (R203): A chunk waiting 10 ms for its predecessors completes with OUT_OF_RANGE. -/
  | chunkWaitTimeout (t : Nat) (job : Nat)
  /-- SESSION_IDLE_TIMEOUT (R202): A session that receives no UPDATE or FINAL for 60 s is closed. -/
  | sessionIdleTimeout (t : Nat) (session : Nat)
  /-- JOB_COMMIT (R96): An engine reaches its commit point and passes the whole result to staging. -/
  | jobCommit (t : Nat) (job part : Nat)
  /-- BANK_WIPE_DONE (R85): The zeroing of a tile's scratch bank ends and the bank becomes available. -/
  | bankWipeDone (t : Nat) (tile bank : Nat)
  /-- OPERAND_WIPE_DONE (R209): The wipe of a Cooper engine's operand memory and input buffer ends and the engine can take a job. -/
  | operandWipeDone (t : Nat) (engine : Nat)
  /-- JOB_RELEASE (R20): At its release instant a job's result is placed, then its trailer and completion. -/
  | jobRelease (t : Nat) (job : Nat)
  /-- STAGING_SPACE_FREED (R103): Room appears in fabric staging and a committed result held in its bank moves on for release. -/
  | stagingSpaceFreed (t : Nat) (job part : Nat)
  /-- TILE_FAULT (R95): A Press tile fault or microcode trap raises its event, abandons the routine and may take the tile offline. -/
  | tileFault (t : Nat) (tile : Nat) (kind : FaultKind)
  /-- COOPER_FAULT (R215): A Cooper engine fault, trap or sign-check mismatch raises its event and may take the engine offline. -/
  | cooperFault (t : Nat) (engine : Nat) (kind : CooperFault)
  /-- HASH_CORE_FAULT (R169): A hash core parity or signature-check fault raises source 80 or 81 and may take the core offline. -/
  | hashCoreFault (t : Nat) (core : Nat) (signatureCheck : Bool)
  /-- DRAY_FAULT (R243): A Dray fault or trap raises source 84 + d and may take the Dray offline. -/
  | drayFault (t : Nat) (dray : Nat) (kind : FaultKind)
  /-- PATCH_KAT_DONE (R105): An engine finishes the known-answer test of a loaded patch and switches or causes reversion. -/
  | patchKatDone (t : Nat) (kind : MicroKind) (engine : Nat) (pass : Bool)
  /-- TREE_BUILD_DONE (R188): A background or rebuild tree build completes and the tree enters the cache. -/
  | treeBuildDone (t : Nat) (slot level index : Nat)
  /-- WQ_DRAIN_DONE (R81): A draining queue's last dispatched job releases, and the WQ_DESTROY response is sent. -/
  | wqDrainDone (t : Nat) (queue : Nat)
  /-- GENERATION_DRAINED (R333): The last job of an old generation releases and source 225 is raised. -/
  | generationDrained (t : Nat) (carriage generation : Nat)
  /-- GDDR7_UNCORRECTABLE (R14): An uncorrectable GDDR7 error or integrity-tag mismatch raises source 128 + 2k and the data is not used. -/
  | gddr7Uncorrectable (t : Nat) (component row region : Nat) (target : GddrTarget)
  /-- GDDR7_CORRECTED_RATE (R415): More than 1,000 corrected GDDR7 errors in 1 s raise source 129 + 2k. -/
  | gddr7CorrectedRate (t : Nat) (component count : Nat)
  /-- HELLO_CHALLENGE (R351): HELLO_CHALLENGE creates an ephemeral ML-KEM-768 key pair and module nonce. -/
  | helloChallenge (t : Nat) (conn : Nat) (msg : Bytes)
  /-- HELLO_PROVE (R351): HELLO_PROVE verifies the control master's signatures and opens a session keyed by K_S. -/
  | helloProve (t : Nat) (conn : Nat) (msg : Bytes)
  /-- HELLO_KEYPAIR_EXPIRY (R351): The hello key pair is discarded 1 s after the HELLO_CHALLENGE response. -/
  | helloKeypairExpiry (t : Nat) (conn : Nat)
  /-- MB_UNKNOWN_COMMAND (R360): A command with an undefined CODE answers MB_UNKNOWN_COMMAND. -/
  | mbUnknownCommand (t : Nat) (conn : Nat) (msg : Bytes)
  /-- VINTAGE_GET (R38): VINTAGE_GET returns the four vintage registers. -/
  | vintageGet (t : Nat) (conn : Nat) (msg : Bytes)
  /-- MODULE_INFO (R361): MODULE_INFO returns identity, mode, sessions, time and SVN. -/
  | moduleInfo (t : Nat) (conn : Nat) (msg : Bytes)
  /-- SESSION_CLOSE (R361): SESSION_CLOSE ends a named session or the sender's own. -/
  | sessionClose (t : Nat) (conn : Nat) (msg : Bytes)
  /-- QUOTE_GET (R361): QUOTE_GET returns an attestation quote over a given nonce. -/
  | quoteGet (t : Nat) (conn : Nat) (msg : Bytes)
  /-- RNG_INFO (R361): RNG_INFO returns a snapshot of RNG_STATUS. -/
  | rngInfo (t : Nat) (conn : Nat) (msg : Bytes)
  /-- WQ_CREATE (R362): WQ_CREATE zeroes a new ring and binds it to a connection and completion ring. -/
  | wqCreate (t : Nat) (conn : Nat) (msg : Bytes)
  /-- WQ_DESTROY (R81): WQ_DESTROY stops consumption, completes undispatched jobs with NOT_EXECUTED and starts the drain. -/
  | wqDestroy (t : Nat) (conn : Nat) (msg : Bytes)
  /-- CR_CREATE (R362): CR_CREATE names a completion ring in host memory. -/
  | crCreate (t : Nat) (conn : Nat) (msg : Bytes)
  /-- CR_DESTROY (R362): CR_DESTROY removes a completion ring no queue names. -/
  | crDestroy (t : Nat) (conn : Nat) (msg : Bytes)
  /-- WQ_INFO (R362): WQ_INFO returns a queue's state and counters. -/
  | wqInfo (t : Nat) (conn : Nat) (msg : Bytes)
  /-- CONN_INFO (R362): CONN_INFO returns a connection's kind, state and counters. -/
  | connInfo (t : Nat) (conn : Nat) (msg : Bytes)
  /-- CARRIAGE_CREATE (R334): CARRIAGE_CREATE makes a carriage ACTIVE with generation 1, K_C and zeroed memory. -/
  | carriageCreate (t : Nat) (conn : Nat) (msg : Bytes)
  /-- CARRIAGE_RESIZE (R343): CARRIAGE_RESIZE changes parameters at the next epoch boundary. -/
  | carriageResize (t : Nat) (conn : Nat) (msg : Bytes)
  /-- CARRIAGE_DISABLE (R332): CARRIAGE_DISABLE increments the generation and makes the carriage DISABLED. -/
  | carriageDisable (t : Nat) (conn : Nat) (msg : Bytes)
  /-- CARRIAGE_RESET (R332): CARRIAGE_RESET increments the generation and clears the status counters. -/
  | carriageReset (t : Nat) (conn : Nat) (msg : Bytes)
  /-- CARRIAGE_DESTROY (R335): CARRIAGE_DESTROY increments the generation, removes map entries and enters DESTROYING. -/
  | carriageDestroy (t : Nat) (conn : Nat) (msg : Bytes)
  /-- PMAP_SET (R329): PMAP_SET writes up to 6 Process Map entries with BIND_GEN filled by the module. -/
  | pmapSet (t : Nat) (conn : Nat) (msg : Bytes)
  /-- WINDOW_SET (R339): WINDOW_SET writes or removes a host window and flushes the carriage's TLB. -/
  | windowSet (t : Nat) (conn : Nat) (msg : Bytes)
  /-- CARRIAGE_INFO (R345): CARRIAGE_INFO returns the carriage status record. -/
  | carriageInfo (t : Nat) (conn : Nat) (msg : Bytes)
  /-- CELLAR_STATUS (R364): CELLAR_STATUS returns slot counts, free resources and Book sequence numbers. -/
  | cellarStatus (t : Nat) (conn : Nat) (msg : Bytes)
  /-- SLOT_SHARE (R293): SLOT_SHARE adds a carriage to a slot's SHARE_LIST by header replacement. -/
  | slotShare (t : Nat) (conn : Nat) (msg : Bytes)
  /-- SLOT_UNSHARE (R293): SLOT_UNSHARE removes a carriage from SHARE_LIST. -/
  | slotUnshare (t : Nat) (conn : Nat) (msg : Bytes)
  /-- SLOT_DESTROY (R293): SLOT_DESTROY destroys any slot, including a corked one. -/
  | slotDestroy (t : Nat) (conn : Nat) (msg : Bytes)
  /-- SLOT_INFO (R293): SLOT_INFO returns a slot header. -/
  | slotInfo (t : Nat) (conn : Nat) (msg : Bytes)
  /-- LOW_THRESHOLD_SET (R293): LOW_THRESHOLD_SET changes a stateful slot's LOW_THRESHOLD. -/
  | lowThresholdSet (t : Nat) (conn : Nat) (msg : Bytes)
  /-- WRAPKEY_ROLL (R281): WRAPKEY_ROLL makes a new current K_C and destroys the previous epoch. -/
  | wrapkeyRoll (t : Nat) (conn : Nat) (msg : Bytes)
  /-- BOOK_EXPORT_SET (R299): BOOK_EXPORT_SET names or releases the Book export ring. -/
  | bookExportSet (t : Nat) (conn : Nat) (msg : Bytes)
  /-- BOOK_READ (R364): BOOK_READ returns up to 64 Book entries from the GDDR7 ring. -/
  | bookRead (t : Nat) (conn : Nat) (msg : Bytes)
  /-- LEAF_RELEASE (R195): LEAF_RELEASE journals a shortened range and a signed release object. -/
  | leafRelease (t : Nat) (conn : Nat) (msg : Bytes)
  /-- LEAF_RELEASE_GET (R195): LEAF_RELEASE_GET rebuilds a journalled release object. -/
  | leafReleaseGet (t : Nat) (conn : Nat) (msg : Bytes)
  /-- LEAF_ACCEPT (R196): LEAF_ACCEPT checks a release object and journals the new range. -/
  | leafAccept (t : Nat) (conn : Nat) (msg : Bytes)
  /-- IDENTITY_CERT_GET (R302): IDENTITY_CERT_GET returns an identity certificate. -/
  | identityCertGet (t : Nat) (conn : Nat) (msg : Bytes)
  /-- PROVISION_IMPORT (R293): PROVISION_IMPORT creates or replaces a slot from encrypted plaintext material in M8. -/
  | provisionImport (t : Nat) (conn : Nat) (msg : Bytes)
  /-- TRAIN_STATUS (R365): TRAIN_STATUS returns the Train state and roster identity. -/
  | trainStatus (t : Nat) (conn : Nat) (msg : Bytes)
  /-- ROSTER_SET (R444): ROSTER_SET checks and stores a signed roster. -/
  | rosterSet (t : Nat) (conn : Nat) (msg : Bytes)
  /-- TRAIN_JOIN (R452): TRAIN_JOIN enters Train Join (M7) and starts keying. -/
  | trainJoin (t : Nat) (conn : Nat) (msg : Bytes)
  /-- TRAIN_LEAVE (R452): TRAIN_LEAVE sends LEAVE, deletes associations and discards the roster. -/
  | trainLeave (t : Nat) (conn : Nat) (msg : Bytes)
  /-- ROSTER_GET (R365): ROSTER_GET returns the roster in force. -/
  | rosterGet (t : Nat) (conn : Nat) (msg : Bytes)
  /-- VIN_WARN_SET (R515): VIN_WARN_SET sets the VIN_WARN threshold. -/
  | vinWarnSet (t : Nat) (conn : Nat) (msg : Bytes)
  /-- DERATED_CLEAR (R518): DERATED_CLEAR clears the dip latch. -/
  | deratedClear (t : Nat) (conn : Nat) (msg : Bytes)
  /-- SHUTDOWN_WAKE_STANDBY (R524): SHUTDOWN_WAKE ACTION 0 drains and parks the module in Standby, optionally after Tasting. -/
  | shutdownWakeStandby (t : Nat) (conn : Nat) (msg : Bytes)
  /-- SHUTDOWN_WAKE_RESET (R524): SHUTDOWN_WAKE ACTION 1 drains and resets the module, optionally after Tasting. -/
  | shutdownWakeReset (t : Nat) (conn : Nat) (msg : Bytes)
  /-- SHUTDOWN_WAKE_WAKE (R508): SHUTDOWN_WAKE ACTION 2 wakes parked Standby into Boot. -/
  | shutdownWakeWake (t : Nat) (conn : Nat) (msg : Bytes)
  /-- SHUTDOWN_DRAIN_DONE (R524): Every dispatched job has released; ORDERLY is set and the shutdown response is sent. -/
  | shutdownDrainDone (t : Nat)
  /-- PRESS_SHARE_SET (R158): PRESS_SHARE_SET sets CODE_TILE_LIMIT at the next epoch. -/
  | pressShareSet (t : Nat) (conn : Nat) (msg : Bytes)
  /-- POWER_STATUS (R366): POWER_STATUS returns VIN, input power, mode and derate causes. -/
  | powerStatus (t : Nat) (conn : Nat) (msg : Bytes) (inputMw lidMc : Nat)
  /-- ENTROPY_TEST_ENTER (R325): ENTROPY_TEST_ENTER blocks the DRBG and enters Entropy Test (M10). -/
  | entropyTestEnter (t : Nat) (conn : Nat) (msg : Bytes)
  /-- ENTROPY_TEST_READ (R326): ENTROPY_TEST_READ returns 65,536 bytes of a cell's tap. -/
  | entropyTestRead (t : Nat) (conn : Nat) (msg : Bytes) (samples : Bytes) (failRep failProp : Nat)
  /-- PROVISIONING_ENTER (R367): PROVISIONING_ENTER enters Provisioning (M8). -/
  | provisioningEnter (t : Nat) (conn : Nat) (msg : Bytes)
  /-- PROVISIONING_EXIT (R367): PROVISIONING_EXIT leaves M8 for M3, M4 or Debug. -/
  | provisioningExit (t : Nat) (conn : Nat) (msg : Bytes)
  /-- LC_TRANSITION (R487): LC_TRANSITION checks a token and performs a life-cycle transition through the fuse window. -/
  | lcTransition (t : Nat) (conn : Nat) (msg : Bytes)
  /-- LC_TRANSITION_RESET (R487): The module resets 10 ms after the LC_TRANSITION response. -/
  | lcTransitionReset (t : Nat)
  /-- DEBUG_CHALLENGE (R504): DEBUG_CHALLENGE draws a 32-byte challenge. -/
  | debugChallenge (t : Nat) (conn : Nat) (msg : Bytes)
  /-- DEBUG_CHALLENGE_EXPIRY (R504): A debug challenge expires 10 min after issue. -/
  | debugChallengeExpiry (t : Nat)
  /-- DEBUG_AUTH (R503): DEBUG_AUTH checks a certificate or server response and grants rights. -/
  | debugAuth (t : Nat) (conn : Nat) (msg : Bytes)
  /-- DEBUG_RIGHTS_LAPSE (R503): At T_NOT_AFTER a certificate's rights lapse. -/
  | debugRightsLapse (t : Nat)
  /-- FW_STAGE (R369): FW_STAGE programs a chunk into the bank that is not running. -/
  | fwStage (t : Nat) (conn : Nat) (msg : Bytes)
  /-- FW_COMMIT (R370): FW_COMMIT verifies the staged bank and writes its header. -/
  | fwCommit (t : Nat) (conn : Nat) (msg : Bytes)
  /-- FW_CONFIRM (R371): FW_CONFIRM blows FW_SVN fuses up to RUNNING_SVN. -/
  | fwConfirm (t : Nat) (conn : Nat) (msg : Bytes)
  /-- PATCH_LOAD (R104): PATCH_LOAD checks a signed patch and writes it to every engine's shadow store. -/
  | patchLoad (t : Nat) (conn : Nat) (msg : Bytes)
  /-- FW_STATUS (R368): FW_STATUS returns bank and SVN state. -/
  | fwStatus (t : Nat) (conn : Nat) (msg : Bytes)
  /-- ERING_CREATE (R417): ERING_CREATE creates an event ring, delivering the early buffer to control-master rings. -/
  | eringCreate (t : Nat) (conn : Nat) (msg : Bytes)
  /-- ERING_DESTROY (R372): ERING_DESTROY removes an event ring. -/
  | eringDestroy (t : Nat) (conn : Nat) (msg : Bytes)
  /-- EFILTER_LOAD (R424): EFILTER_LOAD checks and installs a ring's filter program. -/
  | efilterLoad (t : Nat) (conn : Nat) (msg : Bytes)
  /-- EXPRESS_ENABLE (R462): EXPRESS_ENABLE reserves engines and starts accepting Maldin frames on the named ports. -/
  | expressEnable (t : Nat) (conn : Nat) (msg : Bytes)
  /-- EXPRESS_DISABLE (R463): EXPRESS_DISABLE stops new frames and returns the engines after the last reply. -/
  | expressDisable (t : Nat) (conn : Nat) (msg : Bytes)
  /-- EXPRESS_STATUS (R477): EXPRESS_STATUS returns the Express port records. -/
  | expressStatus (t : Nat) (conn : Nat) (msg : Bytes)
  /-- PORT_CONFIG (R374): PORT_CONFIG sets a port's lane mode, MTU, VLAN, PFC and ETS. -/
  | portConfig (t : Nat) (conn : Nat) (msg : Bytes)
  /-- CLASSIFIER_LOAD (R407): CLASSIFIER_LOAD replaces a port's classifier program between frames. -/
  | classifierLoad (t : Nat) (conn : Nat) (msg : Bytes)
  /-- PORT_STATUS (R408): PORT_STATUS returns the port status record. -/
  | portStatus (t : Nat) (conn : Nat) (msg : Bytes)
  /-- TASTING_SET (R525): TASTING_SET sets TOTAL_MS and SLICE_US. -/
  | tastingSet (t : Nat) (conn : Nat) (msg : Bytes)
  /-- TASTING_LOAD (R525): TASTING_LOAD replaces the Tasting sequence. -/
  | tastingLoad (t : Nat) (conn : Nat) (msg : Bytes)
  /-- TASTING_RESULTS (R527): TASTING_RESULTS returns the status block and fault records. -/
  | tastingResults (t : Nat) (conn : Nat) (msg : Bytes)
  /-- FUSE_REPAIR (R530): FUSE_REPAIR blows SRAM repair entries effective at the next Boot. -/
  | fuseRepair (t : Nat) (conn : Nat) (msg : Bytes)
  /-- CM_REQ (R392): A connection manager REQ is checked in order and answered with REP or REJ. -/
  | cmReq (t : Nat) (port : Nat) (req : CmReq)
  /-- CM_RTU (R390): An RTU completes the establishment of a connection. -/
  | cmRtu (t : Nat) (conn : Nat)
  /-- CM_DREQ (R395): A DREQ moves a connection out of the ready state and is answered with DREP. -/
  | cmDreq (t : Nat) (conn : Nat)
  /-- ADMIT_TOKEN_REFILL (R393): A port's admission bucket gains a token at its refill rate. -/
  | admitTokenRefill (t : Nat) (port : Nat)
  /-- ADMIT_SOFT_START_END (R393): 5 s after Service entry the admission bucket moves to 20,000 tokens/s and depth 2,000. -/
  | admitSoftStartEnd (t : Nat)
  /-- CONNECTION_ERROR (R395): A connection leaves the ready state: bound queues become BROKEN and pending output is discarded. -/
  | connectionError (t : Nat) (conn : Nat) (cause : ConnCause)
  /-- CARRIAGE_MEMORY_WRITE (R399): A host RDMA WRITE to carriage memory is placed in whole 64-byte units after the region check. -/
  | carriageMemoryWrite (t : Nat) (conn rkey addr : Nat) (data : Bytes)
  /-- RDMA_READ_REQUEST (R398): A host RDMA READ of a ring, window or carriage memory is checked and answered. -/
  | rdmaReadRequest (t : Nat) (conn rkey addr len : Nat)
  /-- RDMA_READ_RESPONSE (R388): The response to a module RDMA READ arrives, delivering job input or a CONS_INDEX. -/
  | rdmaReadResponse (t : Nat) (conn id : Nat) (data : Bytes)
  /-- RDMA_ACK (R385): An ACK or NAK from a host arrives for a module request. -/
  | rdmaAck (t : Nat) (conn : Nat) (nak : Option ConnCause)
  /-- RNR_NAK (R69): An RNR NAK for a module SEND leads to retry under the connection's RNR settings. -/
  | rnrNak (t : Nat) (conn : Nat)
  /-- TRANSPORT_RETRY_TIMER (R388): A module request's local ACK timeout expires and it is retried or the connection fails. -/
  | transportRetryTimer (t : Nat) (conn : Nat)
  /-- CNP_RECEIVED (R389): A CNP halves the connection's transmit rate at most once per 50 µs. -/
  | cnpReceived (t : Nat) (conn : Nat)
  /-- CNP_RATE_RESTORE (R389): Every 55 µs the connection's rate is raised by 5 Gbit/s up to the port rate. -/
  | cnpRateRestore (t : Nat) (conn : Nat)
  /-- INGRESS_FRAME (R403): A received frame with valid FCS runs the port's classifier program and goes to a path. -/
  | ingressFrame (t : Nat) (port len : Nat) (frame : Bytes) (marked : Option Nat)
  /-- MGMT_FRAME (R406): A management frame (ARP, ICMP, DHCP, LLDP) is handled by the firmware within its rate limit. -/
  | mgmtFrame (t : Nat) (port : Nat) (frame : Bytes)
  /-- PFC_FRAME (R383): A received PFC frame pauses or resumes a priority. -/
  | pfcFrame (t : Nat) (port priority : Nat) (pause : Bool)
  /-- PFC_STORM_TIMEOUT (R383): A priority paused for 200 ms raises the PFC-storm event. -/
  | pfcStormTimeout (t : Nat) (port priority : Nat) (own : Bool)
  /-- LINK_UP (R375): Link training completes and the port's link state becomes UP. -/
  | linkUp (t : Nat) (port : Nat)
  /-- LINK_DOWN (R396): Loss of link leaves connections in their state and raises the link event. -/
  | linkDown (t : Nat) (port : Nat)
  /-- FEC_WINDOW (R409): At each 1 s FEC window the module sets or clears FEC_DEGRADED. -/
  | fecWindow (t : Nat) (port lane codewords corrected received uncorrectable : Nat)
  /-- PTP_SYNC (R428): A Sync, with its Follow_Up, updates the offset and drives the time state machine. -/
  | ptpSync (t : Nat) (port master masterTime : Nat) (member : Option Nat)
  /-- PTP_DELAY_RESP (R401): A Delay_Resp completes a delay measurement. -/
  | ptpDelayResp (t : Nat) (port master delay : Nat) (member : Option Nat)
  /-- PTP_DELAY_REQ (R401): A Delay_Req received as grandmaster is answered with Delay_Resp. -/
  | ptpDelayReq (t : Nat) (port requester : Nat) (member : Option Nat)
  /-- PTP_ANNOUNCE (R401): An Announce feeds the best master clock algorithm. -/
  | ptpAnnounce (t : Nat) (port master rank : Nat)
  /-- SYNC_TIMEOUT (R428): No Sync accepted from the master for 3 s moves LOCKED or AHEAD to HOLDOVER. -/
  | syncTimeout (t : Nat)
  /-- PPS_IN_EDGE (R554): A PPS_IN rising edge is stamped and applied as a Sync offset by a grandmaster member. -/
  | ppsInEdge (t : Nat)
  /-- PPS_OUT_TICK (R555): PPS_OUT rises at each whole second of Train time. -/
  | ppsOutTick (t : Nat)
  /-- TIME_MARK_TIMER (R427): Every 10 ms the module writes a Train time mark 20 ms ahead into the journal. -/
  | timeMarkTimer (t : Nat)
  /-- TIME_MARK_DURABLE (R427): A new Train time mark becomes durable and records waiting on it take their time. -/
  | timeMarkDurable (t : Nat)
  /-- CONS_INDEX_POLL (R418): The module reads an event ring's CONS_INDEX when places run low, or every 1 ms for the export ring. -/
  | consIndexPoll (t : Nat) (ring : Nat)
  /-- CONS_INDEX_READ_DONE (R418): A read CONS_INDEX frees ring places, frees credited Book tail places and lets queued records be placed. -/
  | consIndexReadDone (t : Nat) (ring value : Nat)
  /-- CHECKPOINT_TIMER (R298): 1 s after the last checkpoint, with entries appended, a CHECKPOINT entry is made. -/
  | checkpointTimer (t : Nat)
  /-- CHECKPOINT_COUNT (R298): After 4,096 entries since the last checkpoint, a CHECKPOINT entry is made. -/
  | checkpointCount (t : Nat)
  /-- CHECKPOINT_SIGNED (R298): Both checkpoint signatures complete and the anchor is written. -/
  | checkpointSigned (t : Nat) (ok : Bool)
  /-- NOISE_BIT (R308): A cell's debiased bit runs its continuous health tests and enters the conditioner. It comes of a pair of raw samples
  (R307). -/
  | noiseBit (t : Nat) (cell : Nat) (raw : Bool × Bool)
  /-- CELL_STALL_TIMEOUT (R308): A cell that yields no debiased bit for 100 µs fails its stall test. -/
  | cellStallTimeout (t : Nat) (cell : Nat)
  /-- CELL_STARTUP_PASS (R310): A cell passes its 1,024-bit start-up test and becomes healthy. -/
  | cellStartupPass (t : Nat) (cell : Nat)
  /-- CONDITIONED_BLOCK (R311): A 512-bit block is compressed into a conditioned output and enters the reseed buffer. -/
  | conditionedBlock (t : Nat) (agree : Bool)
  /-- DRBG_INSTANTIATE (R316): With four blocks ready and the KAT passed the DRBG is instantiated and serves waiting draws. -/
  | drbgInstantiate (t : Nat) (katOk : Bool)
  /-- RESEED_TIMER (R314): 100 ms after the last reseed a reseed falls due. -/
  | reseedTimer (t : Nat) (katOk : Bool)
  /-- RESEED_CALL_COUNT (R314): After 2²⁰ generate calls since the last reseed a reseed falls due. -/
  | reseedCallCount (t : Nat) (katOk : Bool)
  /-- RESEED_DUE_TIMEOUT (R313): The DRBG staying in RESEED_DUE for 10 ms is a fatal failure of cause 4. -/
  | reseedDueTimeout (t : Nat)
  /-- MASK_SEED_REFILL (R91): The DRBG refills a tile's pool of up to four mask seeds ahead of need. -/
  | maskSeedRefill (t : Nat) (tile : Nat)
  /-- RNG_DATA_READ (R323): A read of RNG_DATA returns and clears the word, or returns 0 and sets EMPTY_READ. -/
  | rngDataRead (t : Nat)
  /-- BD_START (R498): BD_CTRL START begins a Boot Digest message, or sets REFUSED when busy. -/
  | bdStart (t : Nat) (owner : BdOwner)
  /-- BD_FINISH (R499): BD_CTRL FINISH ends the message and drives the comparator. -/
  | bdFinish (t : Nat) (owner : BdOwner)
  /-- BD_ABORT (R498): BD_CTRL ABORT by the owner discards the context. -/
  | bdAbort (t : Nat) (owner : BdOwner)
  /-- BD_DATA_WRITE (R500): A BD_DATA write absorbs eight bytes, silently restarting the message when DONE is 1. -/
  | bdDataWrite (t : Nat) (owner : BdOwner) (data : Bytes)
  /-- NOR_READ_SNOOPED (R497): With SNOOP set, bytes read from NOR are absorbed into the Boot Digest context. -/
  | norReadSnooped (t : Nat) (bank offset len : Nat)
  /-- REGISTER_WRITE (R9): A write to a register without behaviour of its own, such as BD_EXPECT, SNOOP or a W1C flag. -/
  | registerWrite (t : Nat) (reg : WritableReg) (value : BitVec 64)
  /-- VIN_START (R508): VIN rises through VIN_START with nRESET deasserted and the power-up passage of Standby begins. -/
  | vinStart (t : Nat) (vin : Nat)
  /-- PLL_LOCK (R26): Every PLL has locked and Boot (M2) is entered. -/
  | pllLock (t : Nat)
  /-- PLL_LOSS_OF_LOCK (R27): A PLL loses lock, resetting the module or, in parked Standby, returning to the power-up passage. -/
  | pllLossOfLock (t : Nat) (kept : Bool)
  /-- BOOT_END (R508): Boot ends and the module enters Recovery, or Train Join, Service or Derated after an orderly shutdown. -/
  | bootEnd (t : Nat)
  /-- EXPRESS_READY (R474): Express becomes ready in Boot or Recovery and Maldin frames are served. -/
  | expressReady (t : Nat)
  /-- RECOVERY_END (R438): Recovery completes its steps and hands over to Train Join, Service or Derated. -/
  | recoveryEnd (t : Nat)
  /-- VIN_WARN_CROSSING (R516): VIN below VIN_WARN for 2 µs enters Hold (M5) and uncouples engine domains. -/
  | vinWarnCrossing (t : Nat) (vin : Nat)
  /-- HOLD_EXIT (R517): VIN at or above VIN_WARN + 0.25 V for 1 ms ends Hold and may set the dip latch. -/
  | holdExit (t : Nat) (vin : Nat)
  /-- VIN_RESET (R435): VIN below VIN_RESET resets the module after any MRAM write in progress completes. -/
  | vinReset (t : Nat) (vin : Nat)
  /-- NRESET_ASSERT (R508): nRESET low for 1 µs resets the module into Off (M0). -/
  | nresetAssert (t : Nat)
  /-- NWAKE (R508): nWAKE low for 10 µs wakes parked Standby into Boot. -/
  | nwake (t : Nat)
  /-- VIN_LOW_DERATE (R520): VIN below 11.4 V for 50 µs is a Derated condition. -/
  | vinLowDerate (t : Nat) (vin : Nat)
  /-- DERATED_EXIT_TIMER (R520): No Derated condition for 100 ms returns the module toward Service. -/
  | deratedExitTimer (t : Nat) (vin : Nat)
  /-- LADDER_STEP_UP (R521): Every 100 µs while the cap rises the power manager powers the next ladder step. -/
  | ladderStepUp (t : Nat) (vin : Nat)
  /-- INPUT_POWER_OVER (R521): Input power above 20 A × VIN for 1 ms removes the top ladder step. -/
  | inputPowerOver (t : Nat) (currentMa vin : Nat)
  /-- CURRENT_LIMIT (R538): Input current at 22 A for 50 µs raises source 152 and removes steps. -/
  | currentLimit (t : Nat) (rail : Option Nat) (currentMa vin : Nat)
  /-- THERMAL_LIMIT (R523): A junction reaching 100 °C starts throttling; 105 °C removes every step above 2. -/
  | thermalLimit (t : Nat) (sensor temp : Nat)
  /-- THERMAL_STEP_TIMER (R523): Every 10 ms above 100 °C a step is removed, and every 100 ms below 95 °C one is restored. -/
  | thermalStepTimer (t : Nat) (temp : Nat)
  /-- JUNCTION_OVERTEMP (R545): A junction at 112 °C for 1 ms causes an internal reset with cause 6. -/
  | junctionOvertemp (t : Nat)
  /-- LID_TEMP_WARN (R544): The lid reaching 80 °C raises source 150. -/
  | lidTempWarn (t : Nat) (temp : Nat)
  /-- RAIL_FAULT (R542): A domain rail outside its window or over current is clamped off or resets the module. -/
  | railFault (t : Nat) (domain : Nat) (overCurrent : Bool)
  /-- WATCHDOG_EXPIRY (R439): The control-firmware watchdog expires and the module makes an internal reset. -/
  | watchdogExpiry (t : Nat)
  /-- INTERNAL_FAULT (R508): An uncorrectable internal fault makes an internal reset with cause 6. -/
  | internalFault (t : Nat)
  /-- TAMPER_MESH (R532): The mesh leaving its resistance window for 10 µs is tamper and starts zeroisation. -/
  | tamperMesh (t : Nat)
  /-- TAMPER_IN (R532): TAMPER_IN[n] high for 10 µs is tamper and starts zeroisation. -/
  | tamperIn (t : Nat) (n : Nat)
  /-- NZEROISE_ASSERT (R532): nZEROISE low for 10 µs is tamper and starts zeroisation. -/
  | nzeroiseAssert (t : Nat)
  /-- VBAT_LOW (R551): VBAT below 2.2 V clears the seal share. -/
  | vbatLow (t : Nat)
  /-- ZEROISE_RESET (R533): After the MRAM wipe of powered zeroisation the module makes an internal reset. -/
  | zeroiseReset (t : Nat)
  /-- TASTING_STEP_DONE (R526): A Tasting step ends, its faults are recorded and the cursor advances. -/
  | tastingStepDone (t : Nat) (faults : List MemFault)
  /-- TASTING_STEP_BUDGET (R526): A Tasting step that reaches its budget is cut and counted as untested. -/
  | tastingStepBudget (t : Nat)
  /-- TRAIN_HELLO_TIMER (R448): Every 100 ms LO sends HELLO to each listed member without a pairwise association. -/
  | trainHelloTimer (t : Nat) (peer : Nat)
  /-- TRAIN_HELLO (R448): HI checks a HELLO against its roster and answers with HELLO_REPLY. -/
  | trainHello (t : Nat) (m : TrainMsg)
  /-- TRAIN_HELLO_REPLY (R448): LO checks a HELLO_REPLY, derives SK and sends HELLO_CONFIRM. -/
  | trainHelloReply (t : Nat) (m : TrainMsg)
  /-- TRAIN_HELLO_CONFIRM (R448): HI checks FIN, derives SK and installs the pairwise associations. -/
  | trainHelloConfirm (t : Nat) (m : TrainMsg)
  /-- TRAIN_LIVE_TIMER (R451): After 100 ms with nothing sent on a pair the member sends LIVE. -/
  | trainLiveTimer (t : Nat) (peer : Nat)
  /-- TRAIN_LIVE (R451): A LIVE message refreshes a peer's liveness. -/
  | trainLive (t : Nat) (m : TrainMsg)
  /-- TRAIN_LEAVE_MSG (R451): A LEAVE message marks the peer DOWN. -/
  | trainLeaveMsg (t : Nat) (m : TrainMsg)
  /-- TRAIN_PUSH (R454): A PUSH of a replicated object is applied or refused and acknowledged. -/
  | trainPush (t : Nat) (m : TrainMsg)
  /-- TRAIN_DIGEST (R452): A DIGEST drives catch-up pushes with a peer. -/
  | trainDigest (t : Nat) (m : TrainMsg)
  /-- TRAIN_PTP (R460): A PTP message inside a Train association is stamped and handled as PTP. -/
  | trainPtp (t : Nat) (m : TrainMsg)
  /-- PUSH_RESEND (R455): An unacknowledged push is resent to its peer. -/
  | pushResend (t : Nat) (peer : Nat)
  /-- PEER_SILENCE_TIMEOUT (R451): A peer silent for 300 ms becomes DOWN and source 210 is raised. -/
  | peerSilenceTimeout (t : Nat) (peer : Nat)
  /-- TRAIN_REKEY_TIMER (R450): 24 h after keying, LO re-keys the pair. -/
  | trainRekeyTimer (t : Nat) (peer : Nat)
  /-- OLD_SA_EXPIRY (R450): 100 ms after a re-key the previous association is deleted. -/
  | oldSaExpiry (t : Nat) (peer : Nat)
  /-- JOIN_TIMEOUT (R452): JOINING ends 2 s after entry, leaving M7 with event 211. -/
  | joinTimeout (t : Nat)
  /-- JOIN_CATCH_UP_DONE (R452): Catch-up with every listed member completes and JOINING ends. -/
  | joinCatchUpDone (t : Nat)
  /-- MALDIN_ECDSA_SIGN (R471): A Maldin ECDSA_SIGN frame signs a digest with a P-256 slot. -/
  | maldinEcdsaSign (t : Nat) (f : MaldinFrame)
  /-- MALDIN_ECDSA_VERIFY (R471): A Maldin ECDSA_VERIFY frame verifies a P-256 signature. -/
  | maldinEcdsaVerify (t : Nat) (f : MaldinFrame)
  /-- MALDIN_ECDH (R471): A Maldin ECDH frame returns a P-256 shared value Z. -/
  | maldinEcdh (t : Nat) (f : MaldinFrame)
  /-- MALDIN_DLMS_PROTECT (R472): A Maldin DLMS_PROTECT frame protects an APDU in slot-pair or graft mode. -/
  | maldinDlmsProtect (t : Nat) (f : MaldinFrame)
  /-- MALDIN_DLMS_UNPROTECT (R472): A Maldin DLMS_UNPROTECT frame unprotects an APDU. -/
  | maldinDlmsUnprotect (t : Nat) (f : MaldinFrame)
  /-- MALDIN_KEY_DERIVE (R471): A Maldin KEY_DERIVE frame returns a new graft wrapped under a master graft. -/
  | maldinKeyDerive (t : Nat) (f : MaldinFrame)
  /-- MALDIN_BAD_COMMAND (R468): A Maldin frame with an undefined CMD is answered BAD_COMMAND. -/
  | maldinBadCommand (t : Nat) (f : MaldinFrame)
  /-- MALDIN_REPLY_SEND (R470): A ready Maldin reply is sent once every earlier reply of its source has been sent. -/
  | maldinReplySend (t : Nat) (frame : Nat)
  /-- NRESET_DEASSERT (R508): nRESET is released while VIN is at or above VIN_START, and the module leaves Off (M0) for the power-up passage of Standby. -/
  | nresetDeassert (t : Nat) (vin : Nat)
  /-- PFC_STORM_IGNORE_END (R383): The 1 s during which the module transmits on a partner-paused priority, ignoring pause frames, ends and it honours PFC again. -/
  | pfcStormIgnoreEnd (t : Nat) (port priority : Nat)
  /-- HOLDOVER_REDUCED_RATE_END (R428): In HOLDOVER entered from AHEAD, Train time reaches the master's time at its last Sync advanced at the held frequency, and the reduced rate ends. -/
  | holdoverReducedRateEnd (t : Nat)
  /-- PEER_KEYING_TIMEOUT (R451): Keying with a peer has failed for 1.5 s in JOINING, so the peer is DOWN with cause 3 and source 210 is raised. -/
  | peerKeyingTimeout (t : Nat) (peer : Nat)
  /-- KEYGEN_ATTEMPTS_EXHAUSTED (R156): A Classic McEliece KEYGEN routine fails all 16 attempts and stops before COMMIT, and the job restarts with a fresh δ or completes with FAULT_UNRECOVERED after 8 stops. -/
  | keygenAttemptsExhausted (t : Nat) (job : Nat)
  /-- CURRENT_STEP_TIMER (R542): After the current limit has acted, the top ladder step is removed every 10 µs until input current falls below 21 A, then one step is restored every 100 ms. -/
  | currentStepTimer (t : Nat) (currentMa : Nat)
  deriving DecidableEq, Repr

end Sys2Proof
end

