-- ==== Sys2Proof/Config.lean ====
section
/-!
DEFINITION. What the spec leaves to the standards it names or leaves open: uninterpreted constants, which nothing in Lean
can evaluate. A statement about one of them holds whatever it is (log entries 4 and 5).
-/
namespace Sys2Proof

/-- The functions that the standards the spec relies on define (00, *Standards relied on*; R7, R12). Each is used with a
parameter-set number and a list of byte strings; its output is taken at the length the spec gives. -/
inductive StdFn where
  /-- FIPS 203: ek, expanded dk, shared secret and ciphertext of encapsulation, shared secret of decapsulation. -/
  | kemEk | kemDk | kemEncK | kemEncC | kemDecK | kemHashOk
  /-- FIPS 204: public key, private key, the candidate of a counter and whether it is valid, verification. -/
  | dsaPk | dsaSk | dsaSig | dsaVerify
  /-- HQC and Classic McEliece. -/
  | hqcPk | hqcSk | hqcEncK | hqcEncC | hqcDecK
  | mcePk | mceSk | mceEncK | mceEncC | mceDecK | mceAttempt | mceDelta
  /-- FIPS 205. -/
  | slhPk | slhSk | slhSig | slhVerify
  /-- SP 800-208 trees: root, XMSS tree signature, verification, LM-OTS chains, authentication path, PRF of RFC 8391. -/
  | treeRoot | treeSig | treeVerify | lmotsSig | treePath | treePrf
  /-- Hash, MAC and XOF functions of R199, by PARAM. -/
  | hash
  /-- AES-CMAC. -/
  | cmac
  /-- Elliptic curves: public value, signature, verification equation, shared value and point checks. -/
  | ecPub | ecSig | ecRetries | ecVerify | ecShared | ecOnCurve
  | edPub | edSig | edVerify | edYRange | edXFound | edMalformed | edSmall | xPub | xShared
  /-- RSA: primes, private and public operations, encodings. -/
  | rsaPrimes | rsaSearchEnds | rsaPrivate | rsaPublic | rsaOaepOk | rsaOaepLen | rsaOaepMsg
  | rsaPkcs1Ok | rsaPssOk | rsaExponent
  /-- Block-cipher modes. -/
  | aes | gcmC | gcmTag | ccmC | ccmTag | chachaC | chachaTag | xtsEnc | xtsDec | gmac
  | kwWrap | kwUnwrap | kwOk | kwpWrap | kwpUnwrap | kwpOk | kwpLen
  /-- AES-256 CTR_DRBG with additional input, and the conditioner. -/
  | drbg | conditioner
  /-- What the first 128 bytes of a frame do not show of it: ICRC, CM MAD, MACsec and PTP form (R406). -/
  | frameCheck
  /-- A microcode patch: signatures, PATCH_ID, base version, words; the spec gives it no layout (R104). -/
  | patch
  /-- Certificates and DER encodings that the standards fix. -/
  | certParse | certHolds | certField | csr
  /-- Train keying (X25519MLKEM768 and KMAC), MACsec and PTP. -/
  | trainKey | macsecTag | ptp
  /-- The tile's mask generator (R90), and the words of the microcode images (R92). -/
  | maskGen | microcode
  /-- The integrity tag of data in GDDR7 (R14), and a DHCPv4 message (R379). -/
  | gddrTag | dhcp
  /-- Known-answer and pairwise-consistency tests pass. -/
  | pairwise
  /-- Silicon and fuse identities: values fixed at manufacture. -/
  | silicon
  deriving DecidableEq, Repr

/-- Byte `i` of the output of a standard's function. FREE: the standards' algorithms are not in the spec (log entry 4). -/
opaque Config.stdByte : StdFn → Nat → List Bytes → Nat → Byte

/-- The verdict of a standard's check. FREE (log entry 4). -/
opaque Config.stdHolds : StdFn → Nat → List Bytes → Bool

/-- A count that a standard's procedure yields, such as the rounds of a signature. FREE (log entry 4). -/
opaque Config.stdNat : StdFn → Nat → List Bytes → Nat

/-- Byte `i` of the DRBG's answer to draw number `n`. FREE: random bytes have no stated value (log entry 5). -/
opaque Config.random : Nat → Nat → Byte

/-- A value that the spec leaves open, told apart by a tag and the number of the use (log entry 6). FREE. -/
opaque Config.freeNat : String → Nat → Nat

/-- Fuse and silicon values the spec names without giving: unique ID, OEM ID, device secret, base versions. FREE (log entry 7). -/
opaque Config.fuseByte : String → Nat → Byte

end Sys2Proof
end

