-- ==== Sys2Proof/Machine/Records.lean ====
section
/-!
DEFINITION. The records that State holds lists of: queues, rings, connections, jobs, engines, slot records, carriages, sessions,
ports, peers and what is sent. Each field's text gives: meaning; width; file and rule of the spec; value at reset.
-/
namespace Sys2Proof.Machine

/-- Addressed memory in canonical form: addresses strictly rising, no entry equal to 0, an unlisted address reads 0 (log entry 8). -/
abbrev Mem := List Host.Cell

/-- A 64-byte-entry ring in GDDR7 with its queue registers (02). -/
structure WorkQueue where
  /-- Queue index; 16 bits; 02 R41; no queue at reset -/
  index : Nat
  /-- Bound connection; 16 bits; 02 R41; no queue at reset -/
  conn : Nat
  /-- Completion ring named at WQ_CREATE; 16 bits; 02 R42; no queue at reset -/
  cr : Nat
  /-- Ring size in entries; 17 bits; 02 R41; no queue at reset -/
  size : Nat
  /-- Queue state; 3 bits; 02 R80; ABSENT (no element) -/
  state : QueueState := .idle
  /-- Ring memory; size x 64 bytes; 02 R41; zeros at WQ_CREATE -/
  ring : Mem := []
  /-- Consumer index CONS; 16 bits; 02 R41; 0 at WQ_CREATE -/
  cons : Nat := 0
  /-- Next SUBMIT_SEQ; 32 bits; 02 R48; 0 at WQ_CREATE -/
  submitSeq : Nat := 0
  /-- Index that the run in progress consumes up to; 16 bits; 02 R50; none -/
  target : Option Nat := none
  /-- Prefetched entries by index; 8 entries of 64 bytes; 02 R54; empty -/
  cache : List (Nat × Bytes) := []
  /-- DROPPED_WRITES; 64 bits; 02 R52; 0 -/
  droppedWrites : Nat := 0
  /-- INV_IGNORED; 64 bits; 02 R57; 0 -/
  invIgnored : Nat := 0
  /-- Results discarded while BROKEN, detail of source 228; count; 11 R346; 0 -/
  discarded : Nat := 0
  /-- SUBMIT_SEQ of the fenced entry that holds later ones back is found from the jobs; highest job id consumed; 02 R73; 0 -/
  lastJob : Nat := 0
  deriving DecidableEq, Repr

/-- A completion ring in host memory (02). -/
structure CompletionRing where
  /-- Completion ring index; 16 bits; 02 R42; no ring at reset -/
  index : Nat
  /-- Connection; 16 bits; 02 R42; no ring at reset -/
  conn : Nat
  /-- Base address in host memory; 64 bits; 02 R42; no ring at reset -/
  base : Nat
  /-- rkey; 32 bits; 02 R42; no ring at reset -/
  rkey : Nat
  /-- Size in entries; 17 bits; 02 R42; no ring at reset -/
  size : Nat
  /-- Completion count j; 32 bits; 02 R66; 0 at CR_CREATE -/
  count : Nat := 0
  /-- CR_CONS; 16 bits; 02 R67; 0 at CR_CREATE -/
  crCons : Nat := 0
  /-- Completion slots reserved at consumption; count; 02 R67; 0 -/
  reserved : Nat := 0
  deriving DecidableEq, Repr

/-- Why the module issued an RDMA READ (R44, R418). -/
inductive ReadUse where
  | jobInput (job offset len : Nat)
  | consIndex (ring : Nat)
  deriving DecidableEq, Repr

/-- How a Train frame is protected under IEEE 802.1AE: its SCI, the SSCI and association number, the packet number, the E bit, and the SAK and
salt of the sender (15 R447, R449). -/
structure SecTag where
  /-- SCI: MAC address and port identifier; 64 bits; 15 R447; no frame at reset -/
  sci : Nat
  /-- SSCI; 32 bits; 15 R449; no frame at reset -/
  ssci : Nat
  /-- Association number; 2 bits; 15 R450; no frame at reset -/
  assocNo : Nat
  /-- Packet number; 64 bits; 15 R450; no frame at reset -/
  pn : Nat
  /-- E bit: the frame is encrypted; 1 bit; 15 R447; no frame at reset -/
  encrypted : Bool
  /-- SAK; 32 bytes; 15 R447, R449; no frame at reset -/
  sak : Bytes
  /-- Salt; 12 bytes; 15 R449; no frame at reset -/
  salt : Bytes
  deriving DecidableEq, Repr

/-- What the module sends (log entry 9): the requests, responses and frames that leave a port. -/
inductive Out where
  | write (conn rkey addr : Nat) (data : Bytes)
  | read (conn id rkey addr len : Nat)
  | send (conn : Nat) (data : Bytes)
  | readResponse (conn : Nat) (data : Bytes)
  | ack (conn : Nat)
  | nak (conn : Nat) (invalidRequest : Bool)
  | rnrNak (conn : Nat)
  | cnp (conn : Nat)
  | cmRep (conn : Nat) (data : Bytes)
  | cmRej (port reason : Nat) (data : Bytes)
  | cmDrep (conn : Nat)
  | cmDreq (conn : Nat)
  | udp (port srcAddr srcPort dstAddr dstPort checksum vlan pcp dscp : Nat) (data : Bytes)
  | mgmt (port : Nat) (frame : Bytes)
  | pfc (port priority : Nat) (xoff : Bool)
  | ptp (port : Nat) (member : Option Nat) (kind : Nat) (data : Bytes)
  | train (port dst : Nat) (sec : SecTag) (header body : Bytes)
  | pps
  deriving DecidableEq, Repr

/-- A RoCEv2 reliable connection (13). -/
structure Connection where
  /-- CONN_INDEX; 16 bits; 13 R391; no connection at reset -/
  index : Nat
  /-- Mailbox connection (KIND 1) or data (KIND 0); 1 bit; 12 R362; no connection at reset -/
  mailbox : Bool
  /-- Port on which the REQ arrived; 3 bits; 13 R390; no connection at reset -/
  port : Nat
  /-- Peer queue pair, address and transport parameters of the REQ; as the REQ carries; 13 R388; no connection at reset -/
  req : CmReq
  /-- READY: in the ready state; 1 bit; 12 R362; no connection at reset -/
  ready : Bool := true
  /-- RTU received; 1 bit; 13 R390; 0 -/
  established : Bool := false
  /-- WINDOW_DROPPED; 64 bits; 02 R52; 0 -/
  windowDropped : Nat := 0
  /-- CREDITS_IGNORED; 64 bits; 02 R67; 0 -/
  creditsIgnored : Nat := 0
  /-- CONS_INDEX_IGNORED; 64 bits; 14 R418; 0 -/
  consIgnored : Nat := 0
  /-- Output, completions, SENDs and events discarded after an error; count; 13 R395; 0 -/
  discarded : Nat := 0
  /-- Transmit rate in Mbit/s after CNPs; number; 13 R389; the port rate -/
  rate : Nat := 100000
  /-- Instant of the last halving; ns; 13 R389; none -/
  lastCnp : Option Nat := none
  /-- Instant of the last change of the rate; ns; 13 R389; 0 -/
  rateAt : Nat := 0
  /-- Instant of the last CNP sent; ns; 13 R389; none -/
  lastCnpSent : Option Nat := none
  /-- Outstanding module RDMA READs; 16 entries; 13 R388; empty -/
  reads : List (Nat × ReadUse) := []
  /-- RDMA READs not yet issued for want of responder resources; queue; 13 R388; empty -/
  readQueue : List (Nat × Nat × Nat × Nat × ReadUse) := []
  /-- Requests sent from the oldest NOTIFY SEND on that has not been accepted; list, its first a SEND; 02 R69; empty -/
  outstanding : List Out := []
  /-- A NOTIFY SEND that an RNR NAK makes wait, and its RNR retries so far; one entry; 02 R69; none -/
  notify : Option (Bytes × Nat) := none
  /-- Requests held behind the waiting SEND, in order; queue; 02 R69; empty -/
  heldOut : List Out := []
  /-- Number of the first output that can be the connection's; number; 13 R395; no connection at reset -/
  firstOut : Nat := 0
  /-- Retries of the oldest unacknowledged request; count; 13 R388; 0 -/
  retries : Nat := 0
  deriving DecidableEq, Repr

/-- The header of a slot record without its TAG (R271). -/
structure SlotHeader where
  /-- SLOT_STATE; 8 bits; 09 R271; no record at reset -/
  state : SlotState
  /-- KEY_CLASS; 8 bits; 09 R271; no record at reset -/
  keyClass : Nat
  /-- PARAM; 8 bits; 09 R271; no record at reset -/
  param : Nat
  /-- FORM; 8 bits; 09 R271; no record at reset -/
  form : Nat
  /-- USAGE; 16 bits; 09 R272; no record at reset -/
  usage : Nat
  /-- WORLDS; 8 bits; 09 R272; no record at reset -/
  worlds : Nat
  /-- LC_MASK; 8 bits; 09 R272; no record at reset -/
  lcMask : Nat
  /-- MASTERS; 8 bits; 09 R272; no record at reset -/
  masters : Nat
  /-- GRAFT_PRF; 8 bits; 09 R271; no record at reset -/
  graftPrf : Nat
  /-- EXP_CLASS; 8 bits; 09 R271; no record at reset -/
  expClass : Nat
  /-- OWNER_CARRIAGE; 12 bits; 09 R271; no record at reset -/
  owner : Nat
  /-- MATERIAL_LEN; 16 bits; 09 R271; no record at reset -/
  materialLen : Nat
  /-- SHARE_LIST, used places; 8 x 16 bits; 09 R271; no record at reset -/
  shareList : List Nat
  /-- VERSION_TIME; 64 bits; 09 R271; no record at reset -/
  versionTime : Nat
  /-- VERSION_DEVICE; 10 bits; 09 R271; no record at reset -/
  versionDevice : Nat
  /-- LOGICAL_SLOT; 14 bits; 09 R271; no record at reset -/
  slot : Nat
  /-- LOW_THRESHOLD; 32 bits; 09 R271; no record at reset -/
  lowThreshold : Nat
  /-- MATERIAL_HASH; 32 bytes; 09 R271; no record at reset -/
  materialHash : Bytes
  /-- REPLACE_COUNT; 64 bits; 09 R271; no record at reset -/
  replaceCount : Nat
  /-- Public exponent of an RSA key, which no field of the header shows (log entry 21); up to 256 bits; 07 R231; 0 for other keys -/
  exponent : Nat := 0
  deriving DecidableEq, Repr

/-- A physical slot record with its material in the heap (R268, R271). -/
structure SlotRecord where
  /-- Record number 0 to 16,639; 15 bits; 09 R268; no record at reset -/
  index : Nat
  /-- Header; 128 bytes; 09 R271; no record at reset -/
  header : SlotHeader
  /-- Heap material; up to 1,920 bytes; 09 R268; no record at reset -/
  material : Bytes
  /-- TAG; 32 bytes; 09 R287; no record at reset -/
  tag : Bytes
  deriving DecidableEq, Repr

/-- A directory entry (R270). -/
structure DirEntry where
  /-- Logical slot; 14 bits; 09 R268; no entry at reset (VALID 0, SWAP_SERIAL 0) -/
  slot : Nat
  /-- RECORD; 15 bits; 09 R270; no entry at reset -/
  record : Nat
  /-- VALID; 1 bit; 09 R270; 0 -/
  valid : Bool
  /-- SWAP_SERIAL; 32 bits; 09 R270; 0 -/
  swapSerial : Nat
  deriving DecidableEq, Repr

/-- A leaf ledger of a stateful slot (R183, R193, R195, R196). -/
structure Ledger where
  /-- Slot of the ledger; 14 bits; 09 R269; no ledger at reset -/
  slot : Nat
  /-- KEY_ID, SHA3-256 of the public key; 32 bytes; 06 R195; no ledger at reset -/
  keyId : Bytes
  /-- NEXT_INDEX; 64 bits; 06 R187; no ledger at reset -/
  next : Nat
  /-- HIGH_WATER; 64 bits; 06 R183; no ledger at reset -/
  highWater : Nat
  /-- Ranges held, lowest first: FIRST, one past the last leaf reserved in it, END; 16 entries; 06 R193; no ledger at reset -/
  ranges : List (Nat × Nat × Nat)
  /-- Release bodies by serial; 64 entries of 128 bytes; 06 R195; empty -/
  releases : List Bytes := []
  /-- Last RELEASE_SERIAL issued; 64 bits; 06 R195; 0 -/
  serial : Nat := 0
  /-- Last accepted serial by holder UNIQUE_ID; table; 06 R196; empty -/
  accepted : List (Bytes × Nat) := []
  /-- LEAVES_LEFT is at or below LOW_THRESHOLD, so source 177 has been raised; 1 bit; 06 R186; 0 -/
  low : Bool := false
  deriving DecidableEq, Repr

/-- The key a job resolved at step 10, kept until its release (R114). -/
structure JobKey where
  /-- KEY_REF kind; 2 bits; 02 R43; no job at reset -/
  kind : KeyKind
  /-- Logical slot or object offset; 30 bits; 02 R43; no job at reset -/
  index : Nat
  /-- Record that the slot named, kind 0b01; 15 bits; 09 R290; no job at reset -/
  record : Nat
  /-- Header resolved; 96 bytes; 09 R275; no job at reset -/
  header : SlotHeader
  /-- Material resolved, oversized part included; bytes; 09 R114; no job at reset -/
  material : Bytes
  deriving DecidableEq, Repr

/-- Progress of a job (02 R59 to R64). -/
inductive JobPhase where
  /-- consumed, step 2 failed: completes at its UNKNOWN_OPCODE_ENTRY (R59) -/
  | unknown
  /-- waits for a free slot record (R268) -/
  | waitRecord
  /-- waits for the HIGH_WATER write (R183) -/
  | waitJournal
  /-- waits for Book tail places (R297) -/
  | waitBook
  /-- the input is being read (R64) -/
  | fetch
  /-- waits for the expansion routine of its key (R111) -/
  | expand
  /-- waits for earlier chunks of its session (R203) -/
  | waitChunk
  /-- waits for a tree to be built (R189) -/
  | waitTree
  /-- may be dispatched (R22) -/
  | ready
  /-- a part or a record runs on an engine (R84) -/
  | running
  /-- the engine routine has computed the result, which is not yet committed (R96) -/
  | computed
  /-- committed, waiting for its release instant (R99) -/
  | staged
  /-- a batch whose records run as separate jobs (R77) -/
  | batch
  deriving DecidableEq, Repr

/-- One part of a job: most jobs have one, the hybrid KEM two, the quote three (R16, R306). -/
structure JobPart where
  /-- Pool of the part; name; 01 R16; no job at reset -/
  pool : Pool
  /-- Engine or first core of the team it was dispatched to, 0 for a pool without engines; number; 03 R84; none -/
  engine : Option Nat := none
  /-- Bank or context it occupies; number; 03 R84; 0 -/
  bank : Nat := 0
  /-- Its draw waits at the DRBG; 1 bit; 10 R317; 0 -/
  waits : Bool := false
  /-- Number of its draw served while it waited at the DRBG; number; 10 R317; none -/
  draw : Option Nat := none
  /-- T_DISPATCH, the last start of its engine, kept over abandonments; Train time, 64 bits; 02 R70; none -/
  tDispatch : Option Nat := none
  /-- Length of the slots of its operand memory on a Cooper engine; bits; 07 R207; 0 -/
  slot : Nat := 0
  /-- Its staging region in GDDR7 in large mode; 256 KiB; 07 R208; zeros -/
  region : Bytes := []
  /-- Dispatch instant on the module's clock; ns; 03 R84; 0 -/
  nDispatch : Nat := 0
  /-- The result of a masked routine in its bank, in three shares; bytes; 03 R89; none -/
  shares : List Bytes := []
  /-- Routine finished computing; 1 bit; 03 R96; 0 -/
  computed : Bool := false
  /-- Committed; 1 bit; 03 R96; 0 -/
  committed : Bool := false
  /-- Arrived in staging; 1 bit; 03 R103; 0 -/
  staged : Bool := false
  /-- Instant from which the part may release; ns; 03 R99; 0 -/
  releaseAt : Nat := 0
  deriving DecidableEq, Repr

/-- A consumed entry until its release (R59 to R82). -/
structure Job where
  /-- Model's job number, rising in order of consumption; number; 11 R341; no job at reset -/
  id : Nat
  /-- Batch job whose record this is; number; 02 R77; none -/
  parent : Option Nat := none
  /-- RECORD_INDEX; 12 bits; 02 R76; 0 -/
  recIndex : Nat := 0
  /-- Work queue; 16 bits; 02 R65; no job at reset -/
  queue : Nat
  /-- The entry as consumed; 64 bytes; 02 R43; no job at reset -/
  entry : Bytes
  /-- Operation that OPCODE names; name; 02 R59; none -/
  op : Option Op
  /-- SUBMIT_SEQ; 32 bits; 02 R48; no job at reset -/
  seq : Nat
  /-- T_CONSUME in Train time; 64 bits; 02 R70; no job at reset -/
  tConsume : Nat
  /-- Consumption instant on the module's clock; ns; 02 R65; no job at reset -/
  nConsume : Nat
  /-- Carriage resolved at step 4; 12 bits; 11 R328; 0 -/
  carriage : Nat := 0
  /-- Generation resolved at step 4; 24 bits; 11 R330; 0 -/
  gen : Nat := 0
  /-- Progress; name; 02 R59; no job at reset -/
  phase : JobPhase
  /-- Highest step passed: 9, 10 or 11; number; 11 R342; 0 -/
  passed : Nat := 0
  /-- Input read so far; bytes; 02 R64; empty -/
  input : Bytes := []
  /-- Bytes of input still expected; number; 02 R64; 0 -/
  inputMissing : Nat := 0
  /-- Key kept under R114; record; 04 R114; none -/
  key : Option JobKey := none
  /-- Transport key of EXPORT_WRAPPED; record; 08 R257; none -/
  transport : Option JobKey := none
  /-- K_C of the job's carriage and its previous K_C at step 10, each with its epoch; records; 09 R293; none -/
  wrapKeys : Option ((Nat × Bytes) × Option (Nat × Bytes)) := none
  /-- Target slot of class 0x11; 14 bits; 09 R284; none -/
  target : Option Nat := none
  /-- Shadow record taken; 15 bits; 09 R289; none -/
  shadow : Option Nat := none
  /-- Session or public-key handle resolved at step 10; number; 06 R202; none -/
  handle : Option Nat := none
  /-- Public key that a handle named at step 10; bytes; 05 R149, 04 R114; none -/
  publicKey : Bytes := []
  /-- Leaf index assigned at step 10; 64 bits; 06 R183; none -/
  leaf : Option Nat := none
  /-- The cached expanded key was hit at dispatch; 1 bit; 05 R154; 0 -/
  hit : Bool := false
  /-- Random bytes drawn at the last dispatch; bytes; 09 R562; empty -/
  rand : Bytes := []
  /-- Counted against its class's ceiling; 1 bit; 11 R342; 0 -/
  charged : Bool := false
  /-- Abandoned at entry into Hold and not yet restarted; 1 bit; 18 R517; 0 -/
  byHold : Bool := false
  /-- Payload of a quote, its claims as taken at the commit of the control complex's part; bytes; 09 R306; empty -/
  claims : Bytes := []
  /-- Parts; one to three; 01 R16; no job at reset -/
  parts : List JobPart := []
  /-- STATUS; 16 bits; 02 R65; SUCCESS -/
  status : Status := .success
  /-- Output of the routine; bytes; 03 R96; empty -/
  output : Bytes := []
  /-- Its output area in module memory takes a fault when it is written; 1 bit; 02 R63; 0 -/
  placeFault : Bool := false
  /-- Bytes required, under BUFFER_TOO_SMALL; 32 bits; 02 R60; 0 -/
  required : Nat := 0
  /-- The trailer of R70 is placed; 1 bit; 02 R64; 0 -/
  trailer : Bool := false
  /-- RETRIED; 1 bit; 02 R62; 0 -/
  retried : Bool := false
  /-- Abandonments by engine fault; number; 02 R62; 0 -/
  faults : Nat := 0
  /-- Stops of a search (McEliece, RSA KEYGEN); number; 05 R156; 0 -/
  stops : Nat := 0
  /-- Count of R61; ns; 02 R61; 0 -/
  noEngineNs : Nat := 0
  /-- Count of R317 from consumption, Hold excluded; ns; 10 R317; 0 -/
  entropyNs : Nat := 0
  /-- Instant at which the present wait began; ns; 09 R297; 0 -/
  waitSince : Nat := 0
  /-- Book tail places reserved; number; 09 R297; 0 -/
  bookPlaces : Nat := 0
  /-- LOGGED; 1 bit; 02 R65; 0 -/
  logged : Bool := false
  /-- Status entries of a batch's released records: index, status, output, flags; list; 02 R76; empty -/
  results : List (Nat × Status × Bytes × Bool × Bool) := []
  /-- Last start of an engine for a record of the batch; Train time; 02 R70; none -/
  recordStart : Option Nat := none
  deriving DecidableEq, Repr

/-- A bank of a tile, the operand memory of a Cooper engine, a team, or a Dray context (R84, R209, R241). -/
inductive Bank where
  | free
  | job (id part : Nat)
  /-- the expansion routine of a key that this job waits for (R111) -/
  | expanding (id : Nat)
  | wiping
  deriving DecidableEq, Repr

/-- The microcode sequencer of a tile while a routine runs (R92, R93). -/
structure Sequencer where
  /-- Job and part whose routine runs; two numbers; 03 R92; none runs at reset -/
  job : Nat × Nat
  /-- Operation code and PARAM, which conditions may name; 16 and 8 bits; 03 R93; none runs at reset -/
  code : Nat × Nat
  /-- Address of the next microword; 13 bits; 03 R92; none runs at reset -/
  pc : Nat
  /-- Call stack, top first; 8 addresses; 03 R92; empty -/
  stack : List Nat := []
  /-- How often the next microword is still to run under LOOP; 13 bits; 03 R92; none -/
  loop : Option Nat := none
  /-- ML-DSA rounds ended; 8 bits; 03 R92; 0 -/
  rounds : Nat := 0
  /-- Microwords executed, which order the uses of the open conditions; number; log entry 93; 0 -/
  ticks : Nat := 0
  /-- COMMIT has been executed; 1 bit; 03 R92; 0 -/
  atCommit : Bool := false
  deriving DecidableEq, Repr

/-- An engine: Press tile, Cooper engine, hash core or Dray. -/
structure Engine where
  /-- Banks or contexts; 2, 1, 1 or 16 entries; 03 R84, 07 R209, 08 R241; free -/
  banks : List Bank
  /-- What each bank, operand memory with its input buffer, or context holds of its job; by bank; 03 R84, 07 R207, 08 R241; zeros -/
  contents : List (Nat × Bytes) := []
  /-- Seed of the mask generator while a masked routine runs, by draw number; number; 03 R90; none -/
  mask : Option Nat := none
  /-- Sequencer of a tile; record; 03 R92; none -/
  seq : Option Sequencer := none
  /-- Patch words over the base image in the active store; bytes; 03 R105; empty -/
  image : Bytes := []
  /-- At its next job boundary the engine goes back to the image verified before a failed patch; 1 bit; 03 R105; 0 -/
  reverting : Bool := false
  /-- Correctable scratch errors corrected; number; 03 R95; 0 -/
  corrected : Nat := 0
  /-- Mask seeds held, by draw number; 4 entries; 03 R91; empty -/
  seeds : List Nat := []
  /-- Order of the last dispatch; number; 03 R86; 0 -/
  lastDispatch : Nat := 0
  /-- Instants of faults and traps in the last second; ns list; 03 R95; empty -/
  faultTimes : List Nat := []
  /-- Offline until the next module reset; 1 bit; 03 R95; 0 -/
  offline : Bool := false
  /-- Runs a known-answer test; 1 bit; 03 R104; 0 -/
  kat : Bool := false
  /-- The shadow store with the new patch is active; 1 bit; 03 R105; 0 -/
  switched : Bool := false
  deriving DecidableEq, Repr

/-- A vintage register (R37); its value is computed from these fields. -/
structure Vintage where
  /-- BASE_VERSION [15:0]; 16 bits; 01 R37; DESIGN CHOICE 0 (silicon value, log entry 7) -/
  base : Nat := 0
  /-- PATCH_ID [31:16]; 16 bits; 01 R37; 0x0000 -/
  patchId : Nat := 0
  /-- PATCH_STATE [33:32]; 2 bits; 01 R37; 0b00 -/
  patchState : PatchState := .none
  /-- PATCH_ID before the PATCH_LOAD in progress; 16 bits; 03 R105; 0 -/
  oldId : Nat := 0
  /-- PATCH_STATE before the PATCH_LOAD in progress; 2 bits; 03 R105; none -/
  oldState : PatchState := .none
  /-- The patch words in the shadow stores; bytes; 03 R104; empty -/
  patch : Bytes := []
  /-- The patch words verified before the PATCH_LOAD in progress; bytes; 03 R106; empty -/
  oldPatch : Bytes := []
  deriving DecidableEq, Repr

/-- A host window (R339). -/
structure Window where
  /-- RKEY; 32 bits; 11 R339; no window at reset -/
  rkey : Nat
  /-- CONN_INDEX; 16 bits; 11 R339; no window at reset -/
  conn : Nat
  /-- ACCESS; 8 bits; 11 R339; no window at reset -/
  access : Nat
  /-- BASE; 63 bits; 11 R339; no window at reset -/
  base : Nat
  /-- LENGTH; 41 bits; 11 R339; no window at reset -/
  length : Nat
  deriving DecidableEq, Repr

/-- A Process Map entry (R327). -/
structure PMapEntry where
  /-- CONN_INDEX; 16 bits; 11 R327; empty map -/
  conn : Nat
  /-- WILDCARD; 1 bit; 11 R327; empty map -/
  wildcard : Bool
  /-- PROC_ID; 20 bits; 11 R327; empty map -/
  procId : Nat
  /-- CARRIAGE; 12 bits; 11 R327; empty map -/
  carriage : Nat
  /-- BIND_GEN; 24 bits; 11 R327; empty map -/
  bindGen : Nat
  deriving DecidableEq, Repr

/-- The parameter block of a carriage (R337). -/
structure CarriageParams where
  /-- CAR_FLAGS; 8 bits; 11 R337; 0x00 -/
  flags : Nat := 0
  /-- MEM_SIZE in 4 KiB units; 32 bits; 11 R337; 0 -/
  memSize : Nat := 0
  /-- MAX_INFLIGHT; 32 bits; 11 R337; 65,536 -/
  maxInflight : Nat := 65536
  /-- SESSION_QUOTA; 32 bits; 11 R337; 1,024 -/
  sessionQuota : Nat := 1024
  /-- WEIGHTS, Press, Cooper, SHA-2, Keccak, Dray, DRBG; 6 x 8 bits; 11 R337; 0x01 each -/
  weights : List Nat := [1, 1, 1, 1, 1, 1]
  /-- WINDOW_LIMIT; 16 bits; 11 R337; 16 -/
  windowLimit : Nat := 16
  /-- CEILINGS of classes 0x01 to 0x13; 19 x 32 bits; 11 R337; 0 each -/
  ceilings : List Nat := List.replicate 19 0
  deriving DecidableEq, Repr

/-- A carriage (11). -/
structure Carriage where
  /-- Carriage number; 12 bits; 11 R334; carriage 0 exists from its first Boot -/
  number : Nat
  /-- State; 8 bits; 11 R334; ABSENT (no element) -/
  state : CarriageState := .active
  /-- Generation; 24 bits; 11 R330; 1 at CREATE -/
  gen : Nat := 1
  /-- Parameters; 112 bytes; 11 R337; the reset values of R337 -/
  params : CarriageParams := {}
  /-- Current K_C with its WRAP_EPOCH; 32 bytes and 32 bits; 09 R278; drawn at CREATE -/
  key : Nat × Bytes := (1, [])
  /-- Previous K_C with its epoch; 32 bytes and 32 bits; 09 R281; none -/
  prevKey : Option (Nat × Bytes) := none
  /-- Version of K_C, VERSION_TIME and VERSION_DEVICE; 64 and 10 bits; 15 R453; (0, 0) -/
  keyVersion : Nat × Nat := (0, 0)
  /-- Module memory; MEM_SIZE x 4,096 bytes; 11 R338; zeros -/
  mem : Mem := []
  /-- Host windows; up to 256; 11 R339; none -/
  windows : List Window := []
  /-- Ceiling budgets of the classes in 1/10,000 job; 19 numbers; 11 R342; 0 each -/
  budgets : List Nat := List.replicate 19 0
  /-- Dispatches given in this epoch by pool; 6 numbers; 11 R341; 0 each -/
  shares : List Nat := [0, 0, 0, 0, 0, 0]
  /-- DROPPED_COMPLETIONS; 64 bits; 11 R345; 0 -/
  dropped : Nat := 0
  /-- QUOTA_REFUSALS; 32 bits; 11 R345; 0 -/
  quotaRefusals : Nat := 0
  /-- TRANSLATION_FAULTS; 32 bits; 11 R345; 0 -/
  translationFaults : Nat := 0
  /-- Refusals since the last event 226 and its instant; number and ns; 11 R346; 0, none -/
  quotaEvent : Nat × Option Nat := (0, none)
  /-- Faults since the last event 227 and its instant; number and ns; 11 R346; 0, none -/
  faultEvent : Nat × Option Nat := (0, none)
  /-- Generations that still have unreleased jobs; list; 11 R333; empty -/
  draining : List Nat := []
  deriving DecidableEq, Repr

/-- A class 0x09 session object (R202). -/
structure HashSession where
  /-- SESSION_INDEX; 24 bits; 06 R202; no session at reset -/
  index : Nat
  /-- CHECK; 8 bits; 06 R202; no session at reset -/
  check : Nat
  /-- Carriage that opened it; 12 bits; 06 R202; no session at reset -/
  carriage : Nat
  /-- Generation that opened it; 24 bits; 06 R202; no session at reset -/
  gen : Nat
  /-- PARAM of the function; 8 bits; 06 R199; no session at reset -/
  param : Nat
  /-- Key fixed at OPEN; bytes; 06 R200; no session at reset -/
  key : Bytes
  /-- USAGE of that key; 16 bits; 06 R200; no session at reset -/
  usage : Nat
  /-- N of cSHAKE; bytes; 06 R200; no session at reset -/
  custN : Bytes
  /-- S of cSHAKE and KMAC; bytes; 06 R200; no session at reset -/
  custS : Bytes
  /-- OUT_LEN fixed at OPEN; 32 bits; 06 R200; no session at reset -/
  outLen : Nat
  /-- DECL_LEN; 64 bits; 06 R204; no session at reset -/
  declLen : Option Nat
  /-- Context: the bytes absorbed; bytes; 06 R205; empty -/
  absorbed : Bytes := []
  /-- Next expected CHUNK_NO; 32 bits; 06 R203; 0 -/
  nextChunk : Nat := 0
  /-- Instant of the last OPEN, UPDATE or FINAL; ns; 06 R202; OPEN -/
  lastUse : Nat := 0
  deriving DecidableEq, Repr

/-- A public-key cache entry (R149). -/
structure PkEntry where
  /-- ENTRY; 12 bits; 05 R149; empty cache -/
  entry : Nat
  /-- CHECK; 16 bits; 05 R149; empty cache -/
  check : Nat
  /-- PARAM of the key; 8 bits; 05 R149; empty cache -/
  param : Nat
  /-- Carriage; 12 bits; 05 R149; empty cache -/
  carriage : Nat
  /-- Generation; 24 bits; 05 R149; empty cache -/
  gen : Nat
  /-- Public key; up to 1,357,824 bytes; 05 R149; empty cache -/
  key : Bytes
  /-- Order of the last use; number; 05 R150; empty cache -/
  lastUse : Nat
  deriving DecidableEq, Repr

/-- A tree in the tree cache (R188, R189). -/
structure CachedTree where
  /-- Slot of the key; 14 bits; 06 R189; empty cache -/
  slot : Nat
  /-- Level, 0 the top; number; 06 R188; empty cache -/
  level : Nat
  /-- Index among the trees of the level; number; 06 R188; empty cache -/
  index : Nat
  /-- Order of the last use; number; 06 R189; empty cache -/
  lastUse : Nat
  /-- Signature of the tree's root by the tree above, empty for the top; bytes; 06 R188; empty cache -/
  sig : Bytes := []
  /-- For H25: the 5-level subtree in hand, and the leaves built of the next; 20 bits and 0 to 32; 06 R189; 0, 0 -/
  subtree : Nat × Nat := (0, 0)
  deriving DecidableEq, Repr

/-- An ephemeral key pair of the mailbox hello (R351). -/
structure Hello where
  /-- Connection; 16 bits; 12 R351; none at reset -/
  conn : Nat
  /-- MASTER_NONCE; 32 bytes; 12 R351; none at reset -/
  masterNonce : Bytes
  /-- MODULE_NONCE; 32 bytes; 12 R351; none at reset -/
  moduleNonce : Bytes
  /-- Seed of the ephemeral ML-KEM-768 key pair; 64 bytes; 12 R351; none at reset -/
  seed : Bytes
  /-- Instant of the response; ns; 12 R351; none at reset -/
  since : Nat
  deriving DecidableEq, Repr

/-- A mailbox session (R351 to R353). -/
structure Session where
  /-- SESSION_ID; 16 bits; 12 R351; none at reset -/
  id : Nat
  /-- Connection; 16 bits; 12 R351; none at reset -/
  conn : Nat
  /-- K_S; 32 bytes; 12 R352; none at reset -/
  key : Bytes
  /-- CMD_SEQ expected next; 32 bits; 12 R350; 1 -/
  nextSeq : Nat := 1
  /-- PK_MLDSA and PK_ECDSA of the control master, which sign rosters (R443); 2,049 bytes; 12 R351; none at reset -/
  control : Bytes := []
  deriving DecidableEq, Repr

/-- What a mailbox command that runs still waits for (R81, R158, R268, R317, R343, R487, R495, R524, R563). -/
inductive MbWait where
  | none | record | place | draw | epoch | drain
  /-- Fuses to be blown: how far the command has come, and what it has drawn (R487, R495). -/
  | fuses (stage : Nat) (drawn : Bytes)
  deriving DecidableEq, Repr

/-- A mailbox command that waits or runs (R356). -/
structure MbCommand where
  /-- Connection on which it arrived; 16 bits; 12 R356; none at reset -/
  conn : Nat
  /-- The SEND; 128 + BULK_LEN bytes; 12 R348; none at reset -/
  msg : Bytes
  /-- What the command carries beyond the SEND in the model: measured values and samples; 10 R326; none at reset -/
  extra : List Nat := []
  /-- Session in which it arrived, 0 for none; 16 bits; 12 R353; none at reset -/
  session : Nat := 0
  /-- CMD_SEQ that the session expected, when the command's was another; 32 bits; 12 R350; none at reset -/
  want : Option Nat := none
  /-- What it waits for; name; 12 R356; none at reset -/
  wait : MbWait := .none
  /-- Instant at which the present wait began; ns; 09 R563; 0 -/
  since : Nat := 0
  deriving DecidableEq, Repr

/-- State of a port's DHCPv4 client (R379, RFC 2131). -/
inductive DhcpState where
  | idle
  | selecting
  | requesting
  | bound
  | renewing
  deriving DecidableEq, Repr

/-- A port's DHCPv4 client (R379, RFC 2131). -/
structure Dhcp where
  /-- State of the client; 5 values; 13 R379; idle -/
  state : DhcpState := .idle
  /-- Exchanges begun, which numbers the transaction identifiers; number; log entry 105; 0 -/
  count : Nat := 0
  /-- Server and address of the offer taken; 2 x 32 bits; 13 R379; 0 -/
  offer : Nat × Nat := (0, 0)
  /-- Instant at which the lease is renewed, and at which it ends; ns; 13 R379; none -/
  lease : Option (Nat × Nat) := none
  deriving DecidableEq, Repr

/-- Settings of PORT_CONFIG as written (R377). -/
structure PortSettings where
  /-- LANE_MODE; 8 bits; 13 R377; no setting at reset -/
  laneMode : Nat
  /-- IP MTU; 16 bits; 13 R377; no setting at reset -/
  mtu : Nat
  /-- VLAN; 12 bits; 13 R377; no setting at reset -/
  vlan : Nat
  /-- PFC_MASK; 8 bits; 13 R377; no setting at reset -/
  pfcMask : Nat
  /-- ETS weights; 8 x 8 bits; 13 R377; no setting at reset -/
  ets : List Nat
  deriving DecidableEq, Repr

/-- A port (13). -/
structure Port where
  /-- LINK_STATE; 8 bits; 13 R408; 0 IDLE -/
  link : LinkState := .idle
  /-- LANE_MODE; 8 bits; 13 R374; 0x01 (fuse PORT_MODE unfused) -/
  laneMode : Nat := 1
  /-- IP MTU; 16 bits; 13 R377; 9,216 -/
  mtu : Nat := 9216
  /-- VLAN; 12 bits; 13 R377; 0 -/
  vlan : Nat := 0
  /-- PFC_MASK; 8 bits; 13 R377; 0x08 -/
  pfcMask : Nat := 8
  /-- ETS weights; 8 x 8 bits; 13 R377; 0 each -/
  ets : List Nat := List.replicate 8 0
  /-- Degraded lanes, with the clean windows of each since; FEC_DEGRADED is 1 while there is one; list; 13 R408, R409; none -/
  fecLanes : List (Nat × Nat) := []
  /-- IPV4; 32 bits; 13 R408; 0 -/
  ipv4 : Nat := 0
  /-- IPV6_GLOBAL; 16 bytes; 13 R408; 0 -/
  ipv6 : Bytes := List.replicate 16 0
  /-- ADMIT_TOKENS; 32 bits; 13 R393; 200 -/
  admitTokens : Nat := 200
  /-- Instant of the last token, for RETRY_MS; ns; 13 R394; 0 -/
  admitSince : Nat := 0
  /-- LFSR state, by the number of spreads taken; number; 13 R394; 0 -/
  lfsr : Nat := 0
  /-- REJs sent in this second, and its start; number and ns; 13 R394; 0 -/
  rejs : Nat × Nat := (0, 0)
  /-- Management frames in this second, and its start; number and ns; 13 R406; 0 -/
  mgmt : Nat × Nat := (0, 0)
  /-- LINK_DOWNS; 32 bits; 13 R408; 0 -/
  linkDowns : Nat := 0
  /-- RX_FRAMES, TX_FRAMES, RX_BYTES, TX_BYTES, FEC_CORRECTED_CW, FEC_CORRECTED_SYM, FEC_UNCORRECTABLE, PFC_XOFF_RX, PFC_XOFF_TX, BUFFER_DROPS, ECN_CE_RX, CNP_TX, CNP_RX, CM_ADMITTED, CM_REFUSED, CM_DROPPED, VERDICTS 0 to 6, PATH_REFUSED, MGMT_DROPPED, TS_FAULTS: the 8-byte counters from +0x30 in order; 26 x 64 bits; 13 R408; 0 each -/
  counters : List Nat := List.replicate 26 0
  /-- Classifier program; 1 to 64 instructions of 64 bits, empty for the default program; 13 R407; the default program -/
  classifier : List (BitVec 64) := []
  /-- Shadow of the settings, written while the port's island is off; record; 01 R33; none -/
  shadow : Option PortSettings := none
  /-- Shadow of the classifier program, loaded while the port's island is off; 1 to 64 instructions; 01 R33; none -/
  shadowProgram : Option (List (BitVec 64)) := none
  /-- Priorities paused by the partner, and since when; 8; 13 R383; none -/
  paused : List (Nat × Nat) := []
  /-- Priorities on which pause frames are ignored, and since when; 8; 13 R383; none -/
  ignoring : List (Nat × Nat) := []
  /-- Bytes sent of each traffic class; 8 numbers; 13 R384, log entry 110; DESIGN CHOICE 0 -/
  served : List Nat := List.replicate 8 0
  /-- Stamps awaiting collection; up to 64; 13 R402; 0 -/
  stamps : Nat := 0
  /-- Occupancy of the lossless space by priority; bytes; 13 R382; 0 -/
  lossless : List (Nat × Nat) := []
  /-- Occupancy of the shared space of the lane group by this port; bytes; 13 R382; 0 -/
  shared : Nat := 0
  /-- Priorities on which the module holds XOFF, and since when; 8; 13 R382, R383; none -/
  xoff : List (Nat × Nat) := []
  /-- Drains of the ingress buffer so far, which numbers the free amounts; number; log entry 106; DESIGN CHOICE 0 -/
  drains : Nat := 0
  /-- The port's DHCPv4 client; record; 13 R379; idle -/
  dhcp : Dhcp := {}
  deriving DecidableEq, Repr

/-- What has left the ports of what the module sends (13 R383, R384). -/
structure Egress where
  /-- Outputs before this number are gone with a reset; number; 13 R384; 0 -/
  base : Nat := 0
  /-- Numbers of the outputs that have left, in the order in which they left; list; 13 R384; empty -/
  left : List Nat := []
  deriving DecidableEq, Repr

/-- An event ring (14). -/
structure EventRing where
  /-- Ring number; 16 bits; 12 R372; no ring at reset -/
  index : Nat
  /-- Connection; 16 bits; 12 R372; no ring at reset -/
  conn : Nat
  /-- BASE; 64 bits; 12 R372; no ring at reset -/
  base : Nat
  /-- RKEY; 32 bits; 12 R372; no ring at reset -/
  rkey : Nat
  /-- Size in units; 17 bits; 12 R372; no ring at reset -/
  size : Nat
  /-- PROD_INDEX; 32 bits; 14 R417; 0 -/
  prod : Nat := 0
  /-- CONS_INDEX as last read; 32 bits; 14 R417; 0 -/
  cons : Nat := 0
  /-- LOST; 64 bits; 14 R417; 0 -/
  lost : Nat := 0
  /-- Records lost since the last event 240, and its instant; number and ns; 14 R415; 0, none -/
  lostEvent : Nat × Option Nat := (0, none)
  /-- Filter program; 1 to 32 instructions of 64 bits; 14 R425; RET 1 at ERING_CREATE -/
  program : List (BitVec 64) := [0x0000000100000030#64]
  /-- Buckets of JRATE instructions: index, tokens in 10^-9, last refill; list; 14 R424; full at load -/
  buckets : List (Nat × Nat × Nat) := []
  /-- Records that wait for a place; 256 x 32 bytes; 14 R419; empty -/
  waiting : List Bytes := []
  /-- Instant of the last read of CONS_INDEX; ns; 14 R418; none -/
  lastPoll : Option Nat := none
  /-- The connection has left the ready state: records are discarded; 1 bit; 14 R422; 0 -/
  dead : Bool := false
  deriving DecidableEq, Repr

/-- A raised event held back until its Train time is covered, or in the early buffer (R416, R420, R427). -/
structure EventRec where
  /-- SOURCE; 8 bits; 14 R411; empty -/
  source : Nat
  /-- The record with PHASE 0; 32 bytes; 14 R411; empty -/
  bytes : Bytes
  /-- Carriage named; 12 bits; 14 R414; none -/
  carriage : Option Nat
  deriving DecidableEq, Repr

/-- A Maldin frame accepted and not yet answered (16). -/
structure MaldinJob where
  /-- Model's frame number in order of acceptance; number; 16 R470; none at reset -/
  id : Nat
  /-- The frame; 512 bytes and its UDP source; 16 R465; none at reset -/
  frame : MaldinFrame
  /-- Train time of receipt; 64 bits; 16 R466; none at reset -/
  tRx : Nat
  /-- Instant of the last byte in; ns; 16 R475; none at reset -/
  nRx : Nat
  /-- STATUS; 16 bits; 16 R466; none at reset -/
  status : Status
  /-- DLMS counter refusal, M_STATUS 0x07; 1 bit; 16 R473; none at reset -/
  counterRefusal : Bool
  /-- DATA of the reply; up to 476 bytes; 16 R466; none at reset -/
  data : Bytes
  /-- Instant at which the reply is ready; ns; 16 R476; none at reset -/
  readyAt : Nat
  /-- Reserved engine that runs the command, a Cooper engine for CMD 0x01 to 0x03 and a Dray otherwise; number; 16 R464; none at reset -/
  engine : Option Nat
  /-- Abandonments by engine fault; number; 02 R62; 0 -/
  faults : Nat := 0
  /-- Abandoned at entry into Hold, restarted after it; 1 bit; 16 R474; 0 -/
  abandoned : Bool := false
  /-- Counted in OVER_PACE; 1 bit; 16 R475; 0 -/
  overPace : Bool := false
  /-- Slot records that its command uses until the reply leaves; up to two; 09 R268, R273; empty -/
  records : List Nat := []
  deriving DecidableEq, Repr

/-- An Express port record (R477). -/
structure ExpressPort where
  /-- FRAMES_ACCEPTED, REPLIES_SENT, LEN_DROPS, FORMAT_DROPS, CRC_DROPS, MODE_DROPS, SOURCE_DROPS, OUTSTANDING_DROPS, OVER_PACE, BOUND_MISSES; 10 x 64 bits; 16 R477; 0 each -/
  counters : List Nat := List.replicate 10 0
  /-- MAX_LATENCY_NS; 32 bits; 16 R477; 0 -/
  maxLatency : Nat := 0
  /-- Arrivals of the last 50 us: instant and whether of CMD 0x01 to 0x03; list; 16 R475; empty -/
  arrivals : List (Nat × Bool) := []
  deriving DecidableEq, Repr

/-- A replicated change queued for a peer, or held at the receiver (R454, R455). -/
structure Push where
  /-- Object identifier; 32 bits; 15 R453; none at reset -/
  object : Nat
  /-- VERSION_TIME and VERSION_DEVICE; 64 and 10 bits; 15 R453; none at reset -/
  version : Nat × Nat
  /-- Destruction; 1 bit; 15 R454; none at reset -/
  destroy : Bool
  /-- Header bytes or K_C epochs; bytes; 15 R454; none at reset -/
  header : Bytes
  /-- Material; bytes; 15 R454; none at reset -/
  material : Bytes
  /-- MSG_SEQ under which it was sent; 64 bits; 15 R447; none at reset -/
  seq : Nat := 0
  deriving DecidableEq, Repr

/-- A Train peer (15). -/
structure Peer where
  /-- DEVICE_INDEX; 10 bits; 15 R443; no peer at reset -/
  index : Nat
  /-- A pairwise association is installed; 1 bit; 15 R449; 0 -/
  keyed : Bool := false
  /-- Association number; number; 15 R450; 0 -/
  assoc : Nat := 0
  /-- The previous association still accepted, and since when; number and ns; 15 R450; none -/
  oldAssoc : Option (Nat × Nat) := none
  /-- SK; 88 bytes; 15 R449; empty -/
  sk : Bytes := []
  /-- Instant of the last keying; ns; 15 R450; 0 -/
  keyedAt : Nat := 0
  /-- Exchange in progress: the HELLO body sent or answered; bytes; 15 R448; empty -/
  hello : Bytes := []
  /-- HELLO_REPLY body of the exchange; bytes; 15 R448; empty -/
  reply : Bytes := []
  /-- K1 of the exchange; 32 bytes; 15 R448; empty -/
  k1 : Bytes := []
  /-- Instant of the last HELLO sent; ns; 15 R448; none -/
  lastHello : Option Nat := none
  /-- Instants at which each port last received from the peer; list; 15 R449; empty -/
  heard : List (Nat × Nat) := []
  /-- Instant of the last message sent; ns; 15 R451; 0 -/
  lastTx : Nat := 0
  /-- Instant of the last message received; ns; 15 R451; 0 -/
  lastRx : Nat := 0
  /-- DOWN; 1 bit; 15 R451; 0 -/
  down : Bool := false
  /-- Last MSG_SEQ sent; 64 bits; 15 R447; 0 -/
  txSeq : Nat := 0
  /-- Highest MSG_SEQ received in order, held pushes included; 64 bits; 15 R447; 0 -/
  rxSeq : Nat := 0
  /-- Packet number of the last frame sent under the association; 64 bits; 15 R450; 0 -/
  txPn : Nat := 0
  /-- Highest packet number received under it; 64 bits; 15 R450; 0 -/
  rxPn : Nat := 0
  /-- Pushes not yet acknowledged; 4,096 entries; 15 R455; empty -/
  pushes : List Push := []
  /-- The queue overflowed: a digest exchange is due; 1 bit; 15 R455; 0 -/
  overflow : Bool := false
  /-- This side's complete DIGEST has been sent; 1 bit; 15 R452; 0 -/
  digestSent : Bool := false
  /-- The peer's complete DIGEST has been received; 1 bit; 15 R452; 0 -/
  digestRecv : Bool := false
  /-- Entries of the peer's DIGEST received so far: object and version; list; 15 R452; empty -/
  digest : List (Nat × (Nat × Nat)) := []
  /-- Identity public keys learnt; 2,689 bytes; 15 R458; empty -/
  identity : Bytes := []
  deriving DecidableEq, Repr

/-- A fault record of the Tasting region (R527). -/
structure FaultRec where
  /-- The fault: MEM_ID, KIND, ROW, COLUMN, BIT; 12 bytes; 18 R527; none at reset -/
  fault : MemFault
  /-- RFLAGS; 8 bits; 18 R527; none at reset -/
  flags : Nat
  /-- SEEN; 8 bits; 18 R527; none at reset -/
  seen : Nat
  /-- FIRST_BOOT; 32 bits; 18 R527; none at reset -/
  firstBoot : Nat
  deriving DecidableEq, Repr

/-- A Tasting in progress (R526). -/
structure TastingRun where
  /-- ACTION of the shutdown; 1 bit; 18 R524; none at reset -/
  action : Nat
  /-- Steps passed in this pass; 16 bits; 18 R526; 0 -/
  passed : Nat := 0
  /-- Instant at which it began; ns; 18 R526; none at reset -/
  since : Nat
  /-- First step that was cut; 16 bits; 18 R526; none -/
  cut : Option Nat := none
  /-- CRITICAL steps of the sequence not run to their end; 16 bits; 18 R527; none at reset -/
  critical : Nat
  deriving DecidableEq, Repr

/-- A debug grant in force (R503 to R505). -/
structure Grant where
  /-- RIGHTS; 8 bits; 17 R503; none at reset -/
  rights : Nat
  /-- T_NOT_AFTER of a certificate; 64 bits; 17 R503; none at reset -/
  notAfter : Option Nat
  deriving DecidableEq, Repr

end Sys2Proof.Machine
end

