-- ==== Sys2Proof/Machine/Bits.lean ====
section
/-!
DEFINITION. Byte strings and bit fields: how the module lays out numbers (R3 to R5), memory in canonical form, CRC-32C (R467), the
128-bit counter block (R252), and the standards' functions at their lengths.
-/
namespace Sys2Proof.Machine

/-- `n` zero bytes. -/
def zeros (n : Nat) : Bytes := List.replicate n 0

/-- `len` bytes from offset `off`. -/
def slice (b : Bytes) (off len : Nat) : Bytes := (b.drop off).take len

/-- Byte at `off` as a number, 0 past the end. -/
def byteAt (b : Bytes) (off : Nat) : Nat := ((b.drop off).headD 0).toNat

/-- Little-endian value (R5). -/
def leNat : Bytes → Nat
  | [] => 0
  | x :: t => x.toNat + 256 * leNat t

/-- Big-endian value (R8, the RFCs). -/
def beNat (b : Bytes) : Nat := leNat b.reverse

/-- Little-endian field at an offset (R4, R5). -/
def le (b : Bytes) (off len : Nat) : Nat := leNat (slice b off len)

/-- Big-endian field at an offset. -/
def be (b : Bytes) (off len : Nat) : Nat := beNat (slice b off len)

/-- `n` bytes of a number, least significant first (R5). -/
def toLe : Nat → Nat → Bytes
  | 0, _ => []
  | n + 1, v => BitVec.ofNat 8 v :: toLe n (v / 256)

/-- `n` bytes of a number, most significant first (R8). -/
def toBe (n v : Nat) : Bytes := (toLe n v).reverse

/-- `b` cut or filled with zeros to `n` bytes. -/
def padTo (n : Nat) (b : Bytes) : Bytes := b.take n ++ zeros (n - b.length)

/-- Bits `lo` to `lo + n - 1` (R3). -/
def field (v lo n : Nat) : Nat := v / 2 ^ lo % 2 ^ n

/-- Bit `i` (R3). -/
def bit (v i : Nat) : Bool := v / 2 ^ i % 2 == 1

/-- Bits of a 64-bit word. -/
def bitsOf (x : BitVec 64) (lo n : Nat) : Nat := field x.toNat lo n

/-- Entry `p` of a table numbered from 1; 0 where the table has none. -/
def tab (xs : List Nat) (p : Nat) : Nat := if p == 0 then 0 else xs.getD (p - 1) 0

/-- A bit as a number. -/
def b2n (b : Bool) : Nat := if b then 1 else 0

/-- A counter that saturates at the maximum of `w` bits. -/
def satAdd (w a b : Nat) : Nat := min (a + b) (2 ^ w - 1)

/-- A string of ASCII characters as bytes. -/
def ascii (s : String) : Bytes := s.toList.map fun c => BitVec.ofNat 8 c.toNat

/-- Every byte is 0. -/
def allZero (b : Bytes) : Bool := b.all (· == 0)

/-- Exclusive-or of two byte strings. -/
def xorBytes (a b : Bytes) : Bytes := List.zipWith (· ^^^ ·) a b

/-- Pieces of `n` bytes; `fuel` bounds their number. -/
def chunks (n : Nat) : Nat → Bytes → List Bytes
  | 0, _ => []
  | fuel + 1, b => if b.isEmpty then [] else b.take n :: chunks n fuel (b.drop n)

/-- Output of a function that a standard defines, at the length the spec gives (log entry 4). -/
def std (f : StdFn) (param : Nat) (args : List Bytes) (len : Nat) : Bytes :=
  (List.range len).map (Config.stdByte f param args)

/-- A function of R199 by its PARAM, over key, N, S and data; KMAC binds its output length. -/
def hashOf (p : Nat) (key n s : Bytes) (len : Nat) (data : Bytes) : Bytes :=
  let bind := if p == 0x19 || p == 0x1A then toLe 4 len else []
  std .hash p [key, n, s, bind, data] len

/-- SHA3-256. -/
def sha3 (b : Bytes) : Bytes := hashOf 0x08 [] [] [] 32 b

/-- SHA-384. -/
def sha384 (b : Bytes) : Bytes := hashOf 0x03 [] [] [] 48 b

/-- SHA-256. -/
def sha256 (b : Bytes) : Bytes := hashOf 0x02 [] [] [] 32 b

/-- SHAKE256. -/
def shake256 (b : Bytes) (len : Nat) : Bytes := hashOf 0x0C [] [] [] len b

/-- KMAC256 of key, message, output bytes and customisation string. -/
def kmac (key msg : Bytes) (len : Nat) (custom : String) : Bytes := hashOf 0x1A key [] (ascii custom) len msg

/-- Value held in ROM, fuses of the die or silicon that the spec names without giving (log entry 7). -/
def romValue (name : String) (len : Nat) : Bytes := (List.range len).map (Config.fuseByte name)

/-- What the Cellar island derives from DEVICE_SECRET: KMAC256 with the customisation string of the use, which the spec does not give: FREE
(R482, log entry 109). -/
def secretKdf (secret : Bytes) (use : String) (len : Nat) : Bytes := hashOf 0x1A secret [] (romValue use 16) len []

/-- The identity ML-DSA-87 seed, the identity ECDSA P-384 private key and the Train link ML-KEM-1024 seed of a DEVICE_SECRET (R482). -/
def idSeedOf (secret : Bytes) : Bytes := secretKdf secret "identity ML-DSA-87 seed" 32
def idScalarOf (secret : Bytes) : Bytes := secretKdf secret "identity ECDSA P-384 key" 48
def linkSeedOf (secret : Bytes) : Bytes := secretKdf secret "Train link ML-KEM-1024 seed" 64

/-- An identifier below `n` that is not taken, told apart by the use; at most `used` are taken. FREE: which one the module gives is left
open (log entry 6). -/
def anyFree (tag : String) (use n used : Nat) (taken : Nat → Bool) : Nat :=
  let c := Config.freeNat tag use % n
  if taken c then ((List.range (used + 1)).find? fun i => !taken i).getD 0 else c

/-- Bytes of the DRBG's answer to draw `n` (log entry 5). -/
def drawBytes (n len : Nat) : Bytes := (List.range len).map (Config.random n)

/-! ### Memory in canonical form -/

/-- A byte; an unlisted address reads 0 (log entry 8). -/
def Mem.read : Mem → Nat → Byte
  | [], _ => 0
  | (k, v) :: t, a => if a = k then v else if a < k then 0 else Mem.read t a

/-- Writes a byte; a zero is not listed. -/
def Mem.write : Mem → Nat → Byte → Mem
  | [], a, v => if v = 0 then [] else [(a, v)]
  | (k, w) :: t, a, v =>
    if a < k then (if v = 0 then (k, w) :: t else (a, v) :: (k, w) :: t)
    else if a = k then (if v = 0 then t else (k, v) :: t)
    else (k, w) :: Mem.write t a v

/-- Reads `n` bytes from `a`. -/
def Mem.readBytes (m : Mem) (a n : Nat) : Bytes := (List.range n).map fun i => m.read (a + i)

/-- Writes a byte string from `a` on. -/
def Mem.writeBytes : Mem → Nat → Bytes → Mem
  | m, _, [] => m
  | m, a, b :: t => Mem.writeBytes (m.write a b) (a + 1) t

/-- Drops every cell at or above `n`: the pages above a shrink (R343). -/
def Mem.clip (m : Mem) (n : Nat) : Mem := m.filter fun c => c.1 < n

/-- The canonical form: addresses strictly rising, no entry equal to what an unlisted address reads as. -/
def Mem.wf : Mem → Bool
  | [] => true
  | (k, v) :: t => v != 0 && (match t with | [] => true | (k', _) :: _ => k < k') && Mem.wf t

/-! ### CRC-32C and the counter block -/

/-- One bit of the reflected CRC-32C (R467). -/
def crcStep (c : BitVec 32) : BitVec 32 := if c.getLsbD 0 then (c >>> 1) ^^^ 0x82F63B78#32 else c >>> 1

/-- One byte of CRC-32C. -/
def crcByte (c : BitVec 32) (b : Byte) : BitVec 32 :=
  crcStep (crcStep (crcStep (crcStep (crcStep (crcStep (crcStep (crcStep (c ^^^ b.setWidth 32))))))))

/-- CRC-32C: polynomial 0x1EDC_6F41 reflected, initial value and final exclusive-or 0xFFFF_FFFF (R467). -/
def crc32c (b : Bytes) : BitVec 32 := (b.foldl crcByte 0xFFFFFFFF#32) ^^^ 0xFFFFFFFF#32

/-- Counter block `i` after the initial one: 128 bits, big-endian, modulo 2^128 (R252). -/
def counterBlock (iv : Bytes) (i : Nat) : Bytes := toBe 16 (beNat iv + i)

/-- AES counter mode: keystream block i is AES of the initial counter block plus i (R252). -/
def aesCtr (key iv data : Bytes) : Bytes :=
  let n := (data.length + 15) / 16
  let stream := ((List.range n).map fun i => std .aes key.length [key, counterBlock iv i] 16).flatten
  xorBytes data stream

end Sys2Proof.Machine
end

