-- ==== Sys2Proof/Machine/OpTable.lean ====
section
/-!
DEFINITION. The operations of the engine classes as tables: PARAM codes, AUX fields, lengths, flags, key kinds and usage, pools
and release times (04 to 10, 20).
-/
namespace Sys2Proof.Machine

/-! ### Lattice classes 0x01, 0x02, 0x03 (R109 to R139) -/

/-- FIPS 203 encapsulation-key sizes (table *Encoded sizes* of 04). -/
def mlKemEk (p : Nat) : Nat := tab [800, 1184, 1568] p
/-- FIPS 203 decapsulation-key sizes. -/
def mlKemDk (p : Nat) : Nat := tab [1632, 2400, 3168] p
/-- FIPS 203 ciphertext sizes. -/
def mlKemCt (p : Nat) : Nat := tab [768, 1088, 1568] p
/-- FIPS 204 public-key sizes. -/
def mlDsaPk (p : Nat) : Nat := tab [1312, 1952, 2592] p
/-- FIPS 204 private-key sizes. -/
def mlDsaSk (p : Nat) : Nat := tab [2560, 4032, 4896] p
/-- FIPS 204 signature sizes. -/
def mlDsaSig (p : Nat) : Nat := tab [2420, 3309, 4627] p
/-- The parameter set's length of s1 (R100). -/
def mlDsaEll (p : Nat) : Nat := tab [4, 5, 7] p
/-- BASE of R100, in ns. -/
def mlDsaBase (p : Nat) : Nat := tab [1600, 2400, 3500] p
/-- ROUND of R100, in ns. -/
def mlDsaRound (p : Nat) : Nat := tab [7700, 10200, 19900] p
/-- Digest length of a pre-hash function (R124), 0 where PH_ALG is not allowed. -/
def preHashLen (alg : Nat) : Nat := tab [32, 48, 64, 32, 48, 64, 32, 64] alg
/-- Last arc of the pre-hash function's OID under 2.16.840.1.101.3.4.2 (R124). -/
def preHashArc (alg : Nat) : Nat := tab [1, 2, 3, 8, 9, 10, 11, 12] alg

/-- CTX_LEN of AUX (R122, R173). -/
def auxCtxLen (aux : BitVec 64) : Nat := bitsOf aux 8 8
/-- PH_ALG of AUX (R122, R173). -/
def auxPhAlg (aux : BitVec 64) : Nat := bitsOf aux 16 8

/-- The AUX and PARAM rules of class 0x01, 0x02, 0x03 at step 5 (R109, R112, R115, R122, R124, R130). -/
def latticeParamOk (op : Op) (p : Nat) (aux : BitVec 64) : Bool :=
  let a := aux.toNat
  let p3 := 1 ≤ p && p ≤ 3
  match op with
  | .mlKemEncaps | .mlKemDecaps => p3 && a ≤ 1
  | .mlKemKeygen | .mlKemEkCheck | .mlKemKeygenInternal | .mlKemEncapsInternal => p3 && a == 0
  | .mlDsaKeygen | .mlDsaKeygenInternal | .mlDsaVerifyMu => p3 && a == 0
  | .mlDsaSignMu => p3 && a ≤ 1
  | .mlDsaSign => p3 && bitsOf aux 1 7 == 0 && bitsOf aux 16 48 == 0
  | .mlDsaVerify => p3 && bitsOf aux 0 8 == 0 && bitsOf aux 16 48 == 0
  | .mlDsaSignPrehash => p3 && bitsOf aux 1 7 == 0 && bitsOf aux 24 40 == 0 && preHashLen (auxPhAlg aux) != 0
  | .mlDsaVerifyPrehash => p3 && bitsOf aux 0 8 == 0 && bitsOf aux 24 40 == 0 && preHashLen (auxPhAlg aux) != 0
  | .hybridInitKeygen => p == 1 && a == 0
  | .hybridRespond | .hybridInitFinish => p == 1 && a ≤ 1
  | _ => false

/-- Input lengths of the lattice classes: least and greatest (R116, R125, R131). `pk` counts only with kind none. -/
def latticeIn (op : Op) (p : Nat) (aux : BitVec 64) (kind : KeyKind) : Nat × Nat :=
  let own := if kind == .none then 1 else 0
  let pk := own * mlDsaPk p
  let ctx := auxCtxLen aux
  let ex (n : Nat) : Nat × Nat := (n, n)
  match op with
  | .mlKemEncaps => ex (own * mlKemEk p)
  | .mlKemDecaps => ex (mlKemCt p)
  | .mlKemEkCheck => ex (mlKemEk p)
  | .mlKemKeygenInternal => ex 64
  | .mlKemEncapsInternal => ex (mlKemEk p + 32)
  | .mlDsaSign => (ctx, ctx + 65536)
  | .mlDsaSignPrehash => ex (ctx + preHashLen (auxPhAlg aux))
  | .mlDsaSignMu => ex 64
  | .mlDsaVerify => (pk + mlDsaSig p + ctx, pk + mlDsaSig p + ctx + 65536)
  | .mlDsaVerifyPrehash => ex (pk + mlDsaSig p + ctx + preHashLen (auxPhAlg aux))
  | .mlDsaVerifyMu => ex (pk + 64 + mlDsaSig p)
  | .mlDsaKeygenInternal => ex 32
  | .hybridRespond => ex 1216
  | .hybridInitFinish => ex 1120
  | _ => ex 0

/-- Output lengths of the lattice classes, trailer apart (R116, R126 table, R130). -/
def latticeOut (op : Op) (p : Nat) (aux : BitVec 64) : Nat :=
  let wrap := aux.getLsbD 0
  match op with
  | .mlKemKeygen => mlKemEk p + 144
  | .mlKemEncaps => (if wrap then 112 else 32) + mlKemCt p
  | .mlKemDecaps => if wrap then 112 else 32
  | .mlKemKeygenInternal => mlKemEk p + mlKemDk p
  | .mlKemEncapsInternal => 32 + mlKemCt p
  | .mlDsaKeygen => mlDsaPk p + 112
  | .mlDsaSign | .mlDsaSignPrehash | .mlDsaSignMu => mlDsaSig p
  | .mlDsaKeygenInternal => mlDsaPk p + mlDsaSk p
  | .hybridInitKeygen => 1216 + 176
  | .hybridRespond => (if wrap then 144 else 64) + 1120
  | .hybridInitFinish => if wrap then 144 else 64
  | _ => 0

/-- BATCH of the lattice classes: the operations and kinds of R135. -/
def latticeBatch (op : Op) (kind : KeyKind) : Bool :=
  match op with
  | .mlKemEncaps | .hybridRespond => kind == .none
  | .mlKemDecaps | .mlDsaSignMu => kind == .slot || kind == .wrapped
  | .mlDsaVerifyMu => kind == .none || kind == .slot || kind == .wrapped
  | _ => false

/-- T_REL of the Press part of a lattice job, in ns (R137); ML-DSA signing has R100 instead. -/
def latticeRel (op : Op) (p : Nat) : Nat :=
  match op with
  | .mlKemKeygen | .mlKemKeygenInternal => tab [2600, 3600, 5200] p
  | .mlKemEncaps | .mlKemEncapsInternal => tab [2300, 3000, 4500] p
  | .mlKemDecaps => tab [4000, 6000, 9000] p
  | .mlKemEkCheck => tab [400, 500, 600] p
  | .mlDsaKeygen | .mlDsaKeygenInternal => tab [4500, 7200, 11200] p
  | .mlDsaVerify | .mlDsaVerifyPrehash | .mlDsaVerifyMu => tab [3000, 4500, 7200] p
  | .hybridInitKeygen => 3600
  | .hybridRespond => 3000
  | .hybridInitFinish => 6000
  | _ => 0

/-! ### Code-based classes 0x04 and 0x05 (R140 to R162) -/

/-- HQC public-key, secret-key, ciphertext and seed sizes (R140). -/
def hqcPk (p : Nat) : Nat := tab [2249, 4522, 7245] p
def hqcSk (p : Nat) : Nat := tab [2305, 4586, 7317] p
def hqcCt (p : Nat) : Nat := tab [4433, 8978, 14421] p
def hqcSeed (p : Nat) : Nat := tab [96, 104, 112] p
/-- n of HQC, in bits (R144). -/
def hqcN (p : Nat) : Nat := tab [17669, 35851, 57637] p
/-- m of ENCAPS_INTERNAL, in bytes (R143). -/
def hqcM (p : Nat) : Nat := tab [16, 24, 32] p
/-- Classic McEliece public-key, secret-key and ciphertext sizes (R140). -/
def mcePk (p : Nat) : Nat := tab [261120, 524160, 1044992, 1047319, 1357824] p
def mceSk (p : Nat) : Nat := tab [6492, 13608, 13932, 13948, 14120] p
def mceCt (p : Nat) : Nat := tab [96, 156, 208, 194, 208] p
/-- Length of e (R147) and its weight t (R150). -/
def mceE (p : Nat) : Nat := tab [436, 576, 836, 870, 1024] p
def mceT (p : Nat) : Nat := tab [64, 96, 128, 119, 128] p
/-- Length n of the code: the bits of e (R147). -/
def mceN (p : Nat) : Nat := tab [3488, 4608, 6688, 6960, 8192] p

/-- PK_HANDLE of AUX (R148). -/
def auxPkHandle (aux : BitVec 64) : Nat := bitsOf aux 32 32

/-- PARAM and AUX of classes 0x04 and 0x05 at step 5 (R140, R142, R148). -/
def codeParamOk (op : Op) (p : Nat) (aux : BitVec 64) (kind : KeyKind) : Bool :=
  let a := aux.toNat
  let p3 := 1 ≤ p && p ≤ 3
  let p5 := 1 ≤ p && p ≤ 5
  match op with
  | .hqcEncaps | .hqcDecaps => p3 && a ≤ 1
  | .hqcKeygen | .hqcKeygenInternal | .hqcEncapsInternal => p3 && a == 0
  | .mcelieceEncaps => p5 && bitsOf aux 1 31 == 0 && (kind == .none || auxPkHandle aux == 0)
  | .mcelieceDecaps => p5 && a ≤ 1
  | .mcelieceKeygen | .mceliecePkCache | .mcelieceKeygenInternal | .mcelieceEncapsInternal => p5 && a == 0
  | _ => false

/-- Exact input lengths of classes 0x04 and 0x05 (R143, R147). -/
def codeIn (op : Op) (p : Nat) (aux : BitVec 64) (kind : KeyKind) : Nat :=
  match op with
  | .hqcEncaps => if kind == .none then hqcPk p else 0
  | .hqcDecaps => hqcCt p
  | .hqcKeygenInternal => hqcSeed p
  | .hqcEncapsInternal => hqcPk p + hqcM p + 16
  | .mcelieceEncaps => if kind == .none && auxPkHandle aux == 0 then mcePk p else 0
  | .mcelieceDecaps => mceCt p
  | .mceliecePkCache => mcePk p
  | .mcelieceKeygenInternal => 32
  | .mcelieceEncapsInternal => mcePk p + mceE p
  | _ => 0

/-- Output lengths of classes 0x04 and 0x05 (R142, R147). -/
def codeOut (op : Op) (p : Nat) (aux : BitVec 64) : Nat :=
  let wrap := aux.getLsbD 0
  match op with
  | .hqcKeygen => hqcPk p + hqcSeed p + 80
  | .hqcEncaps => (if wrap then 144 else 64) + hqcCt p
  | .hqcDecaps => if wrap then 144 else 64
  | .hqcKeygenInternal => hqcPk p + hqcSk p
  | .hqcEncapsInternal => 64 + hqcCt p
  | .mcelieceKeygen => mcePk p + 112
  | .mcelieceEncaps => (if wrap then 112 else 32) + mceCt p
  | .mcelieceDecaps => if wrap then 112 else 32
  | .mceliecePkCache => 4
  | .mcelieceKeygenInternal => mcePk p + mceSk p
  | .mcelieceEncapsInternal => 32 + mceCt p
  | _ => 0

/-- BATCH of classes 0x04 and 0x05 (R161). -/
def codeBatch (op : Op) (kind : KeyKind) : Bool :=
  match op with
  | .hqcEncaps => kind == .none
  | .hqcDecaps | .mcelieceDecaps => kind == .slot || kind == .wrapped
  | _ => false

/-- T_REGEN, added to DECAPS on a cache miss, in ns (R154, R162). -/
def mceRegen (p : Nat) : Nat := tab [3000000, 6000000, 10000000, 10000000, 12000000] p

/-- T_REL of classes 0x04 and 0x05, in ns (R157, R162); `miss` adds T_REGEN. -/
def codeRel (op : Op) (p : Nat) (miss : Bool) : Nat :=
  match op with
  | .hqcKeygen | .hqcKeygenInternal => tab [15000, 30000, 45000] p
  | .hqcEncaps | .hqcEncapsInternal => tab [24000, 45000, 80000] p
  | .hqcDecaps => tab [40000, 80000, 144000] p
  | .mcelieceEncaps | .mcelieceEncapsInternal => tab [45000, 90000, 175000, 175000, 215000] p
  | .mcelieceDecaps => tab [90000, 140000, 230000, 230000, 275000] p + (if miss then mceRegen p else 0)
  | .mceliecePkCache => tab [40000, 80000, 160000, 160000, 200000] p
  | .mcelieceKeygen => tab [250000000, 600000000, 1490000000, 1490000000, 2330000000] p
  | .mcelieceKeygenInternal => 4 * tab [250000000, 600000000, 1490000000, 1490000000, 2330000000] p
  | _ => 0

/-! ### Class 0x06, SLH-DSA (R171 to R179) -/

/-- n of an SLH-DSA set (R171). -/
def slhN (p : Nat) : Nat := if p ≤ 4 then 16 else if p ≤ 8 then 24 else 32
/-- Public key 2n, private key 4n (R171). -/
def slhPk (p : Nat) : Nat := 2 * slhN p
def slhSk (p : Nat) : Nat := 4 * slhN p
/-- Signature sizes (R171). -/
def slhSig (p : Nat) : Nat :=
  tab [7856, 7856, 17088, 17088, 16224, 16224, 35664, 35664, 29792, 29792, 49856, 49856] p
/-- Even PARAM codes are the SHAKE sets (R171). -/
def slhShake (p : Nat) : Bool := p % 2 == 0

/-- PARAM and AUX of class 0x06 at step 5 (R171, R173: the layout of R122). -/
def slhParamOk (op : Op) (p : Nat) (aux : BitVec 64) : Bool :=
  let p12 := 1 ≤ p && p ≤ 12
  match op with
  | .slhDsaKeygen | .slhDsaKeygenInternal => p12 && aux.toNat == 0
  | .slhDsaSign => p12 && bitsOf aux 1 7 == 0 && bitsOf aux 16 48 == 0
  | .slhDsaVerify => p12 && bitsOf aux 0 8 == 0 && bitsOf aux 16 48 == 0
  | .slhDsaSignPrehash => p12 && bitsOf aux 1 7 == 0 && bitsOf aux 24 40 == 0 && preHashLen (auxPhAlg aux) != 0
  | .slhDsaVerifyPrehash => p12 && bitsOf aux 0 8 == 0 && bitsOf aux 24 40 == 0 && preHashLen (auxPhAlg aux) != 0
  | _ => false

/-- Input lengths of class 0x06, least and greatest (R174). -/
def slhIn (op : Op) (p : Nat) (aux : BitVec 64) (kind : KeyKind) : Nat × Nat :=
  let pk := if kind == .none then slhPk p else 0
  let ctx := auxCtxLen aux
  let d := preHashLen (auxPhAlg aux)
  match op with
  | .slhDsaSign => (ctx, ctx + 65536)
  | .slhDsaSignPrehash => (ctx + d, ctx + d)
  | .slhDsaVerify => (pk + slhSig p + ctx, pk + slhSig p + ctx + 65536)
  | .slhDsaVerifyPrehash => (pk + slhSig p + ctx + d, pk + slhSig p + ctx + d)
  | .slhDsaKeygenInternal => (3 * slhN p, 3 * slhN p)
  | _ => (0, 0)

/-- Output lengths of class 0x06 (R172). -/
def slhOut (op : Op) (p : Nat) : Nat :=
  match op with
  | .slhDsaKeygen => slhPk p + slhSk p + 80
  | .slhDsaSign | .slhDsaSignPrehash => slhSig p
  | .slhDsaKeygenInternal => slhPk p + slhSk p
  | _ => 0

/-- BATCH of class 0x06 (R178). -/
def slhBatch (op : Op) (kind : KeyKind) : Bool :=
  (op == .slhDsaSignPrehash || op == .slhDsaVerifyPrehash) && (kind == .slot || kind == .wrapped)

/-- Further 1,024-byte parts of a message beyond the first (R175, R226). -/
def extraParts (len : Nat) : Nat := (len - 1024 + 1023) / 1024

/-- T_REL of class 0x06, in ns, with the message part of R175. -/
def slhRel (op : Op) (p msgPart : Nat) : Nat :=
  match op with
  | .slhDsaKeygen | .slhDsaKeygenInternal =>
    tab [1760000, 733000, 29300, 12200, 2640000, 1100000, 44000, 18300, 1760000, 733000, 106000, 44000] p
  | .slhDsaSign | .slhDsaSignPrehash =>
    tab [13200000, 5500000, 660000, 275000, 22000000, 9170000, 1060000, 440000, 26400000, 11000000, 2200000, 917000] p
      + 1500 * extraParts msgPart
  | .slhDsaVerify | .slhDsaVerifyPrehash =>
    tab [10600, 4400, 22000, 9200, 15500, 6500, 35200, 14700, 24000, 10000, 52800, 22000] p
      + 750 * extraParts msgPart
  | _ => 0

/-- The message part M' of R175: 2 header bytes, ctx, then M, or the 11-byte OID and PH(M). -/
def slhMsgPart (op : Op) (p : Nat) (kind : KeyKind) (inLen : Nat) : Nat :=
  let pk := if kind == .none then slhPk p else 0
  match op with
  | .slhDsaSign => 2 + inLen
  | .slhDsaSignPrehash => 13 + inLen
  | .slhDsaVerify => 2 + (inLen - pk - slhSig p)
  | .slhDsaVerifyPrehash => 13 + (inLen - pk - slhSig p)
  | _ => 0

/-! ### Classes 0x07 and 0x08, stateful keys (R180 to R192) -/

/-- Height of an LMS type, 0 where the type is not supported (SP 800-208 typecodes 5 to 0x18). -/
def lmsHeight (t : Nat) : Nat := if 5 ≤ t && t ≤ 24 then 5 * ((t - 5) % 5 + 1) else 0
/-- Hash group of an LMS type: 0 SHA-256/32, 1 SHA-256/24, 2 SHAKE256/32, 3 SHAKE256/24. -/
def lmsGroup (t : Nat) : Nat := (t - 5) / 5
/-- Winternitz width of an LM-OTS type, 0 where it is not supported (typecodes 1 to 0x10). -/
def lmotsW (t : Nat) : Nat := if 1 ≤ t && t ≤ 16 then 2 ^ ((t - 1) % 4) else 0
/-- Hash group of an LM-OTS type, numbered as `lmsGroup`. -/
def lmotsGroup (t : Nat) : Nat := (t - 1) / 4
/-- Node size of a hash group. -/
def groupN (g : Nat) : Nat := if g % 2 == 0 then 32 else 24
/-- A SHAKE256 group runs on Keccak teams. -/
def groupShake (g : Nat) : Bool := 2 ≤ g
/-- Chains of an LM-OTS signature for n and w (RFC 8554). -/
def lmotsP (n w : Nat) : Nat :=
  let i := if w == 1 then 1 else if w == 2 then 2 else if w == 4 then 3 else 4
  if n == 32 then tab [265, 133, 67, 34] i else tab [200, 101, 51, 26] i

/-- One level of a stateful key: height, hash group, and Winternitz width (0 for XMSS). -/
structure TreeLevel where
  height : Nat
  group : Nat
  w : Nat
  deriving DecidableEq, Repr

/-- LMS signature length: q, LM-OTS signature, type, path (R181). -/
def lmsSigLen (l : TreeLevel) : Nat :=
  let n := groupN l.group
  4 + (4 + n * (lmotsP n l.w + 1)) + 4 + l.height * n

/-- The pairs of types of an LMS or HSS input (R181), all in one hash group (R180). -/
def lmsLevels : List Nat → Option (List TreeLevel)
  | [] => some []
  | a :: b :: rest =>
    if lmsHeight a == 0 || lmotsW b == 0 || lmsGroup a != lmotsGroup b then none
    else (lmsLevels rest).map (⟨lmsHeight a, lmsGroup a, lmotsW b⟩ :: ·)
  | _ => none

/-- XMSS OIDs of SP 800-208: height and hash group. -/
def xmssOid (o : Nat) : Option TreeLevel :=
  let h := fun i => tab [10, 16, 20] i
  if 1 ≤ o && o ≤ 3 then some ⟨h o, 0, 0⟩
  else if 13 ≤ o && o ≤ 15 then some ⟨h (o - 12), 1, 0⟩
  else if 16 ≤ o && o ≤ 18 then some ⟨h (o - 15), 2, 0⟩
  else if 19 ≤ o && o ≤ 21 then some ⟨h (o - 18), 3, 0⟩
  else none

/-- XMSS^MT OIDs of SP 800-208: layers of equal height in one hash group. -/
def xmssMtOid (o : Nat) : Option (List TreeLevel) :=
  let mk (i g : Nat) : List TreeLevel :=
    let h := tab [20, 20, 40, 40, 40, 60, 60, 60] i
    let d := tab [2, 4, 2, 4, 8, 3, 6, 12] i
    List.replicate d ⟨h / d, g, 0⟩
  if 1 ≤ o && o ≤ 8 then some (mk o 0)
  else if 33 ≤ o && o ≤ 40 then some (mk (o - 32) 1)
  else if 41 ≤ o && o ≤ 48 then some (mk (o - 40) 2)
  else if 49 ≤ o && o ≤ 56 then some (mk (o - 48) 3)
  else none

/-- The levels that the typecodes or OID of a KEYGEN input name, if R180 and R190 accept them. -/
def statefulLevels (xmss : Bool) (p : Nat) (b : Bytes) : Option (List TreeLevel) :=
  let oneGroup (ls : List TreeLevel) : Option (List TreeLevel) :=
    if ls.all (fun l => l.group == (ls.headD ⟨0, 0, 0⟩).group) && (ls.map (·.height)).sum ≤ 60 then some ls else none
  if xmss then
    if p == 1 then (xmssOid (be b 0 4)).map ([·]) else (xmssMtOid (be b 0 4)).bind oneGroup
  else if p == 1 then (lmsLevels [be b 0 4, be b 4 4]).bind oneGroup
  else
    let n := be b 0 4
    if 1 ≤ n && n ≤ 8 && 4 + 8 * n ≤ b.length then
      (lmsLevels ((List.range (2 * n)).map (fun i => be b (4 + 4 * i) 4))).bind oneGroup
    else none

/-- Public-key length of a stateful key (R181). -/
def statefulPkLen (xmss : Bool) (p : Nat) (ls : List TreeLevel) : Nat :=
  let n := groupN (ls.headD ⟨0, 0, 0⟩).group
  if xmss then 4 + 2 * n else if p == 1 then 24 + n else 28 + n

/-- Signature length of a stateful key (R181, RFC 8554, RFC 8391). -/
def statefulSigLen (xmss : Bool) (p : Nat) (ls : List TreeLevel) : Nat :=
  let top := ls.headD ⟨0, 0, 0⟩
  let n := groupN top.group
  let len := if n == 32 then 67 else 51
  let h := (ls.map (·.height)).sum
  if xmss then
    if p == 1 then 4 + n + (len + h) * n else (h + 7) / 8 + n + (ls.length * len + h) * n
  else if p == 1 then lmsSigLen top
  else 4 + (ls.map lmsSigLen).sum + (ls.length - 1) * (24 + n)

/-- T_REL of signing with the lowest level (R192), H25 doubling it. -/
def statefulSignRel (xmss : Bool) (l : TreeLevel) : Nat :=
  let sh := groupShake l.group
  if xmss then (if sh then 44000 else 105600)
  else
    let base := if sh then (if l.w ≤ 2 then 3670 else if l.w == 4 then 4400 else 22000)
                else (if l.w ≤ 2 then 8800 else if l.w == 4 then 10600 else 52800)
    if l.height == 25 then 2 * base else base

/-- T_REL of verifying one level (R192). -/
def statefulVerifyRel (xmss : Bool) (l : TreeLevel) : Nat :=
  let sh := groupShake l.group
  if xmss then (if sh then 22000 else 52800)
  else if sh then (if l.w == 8 then 11000 else 2750) else (if l.w == 8 then 26400 else 6600)

/-- PARAM and AUX of classes 0x07 and 0x08 at step 5 (R180, R181). -/
def statefulParamOk (op : Op) (p : Nat) (aux : BitVec 64) : Bool :=
  (p == 1 || p == 2) &&
  match op with
  | .lmsVerify | .xmssVerify => bitsOf aux 32 32 == 0
  | _ => aux.toNat == 0

/-- IN_LEN of classes 0x07 and 0x08 at step 6 (R181, R191). -/
def statefulInOk (op : Op) (p : Nat) (aux : BitVec 64) (kind : KeyKind) (len : Nat) : Bool :=
  match op with
  | .lmsKeygen => if p == 1 then len == 8 else 12 ≤ len && len ≤ 68 && len % 8 == 4
  | .xmssKeygen => len == 4
  | .lmsSign | .xmssSign => len ≤ 65536
  | .lmsVerify => bitsOf aux 0 32 + (if kind == .none then (if p == 1 then 48 else 52) else 0) ≤ len
  | .xmssVerify => bitsOf aux 0 32 + (if kind == .none then 52 else 0) ≤ len
  | _ => len == 0

/-! ### Class 0x09, hash, MAC and XOF sessions (R199 to R206) -/

/-- Fixed output length of a session function, 0 for the variable-length ones (R199). -/
def hashFixed (p : Nat) : Nat :=
  match p with
  | 0x01 | 0x05 | 0x07 => 28
  | 0x02 | 0x06 | 0x08 | 0x11 | 0x14 => 32
  | 0x03 | 0x09 | 0x12 | 0x15 => 48
  | 0x04 | 0x0A | 0x13 | 0x16 => 64
  | _ => 0
/-- SHAKE, cSHAKE and KMAC take OUT_LEN from AUX (R199, R201). -/
def hashVariable (p : Nat) : Bool := (0x0B ≤ p && p ≤ 0x0E) || (0x19 ≤ p && p ≤ 0x1C)
def hashCshake (p : Nat) : Bool := p == 0x0D || p == 0x0E
def hashKmac (p : Nat) : Bool := 0x19 ≤ p && p ≤ 0x1C
/-- HMAC and KMAC functions (R200). -/
def hashMac (p : Nat) : Bool := (0x11 ≤ p && p ≤ 0x16) || hashKmac p
/-- A defined PARAM of class 0x09 (R199). -/
def hashDefined (p : Nat) : Bool := hashFixed p != 0 || hashVariable p
/-- Keccak cores serve SHA-3, SHAKE, cSHAKE, HMAC-SHA3 and KMAC (R163). -/
def hashKeccak (p : Nat) : Bool := (0x07 ≤ p && p ≤ 0x0E) || 0x14 ≤ p

def auxOutLen (aux : BitVec 64) : Nat := bitsOf aux 0 32
def auxNLen (aux : BitVec 64) : Nat := bitsOf aux 32 8
def auxSLen (aux : BitVec 64) : Nat := bitsOf aux 40 8
def auxHandle (aux : BitVec 64) : Nat := bitsOf aux 0 32
def auxChunkNo (aux : BitVec 64) : Nat := bitsOf aux 32 32

/-- Output length that PARAM and AUX give DIGEST, VERIFY and OPEN (R201). -/
def hashOutLen (p : Nat) (aux : BitVec 64) : Nat := if hashVariable p then auxOutLen aux else hashFixed p

/-- PARAM and AUX of class 0x09 at step 5 (R199, R201). -/
def hashParamOk (op : Op) (p : Nat) (aux : BitVec 64) : Bool :=
  hashDefined p &&
  match op with
  | .hashDigest | .hashVerify | .hashOpen =>
    (if hashVariable p then 1 ≤ auxOutLen aux && auxOutLen aux ≤ 65536 else auxOutLen aux == 0) &&
    (auxNLen aux == 0 || hashCshake p) && (auxSLen aux == 0 || hashCshake p || hashKmac p) && bitsOf aux 48 16 == 0
  | _ => true

/-- 16 MiB, the greatest chunk (R200) and bulk data part (R254). -/
def mib16 : Nat := 16777216

/-! ### Classes 0x0A to 0x0D, Cooper engines (R217 to R240) -/

/-- Column of a curve in the tables of R219: 1 to 6, then X25519 and X448. -/
def ecIx (p : Nat) : Nat := if p == 0x10 then 7 else if p == 0x11 then 8 else if p ≤ 6 then p else 0
/-- L and the public point length (R219). -/
def ecL (p : Nat) : Nat := tab [32, 48, 66, 32, 48, 64, 32, 56] (ecIx p)
def ecPub (p : Nat) : Nat := tab [65, 97, 133, 65, 97, 129, 32, 56] (ecIx p)
/-- EdDSA public key, seed and signature sizes (R224). -/
def edPub (p : Nat) : Nat := tab [32, 57] p
def edSig (p : Nat) : Nat := tab [64, 114] p
/-- VARIANT of class 0x0B (R225). -/
def auxVariant (aux : BitVec 64) : Nat := bitsOf aux 0 2
/-- Modulus length k (R229). -/
def rsaK (p : Nat) : Nat := tab [256, 384, 512, 1024, 2048] p
/-- SALT_OR_LABEL, EXP_CLASS (R231), and E and the bit length of the exponent classes. -/
def auxSaltLabel (aux : BitVec 64) : Nat := bitsOf aux 8 8
def auxExpClass (aux : BitVec 64) : Nat := bitsOf aux 24 3
def expBytes (c : Nat) : Nat := tab [3, 4, 8, 16, 32] c
def expBits (c : Nat) : Nat := tab [17, 32, 64, 128, 256] c
/-- Public-operation time factor of a class, in tenths (R231). -/
def expFactor10 (c : Nat) : Nat := tab [10, 19, 38, 76, 152] c

/-- PARAM and AUX of classes 0x0A to 0x0D at step 5 (R219, R221, R225, R229, R231). -/
def cooperParamOk (op : Op) (p : Nat) (aux : BitVec 64) (kind : KeyKind) : Bool :=
  let ec := 1 ≤ p && p ≤ 6
  let ecx := ec || p == 0x10 || p == 0x11
  let phEc := 1 ≤ auxPhAlg aux && auxPhAlg aux ≤ 6
  let rsa := 1 ≤ p && p ≤ 5
  let phR := 1 ≤ auxPhAlg aux && auxPhAlg aux ≤ 3
  let hi := bitsOf aux 27 37 == 0 && bitsOf aux 1 7 == 0
  let pubClass := if kind == .none then 1 ≤ auxExpClass aux && auxExpClass aux ≤ 5 else auxExpClass aux == 0
  match op with
  | .ecdsaKeygen => ec && aux.toNat == 0
  | .ecdsaSign => ec && bitsOf aux 1 15 == 0 && phEc && bitsOf aux 24 40 == 0
  | .ecdsaVerify => ec && bitsOf aux 0 16 == 0 && phEc && bitsOf aux 24 40 == 0
  | .ecdhKeygen => ecx && aux.toNat == 0
  | .ecdhDerive => ecx && aux.toNat ≤ 1
  | .eddsaKeygen => (p == 1 || p == 2) && aux.toNat == 0
  | .eddsaSign | .eddsaVerify =>
    let v := auxVariant aux
    (p == 1 || p == 2) && bitsOf aux 2 6 == 0 && bitsOf aux 16 48 == 0 &&
    (v == 0 || v == 2 || (v == 1 && p == 1)) && !(p == 1 && v == 0 && auxCtxLen aux != 0)
  | .rsaKeygen => rsa && aux.toNat == 0
  | .rsaSignPkcs1 => rsa && phR && hi && bitsOf aux 0 1 == 0 && auxSaltLabel aux == 0 && auxExpClass aux == 0
  | .rsaSignPss => rsa && phR && hi && bitsOf aux 0 1 == 0 && auxExpClass aux == 0
  | .rsaVerifyPkcs1 => rsa && phR && hi && bitsOf aux 0 1 == 0 && auxSaltLabel aux == 0 && pubClass
  | .rsaVerifyPss => rsa && phR && hi && bitsOf aux 0 1 == 0 && pubClass
  | .rsaDecryptOaep => rsa && phR && hi && auxExpClass aux == 0
  | .rsaEncryptOaep => rsa && phR && hi && bitsOf aux 0 1 == 0 && pubClass
  | _ => false

/-- Input lengths of classes 0x0A to 0x0D, least and greatest (R222, R226, R232). -/
def cooperIn (op : Op) (p : Nat) (aux : BitVec 64) (kind : KeyKind) : Nat × Nat :=
  let none' := kind == .none
  let d := preHashLen (auxPhAlg aux)
  let ex (n : Nat) : Nat × Nat := (n, n)
  let ctx := auxCtxLen aux
  let ne := if none' then rsaK p + expBytes (auxExpClass aux) else 0
  match op with
  | .ecdsaSign => ex d
  | .ecdsaVerify => ex ((if none' then ecPub p else 0) + 2 * ecL p + d)
  | .ecdhDerive => ex (ecPub p)
  | .eddsaSign => if auxVariant aux == 2 then ex (ctx + 64) else (ctx, ctx + 65536)
  | .eddsaVerify =>
    let b := (if none' then edPub p else 0) + edSig p + ctx
    if auxVariant aux == 2 then ex (b + 64) else (b, b + 65536)
  | .rsaSignPkcs1 | .rsaSignPss => ex d
  | .rsaVerifyPkcs1 | .rsaVerifyPss => ex (ne + rsaK p + d)
  | .rsaDecryptOaep => ex (auxSaltLabel aux + rsaK p)
  | .rsaEncryptOaep => (ne + auxSaltLabel aux, ne + auxSaltLabel aux + (rsaK p - 2 * d - 2))
  | _ => ex 0

/-- The salt of PSS is no longer than the digest; a longer one is a length not as required (R231, R235). -/
def saltOk (op : Op) (aux : BitVec 64) : Bool :=
  (op != .rsaSignPss && op != .rsaVerifyPss) || auxSaltLabel aux ≤ preHashLen (auxPhAlg aux)

/-- Largest outputs of classes 0x0A to 0x0D (R220, R224, R230). -/
def cooperOut (op : Op) (p : Nat) (aux : BitVec 64) : Nat :=
  let wrap := aux.getLsbD 0
  match op with
  | .ecdsaKeygen | .ecdhKeygen => ecPub p + ecL p + 80
  | .ecdsaSign => 2 * ecL p
  | .ecdhDerive => ecL p + (if wrap then 80 else 0)
  | .eddsaKeygen => edPub p + edPub p + 80
  | .eddsaSign => edSig p
  | .rsaKeygen => rsaK p + 3 + rsaK p + 80
  | .rsaSignPkcs1 | .rsaSignPss | .rsaEncryptOaep => rsaK p
  | .rsaDecryptOaep => rsaK p - 2 * preHashLen (auxPhAlg aux) - 2 + (if wrap then 80 else 0)
  | _ => 0

/-- BATCH of classes 0x0A to 0x0D (R237). -/
def cooperBatch (op : Op) (kind : KeyKind) (aux : BitVec 64) : Bool :=
  let held := kind == .slot || kind == .wrapped
  match op with
  | .ecdsaSign | .ecdhDerive | .rsaVerifyPkcs1 | .rsaVerifyPss => held
  | .ecdsaVerify => held || kind == .none
  | .eddsaVerify => kind == .none && auxVariant aux == 2
  | _ => false

/-- T_REL of classes 0x0A to 0x0D, in ns (R226, R238, R239); `cls` is the exponent class in force, `msg` the length of M. -/
def cooperRel (op : Op) (p cls msg : Nat) : Nat :=
  let x := extraParts msg
  match op with
  | .ecdsaKeygen | .ecdhKeygen => tab [9000, 22000, 44000, 12000, 29500, 55000, 2200, 8800] (ecIx p)
  | .ecdsaSign => tab [17600, 44000, 88000, 23500, 58700, 110000] p
  | .ecdsaVerify => tab [35200, 88000, 176000, 47000, 117300, 220000] p
  | .ecdhDerive => tab [23500, 58700, 117300, 29300, 73300, 141000, 11700, 35200] (ecIx p)
  | .eddsaKeygen => tab [2200, 8800] p
  | .eddsaSign => tab [11700, 35200] p + 500 * x
  | .eddsaVerify => tab [28200, 88000] p + 250 * x
  | .rsaKeygen => tab [400000000, 1300000000, 3200000000, 40000000000, 480000000000] p
  | .rsaSignPkcs1 | .rsaSignPss | .rsaDecryptOaep => tab [235000, 704000, 1565000, 11730000, 93900000] p
  | .rsaVerifyPkcs1 | .rsaVerifyPss | .rsaEncryptOaep =>
    tab [5900, 13000, 23500, 117300, 469300] p * expFactor10 cls / 10
  | _ => 0

/-! ### Classes 0x0E, 0x0F and 0x10, Drays (R246 to R263) -/

def auxIvGen (aux : BitVec 64) : Bool := aux.getLsbD 0
def auxNonceLen (aux : BitVec 64) : Nat := bitsOf aux 4 4
def auxTagLen (aux : BitVec 64) : Nat := bitsOf aux 8 8
def auxAadLen (aux : BitVec 64) : Nat := bitsOf aux 16 16

/-- AES key length of a PARAM of class 0x0E, XTS pairs apart (R251). -/
def aesLen (p : Nat) : Nat := tab [16, 24, 32] p

/-- Class 0x0E operations that are authenticated encryption or decryption. -/
def bulkIsEnc (op : Op) : Bool := op == .gcmEncrypt || op == .ccmEncrypt || op == .chachaEncrypt
def bulkIsDec (op : Op) : Bool := op == .gcmDecrypt || op == .ccmDecrypt || op == .chachaDecrypt

/-- PARAM and AUX of class 0x0E at step 5 (R251, R253). -/
def bulkParamOk (op : Op) (p : Nat) (aux : BitVec 64) : Bool :=
  let aes := 1 ≤ p && p ≤ 3
  let iv := !auxIvGen aux || bulkIsEnc op
  let non := auxNonceLen aux == 0
  let tag := auxTagLen aux
  let aad := auxAadLen aux == 0
  let base := iv && bitsOf aux 1 3 == 0 && bitsOf aux 32 32 == 0
  base &&
  match op with
  | .gcmEncrypt | .gcmDecrypt => aes && non && 12 ≤ tag && tag ≤ 16
  | .ccmEncrypt | .ccmDecrypt =>
    aes && 7 ≤ auxNonceLen aux && auxNonceLen aux ≤ 13 && 4 ≤ tag && tag ≤ 16 && tag % 2 == 0
  | .gmacGenerate | .gmacVerify => aes && non && aad && 12 ≤ tag && tag ≤ 16
  | .cmacGenerate | .cmacVerify => aes && non && aad && 8 ≤ tag && tag ≤ 16
  | .ctr | .kwWrap | .kwUnwrap | .kwpWrap | .kwpUnwrap => aes && non && aad && tag == 0
  | .xtsEncrypt | .xtsDecrypt => (p == 1 || p == 3) && non && aad && tag == 0
  | .chachaEncrypt | .chachaDecrypt => p == 0x10 && non && tag == 16
  | _ => false

/-- Bytes of a bulk input before and around the data part: descriptor, IV or nonce, tag, AAD (R252, R254). -/
def bulkOverhead (op : Op) (aux : BitVec 64) (kind : KeyKind) : Nat :=
  let desc := if kind == .graft then 16 else 0
  let tag := auxTagLen aux
  desc +
  match op with
  | .gcmEncrypt | .chachaEncrypt => (if auxIvGen aux then 0 else 12) + auxAadLen aux
  | .gcmDecrypt | .chachaDecrypt => 12 + auxAadLen aux + tag
  | .ccmEncrypt => (if auxIvGen aux then 0 else auxNonceLen aux) + auxAadLen aux
  | .ccmDecrypt => auxNonceLen aux + auxAadLen aux + tag
  | .ctr | .xtsEncrypt | .xtsDecrypt => 16
  | .cmacVerify => tag
  | .gmacGenerate => 12
  | .gmacVerify => 12 + tag
  | _ => 0

/-- The data part of a bulk input of `len` bytes is valid (R254). -/
def bulkDataOk (op : Op) (aux : BitVec 64) (d : Nat) : Bool :=
  d ≤ mib16 &&
  match op with
  | .xtsEncrypt | .xtsDecrypt => 16 ≤ d
  | .kwWrap => d % 8 == 0 && 16 ≤ d
  | .kwUnwrap => d % 8 == 0 && 24 ≤ d
  | .kwpWrap => 1 ≤ d
  | .kwpUnwrap => d % 8 == 0 && 16 ≤ d
  | .ccmEncrypt | .ccmDecrypt => d < 2 ^ (8 * (15 - auxNonceLen aux))
  | _ => true

/-- Largest output of a class 0x0E operation with a data part of `d` bytes (R252). -/
def bulkOut (op : Op) (aux : BitVec 64) (d : Nat) : Nat :=
  let tag := auxTagLen aux
  match op with
  | .gcmEncrypt | .chachaEncrypt => (if auxIvGen aux then 12 else 0) + d + tag
  | .ccmEncrypt => (if auxIvGen aux then auxNonceLen aux else 0) + d + tag
  | .cmacGenerate | .gmacGenerate => tag
  | .cmacVerify | .gmacVerify => 0
  | .kwWrap => d + 8
  | .kwpWrap => (d + 7) / 8 * 8 + 8
  | .kwUnwrap | .kwpUnwrap => d - 8
  | _ => d

/-- APDU area of a PARAM of class 0x0F (R258). -/
def dlmsArea (p : Nat) : Nat := tab [256, 1024, 4096] (p / 4 % 4 + 1)
/-- SUITE (R258). -/
def dlmsSuite (p : Nat) : Nat := p % 4
/-- PARAM and AUX of class 0x0F at step 5 (R258, R262). -/
def dlmsParamOk (op : Op) (p : Nat) (aux : BitVec 64) : Bool :=
  p < 16 && dlmsSuite p ≤ 2 && p / 4 % 4 ≤ 2 &&
  (if op == .dlmsUnprotect then bitsOf aux 0 4 == 0 && bitsOf aux 6 58 == 0 else aux.toNat == 0)

/-- PARAM and AUX of class 0x10 at step 5 (R256, R257). -/
def graftParamOk (op : Op) (p : Nat) (aux : BitVec 64) : Bool :=
  (p == 1 || p == 3) &&
  (if op == .exportWrapped then bitsOf aux 32 32 == 0 && bitsOf aux 30 2 == 1 else aux.toNat == 0)
def graftIn (op : Op) : Nat := if op == .keyTransfer then 32 else 16
def graftOut (op : Op) (p : Nat) : Nat := if op == .checkValue then 4 else if p == 3 then 40 else 24

/-! ### Classes 0x11, 0x12, 0x13 and 0x7F (R74, R282 to R286, R303, R320, R321) -/

def auxTarget (aux : BitVec 64) : Nat := bitsOf aux 0 14
def auxReplace (aux : BitVec 64) : Bool := aux.getLsbD 16
def auxToExternal (aux : BitVec 64) : Bool := aux.getLsbD 17

/-- PARAM and AUX of class 0x11 at step 5 (R282, R284). -/
def kmParamOk (op : Op) (p : Nat) (aux : BitVec 64) : Bool :=
  p == 0 &&
  match op with
  | .kmGenerate => bitsOf aux 0 16 == 0 && bitsOf aux 17 47 == 0
  | .kmImport => bitsOf aux 14 2 == 0 && bitsOf aux 18 46 == 0
  | _ => aux.toNat == 0

/-- IN_LEN of class 0x11 at step 6 (R282, R285); an object is n + 80 bytes with n at most 2,097,152 (R279). -/
def kmInOk (op : Op) (len : Nat) : Bool :=
  let obj := 80 ≤ len && len ≤ 2097232
  match op with
  | .kmGenerate => len == 16
  | .kmImport => 32 ≤ len && (len - 16) % 8 == 0 && len - 16 ≤ 5672
  | .kmRewrap => obj
  | .kmRestore => len == 0 || obj
  | _ => len == 0

/-! ### The whole table -/

/-- Step 2 of R59: the operation an OPCODE names, if any. -/
def opOfCode (cls low : Nat) : Option Op :=
  match cls, low with
  | 0x01, 0x01 => some .mlKemKeygen | 0x01, 0x02 => some .mlKemEncaps | 0x01, 0x03 => some .mlKemDecaps
  | 0x01, 0x04 => some .mlKemEkCheck | 0x01, 0x10 => some .mlKemKeygenInternal | 0x01, 0x11 => some .mlKemEncapsInternal
  | 0x02, 0x01 => some .mlDsaKeygen | 0x02, 0x02 => some .mlDsaSign | 0x02, 0x03 => some .mlDsaSignPrehash
  | 0x02, 0x04 => some .mlDsaSignMu | 0x02, 0x05 => some .mlDsaVerify | 0x02, 0x06 => some .mlDsaVerifyPrehash
  | 0x02, 0x07 => some .mlDsaVerifyMu | 0x02, 0x10 => some .mlDsaKeygenInternal
  | 0x03, 0x01 => some .hybridInitKeygen | 0x03, 0x02 => some .hybridRespond | 0x03, 0x03 => some .hybridInitFinish
  | 0x04, 0x01 => some .hqcKeygen | 0x04, 0x02 => some .hqcEncaps | 0x04, 0x03 => some .hqcDecaps
  | 0x04, 0x10 => some .hqcKeygenInternal | 0x04, 0x11 => some .hqcEncapsInternal
  | 0x05, 0x01 => some .mcelieceKeygen | 0x05, 0x02 => some .mcelieceEncaps | 0x05, 0x03 => some .mcelieceDecaps
  | 0x05, 0x04 => some .mceliecePkCache | 0x05, 0x10 => some .mcelieceKeygenInternal
  | 0x05, 0x11 => some .mcelieceEncapsInternal
  | 0x06, 0x01 => some .slhDsaKeygen | 0x06, 0x02 => some .slhDsaSign | 0x06, 0x03 => some .slhDsaSignPrehash
  | 0x06, 0x04 => some .slhDsaVerify | 0x06, 0x05 => some .slhDsaVerifyPrehash | 0x06, 0x10 => some .slhDsaKeygenInternal
  | 0x07, 0x01 => some .lmsKeygen | 0x07, 0x02 => some .lmsSign | 0x07, 0x03 => some .lmsVerify | 0x07, 0x04 => some .lmsStateGet
  | 0x08, 0x01 => some .xmssKeygen | 0x08, 0x02 => some .xmssSign | 0x08, 0x03 => some .xmssVerify | 0x08, 0x04 => some .xmssStateGet
  | 0x09, 0x01 => some .hashDigest | 0x09, 0x02 => some .hashVerify | 0x09, 0x03 => some .hashOpen
  | 0x09, 0x04 => some .hashUpdate | 0x09, 0x05 => some .hashFinal | 0x09, 0x06 => some .hashFinalVerify | 0x09, 0x07 => some .hashAbort
  | 0x0A, 0x01 => some .ecdsaKeygen | 0x0A, 0x02 => some .ecdsaSign | 0x0A, 0x03 => some .ecdsaVerify
  | 0x0B, 0x01 => some .eddsaKeygen | 0x0B, 0x02 => some .eddsaSign | 0x0B, 0x03 => some .eddsaVerify
  | 0x0C, 0x01 => some .ecdhKeygen | 0x0C, 0x02 => some .ecdhDerive
  | 0x0D, 0x01 => some .rsaKeygen | 0x0D, 0x02 => some .rsaSignPkcs1 | 0x0D, 0x03 => some .rsaSignPss
  | 0x0D, 0x04 => some .rsaVerifyPkcs1 | 0x0D, 0x05 => some .rsaVerifyPss | 0x0D, 0x06 => some .rsaDecryptOaep
  | 0x0D, 0x07 => some .rsaEncryptOaep
  | 0x0E, 0x01 => some .gcmEncrypt | 0x0E, 0x02 => some .gcmDecrypt | 0x0E, 0x03 => some .ccmEncrypt | 0x0E, 0x04 => some .ccmDecrypt
  | 0x0E, 0x05 => some .ctr | 0x0E, 0x06 => some .xtsEncrypt | 0x0E, 0x07 => some .xtsDecrypt
  | 0x0E, 0x08 => some .cmacGenerate | 0x0E, 0x09 => some .cmacVerify | 0x0E, 0x0A => some .gmacGenerate | 0x0E, 0x0B => some .gmacVerify
  | 0x0E, 0x0C => some .kwWrap | 0x0E, 0x0D => some .kwUnwrap | 0x0E, 0x0E => some .kwpWrap | 0x0E, 0x0F => some .kwpUnwrap
  | 0x0E, 0x10 => some .chachaEncrypt | 0x0E, 0x11 => some .chachaDecrypt
  | 0x0F, 0x01 => some .dlmsProtect | 0x0F, 0x02 => some .dlmsUnprotect
  | 0x10, 0x01 => some .keyTransfer | 0x10, 0x02 => some .exportWrapped | 0x10, 0x03 => some .checkValue
  | 0x11, 0x01 => some .kmGenerate | 0x11, 0x02 => some .kmImport | 0x11, 0x03 => some .kmExport | 0x11, 0x04 => some .kmDestroy
  | 0x11, 0x05 => some .kmPublicGet | 0x11, 0x06 => some .kmRewrap | 0x11, 0x07 => some .kmRestore | 0x11, 0x08 => some .kmInfo
  | 0x12, 0x01 => some .rngGenerate | 0x13, 0x01 => some .quote | 0x7F, 0x00 => some .nop
  | _, _ => none

/-- Class and low byte of an operation, the inverse of `opOfCode`. -/
def opClass (op : Op) : Nat :=
  match op with
  | .nop => 0x7F
  | .mlKemKeygen | .mlKemEncaps | .mlKemDecaps | .mlKemEkCheck | .mlKemKeygenInternal | .mlKemEncapsInternal => 1
  | .mlDsaKeygen | .mlDsaSign | .mlDsaSignPrehash | .mlDsaSignMu | .mlDsaVerify | .mlDsaVerifyPrehash | .mlDsaVerifyMu
  | .mlDsaKeygenInternal => 2
  | .hybridInitKeygen | .hybridRespond | .hybridInitFinish => 3
  | .hqcKeygen | .hqcEncaps | .hqcDecaps | .hqcKeygenInternal | .hqcEncapsInternal => 4
  | .mcelieceKeygen | .mcelieceEncaps | .mcelieceDecaps | .mceliecePkCache | .mcelieceKeygenInternal | .mcelieceEncapsInternal => 5
  | .slhDsaKeygen | .slhDsaSign | .slhDsaSignPrehash | .slhDsaVerify | .slhDsaVerifyPrehash | .slhDsaKeygenInternal => 6
  | .lmsKeygen | .lmsSign | .lmsVerify | .lmsStateGet => 7
  | .xmssKeygen | .xmssSign | .xmssVerify | .xmssStateGet => 8
  | .hashDigest | .hashVerify | .hashOpen | .hashUpdate | .hashFinal | .hashFinalVerify | .hashAbort => 9
  | .ecdsaKeygen | .ecdsaSign | .ecdsaVerify => 0x0A
  | .eddsaKeygen | .eddsaSign | .eddsaVerify => 0x0B
  | .ecdhKeygen | .ecdhDerive => 0x0C
  | .rsaKeygen | .rsaSignPkcs1 | .rsaSignPss | .rsaVerifyPkcs1 | .rsaVerifyPss | .rsaDecryptOaep | .rsaEncryptOaep => 0x0D
  | .gcmEncrypt | .gcmDecrypt | .ccmEncrypt | .ccmDecrypt | .ctr | .xtsEncrypt | .xtsDecrypt | .cmacGenerate | .cmacVerify
  | .gmacGenerate | .gmacVerify | .kwWrap | .kwUnwrap | .kwpWrap | .kwpUnwrap | .chachaEncrypt | .chachaDecrypt => 0x0E
  | .dlmsProtect | .dlmsUnprotect => 0x0F
  | .keyTransfer | .exportWrapped | .checkValue => 0x10
  | .kmGenerate | .kmImport | .kmExport | .kmDestroy | .kmPublicGet | .kmRewrap | .kmRestore | .kmInfo => 0x11
  | .rngGenerate => 0x12
  | .quote => 0x13

/-- The operation is a stateful KEYGEN. -/
def opStatefulKeygen (op : Op) : Bool := op == .lmsKeygen || op == .xmssKeygen
/-- The operation is a stateful SIGN. -/
def opStatefulSign (op : Op) : Bool := op == .lmsSign || op == .xmssSign
/-- STATE_GET reaches no team (R187). -/
def opStateGet (op : Op) : Bool := op == .lmsStateGet || op == .xmssStateGet

/-- BATCH is accepted (R135, R161, R178, R237, R256, R258). -/
def opBatch (op : Op) (kind : KeyKind) (aux : BitVec 64) : Bool :=
  match opClass op with
  | 1 | 2 | 3 => latticeBatch op kind
  | 4 | 5 => codeBatch op kind
  | 6 => slhBatch op kind
  | 0x0A | 0x0B | 0x0C | 0x0D => cooperBatch op kind aux
  | 0x0F | 0x10 => true
  | _ => false

/-- INLINE_IN is accepted (R200, R320). -/
def opInline (op : Op) (aux : BitVec 64) : Bool :=
  match op with
  | .hashDigest => auxNLen aux == 0 && auxSLen aux == 0
  | .hashUpdate | .hashFinal | .rngGenerate => true
  | _ => false

/-- Step 5: PARAM and AUX are supported (R59, R112). -/
def opParamOk (op : Op) (p : Nat) (aux : BitVec 64) (kind : KeyKind) : Bool :=
  match opClass op with
  | 1 | 2 | 3 => latticeParamOk op p aux
  | 4 | 5 => codeParamOk op p aux kind
  | 6 => slhParamOk op p aux
  | 7 | 8 => statefulParamOk op p aux
  | 9 => hashParamOk op p aux
  | 0x0A | 0x0B | 0x0C | 0x0D => cooperParamOk op p aux kind
  | 0x0E => bulkParamOk op p aux
  | 0x0F => dlmsParamOk op p aux
  | 0x10 => graftParamOk op p aux
  | 0x11 => kmParamOk op p aux
  | 0x12 => p == 1 && bitsOf aux 33 31 == 0
  | 0x13 => p == 1 && aux.toNat == 0
  | _ => p == 0

/-- Step 6: the length of the input of one job or record is valid (R59). -/
def opLenOk (op : Op) (p : Nat) (aux : BitVec 64) (kind : KeyKind) (len : Nat) : Bool :=
  let within (r : Nat × Nat) : Bool := r.1 ≤ len && len ≤ r.2
  match opClass op with
  | 1 | 2 | 3 => within (latticeIn op p aux kind)
  | 4 | 5 => len == codeIn op p aux kind
  | 6 => within (slhIn op p aux kind)
  | 7 | 8 => statefulInOk op p aux kind len
  | 9 =>
    let ns := auxNLen aux + auxSLen aux
    match op with
    | .hashDigest => ns ≤ len
    | .hashVerify => ns + hashOutLen p aux ≤ len
    | .hashOpen => len == 8 + ns
    | .hashUpdate | .hashFinal => len ≤ mib16
    | .hashFinalVerify => len ≤ mib16 + 65536
    | _ => len == 0
  | 0x0A | 0x0B | 0x0C | 0x0D => saltOk op aux && within (cooperIn op p aux kind)
  | 0x0E => bulkOverhead op aux kind ≤ len && bulkDataOk op aux (len - bulkOverhead op aux kind)
  | 0x0F => len == 32 + dlmsArea p
  | 0x10 => len == graftIn op
  | 0x11 => kmInOk op len
  | 0x12 => len ≤ 64 && 1 ≤ bitsOf aux 0 32 && bitsOf aux 0 32 ≤ mib16
  | 0x13 => 8 ≤ len && len ≤ 64
  | _ => len == 0

/-- Record size of a batch (R75, R135, R161, R178, R237, R256, R259). -/
def opRecordSize (op : Op) (p : Nat) (aux : BitVec 64) (kind : KeyKind) : Nat :=
  match opClass op with
  | 1 | 2 | 3 => (latticeIn op p aux kind).1
  | 4 | 5 => codeIn op p aux kind
  | 6 => (slhIn op p aux kind).1
  | 0x0A | 0x0B | 0x0C | 0x0D => (cooperIn op p aux kind).1
  | 0x0F => 32 + dlmsArea p
  | 0x10 => graftIn op
  | _ => 0

/-- Largest output of one job or record, trailer apart; none where the check is made later (R559). -/
def opOut (op : Op) (p : Nat) (aux : BitVec 64) (kind : KeyKind) (len : Nat) : Option Nat :=
  match op with
  | .lmsSign | .xmssSign | .lmsKeygen | .xmssKeygen | .kmGenerate | .kmImport | .kmExport | .kmPublicGet => none
  | .lmsStateGet | .xmssStateGet => some 32
  | .hashDigest | .hashFinal => some (if op == .hashFinal then 0 else hashOutLen p aux)
  | .hashOpen => some 4
  | .kmInfo => some 96
  | .kmRewrap => some len
  | .rngGenerate => some (bitsOf aux 0 32)
  | .quote => some 6144
  | _ =>
    match opClass op with
    | 1 | 2 | 3 => some (latticeOut op p aux)
    | 4 | 5 => some (codeOut op p aux)
    | 6 => some (slhOut op p)
    | 0x0A | 0x0B | 0x0C | 0x0D => some (cooperOut op p aux)
    | 0x0E => some (bulkOut op aux (len - bulkOverhead op aux kind))
    | 0x0F => some (32 + dlmsArea p)
    | 0x10 => some (graftOut op p)
    | _ => some 0

/-- KEY_REF kinds that an operation accepts (R110, R200, R246, R252, R282, R303, R320, R74). -/
def opKinds (op : Op) : List KeyKind :=
  match op with
  | .mlKemEncaps | .mlDsaVerify | .mlDsaVerifyPrehash | .mlDsaVerifyMu | .hqcEncaps | .slhDsaVerify | .slhDsaVerifyPrehash
  | .lmsVerify | .xmssVerify | .ecdsaVerify | .eddsaVerify | .rsaVerifyPkcs1 | .rsaVerifyPss | .rsaEncryptOaep
  | .hashDigest | .hashVerify | .hashOpen => [.none, .slot, .wrapped]
  | .mlKemDecaps | .mlDsaSign | .mlDsaSignPrehash | .mlDsaSignMu | .hqcDecaps | .mcelieceDecaps | .slhDsaSign | .slhDsaSignPrehash
  | .ecdsaSign | .eddsaSign | .ecdhDerive | .rsaSignPkcs1 | .rsaSignPss | .rsaDecryptOaep | .xtsEncrypt | .xtsDecrypt
  | .chachaEncrypt | .chachaDecrypt | .kmImport | .kmPublicGet => [.slot, .wrapped]
  | .mcelieceEncaps => [.none, .slot]
  | .hybridInitFinish => [.wrapped]
  | .lmsKeygen | .lmsSign | .lmsStateGet | .xmssKeygen | .xmssSign | .xmssStateGet | .kmGenerate | .kmExport | .kmDestroy
  | .kmRestore | .kmInfo => [.slot]
  | .gcmEncrypt | .gcmDecrypt | .ccmEncrypt | .ccmDecrypt | .ctr | .cmacGenerate | .cmacVerify | .gmacGenerate | .gmacVerify
  | .kwWrap | .kwUnwrap | .kwpWrap | .kwpUnwrap => [.slot, .wrapped, .graft]
  | .dlmsProtect | .dlmsUnprotect | .keyTransfer | .exportWrapped | .checkValue => [.graft]
  | _ => [.none]

/-- Bits of USAGE (R272). -/
def usageBit (name : String) : Nat :=
  match name with
  | "sign" => 0 | "verify" => 1 | "encaps" => 2 | "decaps" => 3 | "agree" => 4 | "derive" => 5 | "wrap" => 6 | "unwrap" => 7
  | "exportWrapped" => 8 | "replicate" => 9 | "logRequired" => 10 | _ => 11

/-- The usage mask holds the bit. -/
def hasUsage (usage : Nat) (name : String) : Bool := bit usage (usageBit name)

/-- Check 5 of R275: USAGE holds the bits that the operation requires (R110, R200, R246, R247, R257). -/
def opUsageOk (op : Op) (kind : KeyKind) (usage : Nat) : Bool :=
  if kind == .graft then hasUsage usage "derive" && (op != .exportWrapped || hasUsage usage "exportWrapped") else
  match op with
  | .mlKemEncaps | .hqcEncaps | .mcelieceEncaps | .rsaEncryptOaep | .gcmEncrypt | .ccmEncrypt | .xtsEncrypt | .chachaEncrypt =>
    hasUsage usage "encaps"
  | .mlKemDecaps | .hqcDecaps | .mcelieceDecaps | .rsaDecryptOaep | .gcmDecrypt | .ccmDecrypt | .xtsDecrypt | .chachaDecrypt =>
    hasUsage usage "decaps"
  | .hybridInitFinish => hasUsage usage "decaps" && hasUsage usage "agree"
  | .ctr => hasUsage usage "encaps" || hasUsage usage "decaps"
  | .mlDsaSign | .mlDsaSignPrehash | .mlDsaSignMu | .slhDsaSign | .slhDsaSignPrehash | .ecdsaSign | .eddsaSign | .rsaSignPkcs1
  | .rsaSignPss | .cmacGenerate | .gmacGenerate => hasUsage usage "sign"
  | .lmsKeygen | .lmsSign | .xmssKeygen | .xmssSign => hasUsage usage "sign" && hasUsage usage "stateful"
  | .lmsStateGet | .xmssStateGet => hasUsage usage "stateful"
  | .mlDsaVerify | .mlDsaVerifyPrehash | .mlDsaVerifyMu | .slhDsaVerify | .slhDsaVerifyPrehash | .lmsVerify | .xmssVerify
  | .ecdsaVerify | .eddsaVerify | .rsaVerifyPkcs1 | .rsaVerifyPss | .cmacVerify | .gmacVerify | .hashVerify =>
    hasUsage usage "verify"
  | .hashDigest => hasUsage usage "sign" || hasUsage usage "derive"
  | .hashOpen => hasUsage usage "sign" || hasUsage usage "derive" || hasUsage usage "verify"
  | .ecdhDerive => hasUsage usage "agree"
  | .kwWrap | .kwpWrap => hasUsage usage "wrap"
  | .kwUnwrap | .kwpUnwrap | .kmImport => hasUsage usage "unwrap"
  | .kmExport => hasUsage usage "exportWrapped"
  | _ => true

/-- Material length of a class 0x0E key for an operation: XTS takes a key pair (R246, R251). -/
def bulkKeyLen (op : Op) (p : Nat) : Nat :=
  if op == .xtsEncrypt || op == .xtsDecrypt then 2 * aesLen p else if p == 0x10 then 32 else aesLen p

/-- Check 5 of R275: KEY_CLASS and PARAM of the key match the operation (R110, R200, R246, R285). -/
def opKeyOk (op : Op) (p : Nat) (kind : KeyKind) (keyClass keyParam materialLen : Nat) : Bool :=
  if kind == .graft then keyClass == 0x10 else
  match opClass op with
  | 9 => hashMac p && keyClass == 9 && (keyParam == p || keyParam == 0)
  | 0x0E => keyClass == 0x0E && keyParam == p && materialLen == bulkKeyLen op p
  | 0x11 => op != .kmImport || (keyClass == 0x0E && keyParam == 3 && materialLen == 32) || (keyClass == 1 && keyParam == 3)
  | c => keyClass == c && keyParam == p

/-- Pools of the parts of a job (R16, R163, R306); `shake` tells the stateful keys that run on Keccak teams. -/
def opPools (op : Op) (p : Nat) (shake : Bool) : List Pool :=
  match opClass op with
  | 1 | 2 | 4 | 5 => [.press]
  | 3 => [.press, .cooper]
  | 6 => [if slhShake p then .keccak else .sha2]
  | 7 | 8 => if opStateGet op then [.noEngine] else [if shake then .keccak else .sha2]
  | 9 => [if hashKeccak p then .keccak else .sha2]
  | 0x0A | 0x0B | 0x0C | 0x0D => [.cooper]
  | 0x0E | 0x0F | 0x10 => [.dray]
  | 0x11 => [.control]
  | 0x12 => [.drbg]
  | 0x13 => [.control, .press, .cooper]
  | _ => [.noEngine]

/-- Pool that the key generation of a KEY_CLASS draws on (R16, R286). -/
def classPool (cls p : Nat) : Pool :=
  match cls with
  | 1 | 2 | 4 | 5 => .press
  | 6 => if slhShake p then .keccak else .sha2
  | 0x0A | 0x0B | 0x0C | 0x0D => .cooper
  | _ => .control

/-- The routine is masked and takes a mask seed at dispatch (R89, R134). -/
def opMasked (op : Op) : Bool :=
  match op with
  | .mlKemKeygen | .mlKemDecaps | .mlKemKeygenInternal | .mlDsaKeygen | .mlDsaSign | .mlDsaSignPrehash | .mlDsaSignMu
  | .mlDsaKeygenInternal | .hybridInitKeygen | .hybridInitFinish | .hqcKeygen | .hqcDecaps | .hqcKeygenInternal | .mcelieceKeygen
  | .mcelieceDecaps | .mcelieceKeygenInternal | .quote => true
  | _ => false

/-- Slot length of Cooper operand memory for a job, in bits (R207); 0 where the job uses none. `cls` is the class whose key it handles. -/
def slotBits (op : Op) (cls p : Nat) : Nat :=
  let curve (n : Nat) : Nat := if n ≤ 32 then 256 else if n ≤ 48 then 384 else 576
  match cls with
  | 3 => 256
  | 0x0A | 0x0C => curve (ecL p)
  | 0x0B => curve (edPub p)
  | 0x13 => 384
  | 0x0D =>
    let open' := match op with | .rsaVerifyPkcs1 | .rsaVerifyPss | .rsaEncryptOaep => true | _ => false
    if 4 ≤ p then 4096 else if open' then rsaK p * 8 else if p == 1 then 1024 else 2048
  | _ => 0

/-- The job runs in large mode, its operands in a staging region of GDDR7 (R207, R208). -/
def largeMode (cls p : Nat) : Bool := cls == 0x0D && 4 ≤ p

/-- Limited to WAFER and MODULE_TEST (R120, R129, R146, R157, R177). -/
def opTestOnly (op : Op) : Bool :=
  match op with
  | .mlKemKeygenInternal | .mlKemEncapsInternal | .mlDsaKeygenInternal | .hqcKeygenInternal | .hqcEncapsInternal
  | .mcelieceKeygenInternal | .mcelieceEncapsInternal | .slhDsaKeygenInternal => true
  | _ => false

end Sys2Proof.Machine
end

