-- ==== Sys2Proof/Machine/State.lean ====
section
/-!
DEFINITION. The state of the module: every register, memory, queue, counter, mode and pin the spec gives it, as plain data, with the
queue of the commands that wait; what a step can stop with; the state right after reset. Each field's text gives: meaning; width;
file and rule of the spec; value at reset. The default of a field is its value at reset.
-/
namespace Sys2Proof.Machine

/-- Why the machine stops. -/
inductive Fault where
  /-- Raised by VIN_START, NRESET_DEASSERT and the other VIN commands with VIN above 60 V: "its behaviour there is unspecified" (R536). Safe. -/
  | vinAbove60V
  deriving DecidableEq, Repr

/-- Why a command has no meaning. -/
inductive Refusal where
  /-- Raised by an arm of Dispatch whose command has no meaning yet. Safe. -/
  | notModelled (mnemonic : String)
  deriving DecidableEq, Repr

/-- Clock and Train time (14 R426 to R429). -/
structure Clock where
  /-- The module's own clock, the instants of commands; ns; log entry 1; 0 -/
  now : Nat := 0
  /-- Train time counter; 64 bits; 14 R426; 0 -/
  train : Nat := 0
  /-- Thousandths of a nanosecond of Train time at the reduced rate; number; 14 R429; 0 -/
  frac : Nat := 0
  /-- The counter runs, from Boot entry; 1 bit; 14 R427; 0 -/
  running : Bool := false
  /-- Time state; 2 bits; 14 R428; UNSYNCED -/
  timeState : TimeState := .unsynced
  /-- HOLDOVER entered from AHEAD still runs at the reduced rate; 1 bit; 14 R428; 0 -/
  reduced : Bool := false
  /-- Consecutive Syncs with the master ahead by more than 1 us; number; 14 R428; 0 -/
  syncsAhead : Nat := 0
  /-- Consecutive Syncs with the master behind by more than 1 us; number; 14 R428; 0 -/
  syncsBehind : Nat := 0
  /-- Consecutive Syncs within 1 us; number; 14 R428; 0 -/
  syncsWithin : Nat := 0
  /-- Instant of the last Sync accepted and the master's time then; ns; 14 R428; none -/
  lastSync : Option (Nat × Nat) := none
  /-- PTP master in force: clock identity; 64 bits; 13 R401; none -/
  master : Option Nat := none
  /-- Rank of that master under the best master clock algorithm, lower better, none once its Syncs have stopped; number; 13 R401; none -/
  masterRank : Option Nat := none
  /-- The PTP port that is active, the others being passive; 3 bits; 13 R401; none -/
  ptpPort : Option Nat := none
  /-- Clock identity of the master last accepted since Boot; 64 bits; 14 R415; 0 -/
  lastMaster : Nat := 0
  /-- Measured link delay; ns; 13 R401; 0 -/
  linkDelay : Nat := 0
  /-- A Train time mark being written; 64 bits; 14 R427; none -/
  markPending : Option Nat := none
  deriving DecidableEq, Repr

/-- Power manager (18, 19). -/
structure Power where
  /-- Mode; 4 bits; 01 R39; M0 -/
  mode : Mode := .off
  /-- Standby is parked; 1 bit; 18 R511; 0 -/
  parked : Bool := false
  /-- VIN as last measured, in mV; number; 19 R537; 0 (absent) -/
  vin : Nat := 0
  /-- VIN_WARN in mV; number; 18 R515; 5,700 -/
  vinWarn : Nat := 5700
  /-- nRESET asserted; 1 bit; 19 R548; 0 (internal pull-up) -/
  nResetLow : Bool := false
  /-- The PLLs of the engines' 1.5 GHz and the GDDR7 controllers' 1.0 GHz are locked; 1 bit; 01 R26; 0 -/
  pllLocked : Bool := false
  /-- The PLLs of the ports' 1.328125 GHz and the RNG island's 750 MHz are locked; 1 bit; 01 R25; 0 -/
  pllPorts : Bool := false
  /-- PWRGD; 1 bit; 18 R512; 0 -/
  pwrgd : Bool := false
  /-- Causes that assert nALARM; list of 1 RNG, 2 life cycle, 3 banks, 4 tamper, 5 memory; 19 R550; empty -/
  alarm : List Nat := []
  /-- Mode that Hold interrupted; 4 bits; 18 R517; none -/
  held : Option Mode := none
  /-- Instants at which Holds began in the last 100 ms; ns list; 18 R518; empty -/
  holdBegins : List Nat := []
  /-- Dip latch; 1 bit; 18 R518; 0 -/
  dipLatch : Bool := false
  /-- VIN low condition; 1 bit; 18 R520; 0 -/
  vinLow : Bool := false
  /-- The power-up passage waits for VIN to reach VIN_START again; 1 bit; 18 R508; 0 -/
  vinWait : Bool := false
  /-- Thermal throttling; 1 bit; 18 R523; 0 -/
  thermal : Bool := false
  /-- Instant since which no Derated condition holds; ns; 18 R520; none -/
  clearSince : Option Nat := none
  /-- Instant since which VIN has stayed at or above 11.4 V; ns; 17 R486; none -/
  vinGoodSince : Option Nat := none
  /-- Ladder units powered, each single tile of steps 4 and 6 a unit; 0 to 33; 18 R521; 0 -/
  ladder : Nat := 0
  /-- Units that the thermal and current limits allow; 0 to 33; 18 R523; 33 -/
  ladderCap : Nat := 33
  /-- The current limit removes steps; 1 bit; 19 R542; 0 -/
  currentLimited : Bool := false
  /-- Domains on; PD0 to PD49; 19 R541; none -/
  domains : List Nat := []
  /-- Domains off by a fault until the next Boot; list; 19 R542; none -/
  domainFaults : List Nat := []
  /-- Hottest junction in m degrees C as last measured; number; 18 R523; 0 -/
  junction : Nat := 0
  /-- Lid warning raised and not re-armed; 1 bit; 19 R544; 0 -/
  lidWarned : Bool := false
  /-- Lid temperature in m degrees C as last measured, LID_MC; number; 19 R544; 0 -/
  lid : Nat := 0
  /-- PLLs held until every junction is below 95 C; 1 bit; 19 R545; 0 -/
  hot : Bool := false
  /-- Instant of Boot entry; ns; 18 R513; 0 -/
  bootAt : Nat := 0
  /-- Boot is stuck until reset; 1 bit; 18 R508; 0 -/
  bootStuck : Bool := false
  /-- Express ready in Boot; 1 bit; 16 R474; 0 -/
  expressReady : Bool := false
  /-- Reset cause of source 241; 1 to 7; 14 R439; 7 -/
  resetCause : Nat := 7
  /-- Shutdown in progress: ACTION and TASTE; 2 bits; 18 R524; none -/
  shutdown : Option (Nat × Nat) := none
  /-- Service entry since Boot, for admission; ns; 13 R393; none -/
  serviceEntry : Option Nat := none
  /-- Soft start is over; 1 bit; 13 R393; 0 -/
  softStartDone : Bool := false
  /-- A VIN_WARN crossing or dip since M8 was entered; 1 bit; 17 R486; 0 -/
  crossedInM8 : Bool := false
  /-- Zeroisation runs until its reset; 1 bit; 18 R533; 0 -/
  zeroising : Bool := false
  /-- VBAT seal share present; 1 bit; 09 R287; 0 -/
  sealShare : Bool := false
  /-- The share was cleared by tamper or VBAT loss while unpowered; 1 bit; 18 R535; 0 -/
  sealLost : Bool := false
  /-- Drawn value of the seal share; 32 bytes; 09 R287; empty -/
  sealValue : Bytes := []
  deriving DecidableEq, Repr

/-- The fuse array (17 R481). -/
structure Fuses where
  /-- LC_COPY_A; 8 bits; 17 R481; 0x01 (die sort, log entry 11) -/
  lcA : Nat := 1
  /-- LC_COPY_B; 8 bits; 17 R481; 0x01 -/
  lcB : Nat := 1
  /-- LC_COPY_C; 8 bits; 17 R481; 0x01 -/
  lcC : Nat := 1
  /-- UNIQUE_ID; 16 bytes; 17 R481; DESIGN CHOICE zeros (log entry 7) -/
  uniqueId : Bytes := List.replicate 16 0
  /-- DEVICE_SECRET; 32 bytes; 17 R481; 0 -/
  deviceSecret : Bytes := List.replicate 32 0
  /-- TRIMS; 512 bits; 17 R481; 0 -/
  trims : Bytes := List.replicate 64 0
  /-- REPAIR: fused entries in order; 64 x 32 bits; 18 R530; empty -/
  repair : List Nat := []
  /-- MAC_BASE; 48 bits; 17 R481; 0 -/
  macBase : Nat := 0
  /-- NOISE_DEBIAS; 1 bit; 10 R307; 0 -/
  noiseDebias : Nat := 0
  /-- FW_SVN, blown bits; 0 to 64; 17 R495; 0 -/
  fwSvn : Nat := 0
  /-- OEM_ID; 16 bytes; 17 R481; 0 -/
  oemId : Bytes := List.replicate 16 0
  /-- CTRL_KEY_HASH; 48 bytes; 17 R481; 0 -/
  ctrlKeyHash : Bytes := List.replicate 48 0
  /-- OEM_CODE_KEY_HASH; 48 bytes; 17 R481; 0 -/
  oemCodeKeyHash : Bytes := List.replicate 48 0
  /-- DBG_AUTH_MODE; 1 bit; 17 R502; 0 -/
  dbgAuthMode : Nat := 0
  /-- VBAT_SEAL_EN; 1 bit; 17 R481; 0 -/
  vbatSealEn : Nat := 0
  /-- PORT_MODE; 8 bits; 17 R481; 0x00 -/
  portMode : Nat := 0
  /-- PERSO_VALID; 4 bits; 17 R481; 0 -/
  persoValid : Nat := 0
  deriving DecidableEq, Repr

/-- The MRAM journal (09 R269, 14 R437). -/
structure Journal where
  /-- Train time mark; 64 bits; 14 R427; 0 -/
  timeMark : Nat := 0
  /-- EVENT_SEQ block end; 64 bits; 14 R432; 1 (nothing reserved) -/
  eventBlock : Nat := 1
  /-- Boot count; 64 bits; 10 R314; 0 -/
  bootCount : Nat := 0
  /-- ORDERLY; 1 bit; 18 R510; 0 -/
  orderly : Bool := false
  /-- HOLD_ENTERED without HOLD_EXITED, with its Train time; 64 bits; 18 R516; none -/
  holdEntered : Option Nat := none
  /-- LC_PENDING: FROM_STATE and TARGET; 2 x 8 bits; 17 R487; none -/
  lcPending : Option (Nat × Nat) := none
  /-- A transition whose event 192 is still to be raised: FROM_STATE, TARGET; 2 x 8 bits; 17 R487; none -/
  lcDone : Option (Nat × Nat) := none
  /-- ZEROISE_PENDING; 1 bit; 18 R533; 0 -/
  zeroisePending : Bool := false
  /-- Cause recorded for the next source 241; 0 to 6; 14 R439; 0 -/
  cause : Nat := 0
  /-- Express PORT_MASK; 2 bits; 16 R463; 0 -/
  expressMask : Nat := 0
  /-- ADDR_P0; 32 bits; 16 R462; 0 -/
  addrP0 : Nat := 0
  /-- ADDR_P4; 32 bits; 16 R462; 0 -/
  addrP4 : Nat := 0
  deriving DecidableEq, Repr

/-- The Cellar Book (09 R294 to R300). -/
structure Book where
  /-- BOOK_SEQ last assigned; 64 bits; 09 R296; 0 -/
  seq : Nat := 0
  /-- SHA3-256 of the last entry; 32 bytes; 09 R294; zeros -/
  head : Bytes := List.replicate 32 0
  /-- Tail in MRAM, oldest first; 8,192 x 128 bytes; 09 R297; empty -/
  tail : List Bytes := []
  /-- Anchor; 40 bytes; 09 R298; zeros -/
  anchor : Bytes := List.replicate 40 0
  /-- BOOK_SEQ of the last checkpoint entry; 64 bits; 09 R294; 0 -/
  lastCheckpoint : Nat := 0
  /-- Ring in GDDR7, newest first; 33,554,432 x 128 bytes; 09 R297; empty -/
  ring : List Bytes := []
  /-- Held entries, oldest first, as appended but for sequence, time and chain; 128 bytes each; 09 R563; empty -/
  held : List Bytes := []
  /-- Tail places reserved by jobs; number; 09 R297; 0 -/
  reserved : Nat := 0
  /-- Entries since the last checkpoint; number; 09 R298; 0 -/
  sinceCheckpoint : Nat := 0
  /-- Instant of the last checkpoint; ns; 09 R298; 0 -/
  checkpointAt : Nat := 0
  /-- Checkpoint entries that wait for their signatures, oldest first; 128 bytes each; 09 R298; empty -/
  signing : List Bytes := []
  /-- Signature units of uncredited checkpoints, by BOOK_SEQ; bytes; 09 R299; empty -/
  signatures : List (Nat × Bytes) := []
  /-- Book export ring; 16 bits; 09 R299; none -/
  exportRing : Option Nat := none
  /-- Units placed and not covered by CONS_INDEX: BOOK_SEQ of the entry whose last unit this is, else none; list; 09 R299; empty -/
  placed : List (Option Nat) := []
  /-- Units that still wait to be placed: the unit, and the BOOK_SEQ it completes; list; 09 R299; empty -/
  queue : List (Bytes × Option Nat) := []
  /-- BOOK_SEQ of the next tail entry to place on the export ring; 64 bits; 09 R300; 1 -/
  exportNext : Nat := 1
  /-- The Book is closed for Debug; 1 bit; 17 R506; 0 -/
  closed : Bool := false
  /-- Jobs wait at step 11, event 179 raised; 1 bit; 09 R297; 0 -/
  waitEvent : Bool := false
  deriving DecidableEq, Repr

/-- The Cellar (09). -/
structure Cellar where
  /-- Directory; 16,384 x 64 bits; 09 R270; every slot EMPTY -/
  dir : List DirEntry := []
  /-- Slot records and material; 16,640 records; 09 R268; none -/
  records : List SlotRecord := []
  /-- Leaf ledgers; 256 x 16 KiB; 09 R269; none -/
  ledgers : List Ledger := []
  /-- Identity and Train link keys present; 1 bit; 09 R302; 0 -/
  identity : Bool := false
  /-- ML-DSA-87 identity certificate; DER bytes; 09 R302; empty -/
  certMldsa : Bytes := []
  /-- ECDSA P-384 identity certificate; DER bytes; 09 R302; empty -/
  certEcdsa : Bytes := []
  /-- On-die cache of records, latest resolved first: record number and copy; 512 entries; 09 R287; empty -/
  cache : List SlotRecord := []
  /-- Expanded-key cache, by key reference and MATERIAL_HASH; table; 04 R111; empty -/
  expanded : List (Nat × Bytes) := []
  /-- Oversized parts by record, each a wrapped object under its owner's K_C; bytes; 09 R277; absent -/
  oversized : List (Nat × Bytes) := []
  /-- Jobs and commands that wait for a free record, in order of step 10; list; 09 R268; empty -/
  recordQueue : List RecordWaiter := []
  /-- The Cellar is sealed for Debug; 1 bit; 17 R506; 0 -/
  sealed : Bool := false
  /-- Tag failures of objects since the last event 181, and its instant; number and ns; 09 R301; 0, none -/
  tagEvent : Nat × Option Nat := (0, none)
  /-- Event 183 raised while free granules stay below 4,096; 1 bit; 09 R301; 0 -/
  granulesLow : Bool := false
  /-- Instant at which each slot's HIGH_WATER write is pending: slot; list; 06 R183; empty -/
  journalWrites : List Nat := []
  deriving DecidableEq, Repr

/-- A noise cell (10 R307 to R310). -/
structure Cell where
  /-- CELL_HEALTHY bit; 1 bit; 10 R322; 0 -/
  healthy : Bool := false
  /-- Stopped until the next module reset; 1 bit; 10 R309; 0 -/
  stopped : Bool := false
  /-- Bits seen since start; number to 1,024; 10 R308; 0 -/
  started : Nat := 0
  /-- Last bit; 1 bit; 10 R308; 0 -/
  last : Bool := false
  /-- Identical bits in a row; number; 10 R308; 0 -/
  run : Nat := 0
  /-- Position in the window of 1,024; number; 10 R308; 0 -/
  pos : Nat := 0
  /-- First bit of the window; 1 bit; 10 R308; 0 -/
  first : Bool := false
  /-- Bits equal to the first; number; 10 R308; 0 -/
  same : Nat := 0
  /-- Instant of the last bit; ns; 10 R308; 0 -/
  lastAt : Nat := 0
  /-- Debiased bits that wait for the cell's turn at the conditioner, oldest first; list; 10 R311; empty -/
  bits : List Bool := []
  deriving DecidableEq, Repr

/-- The RNG island (10). -/
structure Rng where
  /-- Noise cells; 16; 10 R307; not started -/
  cells : List Cell := List.replicate 16 {}
  /-- Bits of the block being collected, with the cell of each; 512; 10 R311; empty -/
  block : List (Nat × Bool) := []
  /-- Cell whose turn is next; 4 bits; 10 R311; DESIGN CHOICE 0 (log entry 103) -/
  turn : Nat := 0
  /-- Previous conditioned output; 16 bytes; 10 R312; none -/
  lastOutput : Option Bytes := none
  /-- Instants of conditioner failures in the last 1 s, COND_FAILS; list; 10 R312; empty -/
  failures : List Nat := []
  /-- Conditioned blocks ready; 16 bytes each; 10 R314; empty -/
  ready : List Bytes := []
  /-- DRBG_STATE; 3 bits; 10 R322; UNSEEDED -/
  state : DrbgState := .unseeded
  /-- The DRBG's seed material; bytes; 10 R314; empty -/
  seed : Bytes := []
  /-- Draws answered since power-up, the number of the next draw; number; log entry 5; 0 -/
  draws : Nat := 0
  /-- Generate calls since the last reseed; number; 10 R314; 0 -/
  calls : Nat := 0
  /-- Instant of the last reseed; ns; 10 R314; 0 -/
  reseedAt : Nat := 0
  /-- RESEED_COUNT; 32 bits; 10 R322; 0 -/
  reseeds : Nat := 0
  /-- Instant of entry into RESEED_DUE; ns; 10 R313; 0 -/
  dueSince : Nat := 0
  /-- FATAL; 1 bit; 10 R322; 0 -/
  fatal : Bool := false
  /-- RNG_DATA; 64 bits; 10 R322; 0 -/
  data : BitVec 64 := 0
  /-- VALID; 1 bit; 10 R322; 0 -/
  valid : Bool := false
  /-- Word that the last read of RNG_DATA returned; 64 bits; 10 R323; 0 -/
  lastWord : BitVec 64 := 0
  /-- Instant of the last read of RNG_DATA; ns; 10 R323; 0 -/
  readAt : Nat := 0
  /-- Per-boot GDDR7 key, an AES-256-XTS key pair; 64 bytes; 01 R14; empty -/
  gddrKey : Bytes := []
  /-- EMPTY_READ; 1 bit; 10 R322; 0 -/
  emptyRead : Bool := false
  /-- Empty reads since the last event 166, and its instant; number and ns; 10 R323; 0, none -/
  emptyEvent : Nat × Option Nat := (0, none)
  /-- Draws that wait at the DRBG, by job and part, in arrival order; list; 10 R317; empty -/
  waiting : List (Nat × Nat) := []
  deriving DecidableEq, Repr

/-- The engines and their scheduler (03, 06, 07, 08). -/
structure Engines where
  /-- Press tiles; 32; 01 R15; banks free -/
  tiles : List Engine := List.replicate 32 { banks := [.free, .free] }
  /-- Cooper engines; 64; 01 R15; free -/
  coopers : List Engine := List.replicate 64 { banks := [.free] }
  /-- SHA-2 cores, half 0 first; 192; 06 R163; free -/
  sha2 : List Engine := List.replicate 192 { banks := [.free] }
  /-- Keccak cores, half 0 first; 64; 06 R163; free -/
  keccak : List Engine := List.replicate 64 { banks := [.free] }
  /-- Drays; 8 with 16 contexts; 08 R241; free -/
  drays : List Engine := List.replicate 8 { banks := List.replicate 16 .free }
  /-- Dispatches so far, which orders engines by their last; number; 03 R86; 0 -/
  dispatches : Nat := 0
  /-- VINTAGE_PRESS; 64 bits; 01 R37; base DESIGN CHOICE 0 (log entry 7) -/
  press : Vintage := {}
  /-- VINTAGE_COOPER; 64 bits; 01 R37; base DESIGN CHOICE 0 (log entry 7) -/
  cooper : Vintage := {}
  /-- VINTAGE_DRAY; 64 bits; 01 R37; base DESIGN CHOICE 0 (log entry 7) -/
  dray : Vintage := {}
  /-- VINTAGE_FW; 64 bits; 01 R37; 0x0000 -/
  fw : Vintage := {}
  /-- CODE_TILE_LIMIT; 6 bits; 05 R158; 32 -/
  codeTileLimit : Nat := 32
  /-- CODE_TILE_LIMIT to take at the next epoch; 6 bits; 05 R158; none -/
  nextLimit : Option Nat := none
  /-- Cooper engines reserved for Express; list; 01 R19; none -/
  reservedCoopers : List Nat := []
  /-- Dray reserved for Express; 3 bits; 01 R19; none -/
  reservedDray : Option Nat := none
  /-- Start of the present scheduling epoch; ns; 11 R341; 0 -/
  epochAt : Nat := 0
  /-- Tree cache; 4 GiB; 06 R189; empty -/
  trees : List CachedTree := []
  /-- Public-key cache; 4,096 entries; 05 R149; empty -/
  publicKeys : List PkEntry := []
  /-- Count that orders the uses of cached trees and public keys; number; 06 R189; 0 -/
  uses : Nat := 0
  deriving DecidableEq, Repr

/-- The Boot Digest unit (17 R497). -/
structure BootDigest where
  /-- SNOOP; 1 bit; 17 R497; 0 -/
  snoop : Bool := false
  /-- BD_EXPECT0 to BD_EXPECT5; 6 x 64 bits; 17 R497; 0 -/
  expect : List (BitVec 64) := [0, 0, 0, 0, 0, 0]
  /-- BUSY; 1 bit; 17 R497; 0 -/
  busy : Bool := false
  /-- DONE; 1 bit; 17 R497; 0 -/
  done : Bool := false
  /-- REFUSED; 1 bit; 17 R497; 0 -/
  refused : Bool := false
  /-- OWNER; 1 bit; 17 R497; 0 ROM -/
  owner : BdOwner := .rom
  /-- Bytes absorbed; context of the message; 17 R498; empty -/
  absorbed : Bytes := []
  /-- The message ended on a block boundary; 1 bit; 17 R499; 0 -/
  whole : Bool := false
  deriving DecidableEq, Repr

/-- Firmware banks and staging (12 R369 to R371, 17 R491 to R496). -/
structure Firmware where
  /-- Bank A and bank B contents; 32 MiB each; 12 R369; DESIGN CHOICE empty (log entry 7) -/
  bankA : Bytes := []
  /-- Bank B contents; 32 MiB; 12 R369; DESIGN CHOICE empty (log entry 7) -/
  bankB : Bytes := []
  /-- COMMIT_SERIAL of bank A, 0 with an invalid header; 32 bits; 17 R492; DESIGN CHOICE 1 (log entry 7) -/
  serialA : Nat := 1
  /-- COMMIT_SERIAL of bank B; 32 bits; 17 R492; DESIGN CHOICE 0 (log entry 7) -/
  serialB : Nat := 0
  /-- Running bank, 0 A and 1 B; 8 bits; 12 R368; 0 -/
  running : Nat := 0
  /-- STAGED_LEN; 32 bits; 12 R369; 0 -/
  stagedLen : Nat := 0
  /-- RUNNING_SVN; 32 bits; 12 R368; 0 -/
  svn : Nat := 0
  /-- Measurements: component and SHA-384; list; 17 R496; empty -/
  measurements : List (Nat × Bytes) := []
  deriving DecidableEq, Repr

/-- The control mailbox (12). -/
structure Mailbox where
  /-- Hello key pairs; 4; 12 R351; none -/
  hellos : List Hello := []
  /-- Sessions; 4; 12 R351; none -/
  sessions : List Session := []
  /-- Commands that wait; 32; 12 R356; none -/
  waiting : List MbCommand := []
  /-- The command that runs and has not answered; one; 12 R356; none -/
  running : Option MbCommand := none
  /-- WQ_DESTROY commands whose drain runs: queue and command; list; 12 R356; none -/
  drains : List (Nat × MbCommand) := []
  deriving DecidableEq, Repr

/-- The event router (14). -/
structure Router where
  /-- EVENT_SEQ to assign next; 64 bits; 14 R432; 1 -/
  nextSeq : Nat := 1
  /-- First EVENT_SEQ of this Boot, which source 241 reports; 64 bits; 14 R432; 1 -/
  bootSeq : Nat := 1
  /-- Early buffer, oldest first; 4,096 records; 14 R420; empty -/
  early : List EventRec := []
  /-- Records beyond the early buffer; number; 14 R420; 0 -/
  earlyLost : Nat := 0
  /-- A control-master ring has been created since Boot; 1 bit; 14 R420; 0 -/
  ringCreated : Bool := false
  /-- Event rings; 2 and one per carriage; 14 R416; none -/
  rings : List EventRing := []
  /-- Corrected GDDR7 errors: instant of the last event 129 by pair; list; 14 R415; empty -/
  gddrRate : List (Nat × Nat) := []
  deriving DecidableEq, Repr

/-- Express (16). -/
structure Express where
  /-- Express is enabled and accepts frames; 1 bit; 16 R462; 0 -/
  enabled : Bool := false
  /-- EXPRESS_DISABLE waits for the last reply and the epoch; 1 bit; 16 R463; 0 -/
  closing : Bool := false
  /-- Frames accepted and not answered, in order of acceptance; list; 16 R469; empty -/
  frames : List MaldinJob := []
  /-- Frames accepted so far; number; 16 R470; 0 -/
  nextFrame : Nat := 0
  /-- Record of P0; 96 bytes; 16 R477; 0 -/
  p0 : ExpressPort := {}
  /-- Record of P4; 96 bytes; 16 R477; 0 -/
  p4 : ExpressPort := {}
  deriving DecidableEq, Repr

/-- The Train (15). -/
structure Train where
  /-- Roster in force; up to 216,525 bytes; 15 R443; none -/
  roster : Option Bytes := none
  /-- TRAIN_ID since the module last had none; 16 bytes; 15 R444; none -/
  trainId : Option Bytes := none
  /-- Last ROSTER_SERIAL accepted; 64 bits; 15 R444; 0 -/
  serial : Nat := 0
  /-- Device-index history: index and UNIQUE_ID; 1,024 entries; 15 R444; empty -/
  history : List (Nat × Bytes) := []
  /-- Last device index held; 10 bits; 15 R446; 0 -/
  lastIndex : Nat := 0
  /-- Versions of the last replicated change applied, by slot; table; 15 R453; (0, 0) -/
  versions : List (Nat × (Nat × Nat)) := []
  /-- TRAIN_ID under which the module has joined; 16 bytes; 15 R457; none -/
  joinedId : Option Bytes := none
  /-- TRAIN_STATE; 3 bits; 15 R452; NO_ROSTER -/
  state : TrainState := .noRoster
  /-- Instant of entry into JOINING; ns; 15 R452; 0 -/
  joinSince : Nat := 0
  /-- Peers; up to 1,023; 15 R448; none -/
  peers : List Peer := []
  /-- Packet number of the last bootstrap frame; 64 bits; 15 R447; 0 -/
  bootPn : Nat := 0
  /-- Pushes received in Hold, or held for a record or a Book place: sender and push; list; 15 R455; empty -/
  heldPushes : List (Nat × Push) := []
  deriving DecidableEq, Repr

/-- Life cycle and debug, volatile part (17). -/
structure Debug where
  /-- Grants in force; list; 17 R505; none -/
  grants : List Grant := []
  /-- CHALLENGE and the instant it was drawn; 32 bytes; 17 R504; none -/
  challenge : Option (Bytes × Nat) := none
  /-- Instant of the reset after LC_TRANSITION; ns; 17 R487; none -/
  resetAt : Option Nat := none
  deriving DecidableEq, Repr

/-- Tasting (18 R525 to R529). -/
structure Tasting where
  /-- TOTAL_MS; 32 bits; 18 R525; 3,000 -/
  totalMs : Nat := 3000
  /-- SLICE_US; 32 bits; 18 R525; 25,000 -/
  sliceUs : Nat := 25000
  /-- Tasting sequence of 16-byte steps, empty for the default sequence; 1,024 steps; 18 R525; default sequence -/
  sequence : List Bytes := []
  /-- SEQ_DIGEST; 32 bytes; 18 R527; DESIGN CHOICE zeros (log entry 7) -/
  seqDigest : Bytes := List.replicate 32 0
  /-- CURSOR; 16 bits; 18 R527; 0 -/
  cursor : Nat := 0
  /-- STEP_COUNT; 16 bits; 18 R527; DESIGN CHOICE 0 (log entry 7) -/
  stepCount : Nat := 0
  /-- LAST_OUTCOME; 8 bits; 18 R527; 0 -/
  lastOutcome : Nat := 0
  /-- CRITICAL_DONE; 1 bit; 18 R527; 0 -/
  criticalDone : Bool := false
  /-- STEPS_RUN; 16 bits; 18 R527; 0 -/
  stepsRun : Nat := 0
  /-- STEPS_UNTESTED; 16 bits; 18 R527; 0 -/
  stepsUntested : Nat := 0
  /-- Fault records; 32,512 x 16 bytes; 18 R527; none -/
  records : List FaultRec := []
  /-- OVERFLOW; 32 bits; 18 R527; 0 -/
  overflow : Nat := 0
  /-- Retired GDDR7 rows: component and row, RETIRED their number; 8 x 512; 18 R531; none -/
  retired : List (Nat × Nat) := []
  /-- Rows that source 128 has reported, to be retired at the next Boot; list; 18 R531; none -/
  reported : List (Nat × Nat) := []
  /-- Tasting in progress; record; 18 R526; none -/
  run : Option TastingRun := none
  /-- Instant at which the step in progress began; ns; 18 R526; 0 -/
  stepAt : Nat := 0
  deriving DecidableEq, Repr

/-- Queues, connections and jobs (02, 13). -/
structure Fabric where
  /-- Work queues; up to 65,536; 02 R41; none -/
  queues : List WorkQueue := []
  /-- Completion rings; up to 65,536; 02 R42; none -/
  rings : List CompletionRing := []
  /-- Connections; up to 65,536; 13 R391; none -/
  conns : List Connection := []
  /-- Next RDMA READ number; number; 13 R388; 0 -/
  nextRead : Nat := 0
  /-- Jobs consumed and not released, in order of consumption; list; 02 R59; none -/
  jobs : List Job := []
  /-- Next job number; number; 02 R48; 0 -/
  nextJob : Nat := 0
  /-- Process Map; 1,048,576 entries; 11 R327; empty -/
  pmap : List PMapEntry := []
  /-- Carriages not ABSENT; up to 4,096; 11 R334; none before the first Boot -/
  carriages : List Carriage := []
  /-- Class 0x09 sessions; 1,048,576; 06 R202; none -/
  sessions : List HashSession := []
  deriving DecidableEq, Repr

end Sys2Proof.Machine

namespace Sys2Proof.Machine

/-- The state of the module and the queue of commands that wait. -/
structure State where
  /-- Commands that wait, first in first out; list; model; empty -/
  pending : List Instr := []
  /-- Clock and Train time -/
  clock : Clock := {}
  /-- Modes, supply, domains -/
  power : Power := {}
  /-- Fuses -/
  fuses : Fuses := {}
  /-- MRAM journal -/
  journal : Journal := {}
  /-- Cellar Book -/
  book : Book := {}
  /-- Cellar -/
  cellar : Cellar := {}
  /-- RNG island -/
  rng : Rng := {}
  /-- Engines, vintages, caches -/
  engines : Engines := {}
  /-- Boot Digest unit -/
  bd : BootDigest := {}
  /-- Firmware banks -/
  firmware : Firmware := {}
  /-- Queues, connections, jobs, carriages -/
  fabric : Fabric := {}
  /-- Mailbox -/
  mailbox : Mailbox := {}
  /-- Ports P0 to P7 -/
  ports : List Port := List.replicate 8 {}
  /-- Event router -/
  router : Router := {}
  /-- Express -/
  express : Express := {}
  /-- Train -/
  train : Train := {}
  /-- Debug grants -/
  dbg : Debug := {}
  /-- Tasting -/
  tasting : Tasting := {}
  /-- What the module has sent, oldest first; list; log entry 9; empty (DESIGN CHOICE) -/
  sent : List Out := []
  /-- What has left the ports -/
  egress : Egress := {}
  deriving DecidableEq, Repr

/-- The module right after reset: Off (M0), without supply, as it left die sort (log entries 7, 11). -/
def State.reset : State := {}

end Sys2Proof.Machine
end

