-- ==== Sys2Proof/Machine/Ops.lean ====
section
/-!
DEFINITION. The named operations over State that every family uses: finding and changing a queue, ring, connection, job or
carriage; Train time and the time mark (R426, R427); life cycle; sending on a connection (R69, R395).
-/
namespace Sys2Proof.Machine

/-- Changes the elements that satisfy `p`. -/
def mapIf {α : Type} (p : α → Bool) (g : α → α) (l : List α) : List α := l.map fun x => if p x then g x else x

/-- Work queue by index; none when ABSENT (R80). -/
def State.queue? (s : State) (i : Nat) : Option WorkQueue := s.fabric.queues.find? (·.index == i)
/-- Completion ring by index (R42). -/
def State.cring? (s : State) (i : Nat) : Option CompletionRing := s.fabric.rings.find? (·.index == i)
/-- Connection by CONN_INDEX (R391). -/
def State.conn? (s : State) (i : Nat) : Option Connection := s.fabric.conns.find? (·.index == i)
/-- Carriage by number; none when ABSENT (R334). -/
def State.carriage? (s : State) (c : Nat) : Option Carriage := s.fabric.carriages.find? (·.number == c)
/-- Job by number. -/
def State.job? (s : State) (j : Nat) : Option Job := s.fabric.jobs.find? (·.id == j)
/-- Port by number 0 to 7. -/
def State.port? (s : State) (p : Nat) : Option Port := s.ports[p]?
/-- Event ring by number (R372). -/
def State.ering? (s : State) (r : Nat) : Option EventRing := s.router.rings.find? (·.index == r)
/-- Train peer by device index. -/
def State.peer? (s : State) (i : Nat) : Option Peer := s.train.peers.find? (·.index == i)

/-- Ports in a lane mode (R374). -/
def groupSize (mode : Nat) : Nat := match mode / 16 with | 1 => 2 | 2 => 4 | _ => 1

/-- A group holds the port as a member, each port leading the group of the mode that `mode` gives it (R374). -/
def State.memberUnder (s : State) (mode : Port → Nat) (p : Nat) : Bool :=
  (List.range p).any fun q => match s.port? q with | some x => decide (p - q < groupSize (mode x)) | none => false

/-- A group in force holds the port as a member. -/
def State.portMember (s : State) (p : Nat) : Bool := s.memberUnder Port.laneMode p

/-- The lowest port of the group that a port belongs to (R374). -/
def State.groupPort (s : State) (p : Nat) : Nat :=
  if !s.portMember p then p
  else if s.portMember (p / 2 * 2) then p / 4 * 4 else p / 2 * 2

/-- MAC address of a port (R379). -/
def State.macOf (s : State) (p : Nat) : Nat := s.fuses.macBase + s.groupPort p

/-- Changes the work queue `i`. -/
def State.modQueue (s : State) (i : Nat) (g : WorkQueue → WorkQueue) : State :=
  { s with fabric.queues := mapIf (·.index == i) g s.fabric.queues }
/-- Changes the completion ring `i`. -/
def State.modCring (s : State) (i : Nat) (g : CompletionRing → CompletionRing) : State :=
  { s with fabric.rings := mapIf (·.index == i) g s.fabric.rings }
/-- Changes the connection `i`. -/
def State.modConn (s : State) (i : Nat) (g : Connection → Connection) : State :=
  { s with fabric.conns := mapIf (·.index == i) g s.fabric.conns }
/-- Changes the carriage `c`. -/
def State.modCarriage (s : State) (c : Nat) (g : Carriage → Carriage) : State :=
  { s with fabric.carriages := mapIf (·.number == c) g s.fabric.carriages }
/-- Changes the job `j`. -/
def State.modJob (s : State) (j : Nat) (g : Job → Job) : State :=
  { s with fabric.jobs := mapIf (·.id == j) g s.fabric.jobs }
/-- Changes the port `p`. -/
def State.modPort (s : State) (p : Nat) (g : Port → Port) : State := { s with ports := s.ports.modify p g }
/-- Changes the event ring `r`. -/
def State.modEring (s : State) (r : Nat) (g : EventRing → EventRing) : State :=
  { s with router.rings := mapIf (·.index == r) g s.router.rings }
/-- Changes the Train peer `i`. -/
def State.modPeer (s : State) (i : Nat) (g : Peer → Peer) : State :=
  { s with train.peers := mapIf (·.index == i) g s.train.peers }

/-- The number of a use of an open choice: the instant, and how many have been given (log entry 6). -/
def State.useNo (s : State) (n : Nat) : Nat := s.clock.now * 2 ^ 24 + n

/-! ### Life cycle -/

/-- The life-cycle state of a code (R478). -/
def lcOfCode (c : Nat) : Option LifeCycle :=
  match c with
  | 0x01 => some .wafer | 0x03 => some .moduleTest | 0x07 => some .zawardProvisioned | 0x0F => some .oemField
  | 0x1F => some .returned | 0xFF => some .scrapped | _ => none

/-- The life-cycle state; none when indeterminate (R479). -/
def State.lc (s : State) : Option LifeCycle :=
  if s.fuses.lcA == s.fuses.lcB && s.fuses.lcB == s.fuses.lcC then lcOfCode s.fuses.lcA else none

/-- The code that LIFE_CYCLE fields report. -/
def State.lcCode (s : State) : Nat := s.fuses.lcA

/-- WAFER or MODULE_TEST. -/
def State.inTest (s : State) : Bool := s.lc == some .wafer || s.lc == some .moduleTest

/-- The life-cycle state has its bit in LC_MASK (R272, R561). -/
def State.lcBit (s : State) : Nat :=
  match s.lc with
  | some .wafer => 1 | some .moduleTest => 2 | some .zawardProvisioned => 4 | some .oemField => 8 | _ => 0

/-- PERSO_VALID bit `i`: the personalisation fields it covers count as blank while it is 0 (R481). -/
def State.perso (s : State) (i : Nat) : Bool := bit s.fuses.persoValid i

/-- The personalisation fields in force (R481). -/
def State.oemId (s : State) : Bytes := if s.perso 0 then s.fuses.oemId else zeros 16
def State.dbgAuthMode (s : State) : Nat := if s.perso 3 then s.fuses.dbgAuthMode else 0
def State.sealEnabled (s : State) : Bool := s.perso 3 && s.fuses.vbatSealEn == 1
def State.portModeFuse (s : State) : Nat := if s.perso 3 then s.fuses.portMode else 0

/-- DEVICE_SECRET as the Cellar island's key derivation receives it (R482). -/
def State.deviceSecret (s : State) : Bytes :=
  match s.lc with
  | some .moduleTest | some .zawardProvisioned | some .oemField => s.fuses.deviceSecret
  | _ => zeros 32

/-- The module keeps a Book now (R484, R506). -/
def State.bookOpen (s : State) : Bool :=
  (s.lc == some .zawardProvisioned || s.lc == some .oemField) && !s.book.closed

/-- The device index that the module reports (R446). -/
def State.deviceIndex (s : State) : Nat := s.train.lastIndex

/-- The modes in which host entries are consumed (R39); in Debug the entry's kind decides further (R506). -/
def Mode.consumes : Mode → Bool
  | .service | .derated | .trainJoin | .debug => true
  | _ => false

/-! ### Train time -/

/-- Time lead at which a mark stands when written, and the distance at which a new one is due (R427), in ns. -/
def markLead : Nat := 20000000
def markDue : Nat := 5000000

/-- Writes a new Train time mark at once when Train time is within 5 ms of the durable one (R427). -/
def State.ensureMark (s : State) : State :=
  if s.journal.timeMark ≤ s.clock.train + markDue then { s with journal.timeMark := s.clock.train + markLead } else s

/-- TIME_HOLDOVER (R428). -/
def State.holdover (s : State) : Bool := s.clock.timeState != .locked

/-- The ns out of `dt` at 0.999 of the rate: until the master's time, as its last Sync gave it, has caught up with Train time (R429). -/
def Clock.slowNs (c : Clock) (dt : Nat) : Nat :=
  if !(c.timeState == .ahead || c.reduced) then 0
  else match c.lastSync with
    | some (at', m) => min dt (c.train * 1000 + c.frac - (m + (c.now - at')) * 1000)
    | none => dt

/-- Train time passes `dt` ns, at 0.999 of the rate while a lead is absorbed (R428, R429). -/
def Clock.pass (c : Clock) (dt : Nat) : Clock :=
  if c.running then
    let milli := c.frac + dt * 1000 - c.slowNs dt
    { c with train := c.train + milli / 1000, frac := milli % 1000 }
  else c

/-! ### Sending -/

/-- Appends to what the module has sent. -/
def State.emit (s : State) (o : Out) : State := { s with sent := s.sent ++ [o] }

/-- PCP and DSCP under which an output leaves: those of the connection's REQ for RoCE, the table's for PTP, Train, management and CM, and those
of the frame answered for a Maldin reply; a pause frame carries none (R381). -/
def State.marking (s : State) (o : Out) : Nat × Nat :=
  let roce (c : Nat) : Nat × Nat := match s.conn? c with | some k => (k.req.pcp, k.req.dscp) | none => (0, 0)
  match o with
  | .write c _ _ _ | .read c _ _ _ _ | .send c _ | .readResponse c _ | .ack c | .nak c _ | .rnrNak c | .cnp c => roce c
  | .cmRep _ _ | .cmRej _ _ _ | .cmDrep _ | .cmDreq _ | .mgmt _ _ => (0, 0)
  | .udp _ _ _ _ _ _ _ pcp dscp _ => (pcp, dscp)
  | .ptp _ _ _ _ => (7, 46)
  | .train _ _ _ _ _ => (6, 48)
  | .pfc _ _ _ | .pps => (0, 0)

/-- A NOTIFY SEND (R69). -/
def Out.isSend (o : Out) : Bool := match o with | .send _ _ => true | _ => false

/-- What of the requests of a connection follows the oldest SEND not yet accepted, that SEND first (R69). -/
def fromSend (l : List Out) : List Out := l.dropWhile fun o => !o.isSend

/-- Posts a request on a connection: behind a NOTIFY SEND that waits (R69), discarded and counted once not ready (R395). -/
def State.post (s : State) (c : Nat) (o : Out) : State :=
  match s.conn? c with
  | none => s
  | some k =>
    if !k.ready then s.modConn c fun k => { k with discarded := k.discarded + 1 }
    else if k.notify.isSome then s.modConn c fun k => { k with heldOut := k.heldOut ++ [o] }
    else if o.isSend || !k.outstanding.isEmpty then (s.modConn c fun k => { k with outstanding := k.outstanding ++ [o] }).emit o
    else s.emit o

/-- Most bytes of one module RDMA READ (R388). -/
def readUnit : Nat := 1048576

/-- Outstanding READs a connection allows the module (R388). -/
def Connection.readLimit (k : Connection) : Nat := min 16 k.req.responderResources

/-- Issues an RDMA READ, or queues it while the responder resources are in use (R388). -/
def State.issueRead (s : State) (c rkey addr len : Nat) (u : ReadUse) : State :=
  match s.conn? c with
  | none => s
  | some k =>
    let id := s.fabric.nextRead
    let s := { s with fabric.nextRead := id + 1 }
    if k.reads.length < k.readLimit && k.readQueue.isEmpty then
      (s.modConn c fun k => { k with reads := k.reads ++ [(id, u)] }).post c (.read c id rkey addr len)
    else s.modConn c fun k => { k with readQueue := k.readQueue ++ [(id, rkey, addr, len, u)] }

/-- Issues queued READs while resources are free; `fuel` bounds their number (R388). -/
def State.pumpReads : Nat → State → Nat → State
  | 0, s, _ => s
  | fuel + 1, s, c =>
    match s.conn? c with
    | none => s
    | some k =>
      match k.readQueue with
      | [] => s
      | (id, rkey, addr, len, u) :: rest =>
        if k.reads.length < k.readLimit then
          State.pumpReads fuel
            ((s.modConn c fun k => { k with reads := k.reads ++ [(id, u)], readQueue := rest }).post c (.read c id rkey addr len)) c
        else s

end Sys2Proof.Machine
end

