-- ==== Sys2Proof/Machine/Events.lean ====
section
/-!
DEFINITION. Event records, filter programs, event rings and the early buffer (14 R411 to R425).
-/
namespace Sys2Proof.Machine

/-- Severity of a source (R415); the detail tells the offline and holdover cases. -/
def severity (src : Nat) (detail : List Nat) : Nat :=
  if src < 64 then (if src % 2 == 0 && detail.getD 0 0 == 1 then 3 else 2)
  else if src < 80 then (if src % 4 == 2 then 3 else 2)
  else if 84 ≤ src && src ≤ 91 then (if detail.getD 0 0 == 3 then 3 else 2)
  else if 96 ≤ src && src ≤ 127 then (if src % 4 == 0 || src % 4 == 3 then 1 else 2)
  else if 128 ≤ src && src ≤ 135 then (if src % 2 == 0 then 2 else 1)
  else if src == 216 then (if detail.getD 0 0 == 2 then 2 else 1)
  else if [144, 145, 149, 151, 153, 160, 176, 180].contains src then 3
  else if [163, 164, 193, 194, 195].contains src then 4
  else if [136, 146, 148, 165, 167, 182, 192, 196, 200, 201, 208, 209, 211, 212, 213, 214, 215, 217, 218, 224, 225, 241, 242,
    243].contains src then 1
  else 2

/-- DETAIL of an event: one field in 8 bytes, several in 4 bytes each (R413). -/
def detailBytes (fields : List Nat) : Bytes :=
  match fields with
  | [x] => padTo 12 (toLe 8 x)
  | xs => padTo 12 (xs.map (toLe 4)).flatten

/-- Bits of an instruction (R404). -/
def insOp (i : BitVec 64) : Nat := bitsOf i 0 8
def insOff (i : BitVec 64) : Nat := bitsOf i 8 8
def insJt (i : BitVec 64) : Nat := bitsOf i 16 8
def insJf (i : BitVec 64) : Nat := bitsOf i 24 8
def insK (i : BitVec 64) : Nat := bitsOf i 32 32

/-- One token in the units of a JRATE bucket. -/
def oneToken : Nat := 1000000000
/-- Most tokens of a bucket (R424). -/
def bucketDepth (k : Nat) : Nat := max oneToken (k * oneToken / 10)

/-- Takes a token from the bucket of instruction `i`, refilled to `now` (R424). -/
def takeToken (i k now : Nat) (bs : List (Nat × Nat × Nat)) : Bool × List (Nat × Nat × Nat) :=
  match bs.find? (·.1 == i) with
  | none => (false, bs)
  | some (_, tok, last) =>
    let tok := min (bucketDepth k) (tok + k * (now - last))
    let ok := oneToken ≤ tok
    (ok, mapIf (·.1 == i) (fun _ => (i, if ok then tok - oneToken else tok, now)) bs)

/-- Runs a filter program on a record (R423): whether it is placed, and the buckets after. -/
def runFilter (prog : List (BitVec 64)) (r : Bytes) (now : Nat) :
    Nat → Nat → Nat → List (Nat × Nat × Nat) → Bool × List (Nat × Nat × Nat)
  | 0, _, _, bs => (false, bs)
  | fuel + 1, pc, a, bs =>
    match prog[pc]? with
    | none => (false, bs)
    | some i =>
      let k := insK i
      let go (a : Nat) := runFilter prog r now fuel (pc + 1) a bs
      let jump (c : Bool) := runFilter prog r now fuel (pc + 1 + (if c then insJt i else insJf i)) a bs
      match insOp i with
      | 0x01 => go (le r (insOff i) 1)
      | 0x02 => go (le r (insOff i) 2)
      | 0x03 => go (le r (insOff i) 4)
      | 0x10 => go (a &&& k)
      | 0x11 => go (a >>> (k % 32))
      | 0x20 => jump (a == k)
      | 0x21 => jump (k < a)
      | 0x22 => jump (a &&& k != 0)
      | 0x23 =>
        let (ok, bs) := takeToken pc k now bs
        runFilter prog r now fuel (pc + 1 + (if ok then insJt i else insJf i)) a bs
      | 0x30 => (bit k 0, bs)
      | _ => (false, bs)

/-- The instruction at index `i` of a program of `n` is valid (R424). -/
def filterInsOk (n i : Nat) (x : BitVec 64) : Bool :=
  let k := insK x
  let inside (m : Nat) : Bool := i + 1 + m < n
  let jumps := inside (insJt x) && inside (insJf x)
  match insOp x with
  | 0x01 => insOff x ≤ 31
  | 0x02 => insOff x ≤ 30
  | 0x03 => insOff x ≤ 28
  | 0x10 | 0x11 => true
  | 0x20 | 0x21 | 0x22 => jumps
  | 0x23 => jumps && 1 ≤ k && k ≤ 1000000
  | 0x30 => k ≤ 1
  | _ => false

/-- A filter program that EFILTER_LOAD accepts (R424). -/
def filterOk (prog : List (BitVec 64)) : Bool :=
  (prog.zipIdx.all fun (x, i) => filterInsOk prog.length i x) &&
  (match prog.getLast? with | some x => insOp x == 0x30 | none => false)

/-- Full buckets of a program just loaded (R424). -/
def fullBuckets (prog : List (BitVec 64)) (now : Nat) : List (Nat × Nat × Nat) :=
  (prog.zipIdx.filter fun (x, _) => insOp x == 0x23).map fun (x, i) => (i, bucketDepth (insK x), now)

/-- Unit size and offset of the control block: 128-byte units on the Book export ring (R417, R421). -/
def State.ringUnit (s : State) (r : Nat) : Nat := if s.book.exportRing == some r then 128 else 32

/-- Units that may still be placed on a ring (R418). -/
def EventRing.room (r : EventRing) : Nat := r.size - 1 - (r.prod + 2 ^ 32 - r.cons) % 2 ^ 32

/-- The record with PHASE of unit `j` (R417). -/
def withPhase (r : Bytes) (j size : Nat) : Bytes :=
  let flags := byteAt r 1 % 128 + (if j / size % 2 == 0 then 128 else 0)
  r.take 1 ++ [BitVec.ofNat 8 flags] ++ r.drop 2

/-- Places one record and PROD_INDEX (R417). -/
def State.placeRecord (s : State) (ring : EventRing) (r : Bytes) : State :=
  let j := ring.prod
  let s := s.modEring ring.index fun x => { x with prod := (j + 1) % 2 ^ 32 }
  let s := s.post ring.conn (.write ring.conn ring.rkey (ring.base + j % ring.size * 32) (withPhase r j ring.size))
  s.post ring.conn (.write ring.conn ring.rkey (ring.base + ring.size * 32) (toLe 4 (j + 1)))

/-- Offers a record to a ring: filter, place, wait or lose it (R416 to R419). Answers whether the record was lost. -/
def State.offer (s : State) (ring : Nat) (r : Bytes) : State × Bool :=
  match s.ering? ring with
  | none => (s, false)
  | some x =>
    if s.book.exportRing == some ring || x.dead then (s, false) else
    let (keep, bs) := runFilter x.program r s.clock.now (x.program.length + 1) 0 0 x.buckets
    let s := s.modEring ring fun y => { y with buckets := bs }
    if !keep then (s, false)
    else if x.waiting.isEmpty && 0 < x.room then (s.placeRecord x r, false)
    else if x.waiting.length < 256 then (s.modEring ring fun y => { y with waiting := y.waiting ++ [r] }, false)
    else
      let s := s.modEring ring fun y => { y with lost := satAdd 64 y.lost 1, lostEvent := (y.lostEvent.1 + 1, y.lostEvent.2) }
      (s.post x.conn (.write x.conn x.rkey (x.base + x.size * 32 + 16) (toLe 8 (x.lost + 1))), true)

/-- A rate-limited event is due: 1 ms since the last (R301, R323, R346, R415). -/
def due1ms (last : Option Nat) (now : Nat) : Bool :=
  match last with
  | none => true
  | some t => t + 1000000 ≤ now

/-- Assigns EVENT_SEQ, reserving a block of 65,536 first when the last is spent (R432). -/
def State.takeEventSeq (s : State) : State × Nat :=
  let n := s.router.nextSeq
  let s := if s.journal.eventBlock ≤ n then { s with journal.eventBlock := n + 65536 } else s
  ({ s with router.nextSeq := n + 1 }, n)

/-- Raises an event (R416, R419, R420); `skip` is the ring that source 240 is about. `fuel` bounds losses that lead to losses. -/
def State.raiseN : Nat → State → Nat → List Nat → Option Nat → Option Nat → State
  | 0, s, _, _, _, _ => s
  | fuel + 1, s, src, detail, car, skip =>
    let s := s.ensureMark
    let (s, n) := s.takeEventSeq
    let early := !s.router.ringCreated
    let flags := severity src detail + 8 * b2n s.holdover + 16 * b2n car.isSome + 32 * b2n early
    let r := toLe 1 src ++ toLe 1 flags ++ toLe 2 s.deviceIndex ++ toLe 8 n ++ toLe 8 s.clock.train ++ detailBytes detail
    let s :=
      if !early then s
      else if s.router.early.length < 4096 then { s with router.early := s.router.early ++ [⟨src, r, car⟩] }
      else { s with router.earlyLost := s.router.earlyLost + 1 }
    let targets := ([0, 1] ++ (match car with | some c => [2 + c] | none => [])).filter fun x => skip != some x
    targets.foldl (fun s x =>
      match s.offer x r with
      | (s, false) => s
      | (s, true) =>
        match s.ering? x with
        | none => s
        | some y =>
          if due1ms y.lostEvent.2 s.clock.now then
            let s := s.modEring x fun z => { z with lostEvent := (0, some s.clock.now) }
            State.raiseN fuel s 240 [x, y.lostEvent.1] none (some x)
          else s) s

/-- Raises an event that names no carriage. -/
def State.raise (s : State) (src : Nat) (detail : List Nat) : State := s.raiseN 4 src detail none none

/-- Raises an event that names a carriage (R414). -/
def State.raiseFor (s : State) (src : Nat) (detail : List Nat) (car : Nat) : State := s.raiseN 4 src detail (some car) none

/-- LINK_STATE codes (R408). -/
def linkCode (x : LinkState) : Nat := match x with | .idle => 0 | .training => 1 | .up => 2 | .fault => 3 | .member => 4

/-- A port's link state becomes `x`: LINK_DOWNS counts a way out of UP, and a change raises its event (R408, R409). -/
def State.setLink (s : State) (p : Nat) (x : LinkState) : State :=
  match s.port? p with
  | none => s
  | some y =>
    if y.link == x then s
    else
      let downs := if y.link == .up then satAdd 32 y.linkDowns 1 else y.linkDowns
      (s.modPort p fun z => { z with link := x, linkDowns := downs }).raise (96 + 4 * p) [linkCode x]

/-- Places records that wait for a ring while places are free; `fuel` bounds their number (R418, R419). -/
def State.drainRing : Nat → State → Nat → State
  | 0, s, _ => s
  | fuel + 1, s, ring =>
    match s.ering? ring with
    | none => s
    | some x =>
      match x.waiting with
      | [] => s
      | r :: rest =>
        if x.room == 0 || x.dead then s
        else State.drainRing fuel ((s.modEring ring fun y => { y with waiting := rest }).placeRecord x r) ring

/-- Raises source 240 for the records that a ring has lost, once per 1 ms, and not to that ring (R419). -/
def State.raiseLoss (s : State) (ring : Nat) : State :=
  match s.ering? ring with
  | none => s
  | some x =>
    if due1ms x.lostEvent.2 s.clock.now then
      (s.modEring ring fun y => { y with lostEvent := (0, some s.clock.now) }).raiseN 4 240 [ring, x.lostEvent.1] none (some ring)
    else s

/-- Delivers the early buffer to a control-master ring just created, oldest first (R419, R420). -/
def State.deliverEarly (s : State) (ring : Nat) : State :=
  let first := !s.router.ringCreated
  let s : State := { s with router.ringCreated := true }
  let s := s.router.early.foldl (fun s e => match s.offer ring e.bytes with | (s, false) => s | (s, true) => s.raiseLoss ring) s
  if !first then s
  else
    let lost := s.router.earlyLost
    match s.ering? ring with
    | some x =>
      if lost == 0 then s
      else
        let n := satAdd 64 x.lost lost
        (s.modEring ring fun y => { y with lost := n }).post x.conn (.write x.conn x.rkey (x.base + x.size * 32 + 16) (toLe 8 n))
    | none => s

end Sys2Proof.Machine
end

