-- ==== Sys2Proof/Machine/Book.lean ====
section
/-!
DEFINITION. The Cellar Book: entries, tail places, held entries, checkpoints and export (09 R294 to R300, R560, R563).
-/
namespace Sys2Proof.Machine

/-- Tail places in all, and those that jobs may reserve (R563). -/
def tailPlaces : Nat := 8192
def jobPlaces : Nat := 7936

/-- What an entry records besides its sequence number, time and chain hash (R294). -/
structure BookFields where
  kind : Nat
  retried : Bool := false
  status : Nat := 0
  opcode : Nat := 0
  param : Nat := 0
  keyRef : Nat := 0
  submitSeq : Nat := 0
  carriage : Nat := 0
  queue : Nat := 0
  record : Nat := 0
  fp : Bytes := []
  detail : Nat := 0
  subject : Bytes := []
  deriving DecidableEq, Repr

/-- The entry before it is appended: sequence number, time, holdover flag and chain hash are 0. -/
def BookFields.body (f : BookFields) (device : Nat) : Bytes :=
  zeros 16 ++ toLe 1 f.kind ++ toLe 1 (2 * b2n f.retried) ++ toLe 2 f.status ++ toLe 2 f.opcode ++ toLe 1 f.param ++ zeros 1 ++
  toLe 4 f.keyRef ++ toLe 4 f.submitSeq ++ toLe 2 f.carriage ++ toLe 2 f.queue ++ toLe 2 f.record ++ toLe 2 device ++
  padTo 16 f.fp ++ toLe 8 f.detail ++ padTo 32 f.subject ++ zeros 32

/-- BOOK_SEQ and KIND of an entry. -/
def entrySeq (e : Bytes) : Nat := le e 0 8
def entryKind (e : Bytes) : Nat := byteAt e 16

/-- Tail places in use, of every kind (R297). -/
def State.bookUsed (s : State) : Nat := s.book.tail.length + s.book.reserved

/-- The entry as appended: BOOK_SEQ, T_ENTRY, TIME_HOLDOVER and PREV_HASH; DETAIL and SUBJECT of a checkpoint, DETAIL of a
RECOVERY entry as they stand now (R294, R298). -/
def State.fillEntry (s : State) (b : Bytes) : Bytes :=
  let n := s.book.seq + 1
  let oldest := match s.book.tail with | e :: _ => entrySeq e | [] => n
  let detail :=
    if entryKind b == 4 then toLe 8 s.book.lastCheckpoint
    else if entryKind b == 5 then toLe 8 oldest else slice b 0x38 8
  let subject := if entryKind b == 4 then sha3 s.book.anchor else slice b 0x40 32
  toLe 8 n ++ toLe 8 s.clock.train ++ slice b 0x10 1 ++ toLe 1 (byteAt b 0x11 + b2n s.holdover) ++ slice b 0x12 0x26 ++ detail ++
  subject ++ s.book.head

/-- Places one 128-byte unit on the export ring (R299, R421). -/
def State.placeUnit (s : State) (x : EventRing) (u : Bytes) (mark : Option Nat) : State :=
  let j := x.prod
  let s := s.modEring x.index fun y => { y with prod := (j + 1) % 2 ^ 32 }
  let s := { s with book.placed := s.book.placed ++ [mark] }
  let s := s.post x.conn (.write x.conn x.rkey (x.base + j % x.size * 128) u)
  s.post x.conn (.write x.conn x.rkey (x.base + x.size * 128) (toLe 4 (j + 1)))

/-- The 37 signature units of a checkpoint (R299). -/
def signatureUnits (sig : Bytes) : List Bytes := chunks 128 37 (padTo 4736 sig)

/-- Places export units while places are free, entries in order and each checkpoint followed by its signature units; a checkpoint
waits for its signatures (R299). `fuel` bounds the number of units. -/
def State.pumpExport : Nat → State → State
  | 0, s => s
  | fuel + 1, s =>
    match s.book.exportRing with
    | none => s
    | some r =>
      match s.ering? r with
      | none => s
      | some x =>
        if x.dead || x.room == 0 then s else
        match s.book.queue with
        | (u, mark) :: rest => State.pumpExport fuel (({ s with book.queue := rest }).placeUnit x u mark)
        | [] =>
          let n := s.book.exportNext
          match s.book.tail.find? (entrySeq · == n) with
          | none => s
          | some e =>
            let s := { s with book.exportNext := n + 1 }
            if entryKind e != 4 then State.pumpExport fuel (s.placeUnit x e (some n)) else
            match s.book.signatures.find? (·.1 == n) with
            | none => { s with book.exportNext := n }
            | some (_, sig) =>
              let us := signatureUnits sig
              let q := us.zipIdx.map fun (u, i) => (u, if i + 1 == us.length then some n else none)
              State.pumpExport fuel (({ s with book.queue := q }).placeUnit x e none)

/-- Units that one event can place at most. -/
def exportFuel (s : State) : Nat := 38 * (s.book.tail.length + 1)

/-- Appends an entry now: durable in the tail, in the GDDR7 ring, chained, counted, offered for export (R296, R297). -/
def State.commitEntry (s : State) (b : Bytes) : State :=
  let s := s.ensureMark
  let e := s.fillEntry b
  let n := s.book.seq + 1
  let s := { s with
    book.seq := n
    book.head := sha3 e
    book.tail := s.book.tail ++ [e]
    book.ring := (e :: s.book.ring).take 33554432
    book.sinceCheckpoint := s.book.sinceCheckpoint + 1 }
  let s :=
    if entryKind b == 4 then
      { s with book.lastCheckpoint := n, book.sinceCheckpoint := 0, book.checkpointAt := s.clock.now, book.signing := s.book.signing ++ [e] }
    else s
  s.pumpExport (exportFuel s)

/-- Raises source 178 when the places in use have reached 6,144 from below (R297). -/
def State.tailEvent (s : State) (before : Nat) : State :=
  if before < 6144 && 6144 ≤ s.bookUsed then s.raise 178 [s.bookUsed] else s

/-- Appends held entries while places are free, ahead of any other entry; `fuel` bounds their number (R563). -/
def State.appendHeld : Nat → State → State
  | 0, s => s
  | fuel + 1, s =>
    match s.book.held with
    | [] => s
    | b :: rest =>
      if s.bookUsed < tailPlaces then State.appendHeld fuel (({ s with book.held := rest }).commitEntry b) else s

/-- Appends an entry that no job reserved a place for, or holds it when no place is free (R563); no entry while closed (R484). -/
def State.appendBook (s : State) (f : BookFields) : State :=
  if !s.bookOpen then s else
  let before := s.bookUsed
  let b := f.body s.deviceIndex
  if before < tailPlaces && s.book.held.isEmpty then (s.commitEntry b).tailEvent before
  else { s with book.held := s.book.held ++ [b] }

/-- Appends the entry of a job or record in the place that step 11 reserved (R296, R297). -/
def State.appendReserved (s : State) (f : BookFields) : State :=
  (({ s with book.reserved := s.book.reserved - 1 }).commitEntry (f.body s.deviceIndex))

/-- A checkpoint is due: its entry is appended, or held for a place, once (R298, R301, R563). -/
def State.checkpoint (s : State) : State :=
  if !s.bookOpen || s.book.held.any (entryKind · == 4) then s else s.appendBook { kind := 4 }

/-- Credit for `n` more export units: frees the tail places of the entries they complete (R297, R299, R421). -/
def State.creditUnits (s : State) (n : Nat) : State :=
  let done := (s.book.placed.take n).filterMap id
  let s := { s with
    book.placed := s.book.placed.drop n
    book.tail := s.book.tail.filter fun e => !done.contains (entrySeq e)
    book.signatures := s.book.signatures.filter fun x => !done.contains x.1 }
  s.appendHeld (s.book.held.length)

/-- Export starts again from the oldest entry in the tail (R300, R422). -/
def State.restartExport (s : State) (ring : Option Nat) : State :=
  let oldest := match s.book.tail with | e :: _ => entrySeq e | [] => s.book.seq + 1
  let s := { s with book.exportRing := ring, book.placed := [], book.queue := [], book.exportNext := oldest }
  s.pumpExport (exportFuel s)

end Sys2Proof.Machine
end

