-- ==== Sys2Proof/Machine/Flags.lean ====
section
/-!
DEFINITION. Status codes (20), completion flags and the completion entry (02 R65, R66, R70, R76).
-/
namespace Sys2Proof.Machine

/-- Status codes (20, *Status codes*). -/
def statusCode (x : Status) : Nat :=
  match x with
  | .success => 0 | .lengthMismatch => 0x0101 | .malformedEncoding => 0x0102 | .pointNotOnCurve => 0x0103 | .outOfRange => 0x0104
  | .signatureInvalid => 0x0105 | .bufferTooSmall => 0x0106 | .decapsImplicitReject => 0x0107 | .keyNotFound => 0x0201
  | .keyCorked => 0x0202 | .keyUseDenied => 0x0203 | .keyExhausted => 0x0204 | .keyLifecycleDenied => 0x0205
  | .inputFetchError => 0x0301 | .outputPlaceError => 0x0302 | .translationFault => 0x0303 | .generationMismatch => 0x0304
  | .entropyNotReady => 0x0401 | .entropyFailed => 0x0402 | .engineUnavailable => 0x0403 | .quotaExceeded => 0x0404
  | .bookFull => 0x0405 | .notExecuted => 0x0501 | .faultUnrecovered => 0x0503 | .unknownOpcode => 0x0601
  | .unsupportedParam => 0x0602 | .flagsInvalid => 0x0603 | .mbUnknownCommand => 0x0701 | .mbNoSession => 0x0702
  | .mbSequence => 0x0704 | .mbNotInMode => 0x0705 | .mbStateConflict => 0x0706 | .mbRange => 0x0707 | .mbVinLow => 0x0708
  | .mbLifecycleDenied => 0x0709 | .mbRightsDenied => 0x070A | .mbRollback => 0x070B | .mbInUse => 0x070C

/-- CFLAGS: RETRIED, LOGGED, TIME_HOLDOVER (R65). -/
def cflags (retried logged holdover : Bool) : Nat := b2n retried + 2 * b2n logged + 4 * b2n holdover

/-- RFLAGS of a batch record: RETRIED, LOGGED (R76). -/
def rflags (retried logged : Bool) : Nat := b2n retried + 2 * b2n logged

/-- PHASE of completion `j` of a ring (R66). -/
def phaseBit (j size : Nat) : Nat := if j / size % 2 == 0 then 1 else 0

/-- T_SPAN saturates (R65). -/
def tSpan (done consumed : Nat) : Nat := min (done - consumed) 0xFFFFFFFF

/-- A completion entry (R65). -/
def completionBytes (tag : Bytes) (status : Status) (phase flags written seq tDone span queue device : Nat) : Bytes :=
  padTo 4 tag ++ toLe 2 (statusCode status) ++ toLe 1 phase ++ toLe 1 flags ++ toLe 4 written ++ toLe 4 seq ++ toLe 8 tDone ++
  toLe 4 span ++ toLe 2 queue ++ toLe 2 device

/-- A batch record status entry (R76). -/
def recordStatusBytes (index : Nat) (status : Status) (written offset flags : Nat) : Bytes :=
  toLe 2 index ++ toLe 2 (statusCode status) ++ toLe 4 written ++ toLe 4 offset ++ toLe 1 flags ++ zeros 3

/-- The time-stamp trailer (R70). -/
def trailerBytes (tConsume tDispatch : Nat) : Bytes := toLe 8 tConsume ++ toLe 8 tDispatch

end Sys2Proof.Machine
end

