-- ==== Sys2Proof/Machine/Operands.lean ====
section
/-!
DEFINITION. The fields of a work queue entry (02 R43 to R45, R75) and of the job made from it.
-/
namespace Sys2Proof.Machine

/-- Fields of an entry (R43). -/
def entClass (e : Bytes) : Nat := byteAt e 1
def entLow (e : Bytes) : Nat := byteAt e 0
def entFlags (e : Bytes) : Nat := byteAt e 2
def entParam (e : Bytes) : Nat := byteAt e 3
def entTag (e : Bytes) : Bytes := slice e 4 4
def entKeyRef (e : Bytes) : Nat := le e 8 4
def entProcId (e : Bytes) : Nat := le e 0x0C 4
def entInAddr (e : Bytes) : Nat := le e 0x10 8
def entInLen (e : Bytes) : Nat := le e 0x18 4
def entInKey (e : Bytes) : Nat := le e 0x1C 4
def entOutAddr (e : Bytes) : Nat := le e 0x20 8
def entOutLen (e : Bytes) : Nat := le e 0x28 4
def entOutKey (e : Bytes) : Nat := le e 0x2C 4
def entAux (e : Bytes) : BitVec 64 := BitVec.ofNat 64 (le e 0x30 8)
def entGen (e : Bytes) : Nat := byteAt e 0x3E
def entOwn (e : Bytes) : Nat := byteAt e 0x3F

/-- FLAGS (R43). -/
def entFence (e : Bytes) : Bool := bit (entFlags e) 0
def entLog (e : Bytes) : Bool := bit (entFlags e) 1
def entTs (e : Bytes) : Bool := bit (entFlags e) 2
def entBatch (e : Bytes) : Bool := bit (entFlags e) 3
def entInline (e : Bytes) : Bool := bit (entFlags e) 4
def entNotify (e : Bytes) : Bool := bit (entFlags e) 5

/-- The slot of an entry is posted: OWN [7] (R43). -/
def entPosted (e : Bytes) : Bool := bit (entOwn e) 7

/-- The operation that OPCODE names (step 2 of R59). -/
def entOp (e : Bytes) : Option Op := opOfCode (entClass e) (entLow e)

/-- Kind and index of KEY_REF (R43). -/
def refKind (r : Nat) : KeyKind :=
  match r / 2 ^ 30 % 4 with
  | 0 => .none | 1 => .slot | 2 => .wrapped | _ => .graft
def refIndex (r : Nat) : Nat := r % 2 ^ 30
def entKind (e : Bytes) : KeyKind := refKind (entKeyRef e)

/-- Length of the whole input: the inline length, or IN_LEN (R45). -/
def entInput (e : Bytes) : Nat := if entInline e then byteAt e 0x1C else entInLen e

/-- The inline input bytes (R45). -/
def entInlineBytes (e : Bytes) : Bytes := slice e 0x10 (byteAt e 0x1C)

/-- Bit [63] of an address selects host memory (R44). -/
def addrHost (a : Nat) : Bool := bit a 63
def addrOffset (a : Nat) : Nat := a % 2 ^ 63

/-- 16 bytes of trailer with TS_REQ (R70). -/
def entTrailer (e : Bytes) : Nat := if entTs e then 16 else 0

/-- The fields of the job's entry, which its operation reads. -/
def Job.param (j : Job) : Nat := entParam j.entry
def Job.aux (j : Job) : BitVec 64 := entAux j.entry
def Job.kind (j : Job) : KeyKind := entKind j.entry
def Job.keyRef (j : Job) : Nat := entKeyRef j.entry

/-- The job's key material, empty with kind none. -/
def Job.material (j : Job) : Bytes := match j.key with | some k => k.material | none => []

/-- The job's usage mask, 0 with kind none. -/
def Job.usage (j : Job) : Nat := match j.key with | some k => k.header.usage | none => 0

/-- EXP_CLASS of the job's key (R271). -/
def Job.keyExpClass (j : Job) : Nat := match j.key with | some k => k.header.expClass | none => 0

/-- Records of a batch (R75). -/
def entRecords (e : Bytes) (size : Nat) : Nat := if size == 0 then 0 else entInLen e / size

end Sys2Proof.Machine
end

