-- ==== Sys2Proof/Machine/Cellar.lean ====
section
/-!
DEFINITION. The Cellar: headers, records, the directory, integrity tags and corking, replacement and destruction, and external
wrapped objects (09 R268 to R291, R560, R561).
-/
namespace Sys2Proof.Machine

/-! ### Headers and tags -/

/-- SLOT_STATE codes (R271). -/
def slotStateCode (x : SlotState) : Nat := match x with | .empty => 0 | .prepared => 1 | .live => 2 | .corked => 3

/-- Bytes +0x00 to +0x5F of a header (R271). -/
def SlotHeader.bytes (h : SlotHeader) : Bytes :=
  toLe 1 (slotStateCode h.state) ++ toLe 1 h.keyClass ++ toLe 1 h.param ++ toLe 1 h.form ++ toLe 2 h.usage ++ toLe 1 h.worlds ++
  toLe 1 h.lcMask ++ toLe 1 h.masters ++ toLe 1 h.graftPrf ++ toLe 1 h.expClass ++ zeros 1 ++ toLe 2 h.owner ++
  toLe 2 h.materialLen ++ ((h.shareList ++ List.replicate 8 0xFFFF).take 8 |>.map (toLe 2)).flatten ++ toLe 8 h.versionTime ++
  toLe 2 h.versionDevice ++ toLe 2 h.slot ++ toLe 4 h.lowThreshold ++ padTo 32 h.materialHash ++ toLe 8 h.replaceCount ++ zeros 8

/-- The header has its OVERSIZED bit (R271). -/
def SlotHeader.oversized (h : SlotHeader) : Bool := bit h.form 3

/-- FORM [2:0] (R271). -/
def formSeed : Nat := 1
def formPrivate : Nat := 2
def formSymmetric : Nat := 3
def formStateful : Nat := 4

/-- The Cellar integrity key, from the fused device secret and the seal share; zeroed while sealed for Debug (R287, R506). The fused part is
R482's; how the two combine is FREE (log entry 109). -/
def State.integrityKey (s : State) : Bytes :=
  if s.cellar.sealed then zeros 32 else
    std .silicon 1 [secretKdf s.deviceSecret "Cellar integrity" 32, if s.sealEnabled then s.power.sealValue else []] 32

/-- TAG of a record (R287). -/
def State.slotTag (s : State) (h : SlotHeader) (m : Bytes) : Bytes := kmac s.integrityKey (h.bytes ++ m) 32 "ZMSLOT1"

/-- The TAG of a record verifies (R287). -/
def State.tagOk (s : State) (r : SlotRecord) : Bool := r.tag == s.slotTag r.header r.material

/-! ### Directory, records and heap -/

/-- Directory entry of a slot; none before its first creation (R270). -/
def State.dir? (s : State) (slot : Nat) : Option DirEntry := s.cellar.dir.find? (·.slot == slot)

/-- Record by number (R268). -/
def State.record? (s : State) (r : Nat) : Option SlotRecord := s.cellar.records.find? (·.index == r)

/-- The record in force for a slot (R270). -/
def State.slotRecord? (s : State) (slot : Nat) : Option SlotRecord :=
  match s.dir? slot with
  | some d => if d.valid then s.record? d.record else none
  | none => none

/-- SLOT_STATE of a logical slot (R271). -/
def State.slotState (s : State) (slot : Nat) : SlotState :=
  match s.slotRecord? slot with | some r => r.header.state | none => .empty

/-- Writes a directory entry and counts the write (R270). -/
def State.writeDir (s : State) (slot record : Nat) (valid : Bool) : State :=
  match s.dir? slot with
  | some _ =>
    let write (d : DirEntry) : DirEntry := { d with record := record, valid := valid, swapSerial := (d.swapSerial + 1) % 2 ^ 32 }
    { s with cellar.dir := mapIf (·.slot == slot) write s.cellar.dir }
  | none => { s with cellar.dir := s.cellar.dir ++ [⟨slot, record, valid, 1⟩] }

/-- Granules of material (R268). -/
def granules (len : Nat) : Nat := (len + 127) / 128
/-- Granules in all (R268). -/
def heapGranules : Nat := 172032
/-- Records in all (R268). -/
def recordCount : Nat := 16640

/-- Granules that hold any stateful material (R268, R276). -/
def statefulGranules : Nat := 2

/-- A stateful KEYGEN has taken its record at step 10 and not filled it: its granules are taken too (R190). -/
def State.keygenHolds (s : State) (j : Job) : Bool :=
  (j.op == some .lmsKeygen || j.op == some .xmssKeygen) && j.shadow.any fun r => !s.cellar.records.any (·.index == r)

/-- Free granules of the heap (R190, R268). -/
def State.freeGranules (s : State) : Nat :=
  heapGranules - (s.cellar.records.map fun r => granules r.material.length).sum -
    statefulGranules * (s.fabric.jobs.filter s.keygenHolds).length

/-- A record holds something, or a job fills it (R268). -/
def State.recordTaken (s : State) (i : Nat) : Bool :=
  s.cellar.records.any (fun x => x.index == i) || s.fabric.jobs.any fun j => j.shadow == some i

/-- A free record (R268). -/
def State.freeRecord? (s : State) : Option Nat :=
  let n := s.cellar.records.length + s.fabric.jobs.length
  let i := anyFree "record" (s.useNo n) recordCount n s.recordTaken
  if recordCount ≤ i || s.recordTaken i then none else some i

/-- A job still uses a record: as its key, or as the shadow it fills (R268, R289). -/
def Job.usesRecord (j : Job) (r : Nat) : Bool :=
  let names (k : Option JobKey) : Bool :=
    match k with | some k => (k.kind == .slot || k.kind == .graft) && k.record == r | none => false
  names j.key || names j.transport || j.shadow == some r

/-- Raises source 183 when free granules fall below 4,096 (R301). -/
def State.granuleEvent (s : State) : State :=
  let low := decide (s.freeGranules < 4096)
  if low && !s.cellar.granulesLow then ({ s with cellar.granulesLow := true }).raise 183 [s.freeGranules]
  else { s with cellar.granulesLow := low }

/-- Drops the cached copy of a record that a change replaces (R287). -/
def State.uncache (s : State) (r : Nat) : State := { s with cellar.cache := s.cellar.cache.filter (·.index != r) }

/-- Writes a record with its TAG, in place of a record of the same number (R289, step 2). -/
def State.putRecord (s : State) (r : Nat) (h : SlotHeader) (m : Bytes) : State :=
  let x : SlotRecord := ⟨r, h, m, s.slotTag h m⟩
  let others := s.cellar.records.filter fun y => y.index != r
  (({ s with cellar.records := others ++ [x] }).uncache r).granuleEvent

/-- Wipes and frees every record that no directory entry names and no job uses (R268, R289 step 6). -/
def State.sweepRecords (s : State) : State :=
  let used (r : Nat) : Bool :=
    s.cellar.dir.any (fun d => d.valid && d.record == r) || s.fabric.jobs.any (·.usesRecord r) ||
    s.express.frames.any fun (f : MaldinJob) => f.records.contains r
  { s with
    cellar.records := s.cellar.records.filter fun x => used x.index
    cellar.cache := s.cellar.cache.filter fun x => used x.index
    cellar.oversized := s.cellar.oversized.filter fun x => used x.1 }

/-- Slots that carry STATEFUL (R269). -/
def State.statefulSlots (s : State) : Nat :=
  (s.cellar.dir.filter fun d => d.valid &&
    (match s.record? d.record with | some r => hasUsage r.header.usage "stateful" | none => false)).length

/-! ### Book entries of key changes (R560) -/

/-- A KEY_CHANGE entry (R560): `record` is the record that the change put in force, none for a destruction. -/
def State.keyChange (s : State) (code : Nat) (param : Nat) (status : Status) (slot : Option Nat) (carriage : Nat)
    (record : Option Nat) (subject : Bytes) : State :=
  let fp := match record.bind s.record? with | some r => r.header.materialHash | none => []
  s.appendBook { kind := 3, status := statusCode status, opcode := code, param := param,
                 keyRef := (match slot with | some n => 2 ^ 30 + n | none => 0), carriage := carriage, fp := fp,
                 detail := (record.getD 0) * 2 ^ 32, subject := subject }

/-! ### Corking (R288) -/

/-- Corks the record of a slot: state, event 176 and KEY_CHANGE entry (R288). -/
def State.cork (s : State) (r : SlotRecord) : State :=
  if r.header.state == .corked then s else
  let mark (x : SlotRecord) : SlotRecord := { x with header.state := .corked }
  let s := { s with cellar.records := mapIf (·.index == r.index) mark s.cellar.records }
  let s := (s.uncache r.index).raiseFor 176 [r.header.slot, r.index, r.header.owner] r.header.owner
  s.keyChange 0 r.header.param .success (some r.header.slot) r.header.owner (some r.index) (zeros 32)

/-- Reads a record as the Cellar island does at step 10: from its cache of 512, or from MRAM under a TAG check that corks (R287). A sealed
island has no integrity key and judges no TAG: check 4 of R275 ends the job (R506). -/
def State.fetchRecord (s : State) (r : SlotRecord) : State × SlotRecord :=
  match s.cellar.cache.find? (·.index == r.index) with
  | some c => ({ s with cellar.cache := c :: s.cellar.cache.filter (·.index != r.index) }, c)
  | none =>
    if r.header.state == .corked || s.cellar.sealed then (s, r)
    else if s.tagOk r then ({ s with cellar.cache := (r :: s.cellar.cache).take 512 }, r)
    else (s.cork r, { r with header.state := .corked })

/-! ### Replacement and destruction (R289, R291) -/

/-- Fills a record as the new content of a slot and puts it in force with one directory write (R289 steps 2, 4 and 6). -/
def State.install (s : State) (slot r : Nat) (h : SlotHeader) (m : Bytes) : State :=
  ((s.putRecord r h m).writeDir slot r true).sweepRecords

/-- Empties a slot: one directory write, its ledger erased (R291). -/
def State.emptySlot (s : State) (slot : Nat) : State :=
  let s := s.writeDir slot 0 false
  ({ s with cellar.ledgers := s.cellar.ledgers.filter (·.slot != slot),
            engines.trees := s.engines.trees.filter (·.slot != slot) }).sweepRecords

/-- Ledger of a stateful slot. -/
def State.ledger? (s : State) (slot : Nat) : Option Ledger := s.cellar.ledgers.find? (·.slot == slot)
/-- Changes the ledger of a slot. -/
def State.modLedger (s : State) (slot : Nat) (g : Ledger → Ledger) : State :=
  { s with cellar.ledgers := mapIf (·.slot == slot) g s.cellar.ledgers }

/-! ### Attributes (R272, R274, R283) -/

/-- Usage bits SIGN to UNWRAP and STATEFUL that some operation of a KEY_CLASS uses (R274, R272). -/
def classUsage (cls : Nat) : Nat :=
  match cls with
  | 0x01 => 0x4 + 0x8 + 0x80
  | 0x04 | 0x05 => 0x4 + 0x8
  | 0x02 | 0x06 | 0x0A | 0x0B => 0x1 + 0x2
  | 0x03 => 0x8 + 0x10
  | 0x07 | 0x08 => 0x1 + 0x2 + 0x800
  | 0x09 => 0x1 + 0x2 + 0x20
  | 0x0C => 0x10
  | 0x0D => 0x1 + 0x2 + 0x4 + 0x8
  | 0x0E => 0x1 + 0x2 + 0x4 + 0x8 + 0x40 + 0x80
  | 0x10 => 0x20
  | _ => 0

/-- PARAM of a key is one that KEY_CLASS defines (R271, R276). -/
def keyParamOk (cls p : Nat) : Bool :=
  match cls with
  | 0x01 | 0x02 | 0x04 => 1 ≤ p && p ≤ 3
  | 0x05 | 0x0D => 1 ≤ p && p ≤ 5
  | 0x06 => 1 ≤ p && p ≤ 12
  | 0x07 | 0x08 | 0x0B => 1 ≤ p && p ≤ 2
  | 0x09 => p == 0 || hashMac p
  | 0x0A => 1 ≤ p && p ≤ 6
  | 0x0C => (1 ≤ p && p ≤ 6) || p == 0x10 || p == 0x11
  | 0x0E => (1 ≤ p && p ≤ 3) || p == 0x10
  | 0x10 => p == 0
  | _ => false

/-- The fields of an attribute block (R283). -/
structure Attrs where
  keyClass : Nat
  param : Nat
  usage : Nat
  worlds : Nat
  lcMask : Nat
  masters : Nat
  graftPrf : Nat
  expClass : Nat
  low : Nat
  reserved : Nat
  deriving DecidableEq, Repr

/-- Reads an attribute block; LOW_THRESHOLD 0 selects 65,536 (R283). -/
def attrsOf (b : Bytes) : Attrs :=
  let low := le b 12 4
  { keyClass := byteAt b 0, param := byteAt b 1, usage := le b 2 2, worlds := byteAt b 4, lcMask := byteAt b 5, masters := byteAt b 6,
    graftPrf := byteAt b 7, expClass := byteAt b 8, low := if low == 0 then 65536 else low, reserved := le b 9 3 }

/-- The attributes are accepted under R274; every bit that R272 and R283 do not define is 0, and a stateful key carries STATEFUL (R182). -/
def Attrs.ok (a : Attrs) (importing : Bool) : Bool :=
  let u := a.usage
  let uses := a.usage &&& 0x8FF
  keyParamOk a.keyClass a.param && a.usage < 0x1000 && a.worlds < 8 && a.lcMask < 16 && a.masters < 16 && a.reserved == 0 &&
  !(hasUsage u "logRequired" && bit a.worlds 1) &&
  !(hasUsage u "stateful" && (hasUsage u "replicate" || hasUsage u "exportWrapped")) &&
  uses &&& classUsage a.keyClass == uses && (hasUsage u "stateful" || (a.keyClass != 7 && a.keyClass != 8)) &&
  (if a.keyClass == 0x10 then a.graftPrf == 1 || a.graftPrf == 2 else a.graftPrf == 0) &&
  (if a.keyClass == 0x0D && importing then 1 ≤ a.expClass && a.expClass ≤ 5 else a.expClass == 0)

/-- The live header agrees with an attribute block in everything but LOW_THRESHOLD (R284). -/
def Attrs.agrees (a : Attrs) (h : SlotHeader) : Bool :=
  a.keyClass == h.keyClass && a.param == h.param && a.usage == h.usage && a.worlds == h.worlds && a.lcMask == h.lcMask &&
  a.masters == h.masters && a.graftPrf == h.graftPrf && (a.expClass == h.expClass || (a.keyClass == 0x0D && a.expClass == 0 && h.expClass == 1))

/-- The smallest exponent class that holds e; 0 for no exponent (R231). -/
def expClassOf (e : Nat) : Nat := if e == 0 then 0 else 1 + (([1, 2, 3, 4].filter fun c => 2 ^ expBits c ≤ e).length)

/-- Public exponent of RSA material, odd and at least 3: the spec gives material no place for it, so it is FREE (log entry 21). -/
def rsaExpOf (m : Bytes) : Nat := beNat (std .rsaExponent 0 [m] 32) ||| 3

/-- The exponent of RSA material whose header tells its class. FREE within the class (log entry 21). -/
def rsaExpIn (cls : Nat) (m : Bytes) : Nat := rsaExpOf m % 2 ^ expBits cls ||| 3

/-- Header of a slot made from an attribute block; `e` is the exponent of an RSA key (R231, R271). -/
def State.newHeader (s : State) (a : Attrs) (state : SlotState) (form slot carriage e : Nat) (m excess : Bytes) : SlotHeader :=
  let old := s.slotRecord? slot
  { state := state, keyClass := a.keyClass, param := a.param, form := form + (if excess.isEmpty then 0 else 8), usage := a.usage,
    worlds := a.worlds, lcMask := a.lcMask, masters := a.masters, graftPrf := a.graftPrf, expClass := expClassOf e, exponent := e,
    owner := (match old with | some r => r.header.owner | none => carriage), materialLen := m.length,
    shareList := (match old with | some r => r.header.shareList | none => []), versionTime := s.clock.train,
    versionDevice := s.deviceIndex, slot := slot, lowThreshold := a.low, materialHash := sha3 (m ++ excess),
    replaceCount := (match old with | some r => r.header.replaceCount + 1 | none => 0) }

/-! ### External wrapped objects (R278 to R281, R561) -/

/-- K_W and K_M of a carriage key (R278). -/
def keyW (kc : Bytes) : Bytes := kmac kc [] 32 "ZMWRAP-KW"
def keyM (kc : Bytes) : Bytes := kmac kc [] 32 "ZMWRAP-MAC"

/-- Initial counter block of zeros (R279). -/
def zeroBlock : Bytes := zeros 16

/-- What an external object says about its key. -/
structure ObjectAttrs where
  keyClass : Nat
  param : Nat
  worlds : Nat
  usage : Nat
  lcMask : Nat
  form : Nat
  deriving DecidableEq, Repr

/-- The bytes of an external wrapped object (R279): usage without REPLICATE, STATEFUL and EXPORT_WRAPPED, FORM without OVERSIZED. -/
def wrapObject (a : ObjectAttrs) (carriage : Nat) (kc : Nat × Bytes) (cek material : Bytes) : Bytes :=
  let body := toLe 1 1 ++ toLe 1 a.keyClass ++ toLe 1 a.param ++ toLe 1 a.worlds ++ toLe 2 (a.usage &&& 0x4FF) ++ toLe 1 a.lcMask ++
    toLe 1 (a.form % 8) ++ toLe 2 carriage ++ zeros 2 ++ toLe 4 material.length ++ toLe 4 kc.1 ++ zeros 4 ++
    std .kwpWrap 32 [keyW kc.2, cek] 40 ++ aesCtr cek zeroBlock material
  body ++ kmac (keyM kc.2) body 16 "ZMOBJ1"

/-- The key of a carriage for a WRAP_EPOCH, current or previous (R281). -/
def Carriage.epochKey (c : Carriage) (epoch : Nat) : Option Bytes :=
  if c.key.1 == epoch then some c.key.2
  else match c.prevKey with
    | some (e, k) => if e == epoch then some k else none
    | none => none

/-- The header that a resolved object stands for (R279, R280); an RSA object has no field for e, whose class counts (R231, log
entry 21). -/
def objectHeader (b m : Bytes) (carriage : Nat) : SlotHeader :=
  let e := if byteAt b 1 == 0x0D then rsaExpOf m else 0
  { state := .live, keyClass := byteAt b 1, param := byteAt b 2, form := byteAt b 7, usage := le b 4 2, worlds := byteAt b 3,
    lcMask := byteAt b 6, masters := 2, graftPrf := 0, expClass := expClassOf e, exponent := e, owner := carriage, materialLen := m.length, shareList := [],
    versionTime := 0, versionDevice := 0, slot := 0, lowThreshold := 0, materialHash := sha3 m, replaceCount := 0 }

/-- Opens an external object of a carriage under the key of its epoch: FORMAT, CARRIAGE, epoch, length, TAG and KWP check (R280). -/
def openWith (key : Nat → Option Bytes) (carriage : Nat) (b : Bytes) : Option (SlotHeader × Bytes) :=
  let n := le b 0x0C 4
  match key (le b 0x10 4) with
  | none => none
  | some kc =>
    let body := b.take (0x40 + n)
    if byteAt b 0 == 1 && le b 8 2 == carriage && n ≤ 2097152 && b.length == n + 80 && slice b (0x40 + n) 16 == kmac (keyM kc) body 16 "ZMOBJ1"
        && Config.stdHolds .kwpOk 32 [keyW kc, slice b 0x18 40] then
      let cek := std .kwpUnwrap 32 [keyW kc, slice b 0x18 40] 32
      let m := aesCtr cek zeroBlock (slice b 0x40 n)
      some (objectHeader b m carriage, m)
    else none

/-- Opens an external object under the keys that a carriage holds now (R280, R281). -/
def State.openObject (s : State) (carriage : Nat) (b : Bytes) : Option (SlotHeader × Bytes) :=
  (s.carriage? carriage).bind fun c => openWith c.epochKey carriage b

/-- A failed external object: source 181 at most once per 1 ms (R280, R301). -/
def State.objectFailure (s : State) : State :=
  let n := s.cellar.tagEvent.1 + 1
  if due1ms s.cellar.tagEvent.2 s.clock.now then ({ s with cellar.tagEvent := (0, some s.clock.now) }).raise 181 [n]
  else { s with cellar.tagEvent := (n, s.cellar.tagEvent.2) }

/-- The object at an offset of a carriage's memory, by the length its header gives; none where it does not translate (R280). -/
def Carriage.objectAt (c : Carriage) (off : Nat) : Option Bytes :=
  let limit := c.params.memSize * 4096
  let n := le (c.mem.readBytes off 64) 0x0C 4
  if off + 80 ≤ limit && n ≤ 2097152 && off + n + 80 ≤ limit then some (c.mem.readBytes off (n + 80)) else none

/-- Wraps material for the job's carriage, under R561. -/
def State.wrapFor (s : State) (carriage : Nat) (a : ObjectAttrs) (cek material : Bytes) : Bytes :=
  match s.carriage? carriage with
  | some c => wrapObject a carriage c.key cek material
  | none => wrapObject a carriage (0, zeros 32) cek material

/-- The key for a WRAP_EPOCH among those that a job took at step 10 (R281, R293). -/
def keptKey (k : (Nat × Bytes) × Option (Nat × Bytes)) (epoch : Nat) : Option Bytes :=
  if k.1.1 == epoch then some k.1.2 else k.2.bind fun p => if p.1 == epoch then some p.2 else none

/-- Wraps material under the K_C that the job's step 10 found (R281, R293). -/
def State.jobWrap (s : State) (j : Job) (a : ObjectAttrs) (cek material : Bytes) : Bytes :=
  match j.wrapKeys with
  | some k => wrapObject a j.carriage k.1 cek material
  | none => s.wrapFor j.carriage a cek material

/-- Opens an object under the keys that the job's step 10 found (R280, R281, R293). -/
def State.jobOpen (s : State) (j : Job) (b : Bytes) : Option (SlotHeader × Bytes) :=
  match j.wrapKeys with
  | some k => openWith (keptKey k) j.carriage b
  | none => s.openObject j.carriage b

/-- The oversized part of a record: absent, or under an epoch that has been destroyed, it is none (R277, R281). -/
def State.oversizedPart (s : State) (r : SlotRecord) : Option Bytes :=
  (s.cellar.oversized.find? (·.1 == r.index)).bind fun x => (s.openObject r.header.owner x.2).map (·.2)

end Sys2Proof.Machine
end

