-- ==== Sys2Proof/Machine/Engine.lean ====
section
/-!
DEFINITION. Engines: domains, service, teams, the scheduler's choice, banks, and the passage of time over the waiting jobs
(01 R15, R16, R19, R22; 02 R61; 03 R84 to R86; 06 R163, R165; 07 R209, R210; 08 R241; 10 R317; 14 R427 to R429).
-/
namespace Sys2Proof.Machine

/-- The engines of a pool. -/
def State.pool (s : State) (p : Pool) : List Engine :=
  match p with
  | .press => s.engines.tiles
  | .cooper => s.engines.coopers
  | .sha2 => s.engines.sha2
  | .keccak => s.engines.keccak
  | .dray => s.engines.drays
  | .drbg | .control | .noEngine => []

/-- Replaces the engines of a pool. -/
def State.setPool (s : State) (p : Pool) (l : List Engine) : State :=
  match p with
  | .press => { s with engines.tiles := l }
  | .cooper => { s with engines.coopers := l }
  | .sha2 => { s with engines.sha2 := l }
  | .keccak => { s with engines.keccak := l }
  | .dray => { s with engines.drays := l }
  | .drbg | .control | .noEngine => s

/-- Changes engine `i` of a pool. -/
def State.modEngine (s : State) (p : Pool) (i : Nat) (g : Engine → Engine) : State := s.setPool p ((s.pool p).modify i g)

/-- Power domain of an engine (R15). -/
def engineDomain (p : Pool) (i : Nat) : Nat :=
  match p with
  | .press => i + 4
  | .cooper => 36 + i / 16
  | .sha2 => 40 + i / 96
  | .keccak => 40 + i / 32
  | .dray => 42 + i / 4
  | .drbg | .control | .noEngine => 1

/-- A power domain is on (R541). -/
def State.domainOn (s : State) (d : Nat) : Bool := s.power.domains.contains d

/-- An engine reserved for Express (R19). -/
def State.expressEngine (s : State) (p : Pool) (i : Nat) : Bool :=
  match p with
  | .cooper => s.engines.reservedCoopers.contains i
  | .dray => s.engines.reservedDray == some i
  | _ => false

/-- An engine is in service (R86, R210, R241). -/
def State.inService (s : State) (p : Pool) (i : Nat) : Bool :=
  match (s.pool p)[i]? with
  | none => false
  | some e => s.domainOn (engineDomain p i) && !e.offline && !e.kat && !s.expressEngine p i

/-- Indices of the engines in service in a pool. -/
def State.servicing (s : State) (p : Pool) : List Nat := (List.range (s.pool p).length).filter (s.inService p)

/-- Pieces of 8 of a list, whole ones only: the teams of a half (R163). -/
def eights : Nat → List Nat → List (List Nat)
  | 0, _ => []
  | fuel + 1, l => if l.length < 8 then [] else l.take 8 :: eights fuel (l.drop 8)

/-- Cores of one kind in a half (R15). -/
def halfSize (p : Pool) : Nat := if p == .sha2 then 96 else 32

/-- What the scheduler can give a job to: single engines, or teams of 8 healthy cores of one half (R84, R163). -/
def State.units (s : State) (p : Pool) (team : Bool) : List (List Nat) :=
  let up := s.servicing p
  if (p == .sha2 || p == .keccak) && team then
    let n := halfSize p
    eights 12 (up.filter fun i => i < n) ++ eights 12 (up.filter fun i => n ≤ i)
  else up.map fun i => [i]

/-- Classes 0x06 to 0x08 run on teams, class 0x09 on one core (R163). -/
def opTeam (op : Op) : Bool := 6 ≤ opClass op && opClass op ≤ 8

/-- Some engine of the pool is in service; the control complex, the DRBG and no engine always count (R61). -/
def State.poolUp (s : State) (p : Pool) (team : Bool) : Bool :=
  match p with
  | .press | .cooper | .sha2 | .keccak | .dray => !(s.units p team).isEmpty
  | .drbg | .control | .noEngine => true

/-- The job whose part occupies a bank still runs there, before its commit point. -/
def State.bankRuns (s : State) (b : Bank) : Bool :=
  match b with
  | .job id part =>
    match s.job? id with
    | some j => (match j.parts[part]? with | some q => !q.committed | none => false)
    | none => false
  | .expanding id => match s.job? id with | some j => j.phase == .expand | none => false
  | .free | .wiping => false

/-- The bank that the engine can give to a job now: a tile runs one job at a time (R84, R209, R241). -/
def State.freeBank (s : State) (p : Pool) (i : Nat) : Option Nat :=
  match (s.pool p)[i]? with
  | none => none
  | some e =>
    if p == .press && e.banks.any s.bankRuns then none
    else e.banks.findIdx? (· == .free)

/-- Order of the last dispatch of a unit. -/
def State.unitLast (s : State) (p : Pool) (u : List Nat) : Nat :=
  (u.map fun i => match (s.pool p)[i]? with | some e => e.lastDispatch | none => 0).foldl max 0

/-- Among the units that are free, the one longest without a dispatch, the first among equals (R86, R165, R210, R241). -/
def State.chooseUnit (s : State) (p : Pool) (team : Bool) : Option (List Nat) :=
  let free := (s.units p team).filter fun u => u.all fun i => (s.freeBank p i).isSome
  free.foldl (fun best u =>
    match best with
    | none => some u
    | some b => if s.unitLast p u < s.unitLast p b then some u else some b) none

/-- Gives a part of a job to a unit: its banks are taken and the dispatch is counted; `g` loads what a bank receives. -/
def State.occupy (s : State) (p : Pool) (u : List Nat) (id part : Nat) (g : Nat → Engine → Engine) : State :=
  let n := s.engines.dispatches + 1
  let s := { s with engines.dispatches := n }
  u.foldl (fun s i =>
    let b := (s.freeBank p i).getD 0
    s.modEngine p i fun e => { g b e with banks := e.banks.set b (.job id part), lastDispatch := n }) s

/-- The banks that satisfy `p` end their work: the mask generator and the sequencer that served one are reset, the banks are left as `after`, and what a bank
holds is zeroed at once unless it is to be wiped (R85, R170, R209, R242). -/
def Engine.endWork (e : Engine) (p : Bank → Bool) (after : Bank) : Engine :=
  let mine := match e.seq with | some q => p (.job q.job.1 q.job.2) || p (.expanding q.job.1) | none => false
  if !e.banks.any p then e
  else { e with
    banks := mapIf p (fun _ => after) e.banks
    mask := if mine then none else e.mask
    seq := if mine then none else e.seq
    contents := if after == .free then e.contents.filter fun x => !(e.banks[x.1]?).any p else e.contents }

/-- Frees the banks that a part of a job holds, leaving them as `after`. -/
def State.freeBanks (s : State) (p : Pool) (id part : Nat) (after : Bank) : State :=
  s.setPool p ((s.pool p).map fun e => e.endWork (· == .job id part) after)

/-- The tiles on which the expansion that a job waits for runs are freed. -/
def State.freeExpansion (s : State) (id : Nat) : State :=
  s.setPool .press ((s.pool .press).map fun e => e.endWork (· == .expanding id) .wiping)

/-- State of a bank once its job has ended: tiles and Cooper engines wipe, hash cores and Drays are zeroed at once (R85, R170, R209,
R242). -/
def afterJob (p : Pool) : Bank := if p == .press || p == .cooper then .wiping else .free

/-- The job has passed step 11 and is not dispatched (R61). -/
def JobPhase.waits (x : JobPhase) : Bool :=
  match x with
  | .fetch | .expand | .waitChunk | .waitTree | .ready => true
  | .unknown | .waitRecord | .waitJournal | .waitBook | .running | .computed | .staged | .batch => false

/-- The job is not yet dispatched (R317). -/
def JobPhase.undispatched (x : JobPhase) : Bool :=
  match x with
  | .unknown | .waitRecord | .waitJournal | .waitBook => true
  | x => x.waits

/-- The job waits in the scheduler: one of its parts has no engine (R61, R132). -/
def Job.waitsEngine (j : Job) : Bool := j.phase.waits || (j.phase == .running && j.parts.any fun q => q.engine.isNone)

/-- Time passes for a waiting job: the counts of R61 and R317. -/
def State.ageJob (s : State) (dt : Nat) (j : Job) : Job :=
  let team := match j.op with | some o => opTeam o | none => false
  let none' := j.waitsEngine && j.parts.any fun q => q.engine.isNone && !s.poolUp q.pool team
  { j with noEngineNs := j.noEngineNs + (if none' then dt else 0),
           entropyNs := j.entropyNs + (if j.phase.undispatched || j.parts.any (·.waits) then dt else 0) }

/-! ### Vintages and patches (R37, R104 to R108) -/

/-- Engines of a microcode kind are the engines of a pool (R104). -/
def kindPool (k : MicroKind) : Pool := match k with | .press => .press | .cooper => .cooper | .dray => .dray

/-- The vintage register of a microcode kind (R37). -/
def State.vintage (s : State) (k : MicroKind) : Vintage :=
  match k with | .press => s.engines.press | .cooper => s.engines.cooper | .dray => s.engines.dray
/-- Changes the vintage register of a kind. -/
def State.setVintage (s : State) (k : MicroKind) (v : Vintage) : State :=
  match k with
  | .press => { s with engines.press := v }
  | .cooper => { s with engines.cooper := v }
  | .dray => { s with engines.dray := v }

/-- An engine is powered and may carry a patch; an offline one takes no part until the next reset (R95, R105; DEDUCED, log entry 94). -/
def State.patchable (s : State) (p : Pool) (i : Nat) : Bool :=
  match (s.pool p)[i]? with | some e => s.domainOn (engineDomain p i) && !e.offline | none => false

/-- The patch words that are verified: while a patch is loaded, those before it (R106). -/
def Vintage.verified (v : Vintage) : Bytes := if v.patchState == .loaded then v.oldPatch else v.patch

/-- At a job boundary an engine that a failed patch takes back changes its store (R105, R106). -/
def Engine.settleImage (e : Engine) (v : Vintage) : Engine := if e.reverting then { e with reverting := false, image := v.verified } else e

/-- At its job boundary an engine goes back from a failed patch, and while a patch of the kind is loaded, one that has not switched starts
its known-answer test (R105, R106). -/
def State.startKats (s : State) (k : MicroKind) : State :=
  let p := kindPool k
  let v := s.vintage k
  let begin (e : Engine) (i : Nat) : Engine :=
    if e.banks.any s.bankRuns then e
    else
      let e := e.settleImage v
      if v.patchState == .loaded && s.patchable p i && !e.switched then { e with kat := true } else e
  s.setPool p ((s.pool p).zipIdx.map fun (e, i) => begin e i)

/-- The tests that can start, for every kind. -/
def State.kats (s : State) : State := ((s.startKats .press).startKats .cooper).startKats .dray

/-- Every engine of the kind in a powered domain has switched, and one has (R105). -/
def State.allSwitched (s : State) (k : MicroKind) : Bool :=
  let p := kindPool k
  (s.pool p).any (·.switched) && (s.pool p).zipIdx.all fun (e, i) => e.switched || !s.patchable p i

/-- A loaded patch that every powered engine runs is verified (R105, R108). -/
def State.verifyPatch (s : State) (k : MicroKind) : State :=
  let v := s.vintage k
  if v.patchState == .loaded && s.allSwitched k then
    (s.setPool (kindPool k) ((s.pool (kindPool k)).map fun e => { e with kat := false, switched := false })).setVintage k
      { v with patchState := .verified }
  else s

/-- The patches of every kind, after engines have left service. -/
def State.verifyPatches (s : State) : State := ((s.verifyPatch .press).verifyPatch .cooper).verifyPatch .dray

/-- The kind of microcode that a pool's engines run. -/
def poolKind (p : Pool) : Option MicroKind :=
  match p with | .press => some .press | .cooper => some .cooper | .dray => some .dray | _ => none

/-- The test of an engine at the power-on of its domain, against the image verified: it loads that image, and the test passes (R104, R105,
step 4 of R32; DESIGN CHOICE, log entry 94). -/
def State.powerTest (s : State) (x : Pool × Nat) : State :=
  match poolKind x.1 with
  | some k => s.modEngine x.1 x.2 fun e => { e with image := (s.vintage k).verified, reverting := false, switched := false, kat := false }
  | none => s

/-! ### Time states (R428, R429) -/

/-- TIME_STATE codes (R428). -/
def timeCode (x : TimeState) : Nat := match x with | .unsynced => 0 | .locked => 1 | .holdover => 2 | .ahead => 3

/-- The time state becomes `x`: the consecutive counts start again, and a change raises source 216 (R428). -/
def State.setTime (s : State) (x : TimeState) : State :=
  let old := s.clock.timeState
  let s := { s with clock.timeState := x, clock.syncsAhead := 0, clock.syncsBehind := 0, clock.syncsWithin := 0 }
  if old == x then s else s.raise 216 [timeCode x, timeCode old, s.clock.lastMaster % 2 ^ 32]

/-- LOCKED: a lead is no longer absorbed. -/
def State.lockTime (s : State) : State := ({ s with clock.reduced := false }).setTime .locked

/-- The master's time at its last Sync, advanced at the held frequency, has reached Train time (R428). -/
def Clock.reached (c : Clock) : Bool :=
  match c.lastSync with
  | some (at', m) => c.train ≤ m + (c.now - at')
  | none => false

/-- AHEAD ends when the master's time reaches Train time: LOCKED (R428; DEDUCED, log entry 60). -/
def State.caughtUp (s : State) : State := if s.clock.timeState == .ahead && s.clock.reached then s.lockTime else s

/-- The instant `t` is reached: the clock, Train time and its mark, and the end of AHEAD, and the counts of waiting jobs, which
stand still in Hold (R61, R317, R427, R428). -/
def State.advance (s : State) (t : Nat) : State :=
  let dt := t - s.clock.now
  let jobs := if s.power.mode == .hold || dt == 0 then s.fabric.jobs else s.fabric.jobs.map (s.ageJob dt)
  let s := { s with clock := { s.clock.pass dt with now := max s.clock.now t }, fabric.jobs := jobs }
  if s.clock.running then s.ensureMark.caughtUp else s

end Sys2Proof.Machine
end

