-- ==== Sys2Proof/Machine/Release.lean ====
section
/-!
DEFINITION. The end of a job: its Book entries, its output and trailer, its completion, and what its release frees (02 R59 to R79;
09 R294 to R296; 11 R332).
-/
namespace Sys2Proof.Machine

/-- The job belongs to an earlier generation of its carriage (R332). -/
def State.stale (s : State) (j : Job) : Bool :=
  4 ≤ j.passed && (match s.carriage? j.carriage with | some c => c.gen != j.gen | none => true)

/-- Class 0x11 operations that append a KEY_CHANGE entry (R295). -/
def opKeyChange (op : Option Op) : Bool :=
  match op with
  | some .kmPublicGet | some .kmInfo => false
  | some o => opClass o == 0x11
  | none => false

/-- A key carries LOG_REQUIRED (R274). -/
def keyLogs (k : Option JobKey) : Bool := match k with | some k => hasUsage k.header.usage "logRequired" | none => false

/-- The job is logged: LOG, or a LOG_REQUIRED key (R274, R295). -/
def Job.logs (j : Job) : Bool := entLog j.entry || keyLogs j.key || keyLogs j.transport

/-- The job's input is an array of records: BATCH, or class 0x0F, whose output has the form of a batch (R75, R258). -/
def Job.array (j : Job) : Bool := j.parent.isNone && (entBatch j.entry || (match j.op with | some o => opClass o == 0x0F | none => false))

/-- Record size of the job's array (R75). -/
def Job.recordSize (j : Job) : Nat :=
  match j.op with | some o => opRecordSize o j.param j.aux j.kind | none => 0

/-- Records of the job's array. -/
def Job.records (j : Job) : Nat := entRecords j.entry j.recordSize

/-- Output slot of one record (R135, R161, R178, R237, R256, R259). -/
def Job.recordOut (j : Job) : Nat :=
  match j.op with | some o => (opOut o j.param j.aux j.kind j.recordSize).getD 0 | none => 0

/-- KEY_FP of an entry: 0 for kind none and grafts (R294). -/
def Job.fingerprint (j : Job) : Bytes :=
  match j.key with
  | some k => if k.kind == .graft then [] else k.header.materialHash
  | none => []

/-- A Book entry of kind JOB or RECORD (R294). -/
def Job.bookEntry (j : Job) (kind : Nat) : BookFields :=
  { kind := kind, retried := j.retried, status := statusCode j.status, opcode := le j.entry 0 2, param := j.param, keyRef := j.keyRef,
    submitSeq := j.seq, carriage := j.carriage, queue := j.queue, record := j.recIndex, fp := j.fingerprint, detail := j.leaf.getD 0,
    subject := sha3 j.input }

/-- The KEY_CHANGE entry of a class 0x11 job (R294, R560). -/
def State.jobKeyChange (s : State) (j : Job) : BookFields :=
  let r := if j.op == some .kmDestroy && j.status == .success then none else j.target.bind s.slotRecord?
  { kind := 3, status := statusCode j.status, opcode := le j.entry 0 2, param := j.param,
    keyRef := (match j.target with | some n => 2 ^ 30 + n | none => 0), submitSeq := j.seq, carriage := j.carriage, queue := j.queue,
    fp := (match r with | some x => x.header.materialHash | none => []),
    detail := j.keyRef + (match r with | some x => x.index | none => 0) * 2 ^ 32, subject := sha3 j.input }

/-- Book places of the job's own entries: KEY_CHANGE, and JOB with LOG (R297); `open'` tells whether a Book is kept. -/
def Job.placesNeeded (j : Job) (open' : Bool) : Nat :=
  if !open' then 0
  else (if opKeyChange j.op then 1 else 0) + (if j.logs then (if entBatch j.entry then j.records else 1) else 0)

/-- The Book has closed for Debug since the job passed step 11: nothing of it can be logged (R78, R506). -/
def State.unloggable (s : State) (j : Job) : Bool := 0 < j.bookPlaces && s.book.closed && j.logs

/-- Appends the job's entries in the places it reserved; answers whether a JOB or RECORD entry was appended (R296). Held entries take the
places that it gives back (R563). -/
def State.appendJob (s : State) (j : Job) : State × Bool :=
  if j.bookPlaces == 0 then (s, false)
  else if s.book.closed then ({ s with book.reserved := s.book.reserved - j.bookPlaces }, false)
  else
    let before := s.bookUsed
    let change := opKeyChange j.op && j.parent.isNone
    let (s, left) := if change then (s.appendReserved (s.jobKeyChange j), j.bookPlaces - 1) else (s, j.bookPlaces)
    let (s, logged) := if 0 < left then (s.appendReserved (j.bookEntry (if j.parent.isSome then 2 else 1)), true) else (s, false)
    let s := ({ s with book.reserved := s.book.reserved - (left - 1) }).tailEvent before
    (s.appendHeld s.book.held.length, logged)

/-- Places bytes in the job's output area (R44). -/
def State.placeOutput (s : State) (j : Job) (off : Nat) (data : Bytes) : State :=
  if data.isEmpty then s
  else
    let a := entOutAddr j.entry
    if addrHost a then
      match s.queue? j.queue with
      | some q => s.post q.conn (.write q.conn (entOutKey j.entry) (addrOffset a + off) data)
      | none => s
    else s.modCarriage j.carriage fun c => { c with mem := c.mem.writeBytes (addrOffset a + off) data }

/-- The queue places nothing any more: BROKEN, absent, or its connection has left the ready state (R80, R395). -/
def State.queueDead (s : State) (q : Nat) : Bool :=
  match s.queue? q with
  | none => true
  | some x => x.state == .broken || (match s.conn? x.conn with | some k => !k.ready | none => true)

/-- Writes the completion entry and the NOTIFY SEND (R65 to R69). -/
def State.complete (s : State) (j : Job) (written : Nat) (logged : Bool) : State :=
  match s.queue? j.queue with
  | none => s
  | some q =>
    match s.cring? q.cr with
    | none => s
    | some r =>
      let k := r.count
      let s := s.modCring q.cr fun r => { r with count := (k + 1) % 2 ^ 32, reserved := r.reserved - 1 }
      let c := completionBytes (entTag j.entry) j.status (phaseBit k r.size) (cflags j.retried logged s.holdover) written j.seq
        s.clock.train (tSpan s.clock.train j.tConsume) j.queue s.deviceIndex
      let s := s.post r.conn (.write r.conn r.rkey (r.base + k % r.size * 32) c)
      if entNotify j.entry then s.post r.conn (.send r.conn c) else s

/-- Frees the completion slot that a job reserved, with no completion (R67, R332, R80). -/
def State.unreserve (s : State) (q : Nat) : State :=
  match s.queue? q with
  | some x => s.modCring x.cr fun r => { r with reserved := r.reserved - 1 }
  | none => s

/-- The last start of an engine for the job, of the Press part in a hybrid job, or for a record of its batch (R70, R132). -/
def Job.lastStart (j : Job) : Option Nat :=
  let hybrid := match j.op with | some o => opClass o == 3 | none => false
  let starts := ((if hybrid then j.parts.take 1 else j.parts).filter (·.pool != .control)).filterMap (·.tDispatch)
  if starts.isEmpty then j.recordStart else some (starts.foldl max (j.recordStart.getD 0))

/-- T_DISPATCH of the trailer: the last start of an engine, or T_DONE for a job that reached none (R70, R132). -/
def Job.tDispatch (j : Job) (done : Nat) : Nat := j.lastStart.getD done

/-- The later of two instants, either of which may be absent. -/
def laterStart (a b : Option Nat) : Option Nat :=
  match a, b with
  | some x, some y => some (max x y)
  | some x, none => some x
  | none, y => y

/-- Status entries of a batch in record order (R76). -/
def Job.statusEntries (j : Job) : Bytes :=
  let n := j.records
  ((List.range n).map fun i =>
    match j.results.find? (·.1 == i) with
    | some (_, st, out, retried, logged) =>
      recordStatusBytes i st out.length (n * 16 + i * j.recordOut) (rflags retried logged)
    | none => recordStatusBytes i .success 0 (n * 16 + i * j.recordOut) 0).flatten

/-- STATUS of a batch: SUCCESS, or the status of the lowest failed record (R79). -/
def Job.batchStatus (j : Job) : Status :=
  match ((List.range j.records).filterMap fun i => (j.results.find? (·.1 == i)).map (·.2.1)).find? (· != .success) with
  | some st => st
  | none => .success

/-- Frees every bank that a job's parts hold. -/
def State.freeJobBanks (s : State) (id : Nat) : State :=
  match s.job? id with
  | none => s
  | some j => ((j.parts.zipIdx).foldl (fun s (q, i) => s.freeBanks q.pool id i (afterJob q.pool)) s).freeExpansion id

/-- Removes a job from every list that names it, and frees what only it used. -/
def State.dropJob (s : State) (id : Nat) : State :=
  let s := s.freeJobBanks id
  ({ s with
    fabric.jobs := s.fabric.jobs.filter fun j => j.id != id && j.parent != some id
    rng.waiting := s.rng.waiting.filter (·.1 != id)
    cellar.recordQueue := s.cellar.recordQueue.filter fun x => x != RecordWaiter.job id }).sweepRecords

/-- The job's output area, in module memory, cannot be written (R63). -/
def Job.areaLost (j : Job) : Bool := j.placeFault && !addrHost (entOutAddr j.entry)

/-- Step 15 of R59 for a job or record: an area in module memory that cannot be written leaves nothing placed (R63). -/
def Job.placing (j : Job) : Job :=
  if j.areaLost && (!j.output.isEmpty || j.trailer || j.array) then
    { j with status := if j.status == .success then .outputPlaceError else j.status, output := [], trailer := false }
  else j

/-- Releases an entry's job at this instant: Book entries, then output, trailer and completion, unless its generation has passed or
its queue is BROKEN (R20, R60, R65, R70, R296, R332). -/
def State.releaseJob (s : State) (id : Nat) : State :=
  match s.job? id with
  | none => s
  | some j =>
    let s := s.ensureMark
    let j := if s.unloggable j && !entBatch j.entry then { j with status := .bookFull, output := [], trailer := false } else j
    let batch := j.array && j.phase == .staged
    let j := (if batch then { j with status := j.batchStatus } else j).placing
    let (s, logged) := s.appendJob j
    let logged := logged || (batch && j.logs && j.results.all fun r => r.2.2.2.2)
    let retried := j.retried || j.results.any fun r => r.2.2.2.1
    let j := { j with retried := retried }
    let s :=
      if s.stale j then
        (s.unreserve j.queue).modCarriage j.carriage fun c => { c with dropped := satAdd 64 c.dropped 1 }
      else if s.queueDead j.queue then
        (s.unreserve j.queue).modQueue j.queue fun q => { q with discarded := q.discarded + 1 }
      else
        let out := if batch && !j.areaLost then j.statusEntries else j.output
        let extra := if batch && !j.areaLost then (j.results.map fun r => r.2.2.1.length).sum else 0
        let s := s.placeOutput j 0 out
        let tr := if j.trailer then trailerBytes j.tConsume (j.tDispatch s.clock.train) else []
        let s := s.placeOutput j (entOutLen j.entry - 16) tr
        let written := if j.status == .bufferTooSmall then j.required else out.length + extra + tr.length
        s.complete j written logged
    s.dropJob id

/-- Ends a job before any engine took it, with a status and no output; `trailer` where the rule places one (R60, R64, R70). -/
def State.failJob (s : State) (id : Nat) (st : Status) (trailer : Bool) : State :=
  (s.modJob id fun j => { j with status := st, output := [], trailer := trailer && entTs j.entry, phase := .computed }).releaseJob id

/-- Ends a job whose output area is too small, naming the bytes required (R60, R559). -/
def State.failBuffer (s : State) (id need : Nat) : State :=
  (s.modJob id fun j => { j with required := need }).failJob id .bufferTooSmall false

/-- Releases one record of a batch: its Book entry, its output and its status entry; with the last record the batch is ready to
release (R76 to R79). -/
def State.releaseRecord (s : State) (id : Nat) : State :=
  match s.job? id with
  | none => s
  | some j =>
    match j.parent.bind s.job? with
    | none => s.dropJob id
    | some p =>
      let j := (if s.unloggable j then { j with status := .bookFull, output := [] } else j).placing
      let (s, logged) := s.ensureMark.appendJob j
      let s :=
        if s.stale j || s.queueDead j.queue then s
        else s.placeOutput p (p.records * 16 + j.recIndex * p.recordOut) j.output
      let s := s.modJob p.id fun p =>
        { p with results := p.results ++ [(j.recIndex, j.status, j.output, j.retried, logged)],
                 recordStart := laterStart p.recordStart j.lastStart }
      let s := s.dropJob id
      if s.fabric.jobs.any fun x => x.parent == some p.id then s
      else s.modJob p.id fun p => { p with phase := .staged, trailer := entTs p.entry }

/-- Releases a job or a record. -/
def State.release (s : State) (id : Nat) : State :=
  match s.job? id with
  | none => s
  | some j => if j.parent.isSome then s.releaseRecord id else s.releaseJob id

/-- Ends a job or a record, which reached no engine, with a status. -/
def State.failAny (s : State) (id : Nat) (st : Status) (trailer : Bool) : State :=
  (s.modJob id fun j => { j with status := st, output := [], trailer := trailer && entTs j.entry, phase := .computed }).release id

end Sys2Proof.Machine
end

