-- ==== Sys2Proof/Machine/Drbg.lean ====
section
/-!
DEFINITION. Draws from the DRBG, its failure, and the randomness of each operation (10 R313 to R318; 04 R134; 05 R160; 06 R198;
07 R213, R236; 08 R266; 09 R562).
-/
namespace Sys2Proof.Machine

/-! ### What each operation draws at dispatch -/

/-- Lengths of the operation's own random bytes: those of the randomness tables, for GENERATE the longest. The fixed number of Classic
McEliece's sampler is four bytes for each place of the vector (DESIGN CHOICE, log entry 96); an X448 key draws 57 bytes, as its row of R236 says
(DEDUCED, log entry 97). -/
def opOwnBytes (op : Op) (p : Nat) (aux : BitVec 64) : Nat :=
  let det := aux.getLsbD 0
  match op with
  | .mlKemKeygen => 64
  | .mlKemEncaps => 32
  | .mlDsaKeygen => 32
  | .mlDsaSign | .mlDsaSignPrehash | .mlDsaSignMu => if det then 0 else 32
  | .hybridInitKeygen => 96
  | .hybridRespond => 64
  | .hqcKeygen => hqcSeed p
  | .hqcEncaps => hqcM p + 16
  | .mcelieceKeygen => 32
  | .mcelieceEncaps => 4 * mceN p
  | .mceliecePkCache => 2
  | .slhDsaKeygen => 3 * slhN p
  | .slhDsaSign | .slhDsaSignPrehash => if det then 0 else slhN p
  | .lmsKeygen => 48
  | .xmssKeygen => 96
  | .hashOpen => 1
  | .ecdsaKeygen => ecL p + 8
  | .ecdsaSign => if det then 0 else 32
  | .eddsaKeygen => edPub p
  | .ecdhKeygen => if p == 0x10 then 32 else if p == 0x11 then 57 else ecL p + 8
  | .rsaKeygen => rsaK p
  | .rsaSignPss => auxSaltLabel aux
  | .rsaEncryptOaep => preHashLen (auxPhAlg aux)
  | .gcmEncrypt | .chachaEncrypt => if auxIvGen aux then 12 else 0
  | .ccmEncrypt => if auxIvGen aux then auxNonceLen aux else 0
  | .quote => 64
  | .rngGenerate => bitsOf aux 0 32
  | .kmGenerate => 2048
  | _ => 0

/-- The routine is blinded, so it draws even when it needs no bytes of its own (R213, R236), or it draws for its own calls
(R286, R289, R321). -/
def opAlwaysDraws (op : Op) : Bool :=
  match op with
  | .ecdsaKeygen | .ecdsaSign | .eddsaKeygen | .eddsaSign | .ecdhKeygen | .ecdhDerive | .rsaKeygen | .rsaSignPkcs1 | .rsaSignPss
  | .rsaDecryptOaep | .hybridInitKeygen | .hybridRespond | .hybridInitFinish | .quote | .rngGenerate | .kmGenerate | .kmImport => true
  | _ => false

/-- The operation places an external wrapped object and draws its CEK (R562). -/
def opWraps (op : Op) (aux : BitVec 64) : Bool :=
  match op with
  | .mlKemKeygen | .mlDsaKeygen | .hybridInitKeygen | .hqcKeygen | .mcelieceKeygen | .slhDsaKeygen | .ecdsaKeygen | .eddsaKeygen
  | .ecdhKeygen | .rsaKeygen | .kmExport | .kmRewrap | .kmGenerate | .kmImport => true
  | .mlKemEncaps | .mlKemDecaps | .hybridRespond | .hybridInitFinish | .hqcEncaps | .hqcDecaps | .mcelieceEncaps | .mcelieceDecaps
  | .ecdhDerive | .rsaDecryptOaep => aux.getLsbD 0
  | _ => false

/-- The operation draws at dispatch, mask seeds apart. -/
def opDraws (op : Op) (p : Nat) (aux : BitVec 64) : Bool :=
  0 < opOwnBytes op p aux || opAlwaysDraws op || opWraps op aux

/-- Bytes drawn at dispatch: the operation's own, then the 32-byte CEK. -/
def opDrawLen (op : Op) (p : Nat) (aux : BitVec 64) : Nat :=
  opOwnBytes op p aux + (if opWraps op aux then 32 else 0)

/-- The draw needs fresh entropy: PRED_RES (R317, R320). -/
def opFresh (op : Op) (aux : BitVec 64) : Bool := op == .rngGenerate && aux.getLsbD 32

/-- Generate calls of a draw (R314). -/
def opCalls (op : Op) (aux : BitVec 64) : Nat :=
  if op == .rngGenerate then (bitsOf aux 0 32 + 65535) / 65536 else 1

/-- The job's own random bytes, and its CEK. -/
def Job.own (j : Job) : Bytes :=
  match j.op with | some o => j.rand.take (opOwnBytes o j.param j.aux) | none => []
def Job.cek (j : Job) : Bytes :=
  match j.op with | some o => slice j.rand (opOwnBytes o j.param j.aux) 32 | none => []

/-! ### Draws (R317) -/

/-- What becomes of a draw. -/
inductive Draw where
  | served
  | waits
  | failed
  deriving DecidableEq, Repr

/-- The fate of a draw in the present DRBG state (R317). -/
def State.drawFate (s : State) (fresh : Bool) : Draw :=
  match s.rng.state with
  | .unseeded | .reseedDue => .waits
  | .failed | .blocked => .failed
  | .seeded =>
    if !fresh then .served
    else if s.rng.fatal then .failed
    else if 2 ≤ s.rng.ready.length then .served
    else .waits

/-- Reseeds from two blocks of the buffer (R314, R317). -/
def State.reseed (s : State) : State :=
  { s with
    rng.state := .seeded
    rng.seed := std .drbg 1 (s.rng.seed :: s.rng.ready.take 2) 48
    rng.ready := s.rng.ready.drop 2
    rng.calls := 0
    rng.reseedAt := s.clock.now
    rng.reseeds := min (s.rng.reseeds + 1) 0xFFFFFFFF }

/-- The known-answer test before the reseed of a draw that needs fresh entropy passes; its outcome is FREE (R314, R317, log entry 72). -/
def State.freshKat (s : State) : Bool := Config.stdHolds .drbg 2 [toLe 8 s.rng.reseeds, toLe 8 s.rng.reseedAt, toLe 8 s.rng.draws]

/-- Serves a draw: its number, after a reseed of its own where it needs fresh entropy (R317). -/
def State.serveDraw (s : State) (fresh : Bool) (calls : Nat) : State × Nat :=
  let s := if fresh then s.reseed else s
  ({ s with rng.draws := s.rng.draws + 1, rng.calls := s.rng.calls + calls }, s.rng.draws)

/-- Bytes the module draws for itself, where the DRBG serves them: none otherwise (R317). -/
def State.drawNow (s : State) (len : Nat) : State × Option Bytes :=
  match s.drawFate false with
  | .served => let (s, n) := s.serveDraw false 1; (s, some (drawBytes n len))
  | .waits | .failed => (s, none)

/-- Serves one draw that waits: its part may be dispatched (R317). -/
def State.giveDraw (s : State) (x : Nat × Nat) (fresh : Bool) (calls : Nat) : State :=
  let (s, n) := s.serveDraw fresh calls
  ({ s with rng.waiting := s.rng.waiting.filter (· != x) }).modJob x.1 fun j =>
    { j with parts := j.parts.modify x.2 fun q => { q with waits := false, draw := some n } }

/-- Completes every job that waits for a draw with ENTROPY_FAILED, and says how many (R316, R318, R325). -/
def State.failWaiting (s : State) (p : Job → Bool) : State × Nat :=
  let ids := (s.rng.waiting.filter fun x => match s.job? x.1 with | some j => p j | none => false).map (·.1) |>.eraseDups
  (ids.foldl (fun s id => s.failAny id .entropyFailed false) { s with rng.waiting := s.rng.waiting.filter fun x => !ids.contains x.1 },
   ids.length)

/-- Discards every mask seed and every other pre-drawn value, and clears RNG_DATA (R318, R325). -/
def State.dropPools (s : State) : State :=
  { s with
    engines.tiles := s.engines.tiles.map fun e => { e with seeds := [] }
    fabric.jobs := s.fabric.jobs.map fun j => { j with parts := j.parts.map fun q => { q with draw := none } }
    rng.seed := []
    rng.data := 0
    rng.valid := false }

/-- Entry into FAILED, in the order of R318. -/
def State.drbgFailed (s : State) : State :=
  let f : State := { s with rng.state := .failed }
  let (s, n) := f.dropPools.failWaiting fun _ => true
  s.raise 164 [n]

/-- A cell stops until the next module reset (R309). -/
def Cell.stop (c : Cell) : Cell := { c with stopped := true, healthy := false, bits := [] }

/-- Every link goes to electrical idle, and the module stays in Boot until reset (R319, R508). -/
def State.holdBoot (s : State) : State :=
  (List.range 8).foldl (fun s p => match s.port? p with | some x => if x.link == .training || x.link == .up then s.setLink p .idle else s | none => s)
    { s with power.bootStuck := true }

/-- The entropy source fails fatally (R313, R316, R319): cells stop, blocks are discarded, FATAL, source 163, nALARM; before the first seed
the module stays in Boot. -/
def State.fatalEntropy (s : State) (cause : Nat) : State :=
  if s.rng.fatal then s else
  let s := if s.power.mode == .boot && s.rng.state == .unseeded then s.holdBoot else s
  let s := { s with
    rng.cells := s.rng.cells.map Cell.stop
    rng.block := []
    rng.ready := []
    rng.fatal := true
    power.alarm := if s.power.alarm.contains 1 then s.power.alarm else s.power.alarm ++ [1] }
  let s := s.raise 163 [cause]
  match s.rng.state with
  | .unseeded | .reseedDue => s.drbgFailed
  | .seeded =>
    if cause == 1 || cause == 2 then
      (s.failWaiting fun j => match j.op with | some o => opFresh o j.aux | none => false).1
    else s.drbgFailed
  | .failed | .blocked => s

/-- Serves the draws that wait at the DRBG, in order, while it can; their jobs may be dispatched again; a failed known-answer test
of a fresh draw is fatal (R316, R317). `fuel` bounds their number. -/
def State.serveWaiting : Nat → State → State
  | 0, s => s
  | fuel + 1, s =>
    match s.rng.waiting with
    | [] => s
    | x :: rest =>
      match s.job? x.1 with
      | none => State.serveWaiting fuel { s with rng.waiting := rest }
      | some j =>
        let (fresh, calls) := match j.op with | some o => (opFresh o j.aux, opCalls o j.aux) | none => (false, 1)
        match s.drawFate fresh with
        | .served => if fresh && !s.freshKat then s.fatalEntropy 3 else State.serveWaiting fuel (s.giveDraw x fresh calls)
        | .waits => s
        | .failed => s

/-- Serves every draw that can be served: those that need fresh entropy wait in arrival order while others pass (R317). -/
def State.serveDraws (s : State) : State :=
  let s := s.serveWaiting s.rng.waiting.length
  s.rng.waiting.foldl (fun s x =>
    match s.job? x.1 with
    | some j =>
      let (fresh, calls) := match j.op with | some o => (opFresh o j.aux, opCalls o j.aux) | none => (false, 1)
      if !fresh && s.drawFate false == .served then s.giveDraw x false calls else s
    | none => s) s

end Sys2Proof.Machine
end

