-- ==== Sys2Proof/Machine/Checks.lean ====
section
/-!
DEFINITION. The checks on a consumed entry, steps 1 to 11 (02 R59, R60, R559; 09 R275, R284; 11 R328, R339, R342).
-/
namespace Sys2Proof.Machine

/-! ### Steps 1 to 8 -/

/-- Step 1 (R59). -/
def step1Ok (e : Bytes) : Bool :=
  entOwn e % 128 == 0 && entFlags e / 64 == 0 && entProcId e / 2 ^ 20 == 0 && allZero (slice e 0x38 6) && !(entBatch e && entInline e)

/-- Step 3: the operation accepts every flag set (R59). -/
def step3Ok (op : Op) (e : Bytes) : Bool :=
  (!entBatch e || opBatch op (entKind e) (entAux e)) && (!entInline e || opInline op (entAux e))

/-- Step 4: the Process Map resolves (connection, PROC_ID) and GEN to a carriage and its generation (R328). -/
def State.resolveProc (s : State) (conn proc gen : Nat) : Option (Nat × Nat) :=
  let exact? := s.fabric.pmap.find? fun x => x.conn == conn && !x.wildcard && x.procId == proc
  let ent := match exact? with | some x => some x | none => s.fabric.pmap.find? fun x => x.conn == conn && x.wildcard
  let ok (c : Carriage) (bind : Nat) : Option (Nat × Nat) :=
    if c.state == .active && c.gen == bind && gen == c.gen % 256 then some (c.number, c.gen) else none
  match ent with
  | some x => (s.carriage? x.carriage).bind fun c => ok c x.bindGen
  | none => (s.carriage? 0).bind fun c => if bit c.params.flags 0 then ok c c.gen else none

/-- Step 6: input length, inline length and record count (R45, R59, R75, R258). -/
def step6Ok (op : Op) (e : Bytes) : Bool :=
  let p := entParam e
  let aux := entAux e
  let k := entKind e
  if entInline e then entInput e ≤ 12 && opLenOk op p aux k (entInput e)
  else
    let size := opRecordSize op p aux k
    if entBatch e then
      let n := entRecords e size
      0 < size && entInLen e % size == 0 && 1 ≤ n && n ≤ 4096 && opLenOk op p aux k size
    else opLenOk op p aux k (entInLen e)

/-- The class 0x09 session that a handle names, whoever opened it (R202). -/
def State.session? (s : State) (h : Nat) : Option HashSession :=
  s.fabric.sessions.find? fun x => x.index == h % 2 ^ 24 && x.check == h / 2 ^ 24

/-- Step 7: bytes that OUT_LEN must cover; none where R559 makes the check later. FINAL takes its length from its session. -/
def State.step7Need (s : State) (j : Job) (op : Op) : Option Nat :=
  let t := entTrailer j.entry
  if j.array then some (j.records * (16 + j.recordOut) + t)
  else if op == .hashFinal then some ((match s.session? (auxHandle j.aux) with | some x => x.outLen | none => 0) + t)
  else (opOut op j.param j.aux j.kind (entInput j.entry)).map (· + t)

/-- Step 8: one area translates for a carriage (R44, R339). -/
def State.translates (s : State) (carriage conn addr key len : Nat) (write : Bool) : Bool :=
  if len == 0 then true
  else match s.carriage? carriage with
    | none => false
    | some c =>
      let off := addrOffset addr
      if addrHost addr then
        key != 0 && c.windows.any fun w =>
          w.rkey == key && w.conn == conn && w.base ≤ off && off + len ≤ w.base + w.length && bit w.access (if write then 1 else 0)
      else key == 0 && off + len ≤ c.params.memSize * 4096

/-- Both areas of an entry translate (step 8 of R59). -/
def State.step8Ok (s : State) (j : Job) (conn : Nat) : Bool :=
  let e := j.entry
  (entInline e || s.translates j.carriage conn (entInAddr e) (entInKey e) (entInLen e) false) &&
  s.translates j.carriage conn (entOutAddr e) (entOutKey e) (entOutLen e) true

/-- Counts a translation fault; source 227 at most once per 1 ms (R339, R346). -/
def State.countTranslation (s : State) (c : Nat) : State :=
  let s := s.modCarriage c fun c => { c with translationFaults := satAdd 32 c.translationFaults 1, faultEvent := (c.faultEvent.1 + 1, c.faultEvent.2) }
  match s.carriage? c with
  | some x =>
    if due1ms x.faultEvent.2 s.clock.now then
      (s.modCarriage c fun y => { y with faultEvent := (0, some s.clock.now) }).raiseFor 227 [c, x.faultEvent.1] c
    else s
  | none => s

/-- Counts a quota refusal; source 226 at most once per 1 ms (R342, R346). -/
def State.countQuota (s : State) (c : Nat) : State :=
  let s := s.modCarriage c fun c => { c with quotaRefusals := satAdd 32 c.quotaRefusals 1, quotaEvent := (c.quotaEvent.1 + 1, c.quotaEvent.2) }
  match s.carriage? c with
  | some x =>
    if due1ms x.quotaEvent.2 s.clock.now then
      (s.modCarriage c fun y => { y with quotaEvent := (0, some s.clock.now) }).raiseFor 226 [c, x.quotaEvent.1] c
    else s
  | none => s

/-- IN_FLIGHT: jobs of the current generation past step 9 and not released (R342, R345). -/
def State.inFlight (s : State) (c : Carriage) : Nat :=
  (s.fabric.jobs.filter fun j => j.parent.isNone && 9 ≤ j.passed && j.carriage == c.number && j.gen == c.gen).length

/-- Open sessions of a carriage's current generation (R202, R342). -/
def State.openSessions (s : State) (c : Carriage) : Nat :=
  (s.fabric.sessions.filter fun x => x.carriage == c.number && x.gen == c.gen).length

/-- OPENs of a carriage past step 9 that have not made their session. -/
def State.pendingOpens (s : State) (c : Carriage) : Nat :=
  (s.fabric.jobs.filter fun j => j.op == some .hashOpen && 9 ≤ j.passed && j.carriage == c.number && j.gen == c.gen &&
    j.phase != .computed && j.phase != .staged).length

/-- Step 9 (R342). -/
def State.step9Ok (s : State) (j : Job) : Bool :=
  match s.carriage? j.carriage with
  | none => false
  | some c =>
    s.inFlight c < c.params.maxInflight &&
    (j.op != some .hashOpen || s.openSessions c + s.pendingOpens c < c.params.sessionQuota)

/-! ### Step 10 -/

/-- World SERVICE in WORLDS [0] (R272, R273). -/
def worldService (h : SlotHeader) : Bool := bit h.worlds 0

/-- Check 3: owner or shared, and the world (R275). -/
def accessOk (h : SlotHeader) (carriage : Nat) : Bool :=
  ((h.owner == carriage && bit h.masters 1) || (h.shareList.contains carriage && bit h.masters 2)) && worldService h

/-- Check 4: life cycle and seal (R275). -/
def State.lcOk (s : State) (h : SlotHeader) : Bool := h.lcMask &&& s.lcBit != 0 && !s.cellar.sealed

/-- Material of a record with its oversized part (R277). -/
def State.wholeMaterial (s : State) (r : SlotRecord) : Bytes :=
  r.material ++ (s.oversizedPart r).getD []

/-- Check 6: an OVERSIZED record has its part present (R275, R277). -/
def State.partPresent (s : State) (r : SlotRecord) : Bool :=
  !r.header.oversized || (s.oversizedPart r).isSome

/-- Resolves a logical slot in the order of R275; `access` is check 3 and `fit` check 5. `prepared` admits PREPARED, `corked` a corked slot,
`part` an absent oversized part. -/
def State.resolveIn (s : State) (idx : Nat) (kind : KeyKind) (prepared corked part : Bool) (access fit : SlotHeader → Bool) :
    State × Except Status JobKey :=
  if idx / 2 ^ 14 != 0 then (s, .error .keyNotFound) else
  match s.slotRecord? idx with
  | none => (s, .error .keyNotFound)
  | some r0 =>
    if r0.header.state == .prepared && !prepared then (s, .error .keyNotFound) else
    let (s, r) := s.fetchRecord r0
    let h := r.header
    if h.state == .corked && !corked then (s, .error .keyCorked)
    else if !access h then (s, .error .keyUseDenied)
    else if !s.lcOk h then (s, .error .keyLifecycleDenied)
    else if !fit h then (s, .error .keyUseDenied)
    else if !part && !s.partPresent r then (s, .error .keyNotFound)
    else (s, .ok ⟨kind, idx, r.index, h, s.wholeMaterial r⟩)

/-- Resolves a logical slot for a work-queue job of a carriage (R275). -/
def State.resolveSlot (s : State) (idx carriage : Nat) (kind : KeyKind) (prepared corked part : Bool) (fit : SlotHeader → Bool) :
    State × Except Status JobKey :=
  s.resolveIn idx kind prepared corked part (fun h => accessOk h carriage) fit

/-- Resolves an external wrapped object at [29:0] x 64 of the carriage's memory (R275, R280). -/
def State.resolveWrapped (s : State) (idx carriage : Nat) (fit : SlotHeader → Bool) : State × Except Status JobKey :=
  match (s.carriage? carriage).bind fun c => (c.objectAt (idx * 64)).bind (s.openObject carriage) with
  | none => (s.objectFailure, .error .keyNotFound)
  | some (h, m) =>
    if !worldService h then (s, .error .keyUseDenied)
    else if !s.lcOk h then (s, .error .keyLifecycleDenied)
    else if !fit h then (s, .error .keyUseDenied)
    else (s, .ok ⟨.wrapped, idx, 0, h, m⟩)

/-- Kinds that the operation accepts; class 0x09 hash functions take none, MAC functions a key (R110, R200). -/
def kindOk (op : Op) (p : Nat) (kind : KeyKind) : Bool :=
  (opKinds op).contains kind &&
  (match op with | .hashDigest | .hashVerify | .hashOpen => (kind != .none) == hashMac p | _ => true)

/-- The target slot of GENERATE and IMPORT, after the checks of R275 but the fifth (R284): an EMPTY slot, or with REPLACE a LIVE one of the job's carriage that is not
STATEFUL. -/
def State.targetOk (s : State) (j : Job) (idx : Nat) (replace : Bool) : State × Option Status :=
  match s.slotRecord? idx with
  | none => (s, if s.cellar.sealed then some .keyLifecycleDenied else if replace then some .keyUseDenied else none)
  | some _ =>
    match s.resolveSlot idx j.carriage .slot false false false (fun _ => true) with
    | (s, .error st) => (s, some st)
    | (s, .ok k) =>
      (s, if !replace || k.header.owner != j.carriage || hasUsage k.header.usage "stateful" then some .keyUseDenied else none)

/-- Length of an IMPORT input fits the form of its unwrapping key (R285). -/
def importLenOk (k : JobKey) (len : Nat) : Bool :=
  let n := if k.header.keyClass == 1 then len - 16 - 1568 else len - 16
  (k.header.keyClass != 1 || 1584 ≤ len) && n % 8 == 0 && 16 ≤ n && n ≤ 4104

/-- Outcome of step 10 before leaves and records are assigned. -/
structure Resolved where
  key : Option JobKey := none
  transport : Option JobKey := none
  target : Option Nat := none
  handle : Option Nat := none
  deriving DecidableEq, Repr

/-- A session handle of R202 for a job. -/
def State.handleSession (s : State) (j : Job) : Option HashSession :=
  (s.session? (auxHandle j.aux)).bind fun x => if x.carriage == j.carriage && x.gen == j.gen then some x else none

/-- A session of a MAC function generates a tag with sign or derive, and checks one with verify (R200). -/
def sessionUsageOk (op : Op) (x : HashSession) : Bool :=
  !hashMac x.param ||
  (match op with
    | .hashFinal => hasUsage x.usage "sign" || hasUsage x.usage "derive"
    | .hashFinalVerify => hasUsage x.usage "verify"
    | _ => true)

/-- A public-key handle of R149 for a job. -/
def State.handleKey (s : State) (j : Job) (h : Nat) : Option PkEntry :=
  if h / 2 ^ 12 % 16 != 0 || h / 2 ^ 16 == 0 then none else
  s.engines.publicKeys.find? fun x => x.entry == h % 2 ^ 12 && x.check == h / 2 ^ 16 && x.carriage == j.carriage && x.gen == j.gen

/-- MAC, AES and Rootstock keys have no public key (R271). -/
def symmetricClass (cls : Nat) : Bool := cls == 9 || cls == 0x0E || cls == 0x10

/-- Check 5 of R275 for an operation and its PARAM; PUBLIC_GET fits no symmetric key (DEDUCED, log entry 22). -/
def keyFits (op : Op) (p : Nat) (kind : KeyKind) (h : SlotHeader) : Bool :=
  opKeyOk op p kind h.keyClass h.param h.materialLen && opUsageOk op kind h.usage &&
  (op != .kmImport || h.keyClass != 1 || hasUsage h.usage "decaps") && (op != .kmPublicGet || !symmetricClass h.keyClass) &&
  (!opStatefulKeygen op || h.state == .prepared) && (op != .kmDestroy || !bit h.masters 4)

/-- The identity keys sign quotes in ZAWARD_PROVISIONED and OEM_FIELD, while the Cellar is not sealed (R302, R306, R482; DEDUCED, log entry
23). -/
def State.quotes (s : State) : Bool := (s.lc == some .zawardProvisioned || s.lc == some .oemField) && !s.cellar.sealed

/-- Step 10 of R59 for a job (R275, R284, R149, R202, R257). A NOP with a key ends with KEY_USE_DENIED (R74, R110; DEDUCED, log entry 14). -/
def State.step10 (s : State) (j : Job) (op : Op) : State × Except Status Resolved :=
  let p := j.param
  let kind := j.kind
  let idx := refIndex j.keyRef
  if opTestOnly op && !s.inTest then (s, .error .keyLifecycleDenied)
  else if !kindOk op p kind then (s, .error .keyUseDenied)
  else match op with
  | .hashUpdate | .hashFinal | .hashFinalVerify | .hashAbort =>
    match s.handleSession j with
    | some x => (s, if sessionUsageOk op x then .ok { handle := some x.index } else .error .keyUseDenied)
    | none => (s, .error .keyNotFound)
  | .quote =>
    if s.quotes then (s, .ok {}) else (s, .error .keyLifecycleDenied)
  | .kmGenerate =>
    if idx / 2 ^ 14 != 0 then (s, .error .keyNotFound)
    else match s.targetOk j idx (auxReplace j.aux) with
      | (s, some st) => (s, .error st)
      | (s, none) => (s, .ok { target := some idx })
  | .kmRewrap => if s.cellar.sealed then (s, .error .keyLifecycleDenied) else (s, .ok {})
  | _ =>
    match kind with
    | .none =>
      if op == .mcelieceEncaps && auxPkHandle j.aux != 0 then
        match s.handleKey j (auxPkHandle j.aux) with
        | none => (s, .error .keyNotFound)
        | some x => if x.param == p then (s, .ok { handle := some x.entry }) else (s, .error .keyUseDenied)
      else (s, .ok {})
    | .wrapped =>
      match s.resolveWrapped idx j.carriage (keyFits op p kind) with
      | (s, .error st) => (s, .error st)
      | (s, .ok k) =>
        if op == .kmImport then
          if auxToExternal j.aux then
            (s, if importLenOk k (entInLen j.entry) then .ok { key := some k } else .error .lengthMismatch)
          else match s.targetOk j (auxTarget j.aux) (auxReplace j.aux) with
            | (s, some st) => (s, .error st)
            | (s, none) =>
              (s, if importLenOk k (entInLen j.entry) then .ok { key := some k, target := some (auxTarget j.aux) }
                  else .error .lengthMismatch)
        else (s, .ok { key := some k })
    | .slot | .graft =>
      let r := s.resolveSlot idx j.carriage kind (opStatefulKeygen op) (op == .kmDestroy) (op == .kmRestore) fun h =>
        keyFits op p kind h && (op != .kmRestore || h.owner == j.carriage)
      match r with
      | (s, .error st) => (s, .error st)
      | (s, .ok k) =>
        if op == .kmImport then
          if auxToExternal j.aux then
            (s, if importLenOk k (entInLen j.entry) then .ok { key := some k } else .error .lengthMismatch)
          else match s.targetOk j (auxTarget j.aux) (auxReplace j.aux) with
            | (s, some st) => (s, .error st)
            | (s, none) =>
              (s, if importLenOk k (entInLen j.entry) then .ok { key := some k, target := some (auxTarget j.aux) }
                  else .error .lengthMismatch)
        else if op == .exportWrapped then
          match s.resolveSlot (bitsOf j.aux 0 30) j.carriage .slot false false false fun h =>
              h.keyClass == 0x0E && h.param == 3 && h.materialLen == 32 && hasUsage h.usage "wrap" with
          | (s, .error st) => (s, .error st)
          | (s, .ok t) => (s, .ok { key := some k, transport := some t })
        else if opClass op == 0x11 then (s, .ok { key := some k, target := some idx })
        else (s, .ok { key := some k })

/-! ### Leaves (R183, R186, R193) -/

/-- NEXT_INDEX: the next leaf of the block, or the first of the lowest range with leaves (R187, R193). -/
def Ledger.nextIndex (l : Ledger) : Nat :=
  if l.next < l.highWater then l.next
  else match l.ranges.find? fun r => r.2.1 < r.2.2 with
    | some r => r.2.1
    | none => l.highWater

/-- LEAVES_LEFT (R187). -/
def Ledger.left (l : Ledger) : Nat := (l.highWater - l.next) + (l.ranges.map fun r => r.2.2 - r.2.1).sum

/-- The block that the next HIGH_WATER write reserves: up to 64 leaves, never past the end of its range (R183). A range whose leaves are spent
stays in the list, and counts towards the limit of 16 (DESIGN CHOICE, log entry 91). -/
def Ledger.reserve (l : Ledger) : Ledger :=
  match l.ranges.find? fun r => r.2.1 < r.2.2 with
  | some r =>
    let hi := min (r.2.1 + 64) r.2.2
    { l with next := r.2.1, highWater := hi, ranges := mapIf (· == r) (fun x => (x.1, hi, x.2.2)) l.ranges }
  | none => l

/-- Source 177 when the leaves left have fallen to the threshold, by signing, by a release or by burning (R186). -/
def State.leafEvent (s : State) (slot low owner : Nat) : State :=
  match s.ledger? slot with
  | none => s
  | some l =>
    let now := decide (l.left ≤ low)
    let s := if l.low == now then s else s.modLedger slot fun l => { l with low := now }
    if now && !l.low then s.raiseFor 177 [slot, l.left, owner] owner else s

/-- Source 177 for every stateful slot whose leaves fell to the threshold unseen: at a reset, which burns the rest of a block (R185,
R186). -/
def State.leafEvents (s : State) : State :=
  s.cellar.ledgers.foldl (fun s l =>
    match s.slotRecord? l.slot with
    | some r => s.leafEvent l.slot r.header.lowThreshold r.header.owner
    | none => s) s

/-- Takes the next leaf of the block (R183). -/
def State.takeLeaf (s : State) (id slot low owner : Nat) : State :=
  match s.ledger? slot with
  | none => s
  | some l =>
    ((s.modLedger slot fun l => { l with next := l.next + 1 }).modJob id fun j => { j with leaf := some l.next }).leafEvent slot low owner

/-! ### Pools of a job -/

/-- The levels that a public key names; HSS gives every level the types of the top one (R191). -/
def pkLevels (xmss : Bool) (p : Nat) (pk : Bytes) : Option (List TreeLevel) :=
  if xmss || p == 1 then statefulLevels xmss p pk
  else
    let n := be pk 0 4
    if 1 ≤ n && n ≤ 8 then (lmsLevels [be pk 4 4, be pk 8 4]).map fun ls => List.replicate n (ls.headD ⟨0, 0, 0⟩) else none

/-- The levels of a stateful job's key, as far as they are known: from the key, or from the input of KEYGEN or VERIFY. -/
def Job.levels (j : Job) : Option (List TreeLevel) :=
  match j.op with
  | none => none
  | some o =>
    let x := opClass o == 8
    if opStatefulKeygen o then statefulLevels x j.param j.input
    else if j.kind == .none then pkLevels x j.param j.input
    else statefulLevels x j.param j.material

/-- A stateful job runs on Keccak teams. -/
def Job.shake (j : Job) : Bool :=
  match j.levels with | some (l :: _) => groupShake l.group | _ => false

/-- Pools of a job's parts; GENERATE runs on the pool of its key's class (R16, R286). -/
def State.jobPools (s : State) (j : Job) : List Pool :=
  match j.op with
  | none => [.noEngine]
  | some .kmGenerate => [classPool (byteAt j.input 0) (byteAt j.input 1)]
  | some .kmRestore => if j.key.any (fun k => k.header.keyClass == 5) && entInLen j.entry == 0 then [.press] else [.control]
  | some o =>
    if opClass o == 9 then
      let p := match j.handle.bind fun h => s.fabric.sessions.find? (·.index == h) with | some x => x.param | none => j.param
      opPools o p false
    else opPools o j.param j.shake

/-- Sets the parts of a job, none of them dispatched. -/
def State.setParts (s : State) (id : Nat) : State :=
  match s.job? id with
  | some j => s.modJob id fun j' => { j' with parts := (s.jobPools j).map fun p => { pool := p } }
  | none => s

end Sys2Proof.Machine
end

