-- ==== Sys2Proof/Machine/Content.lean ====
section
/-!
DEFINITION. The content checks of step 13, made on the input before dispatch (02 R64, R559; 06 R190, R191; 08 R248, R250, R257, R263;
09 R274, R283 to R286).
-/
namespace Sys2Proof.Machine

/-- Outcome of the content checks: passed, a status, or BUFFER_TOO_SMALL with the bytes required. -/
inductive Content where
  | ok
  | fail (st : Status)
  | small (need : Nat)
  deriving DecidableEq, Repr

/-! ### Graft descriptors (R248, R250) -/

def descTitle (d : Bytes) : Bytes := slice d 0 8
def descVersion (d : Bytes) : Nat := le d 8 4
def descKind (d : Bytes) : Nat := byteAt d 12
def descLen (d : Bytes) : Nat := byteAt d 13

/-- The tests of one descriptor in the order of R250; `kinds` are the kinds accepted and `len` the key length of PARAM. -/
def descCheck (d : Bytes) (kinds : List Nat) (len : Nat) : Option Status :=
  if le d 14 2 != 0 then some .flagsInvalid
  else if descLen d != 0x10 && descLen d != 0x20 then some .lengthMismatch
  else if descKind d == 0 || 4 < descKind d then some .keyUseDenied
  else if !kinds.contains (descKind d) || descLen d != len then some .keyUseDenied
  else none

/-- KEY_KINDs that a class 0x0E operation accepts (R246). -/
def bulkKinds (op : Op) : List Nat :=
  match op with
  | .gcmEncrypt | .gcmDecrypt | .ccmEncrypt | .ccmDecrypt | .ctr => [1, 2]
  | .cmacGenerate | .cmacVerify | .gmacGenerate | .gmacVerify => [3]
  | .kwWrap | .kwUnwrap | .kwpWrap | .kwpUnwrap => [4]
  | _ => []

/-- Descriptors of a class 0x10 input (R250, R256, R257). -/
def graftCheck (op : Op) (p : Nat) (b : Bytes) : Option Status :=
  let len := aesLen p
  match descCheck (b.take 16) [1, 2, 3, 4] len with
  | some st => some st
  | none =>
    if op != .keyTransfer then none
    else match descCheck (slice b 16 16) [1, 2, 3, 4] len with
      | some st => some st
      | none => if descKind (slice b 16 16) == 4 && descTitle (slice b 16 16) == descTitle b then none else some .keyUseDenied

/-! ### DLMS records (R259, R263) -/

def recTitle (r : Bytes) : Bytes := slice r 0 8
def recIv (r : Bytes) : Bytes := slice r 8 8
def recVersion (r : Bytes) : Nat := le r 0x10 4
def recIc (r : Bytes) : Nat := le r 0x14 4
def recLast (r : Bytes) : Nat := le r 0x18 4
def recSc (r : Bytes) : Nat := byteAt r 0x1C
def recFlags (r : Bytes) : Nat := byteAt r 0x1D
def recLen (r : Bytes) : Nat := le r 0x1E 2

/-- Steps 1 to 4 of R263. -/
def dlmsCheck (protect : Bool) (p : Nat) (aux : BitVec 64) (r : Bytes) : Option Status :=
  let area := dlmsArea p
  let sc := recSc r
  if recFlags r / 2 != 0 || (protect && (recLast r != 0 || recFlags r != 0)) then some .flagsInvalid
  else if area < recLen r || (!protect && bit sc 4 && recLen r < 12) || (protect && 32 + area < recLen r + 17) then some .lengthMismatch
  else if sc % 16 != dlmsSuite p || bit sc 7 || (!bit sc 4 && !bit sc 5) then some .unsupportedParam
  else if !protect && (bitsOf aux 4 2 &&& (sc / 16 % 4)) != bitsOf aux 4 2 then some .keyUseDenied
  else none

/-! ### Key management inputs (R274, R283 to R286) -/

/-- Public-key length as the KEYGEN of a key class places it (R286). -/
def classPk (cls p : Nat) : Nat :=
  match cls with
  | 1 => mlKemEk p
  | 2 => mlDsaPk p
  | 4 => hqcPk p
  | 5 => mcePk p
  | 6 => slhPk p
  | 0x0A | 0x0C => ecPub p
  | 0x0B => edPub p
  | 0x0D => rsaK p + 3
  | _ => 0

/-- Bytes of material that a generated key holds (R276); 32 for a MAC key (log entry 17). -/
def classMaterial (cls p : Nat) : Nat :=
  match cls with
  | 1 => 64
  | 2 => 32
  | 4 => hqcSeed p
  | 5 => 32
  | 6 => slhSk p
  | 9 => 32
  | 0x0A => ecL p
  | 0x0B => edPub p
  | 0x0C => ecL p
  | 0x0D => rsaK p
  | 0x0E => if p == 0x10 then 32 else aesLen p
  | 0x10 => 32
  | _ => 0

/-- Heap part of material: at most 1,920 bytes; a Classic McEliece key keeps its seed there (R268, R276). -/
def heapLimit : Nat := 1920

/-- Bytes that GENERATE places (R282): the public key, and the oversized part as a wrapped object. -/
def generateOut (cls p : Nat) : Nat :=
  let excess := if cls == 5 then mcePk p else classMaterial cls p - heapLimit
  classPk cls p + (if excess == 0 then 0 else excess + 80)

/-- A 257th STATEFUL slot (R269). -/
def State.ledgersFull (s : State) : Bool := 256 ≤ s.statefulSlots

/-- The checks of an attribute block against the target (R274, R284, R269). -/
def State.attrsCheck (s : State) (a : Attrs) (importing external : Bool) (target : Option Nat) : Option Status :=
  if !a.ok importing then some .unsupportedParam
  else if external && hasUsage a.usage "stateful" then some .unsupportedParam
  else match target.bind s.slotRecord? with
    | some r => if a.agrees r.header then none else some .keyUseDenied
    | none => if !external && hasUsage a.usage "stateful" && s.ledgersFull then some .quotaExceeded else none

/-! ### The whole check -/

/-- A status as an outcome. -/
def contentOf (st : Option Status) : Content := match st with | some st => .fail st | none => .ok

/-- The content checks of a job or record whose whole input has been read (step 13 of R59). -/
def State.contentCheck (s : State) (j : Job) : Content :=
  let p := j.param
  let e := j.entry
  let room (need : Nat) : Content :=
    if entOutLen e < need + entTrailer e then .small (need + entTrailer e) else .ok
  match j.op with
  | none => .ok
  | some .lmsKeygen =>
    match statefulLevels false p j.input with
    | none => .fail .unsupportedParam
    | some ls => if p == 2 && j.input.length != 4 + 8 * ls.length then .fail .unsupportedParam else room (statefulPkLen false p ls)
  | some .xmssKeygen =>
    match statefulLevels true p j.input with
    | none => .fail .unsupportedParam
    | some ls => room (statefulPkLen true p ls)
  | some .lmsVerify =>
    if j.kind != .none then .ok else
    match pkLevels false p j.input with
    | none => .fail .malformedEncoding
    | some ls => if j.input.length < statefulPkLen false p ls + bitsOf j.aux 0 32 then .fail .lengthMismatch else .ok
  | some .xmssVerify =>
    if j.kind != .none then .ok else
    match pkLevels true p j.input with
    | none => .fail .malformedEncoding
    | some ls => if j.input.length < statefulPkLen true p ls + bitsOf j.aux 0 32 then .fail .lengthMismatch else .ok
  | some .kmGenerate =>
    let a := attrsOf j.input
    match s.attrsCheck a false false j.target with
    | some st => .fail st
    | none => room (generateOut a.keyClass a.param)
  | some .kmImport =>
    let ext := auxToExternal j.aux
    let blob := j.input.length - 16 - (match j.key with | some k => if k.header.keyClass == 1 then 1568 else 0 | none => 0)
    match s.attrsCheck (attrsOf j.input) true ext (if ext then none else j.target) with
    | some st => .fail st
    | none => room (if ext || heapLimit + 8 < blob || byteAt j.input 0 == 5 then blob + 72 else 0)
  | some o =>
    if opClass o == 0x0F then contentOf (dlmsCheck (o == .dlmsProtect) p j.aux j.input)
    else if opClass o == 0x10 then contentOf (graftCheck o p j.input)
    else if opClass o == 0x0E && j.kind == .graft then contentOf (descCheck (j.input.take 16) (bulkKinds o) (bulkKeyLen o p))
    else .ok

end Sys2Proof.Machine
end

