-- ==== Sys2Proof/Machine/Microcode.lean ====
section
/-!
DEFINITION. Press microcode: the fields of microwords and nanowords, the images with their patches, and what the sequencer does with one
microword (03 R92 to R94, R104 to R106). The words of the images are Zaward's: FREE (log entry 93).
-/
namespace Sys2Proof.Machine

/-! ### Words and their fields (R92, R93) -/

/-- The fields of a microword (R92). -/
structure Microword where
  nanoPtr : Nat
  seqOp : Nat
  addrImm : Nat
  cond : Nat
  deriving DecidableEq, Repr

/-- A 32-bit word taken apart (R92). -/
def microword (w : Nat) : Microword := ⟨field w 22 10, field w 18 4, field w 5 13, field w 0 5⟩

/-- Sequencing operations (R92). -/
inductive SeqOp where
  | next | jump | branch | call | return' | loop | waitIo | waitKeccak | commit | trap | roundEnd | reserved
  deriving DecidableEq, Repr

/-- The sequencing operation of a SEQ_OP code; 0xB to 0xF are reserved (R92). -/
def seqOpOf (c : Nat) : SeqOp :=
  match c with
  | 0 => .next | 1 => .jump | 2 => .branch | 3 => .call | 4 => .return' | 5 => .loop | 6 => .waitIo | 7 => .waitKeccak
  | 8 => .commit | 9 => .trap | 0xA => .roundEnd | _ => .reserved

/-- The fields of a nanoword (R93). -/
structure Nanoword where
  scrRdA : Nat
  scrRdB : Nat
  scrWr : Nat
  bank : Nat
  bflyOp : Nat
  twiddleSel : Nat
  modulusSel : Nat
  gfSel : Nat
  keccakCtl : Nat
  samplerCtl : Nat
  compressCtl : Nat
  maskCtl : Nat
  ioCtl : Nat
  laneEn : Nat
  imm : Nat
  parity : Nat
  deriving DecidableEq, Repr

/-- A 288-bit word taken apart (R93). -/
def nanoword (w : Nat) : Nanoword :=
  { scrRdA := field w 0 9, scrRdB := field w 9 9, scrWr := field w 18 9, bank := field w 27 1, bflyOp := field w 28 8
    twiddleSel := field w 36 6, modulusSel := field w 42 2, gfSel := field w 44 4, keccakCtl := field w 48 32
    samplerCtl := field w 80 24, compressCtl := field w 104 16, maskCtl := field w 120 32, ioCtl := field w 152 32
    laneEn := field w 184 64, imm := field w 248 32, parity := field w 280 8 }

/-- Parity bit of the 35-bit group `g` of a nanoword: the number of its ones is odd (R93; even parity is a DESIGN CHOICE, log entry 93). -/
def groupParity (w g : Nat) : Bool := ((List.range 35).filter fun i => bit w (35 * g + i)).length % 2 == 1

/-- The eight parity bits of a nanoword are those of its groups (R93, R94). -/
def parityOk (w : Nat) : Bool := (List.range 8).all fun g => bit w (280 + g) == groupParity w g

/-- Executing the nanoword does not trap: its parity is right, BANK is 0 and MODULUS_SEL is not 0b11 (R93, R94). -/
def nanoOk (w : Nat) : Bool := parityOk w && (nanoword w).bank == 0 && (nanoword w).modulusSel != 3

/-! ### Stores and images (R92, R104 to R106) -/

/-- The replacement word of a patch at an address of a store, 0 for microwords and 1 for nanowords; the spec gives a patch no layout. FREE (log
entry 45). -/
def patchWord? (patch : Bytes) (store addr : Nat) : Option Nat :=
  if !patch.isEmpty && Config.stdHolds .patch (16 + store) [patch, toLe 2 addr] then
    some (Config.stdNat .patch (18 + store) [patch, toLe 2 addr])
  else none

/-- A word of the base image of a version; its nanowords carry their parity bits (R92, R93). FREE apart from these (log entry 93). -/
def baseWord (base store addr : Nat) : Nat :=
  let w := Config.stdNat .microcode store [toLe 2 base, toLe 2 addr]
  if store == 0 then w % 2 ^ 32
  else w % 2 ^ 280 + ((List.range 8).map fun g => b2n (groupParity w g) * 2 ^ (280 + g)).sum

/-- The word at an address of a store under an image: the base image of a version with a patch over it (R104, R106). -/
def imageWord (base : Nat) (patch : Bytes) (store addr : Nat) : Nat :=
  match patchWord? patch store addr with
  | some w => w % 2 ^ (if store == 0 then 32 else 288)
  | none => baseWord base store addr

/-- Address at which the routine of an operation and PARAM begins. FREE (log entry 93). -/
def routineEntry (code : Nat × Nat) : Nat := Config.stdNat .microcode 2 [toLe 2 code.1, toLe 1 code.2] % 8192

/-! ### The sequencer (R92 to R94) -/

/-- A condition holds. It can name only loop counters, the PARAM and operation codes, the depth of the call stack, and the I/O marks, Keccak
idle flags and ML-DSA validity flag of the moment: nothing secret (R93). Which code names which is not given: FREE (log entry 93). -/
def condHolds (q : Sequencer) (cond : Nat) : Bool :=
  Config.stdHolds .microcode cond
    [toLe 2 (q.loop.getD 0), toLe 2 q.code.1, toLe 1 q.code.2, toLe 1 q.stack.length, toLe 2 q.rounds, toLe 8 q.ticks]

/-- What a microword does: the routine goes on, or traps (R94). -/
inductive SeqResult where
  | goes (q : Sequencer)
  | traps
  deriving DecidableEq, Repr

/-- The sequencer goes on at an address; one beyond the store of 8,192 is none of its addresses (R92, R94). -/
def Sequencer.at' (q : Sequencer) (a : Nat) : SeqResult := if a < 8192 then .goes { q with pc := a } else .traps

/-- Executes one microword (R92 to R94). Under LOOP the same microword comes again until its count has run out; LOOP 0 passes it over. -/
def Sequencer.exec (q : Sequencer) (w : Microword) : SeqResult :=
  let n := q.pc + 1
  match seqOpOf w.seqOp with
  | .next => q.at' n
  | .jump => q.at' w.addrImm
  | .branch => q.at' (if condHolds q w.cond then w.addrImm else n)
  | .call => if 8 ≤ q.stack.length then .traps else { q with stack := n :: q.stack }.at' w.addrImm
  | .return' => match q.stack with | [] => .traps | a :: rest => { q with stack := rest }.at' a
  | .loop => if w.addrImm == 0 then q.at' (n + 1) else { q with loop := some w.addrImm }.at' n
  | .waitIo | .waitKeccak => if condHolds q w.cond then q.at' n else .goes q
  | .commit => .goes { q with atCommit := true }
  | .roundEnd => { q with rounds := q.rounds + 1 }.at' n
  | .trap | .reserved => .traps

/-- One cycle of the sequencer on an image: the nanoword drives the datapath while the microword sequences (R92, R94). -/
def Sequencer.step (q : Sequencer) (base : Nat) (patch : Bytes) : SeqResult :=
  let w := microword (imageWord base patch 0 q.pc)
  if !nanoOk (imageWord base patch 1 w.nanoPtr) then .traps
  else
    let t := { q with ticks := q.ticks + 1 }
    match q.loop with
    | some (k + 2) => match { t with loop := none }.exec w with | .goes _ => .goes { t with loop := some (k + 1) } | .traps => .traps
    | _ => { t with loop := none }.exec w

end Sys2Proof.Machine
end

