-- ==== Sys2Proof/Machine/Consume.lean ====
section
/-!
DEFINITION. Consumption: steps 1 to 11 run on an entry, the input is read, and a job becomes ready; what is freed lets others go on
(02 R48 to R64; 09 R268, R297).
-/
namespace Sys2Proof.Machine

/-! ### After step 11 -/

/-- Splits an area of `len` bytes into READs of at most 1 MiB from offset `off` (R388); `fuel` bounds their number. -/
def State.readPieces : Nat → State → Nat → Nat → Nat → Nat → Nat → Nat → State
  | 0, s, _, _, _, _, _, _ => s
  | fuel + 1, s, conn, rkey, addr, job, off, len =>
    if len == 0 then s
    else
      let n := min len readUnit
      let s := s.issueRead conn rkey (addr + off) n (.jobInput job off n)
      State.readPieces fuel s conn rkey addr job (off + n) (len - n)

/-- A job past step 11 starts reading its input: the entry itself, module memory, or RDMA READs (R44, R45, R64). NOP and STATE_GET
read nothing. Where the connection has failed meanwhile nothing can be read, and step 13 fails (R59, R80; DEDUCED, log entry 92). -/
def State.startFetch (s : State) (id : Nat) : State :=
  match s.job? id with
  | none => s
  | some j =>
    let e := j.entry
    let s := s.setParts id
    let quick := match j.op with | some .nop => true | some o => opStateGet o | none => true
    if quick then s.modJob id fun j => { j with phase := .ready }
    else if entInline e then s.modJob id fun j => { j with phase := .fetch, input := entInlineBytes e }
    else if entInLen e == 0 then s.modJob id fun j => { j with phase := .fetch }
    else if addrHost (entInAddr e) then
      let n := entInLen e
      let s := s.modJob id fun j => { j with phase := .fetch, input := zeros n, inputMissing := n }
      match s.queue? j.queue with
      | some q =>
        if s.queueDead j.queue then s.failAny id .inputFetchError true
        else s.readPieces (n / readUnit + 1) q.conn (entInKey e) (addrOffset (entInAddr e)) id 0 n
      | none => s
    else
      let bytes := match s.carriage? j.carriage with
        | some c => c.mem.readBytes (addrOffset (entInAddr e)) (entInLen e)
        | none => []
      s.modJob id fun j => { j with phase := .fetch, input := bytes }

/-! ### Step 11 -/

/-- Reserves Book places for a job that finds them free, and lets it go on; otherwise it waits, source 179 (R297, R563). -/
def State.step11 (s : State) (id : Nat) : State :=
  match s.job? id with
  | none => s
  | some j =>
    if j.logs && !s.bookOpen then s.failJob id .bookFull false else
    let n := j.placesNeeded s.bookOpen
    if n == 0 || s.bookUsed + n ≤ jobPlaces then
      let before := s.bookUsed
      let s := { s with book.reserved := s.book.reserved + n }
      let s := s.modJob id fun j => { j with bookPlaces := n, passed := 11 }
      (s.tailEvent before).startFetch id
    else
      let others := s.fabric.jobs.any fun x => x.phase == .waitBook
      let s := s.modJob id fun j => { j with phase := .waitBook, waitSince := s.clock.now }
      if others then s
      else
        let oldest := match s.book.tail with | e :: _ => entrySeq e | [] => s.book.seq + 1
        s.raise 179 [oldest]

/-! ### The end of step 10: leaves and records -/

/-- A stateful SIGN takes its leaf, after the HIGH_WATER write when its block is spent (R183). -/
def State.assignLeaf (s : State) (id : Nat) : State :=
  match s.job? id with
  | none => s
  | some j =>
    match j.key with
    | none => s
    | some k =>
      match s.ledger? k.index with
      | none => s.failJob id .keyExhausted false
      | some l =>
        if l.left == 0 then s.failJob id .keyExhausted false
        else if l.next < l.highWater then (s.takeLeaf id k.index k.header.lowThreshold k.header.owner).step11 id
        else
          let s := if s.cellar.journalWrites.contains k.index then s
                   else { s with cellar.journalWrites := s.cellar.journalWrites ++ [k.index] }
          s.modJob id fun j => { j with phase := .waitJournal }

/-- Puts a job among those that wait for a record (R268). -/
def State.queueRecord (s : State) (id : Nat) : State :=
  ({ s with cellar.recordQueue := s.cellar.recordQueue ++ [RecordWaiter.job id] }).modJob id fun j =>
    { j with phase := .waitRecord, waitSince := s.clock.now }

/-- The operation takes a record at step 10: a stateful KEYGEN, a GENERATE, an IMPORT into a slot (R190, R268, R289). -/
def opTakesRecord (op : Op) (aux : BitVec 64) : Bool :=
  opStatefulKeygen op || op == .kmGenerate || (op == .kmImport && !auxToExternal aux)

/-- What the operation takes at step 10 is free: a record, and for a KEYGEN the granules that will hold its key (R190). -/
def State.recordFor (s : State) (op : Op) : Option Nat :=
  if opStatefulKeygen op && s.freeGranules < statefulGranules then none else s.freeRecord?

/-- A creation or replacement takes its record, behind those that wait, or waits for it (R268, R289 step 1). -/
def State.takeRecord (s : State) (id : Nat) (op : Op) : State :=
  match s.recordFor op with
  | some r => if s.cellar.recordQueue.isEmpty then (s.modJob id fun j => { j with shadow := some r }).step11 id else s.queueRecord id
  | none => s.queueRecord id

/-- The output check that R559 places at step 10: bytes required, by the key resolved. -/
def Job.outputAt10 (j : Job) (op : Op) (k : JobKey) : Option Nat :=
  let h := k.header
  match op with
  | .lmsSign => (statefulLevels false j.param k.material).map (statefulSigLen false j.param)
  | .xmssSign => (statefulLevels true j.param k.material).map (statefulSigLen true j.param)
  | .kmExport => some (k.material.length + 80)
  | .kmPublicGet =>
    if h.keyClass == 7 || h.keyClass == 8 then
      (statefulLevels (h.keyClass == 8) h.param k.material).map (statefulPkLen (h.keyClass == 8) h.param)
    else if h.keyClass == 0x0D then some (rsaK h.param + expBytes h.expClass)
    else some (classPk h.keyClass h.param)
  | _ => none

/-- Step 10 has resolved the job's key: the checks of R186, R191 and R559, then leaf or record, then step 11. -/
def State.afterKey (s : State) (id : Nat) (op : Op) (r : Resolved) : State :=
  let keys (j : Job) : Option ((Nat × Bytes) × Option (Nat × Bytes)) := (s.carriage? j.carriage).map fun c => (c.key, c.prevKey)
  let s := s.modJob id fun j => { j with
    key := r.key, transport := r.transport, target := r.target, handle := r.handle, wrapKeys := keys j, passed := 10
    publicKey := if op == .mcelieceEncaps then ((r.handle.bind fun e => s.engines.publicKeys.find? (·.entry == e)).map (·.key)).getD [] else [] }
  match s.job? id with
  | none => s
  | some j =>
    let spent := opStatefulSign op && (match s.ledger? (refIndex j.keyRef) with | some l => l.left == 0 | none => true)
    if spent then s.failJob id .keyExhausted false else
    let bad := (op == .lmsVerify || op == .xmssVerify) && j.kind != .none && j.levels.isNone
    if bad then s.failJob id .malformedEncoding false else
    let need := match r.key with | some k => (j.outputAt10 op k).map (· + entTrailer j.entry) | none => none
    match need with
    | some n =>
      if entOutLen j.entry < n then s.failBuffer id n
      else if opStatefulSign op then s.assignLeaf id else s.step11 id
    | none => if opTakesRecord op j.aux then s.takeRecord id op else s.step11 id

/-! ### Steps 1 to 10 -/

/-- Steps 8 to 10. -/
def State.admit8 (s : State) (id : Nat) (j : Job) (op : Op) (conn : Nat) : State :=
  if !s.step8Ok j conn then (s.countTranslation j.carriage).failJob id .translationFault false
  else if !s.step9Ok j then (s.countQuota j.carriage).failJob id .quotaExceeded false
  else
    let s := s.modJob id fun j => { j with passed := 9 }
    match s.step10 j op with
    | (s, .error st) => s.failJob id st false
    | (s, .ok r) => s.afterKey id op r

/-- Runs the checks of R59 on a consumed entry, from step 1. An entry that fails step 2 stays for UNKNOWN_OPCODE_ENTRY. -/
def State.admitEntry (s : State) (id conn : Nat) : State :=
  match s.job? id with
  | none => s
  | some j =>
    let e := j.entry
    if !step1Ok e then s.failJob id .flagsInvalid false else
    match j.op with
    | none => s
    | some op =>
      if !step3Ok op e then s.failJob id .flagsInvalid false else
      match s.resolveProc conn (entProcId e) (entGen e) with
      | none => s.failJob id .generationMismatch false
      | some (c, g) =>
        let s := s.modJob id fun j => { j with carriage := c, gen := g, passed := 4 }
        let j := { j with carriage := c, gen := g }
        if !opParamOk op j.param j.aux j.kind then s.failJob id .unsupportedParam false
        else if !step6Ok op e then s.failJob id .lengthMismatch false
        else
          let need := s.step7Need j op
          match need with
          | some n =>
            if entOutLen e < n then s.failBuffer id n else s.admit8 id j op conn
          | none => s.admit8 id j op conn

/-! ### Consumption (R48, R50, R53, R67, R80) -/

/-- Entries are consumed now (R39, R80, R524). -/
def State.consuming (s : State) : Bool := Mode.consumes s.power.mode && s.power.shutdown.isNone && !s.power.zeroising

/-- A completion slot is free (R67). -/
def CompletionRing.room (r : CompletionRing) : Bool :=
  (r.count + 65536 - r.crCons) % 65536 + r.reserved < r.size - 1

/-- Consumes entries of a queue up to its target (R50, R53, R67); `fuel` bounds their number. A queue that has consumed the entry before
PROD_INDEX passes to IDLE without reading OWN at CONS (DESIGN CHOICE, log entry 92). In Debug of OEM_FIELD an entry of another KEY_REF kind
than 00 is not consumed, and its queue waits before it (R39; DEDUCED, log entry 98). -/
def State.consume : Nat → State → Nat → State
  | 0, s, _ => s
  | fuel + 1, s, qi =>
    match s.queue? qi with
    | none => s
    | some q =>
      match q.target with
      | none => s
      | some tgt =>
        if q.state == .broken || q.state == .draining then s
        else if tgt == q.cons then s.modQueue qi fun q => { q with state := .idle, target := none }
        else if !s.consuming then s
        else match s.cring? q.cr with
        | none => s
        | some r =>
          if !r.room then s.modQueue qi fun q => { q with state := .crWait }
          else
            let slot := q.cons % q.size * 64
            let e := match q.cache.find? (·.1 == q.cons) with | some (_, b) => b | none => q.ring.readBytes slot 64
            if !entPosted e then s.modQueue qi fun q => { q with state := .idle, target := none }
            else if s.cellar.sealed && entKind e != .none then s
            else
              let id := s.fabric.nextJob
              let j : Job := { id := id, queue := qi, entry := e, op := entOp e, seq := q.submitSeq, tConsume := s.clock.train,
                               nConsume := s.clock.now, phase := .unknown, passed := 1 }
              let s := s.modQueue qi fun q => { q with
                ring := q.ring.write (slot + 63) 0
                cache := q.cache.filter (·.1 != q.cons)
                cons := (q.cons + 1) % 65536
                submitSeq := (q.submitSeq + 1) % 2 ^ 32
                state := .active }
              let s := s.modCring q.cr fun r => { r with reserved := r.reserved + 1 }
              let s := { s with fabric.jobs := s.fabric.jobs ++ [j], fabric.nextJob := id + 1 }
              State.consume fuel (s.admitEntry id q.conn) qi

/-- Goes on with a queue's run of entries. -/
def State.runQueue (s : State) (qi : Nat) : State := s.consume 65537 qi

/-! ### What a freed record, a freed Book place or a new mode lets go on -/

/-- Gives a freed record to the first that waits for one, whose job goes on to step 11 (R268); a mailbox command is run again by the
mailbox. -/
def State.serveRecords : Nat → State → State
  | 0, s => s
  | fuel + 1, s =>
    match s.cellar.recordQueue with
    | .job id :: rest =>
      let s' := { s with cellar.recordQueue := rest }
      match s.job? id with
      | none => State.serveRecords fuel s'
      | some j =>
        match s.recordFor (j.op.getD .nop) with
        | some r => State.serveRecords fuel ((s'.modJob id fun j => { j with shadow := some r }).step11 id)
        | none => s
    | _ => s

/-- Lets the jobs that wait at step 11 try again, in order (R297). -/
def State.serveBook (s : State) : State :=
  (s.fabric.jobs.filter fun j => j.phase == .waitBook).foldl (fun s j =>
    match s.job? j.id with
    | some j =>
      let n := j.placesNeeded s.bookOpen
      if (j.logs && !s.bookOpen) || n == 0 || s.bookUsed + n ≤ jobPlaces then s.step11 j.id else s
    | none => s) s

/-- Goes on with every queue that can (R67, R80). -/
def State.serveQueues (s : State) : State :=
  s.fabric.queues.foldl (fun s q =>
    match s.queue? q.index with
    | some q =>
      let room := match s.cring? q.cr with | some r => r.room | none => false
      let s := if q.state == .crWait && room && s.consuming then s.modQueue q.index fun q => { q with state := .active } else s
      if q.state == .crWait && !room then s else s.runQueue q.index
    | none => s) s

/-! ### Expanded keys (R111, R154, R155) -/

/-- The operation runs on the expanded form of its key, cached by MATERIAL_HASH (R111, R154). -/
def Job.expands (j : Job) : Bool :=
  match j.op, j.key with
  | some o, some k =>
    (opClass o == 1 || opClass o == 2 || opClass o == 3 || opClass o == 4) && k.header.form % 8 == formSeed
  | _, _ => false

/-- What the expanded form of a job's key is cached under: its reference, with the carriage of a wrapped object, and its MATERIAL_HASH (R111,
R155). -/
def Job.cacheKey (j : Job) : Nat × Bytes :=
  (j.keyRef + (if j.kind == .wrapped then j.carriage * 2 ^ 32 else 0), match j.key with | some k => k.header.materialHash | none => [])

/-- The expanded form of the job's key is cached. -/
def State.keyCached (s : State) (j : Job) : Bool := s.cellar.expanded.contains j.cacheKey

/-- The expanded form of a job's key enters the cache; the record it comes from is read afresh under its TAG (R154, R287). -/
def State.cacheExpanded (s : State) (j : Job) : State :=
  let s :=
    match j.key with
    | some k =>
      if k.kind != .slot then s
      else match s.record? k.record with
        | some r => if r.header.state == .live && !s.cellar.sealed && !s.tagOk r then s.cork r else s
        | none => s
    | none => s
  if s.keyCached j then s else { s with cellar.expanded := s.cellar.expanded ++ [j.cacheKey] }

/-- The job needs its key expanded before it can be dispatched (R111, R154). -/
def State.mustExpand (s : State) (j : Job) : Bool := j.expands && !s.keyCached j

/-- The scheduler gives jobs to engines in this mode (R39); during a shutdown those that it left, so that they run to release (R524). -/
def State.dispatching (s : State) : Bool := Mode.consumes s.power.mode && !s.power.zeroising

/-- Takes a mask seed for a tile: from its pool, or drawn now (R90, R91). -/
def State.takeSeed (s : State) (tile : Nat) : State × Nat :=
  match (s.engines.tiles[tile]?).bind (·.seeds.head?) with
  | some n => (s.modEngine .press tile fun e => { e with seeds := e.seeds.drop 1 }, n)
  | none => s.serveDraw false 1

/-- Tiles on which the expansion of a job's key runs. -/
def State.expanding (s : State) (id : Nat) : Bool := s.engines.tiles.any fun e => e.banks.contains (.expanding id)

/-- The expansion of the key runs already, for this job or another that waits for the same key. -/
def State.expansionRuns (s : State) (j : Job) : Bool :=
  s.fabric.jobs.any fun x => x.phase == .expand && x.cacheKey == j.cacheKey && s.expanding x.id

/-- Bytes that the mask generator gives from a seed: the use `n` of it. FREE function of the seed (R90, log entry 4). -/
def maskBytes (seed n len : Nat) : Bytes := std .maskGen n [drawBytes seed 32] len

/-- A secret in three shares under a seed, the two masks of use `n` and what they leave (R89, R90). -/
def threeShares (seed n : Nat) (b : Bytes) : List Bytes :=
  let x := maskBytes seed (2 * n) b.length
  let y := maskBytes seed (2 * n + 1) b.length
  [x, y, xorBytes b (xorBytes x y)]

/-- Shares recombined, as at the commit point (R90). -/
def recombine (l : List Bytes) : Bytes := match l with | [x, y, z] => xorBytes z (xorBytes x y) | _ => l.flatten

/-- Starts the expansion routine of a waiting job's key on a tile in service, masked, when one has a free bank; without a seed from the DRBG
the job ends as R91 says (R89, R91, R111). -/
def State.startExpansion (s : State) (id : Nat) : State :=
  match s.job? id with
  | none => s
  | some j =>
    if j.phase != .expand || !s.dispatching || s.expansionRuns j then s
    else match s.chooseUnit .press false with
      | none => s
      | some u =>
        let tile := u.headD 0
        let pooled := ((s.engines.tiles[tile]?).bind (·.seeds.head?)).isSome
        match if pooled then Draw.served else s.drawFate false with
        | .waits => s
        | .failed => s.failAny id .entropyFailed false
        | .served =>
          let b := (s.freeBank .press tile).getD 0
          let (s, n) := s.takeSeed tile
          let d := s.engines.dispatches + 1
          let seq : Sequencer := { job := (id, 2), code := (le j.entry 0 2, j.param), pc := routineEntry (opClass (j.op.getD .nop) * 256 + 1, j.param) }
          ({ s with engines.dispatches := d }).modEngine .press tile fun e => { e with
            banks := e.banks.set b (.expanding id), lastDispatch := d, mask := some n, seq := some seq
            contents := (e.contents.filter fun (x : Nat × Bytes) => x.1 != b) ++ [(b, (threeShares n 0 j.material).flatten)] }

/-- Starts every expansion that can start. -/
def State.startExpansions (s : State) : State :=
  (s.fabric.jobs.filter (·.phase == .expand)).foldl (fun s j => s.startExpansion j.id) s

/-- After a command: freed records, Book places, completion slots and tiles serve those that wait for them. -/
def State.settle (s : State) : State :=
  (((s.serveRecords s.cellar.recordQueue.length).serveBook).serveQueues).startExpansions

/-! ### Readiness (R188, R189, R203) -/

/-- The trees that sign leaf `q`: level and index of each (R188). -/
def leafTrees : List TreeLevel → Nat → Nat → List (Nat × Nat)
  | [], _, _ => []
  | l :: rest, level, q => (level, q / 2 ^ ((l :: rest).map (·.height)).sum) :: leafTrees rest (level + 1) q

/-- A tree of a slot's key is cached. -/
def State.treeCached (s : State) (slot : Nat) (x : Nat × Nat) : Bool :=
  s.engines.trees.any fun t => t.slot == slot && t.level == x.1 && t.index == x.2

/-- The trees that a stateful SIGN needs are all cached (R189). -/
def State.treesReady (s : State) (j : Job) : Bool :=
  match j.op, j.leaf, j.levels with
  | some o, some q, some ls => !opStatefulSign o || (leafTrees ls 0 q).all (s.treeCached (refIndex j.keyRef))
  | _, _, _ => true

/-- The operation applies a chunk to a session (R203). -/
def opChunk (op : Op) : Bool := op == .hashUpdate || op == .hashFinal || op == .hashFinalVerify

/-- A chunk's place in its session's order (R203): none when its session has closed. -/
def State.chunkOrder (s : State) (j : Job) : Option Ordering :=
  (s.handleSession j).map fun x => compare (auxChunkNo j.aux) x.nextChunk

/-- Chunks that wait for a session (R203). -/
def State.waitingChunks (s : State) (h : Option Nat) : Nat :=
  (s.fabric.jobs.filter fun j => j.phase == .waitChunk && j.handle == h).length

/-- Another chunk of the job's session runs on a core: the session takes its chunks one after another (R203). -/
def State.sessionBusy (s : State) (j : Job) : Bool :=
  s.fabric.jobs.any fun x => x.id != j.id && opChunk (x.op.getD .nop) && x.handle == j.handle &&
    x.parts.any fun q => q.engine.isSome && !q.committed

/-- A job that was ready lacks something again: its expanded key or a tree has gone, or its session has moved on or closed (R154, R189,
R203). -/
def State.unready (s : State) (j : Job) : Bool :=
  s.mustExpand j || !s.treesReady j || (opChunk (j.op.getD .nop) && s.chunkOrder j != some .eq)

/-- A job past its content checks waits for what it still needs, or becomes ready. -/
def State.makeReady (s : State) (id : Nat) : State :=
  match s.job? id with
  | none => s
  | some j =>
    let ready := s.modJob id fun j => { j with phase := .ready }
    if s.mustExpand j then
      s.modJob id fun j => { j with phase := .expand }
    else if !s.treesReady j then s.modJob id fun j => { j with phase := .waitTree }
    else if opChunk (j.op.getD .nop) then
      match s.chunkOrder j with
      | none => s.failJob id .keyNotFound true
      | some .lt => s.failJob id .outOfRange true
      | some .eq => ready
      | some .gt =>
        if 8 ≤ s.waitingChunks j.handle then s.failJob id .outOfRange true
        else s.modJob id fun j => { j with phase := .waitChunk, waitSince := s.clock.now }
    else ready

/-- The content checks of a job or record, and what follows (R64). -/
def State.afterInput (s : State) (id : Nat) : State :=
  let s := s.setParts id
  match s.job? id with
  | none => s
  | some j =>
    match s.contentCheck j with
    | .ok => s.makeReady id
    | .fail st => s.failAny id st true
    | .small n => s.failBuffer id n

/-- Splits an input array into records, each a job of its own (R75, R77). -/
def State.splitRecords (s : State) (p : Job) : State :=
  let size := p.recordSize
  let places := if p.bookPlaces == 0 then 0 else if entBatch p.entry then 1 else 0
  let s := s.modJob p.id fun p => { p with phase := .batch, bookPlaces := p.bookPlaces - places * p.records }
  (List.range p.records).foldl (fun s i =>
    let id := s.fabric.nextJob
    let r : Job := { p with id := id, parent := some p.id, recIndex := i, input := slice p.input (i * size) size, bookPlaces := places }
    ({ s with fabric.jobs := s.fabric.jobs ++ [r], fabric.nextJob := id + 1 }).afterInput id) s

end Sys2Proof.Machine
end

