-- ==== Sys2Proof/Machine/Jobs.lean ====
section
/-!
DEFINITION. From dispatch to staging: what may be dispatched, the draws of a dispatch, the result of a routine, its commit, staging,
abandonment and restart (01 R20, R22, R31; 02 R61, R62, R73; 03 R84 to R103; 05 R158; 11 R341, R342).
-/
namespace Sys2Proof.Machine

/-! ### What may be dispatched -/

/-- The job whose order counts: a record's batch, or the job itself. -/
def Job.root (j : Job) : Nat := j.parent.getD j.id

/-- The job or record comes before another in consumption order (R341). -/
def Job.before (x j : Job) : Bool := x.root < j.root || (x.root == j.root && x.id < j.id)

/-- FENCE admits the job: a fenced one waits for every earlier entry of its queue, and no later one passes it (R73). -/
def State.fenceOk (s : State) (j : Job) : Bool :=
  s.fabric.jobs.all fun x => !(x.queue == j.queue && x.root < j.root && (entFence j.entry || entFence x.entry))

/-- The control complex's part of a quote goes first: the others sign the claims that it takes (R306). -/
def Job.partNext (j : Job) (part : Nat) : Bool := j.op != some .quote || part == 0 || (j.parts[0]?).any (·.committed)

/-- A part of the job that waits for its engine. -/
def Job.partWaits (j : Job) (part : Nat) : Bool :=
  (j.phase == .ready || j.phase == .running) && j.partNext part && (match j.parts[part]? with | some q => q.engine.isNone && !q.waits | none => false)

/-- One job in the units of a ceiling budget (R342). -/
def oneJob : Nat := 10000

/-- The ceiling of a job's class, 0 for none (R337, R342). -/
def Carriage.ceiling (c : Carriage) (cls : Nat) : Nat := tab c.params.ceilings cls

/-- The job is within the ceiling of its class, or was counted at an earlier dispatch (R342). -/
def State.ceilingOk (s : State) (j : Job) : Bool :=
  match s.carriage? j.carriage, j.op with
  | some c, some o => j.charged || c.ceiling (opClass o) == 0 || oneJob ≤ tab c.budgets (opClass o)
  | _, _ => true

/-- Code-based jobs that run on tiles now (R158). -/
def State.codeRunning (s : State) : Nat :=
  (s.fabric.jobs.filter fun j =>
    (match j.op with | some o => opClass o == 4 || opClass o == 5 | none => false) &&
    j.parts.any fun q => q.pool == .press && q.engine.isSome && !q.committed).length

/-- CODE_TILE_LIMIT admits the job (R158). -/
def State.codeOk (s : State) (j : Job) : Bool :=
  match j.op with
  | some o => (opClass o != 4 && opClass o != 5) || s.codeRunning < s.engines.codeTileLimit
  | none => true

/-- A job abandoned at entry into Hold is restarted before any later job of its queue is dispatched (R517). -/
def State.holdOrderOk (s : State) (j : Job) : Bool :=
  s.fabric.jobs.all fun x => !(x.queue == j.queue && x.byHold && x.root < j.root)

/-- The part could be dispatched now, shares and free engines apart. -/
def State.dispatchable (s : State) (j : Job) (part : Nat) : Bool :=
  s.dispatching && j.partWaits part && s.fenceOk j && s.ceilingOk j && s.codeOk j && s.holdOrderOk j &&
  !(opChunk (j.op.getD .nop) && s.sessionBusy j)

/-- Place of a pool in WEIGHTS (R337). -/
def poolIndex (p : Pool) : Nat :=
  match p with
  | .press => 0 | .cooper => 1 | .sha2 => 2 | .keccak => 3 | .dray => 4 | .drbg => 5 | .control | .noEngine => 6

/-- A job has a part that waits for the pool and could be dispatched. -/
def State.wantsPool (s : State) (p : Pool) (j : Job) : Bool :=
  j.parts.zipIdx.any fun (q, i) => q.pool == p && s.dispatchable j i

/-- The carriage's turn in a pool: no other carriage with a dispatchable job has had less for its weight in this epoch (R341). -/
def State.shareOk (s : State) (j : Job) (p : Pool) : Bool :=
  let n := poolIndex p
  match s.carriage? j.carriage with
  | none => true
  | some c =>
    6 ≤ n ||
    s.fabric.carriages.all fun x =>
      x.number == c.number || !(s.fabric.jobs.any fun y => y.carriage == x.number && s.wantsPool p y) ||
      c.shares.getD n 0 * x.params.weights.getD n 1 ≤ x.shares.getD n 0 * c.params.weights.getD n 1

/-- No earlier job of the carriage waits for the pool and could be dispatched (R341). -/
def State.turnOk (s : State) (j : Job) (p : Pool) : Bool :=
  s.fabric.jobs.all fun x => !(x.carriage == j.carriage && x.before j && s.wantsPool p x)

/-! ### Draws of a dispatch (R90, R91, R134, R317) -/

/-- The job's routine is masked: it runs on a tile and handles a private key (R89, R286). -/
def Job.masked (j : Job) (p : Pool) : Bool :=
  p == .press && (match j.op with | some .kmGenerate => true | some o => opMasked o | none => false)

/-- Offset and length in the job's random bytes of what a part draws for itself: the hybrid KEM and the quote draw for each part. -/
def partDraw (op : Op) (p : Nat) (aux : BitVec 64) (part : Nat) : Nat × Nat :=
  let own := opOwnBytes op p aux
  match op with
  | .hybridInitKeygen => if part == 0 then (0, 64) else (64, 32)
  | .hybridRespond => if part == 0 then (0, 32) else (32, 32)
  | .quote => if part == 0 then (0, 0) else ((part - 1) * 32, 32)
  | _ => if part == 0 then (0, own) else (0, 0)

/-- A part draws at dispatch: bytes, the CEK with the first part, or blinding on a Cooper engine (R213). -/
def partDraws (op : Op) (p : Nat) (aux : BitVec 64) (part : Nat) (pool : Pool) : Bool :=
  let cooper := pool == .cooper && opAlwaysDraws op
  let other := part == 0 && pool == .drbg && opAlwaysDraws op
  0 < (partDraw op p aux part).2 || (part == 0 && opWraps op aux) || cooper || other

/-- The unwrapping key of an IMPORT is an ML-KEM key, so its input carries a ciphertext (R285). -/
def Job.keyIsKem (j : Job) : Bool := match j.key with | some k => k.header.keyClass == 1 | none => false

/-- Keys with a pairwise-consistency test of R289 that draws. -/
def pairwiseClass (cls : Nat) : Bool := [1, 2, 4, 5, 6, 0x0A, 0x0B, 0x0C, 0x0D].contains cls

/-- A part of the job draws at dispatch. GENERATE of a stateful key only leaves its slot PREPARED; IMPORT draws for the CEK of an object it
places and for the pairwise test of its key (R286, R562). -/
def Job.draws (j : Job) (op : Op) (part : Nat) (pool : Pool) : Bool :=
  let cls := byteAt j.input 0
  match op with
  | .kmGenerate => cls != 7 && cls != 8
  | .kmImport => auxToExternal j.aux || pairwiseClass cls || heapLimit + 8 < j.input.length - 16 - (if j.keyIsKem then 1568 else 0)
  | _ => partDraws op j.param j.aux part pool

/-- The random bytes of a job after a part's draw `b`, which ends with the CEK for the first part. -/
def mergeDraw (op : Op) (p : Nat) (aux : BitVec 64) (part : Nat) (old b : Bytes) : Bytes :=
  let own := opOwnBytes op p aux
  let (off, len) := partDraw op p aux part
  let old := padTo (own + 32) old
  let bytes := old.take off ++ b.take len ++ slice old (off + len) (own - off - len)
  bytes ++ (if part == 0 then slice b len 32 else slice old own 32)

/-- What becomes of the draws of a dispatch. -/
def bothFates (a b : Draw) : Draw :=
  if a == .failed || b == .failed then .failed else if a == .waits || b == .waits then .waits else .served

/-! ### Dispatch (R22, R84, R209, R241) -/

/-- The unit that a part is dispatched to: an engine, a team, or nothing for the control complex and the DRBG. -/
def State.unitFor (s : State) (p : Pool) (team : Bool) : Option (List Nat) :=
  match p with
  | .control | .drbg | .noEngine => some []
  | _ => s.chooseUnit p team

/-- Bytes of a piece in which a core processes a chunk (R205). -/
def pieceBytes : Nat := 65536

/-- A core in service whose chunk has pieces left to a chunk of another session: between pieces it takes the other's, its own context being
saved in its session object (R205). -/
def State.pieceUnit (s : State) (p : Pool) (j : Job) : Option (List Nat) :=
  let between (i : Nat) : Bool :=
    match (s.pool p)[i]? with
    | some e => e.banks.any fun b => match b with
      | .job id _ => (match s.job? id with
        | some x => opChunk (x.op.getD .nop) && x.handle != j.handle && pieceBytes < x.input.length && s.bankRuns b
        | none => false)
      | _ => false
    | none => false
  if opChunk (j.op.getD .nop) then ((s.servicing p).find? between).map ([·]) else none

/-- Records of a batch that go to one Dray in a run (R265). -/
def recordRun : Nat := 64

/-- The Dray of the run that a record continues: that of the record before it, while it serves and has a free context (R265). -/
def State.runUnit (s : State) (p : Pool) (j : Job) : Option (List Nat) :=
  if p != .dray || j.parent.isNone || j.recIndex % recordRun == 0 then none
  else
    let before := s.fabric.jobs.find? fun x => x.parent == j.parent && x.recIndex + 1 == j.recIndex
    let dray := ((before.bind fun x => x.parts.head?).bind (·.engine)).filter fun i => s.inService p i && (s.freeBank p i).isSome
    dray.map ([·])

/-- Counts a dispatch in the carriage's shares and ceiling (R341, R342). -/
def State.charge (s : State) (j : Job) (p : Pool) : State :=
  let n := poolIndex p
  let cls := match j.op with | some o => opClass o | none => 0
  s.modCarriage j.carriage fun c => { c with
    shares := c.shares.modify n (· + 1)
    budgets := if j.charged || c.ceiling cls == 0 then c.budgets else c.budgets.modify (cls - 1) (· - oneJob) }

/-- Class and PARAM of the key that a job handles: those of the attribute block for GENERATE. -/
def Job.keyKind (j : Job) : Nat × Nat :=
  match j.op with
  | some .kmGenerate => (byteAt j.input 0, byteAt j.input 1)
  | some o => (opClass o, j.param)
  | none => (0, 0)

/-- What a dispatch puts into a bank, operand memory or context: the input, then the key, in three shares where the routine is masked (R84,
R89, R207, R241). -/
def Job.load (j : Job) (seed : Option Nat) : Bytes :=
  j.input ++ (match seed with | some n => (threeShares n 0 j.material).flatten | none => j.material)

/-- An engine takes a routine in bank `b`: its store changes only now, between jobs (R84, R90, R92, R106). -/
def Engine.takeJob (e : Engine) (v : Option Vintage) (b : Nat) (load : Bytes) (seed : Option Nat) (seq : Option Sequencer) : Engine :=
  let e := match v with | some v => e.settleImage v | none => e
  { e with contents := (e.contents.filter (·.1 != b)) ++ [(b, load)], mask := seed, seq := seq }

/-- Starts a part of a job on a unit, with its draws served. -/
def State.start (s : State) (j : Job) (op : Op) (part : Nat) (q : JobPart) (u : List Nat) : State :=
  let (s, seed) := if j.masked q.pool then (let (s, n) := s.takeSeed (u.headD 0); (s, some n)) else (s, none)
  let draws := j.draws op part q.pool
  let (s, rand) :=
    if !draws then (s, j.rand)
    else
      let (s, n) := match q.draw with | some n => (s, n) | none => s.serveDraw (opFresh op j.aux) (opCalls op j.aux)
      (s, mergeDraw op j.param j.aux part j.rand (drawBytes n ((partDraw op j.param j.aux part).2 + 32)))
  let code := (le j.entry 0 2, j.param)
  let seq : Option Sequencer := if q.pool == .press then some { job := (j.id, part), code := code, pc := routineEntry code } else none
  let v := (poolKind q.pool).map s.vintage
  let s := s.occupy q.pool u j.id part fun b e => e.takeJob v b (j.load seed) seed seq
  let hit := (j.expands || op == .mcelieceDecaps) && s.keyCached j
  let (cls, kp) := j.keyKind
  let onCooper := q.pool == .cooper
  let now := s.clock.train
  let at' := s.clock.now
  let s := s.charge j q.pool
  let set (x : JobPart) : JobPart :=
    { pool := x.pool, engine := some (u.headD 0), tDispatch := some now, nDispatch := at'
      slot := if onCooper then slotBits op cls kp else 0
      region := if onCooper && largeMode cls kp then j.load none else [] }
  s.modJob j.id fun j => { j with
    phase := .running, rand := rand, charged := true, byHold := false, hit := hit,
    parts := j.parts.modify part set }

/-- JOB_DISPATCH: the part starts if nothing holds it back; a job whose expanded key or tree has gone waits for it again, hit or miss being
decided here (R111, R154, R189); a draw that the DRBG cannot serve makes it wait or end (R22, R91, R317). -/
def State.dispatch (s : State) (id part : Nat) : State :=
  match s.job? id with
  | none => s
  | some j =>
    match j.op, j.parts[part]? with
    | some op, some q =>
      if !s.dispatchable j part || !s.shareOk j q.pool || !s.turnOk j q.pool || q.pool == .noEngine then s
      else if q.pool != .cooper && s.unready j then s.makeReady id
      else match (s.runUnit q.pool j).or ((s.unitFor q.pool (opTeam op)).or (s.pieceUnit q.pool j)) with
        | none => s
        | some u =>
          let pooled := ((s.engines.tiles[u.headD 0]?).bind (·.seeds.head?)).isSome
          let seedFate := if j.masked q.pool && !pooled then s.drawFate false else .served
          let ownFate :=
            if j.draws op part q.pool && q.draw.isNone then s.drawFate (opFresh op j.aux) else .served
          let fresh := opFresh op j.aux && j.draws op part q.pool && q.draw.isNone
          match bothFates seedFate ownFate with
          | .failed => s.failAny id .entropyFailed false
          | .waits =>
            ({ s with rng.waiting := s.rng.waiting ++ [(id, part)] }).modJob id fun j =>
              { j with parts := j.parts.modify part fun q => { q with waits := true } }
          | .served => if fresh && !s.freshKat then (s.fatalEntropy 3).failAny id .entropyFailed false else s.start j op part q u
    | _, _ => s

/-! ### The result of a routine (R96, R99) -/

/-- A part's routine runs: it is dispatched and has no result yet (R132). -/
def JobPart.running (q : JobPart) : Bool := q.engine.isSome && !q.computed

/-- In Entropy Test no random output leaves the module, so a GENERATE goes no further until the reset (R325). -/
def State.randomBarred (s : State) (j : Job) : Bool := s.power.mode == .entropyTest && j.op == some .rngGenerate

/-- The job runs the operation: every part is dispatched, or one of two runs on its own (R132). -/
def State.runs? (s : State) (id : Nat) (op : Op) : Option Job :=
  match s.job? id with
  | none => none
  | some j =>
    if j.op == some op && j.phase == .running && (j.parts.all (fun q => q.engine.isSome) || j.parts.any JobPart.running) &&
        s.power.mode != .hold && !s.randomBarred j then some j else none

/-- A job that reaches no engine may go on: it is ready, and FENCE admits it (R73). -/
def State.control? (s : State) (id : Nat) (op : Op) : Option Job :=
  match s.job? id with
  | some j => if j.op == some op && j.phase == .ready && s.dispatching && s.fenceOk j && s.holdOrderOk j then some j else none
  | none => none

/-- What an engine routine answers: a status, the output, and T_REL of each part; none where the part is released at its commit. -/
structure OpResult where
  status : Status := .success
  output : Bytes := []
  rel : List (Option Nat) := [none]
  deriving DecidableEq, Repr

/-- A failed result at full time (R136, R235). -/
def OpResult.failed (st : Status) (rel : List (Option Nat)) : OpResult := { status := st, rel := rel }

/-- The seed of the mask generator of the tile on which a part runs (R90). -/
def State.maskOf (s : State) (q : JobPart) : Option Nat :=
  if q.pool == .press then q.engine.bind fun i => (s.engines.tiles[i]?).bind (·.mask) else none

/-- A part's routine has its result: a masked one holds it in three shares until its commit (R89, R90). -/
def State.computePart (s : State) (r : OpResult) (q : JobPart) (i : Nat) : JobPart :=
  if !q.running then q
  else { q with
    computed := true
    releaseAt := match r.rel.getD i none with | some d => q.nDispatch + d | none => 0
    shares := match s.maskOf q with | some n => threeShares n 1 r.output | none => [] }

/-- The routines that run have computed their result, which waits for its commit points; the job has its result with the last of its parts
(R96, R132). -/
def State.finish (s : State) (id : Nat) (r : OpResult) : State :=
  s.modJob id fun j =>
    let parts := j.parts.zipIdx.map fun (q, i) => s.computePart r q i
    if parts.all (·.computed) then
      { j with phase := .computed, status := r.status, output := if r.status == .success then r.output else [], trailer := entTs j.entry,
               parts := parts }
    else { j with parts := parts }

/-! ### Commit and staging (R96, R103, R153) -/

/-- Results that fabric staging holds (R103). -/
def stagingPlaces : Nat := 16384

/-- Decryptions and unwraps with a tag or an integrity check (R245). -/
def opOpens (op : Op) : Bool :=
  match op with
  | .gcmDecrypt | .ccmDecrypt | .chachaDecrypt | .kwUnwrap | .kwpUnwrap | .dlmsUnprotect => true
  | _ => false

/-- The result waits in GDDR7 staging: one of more than 64 KiB, and the output of a decryption or unwrap, whatever its length, until its tag has
passed (R153, R208, R245). -/
def Job.bigResult (j : Job) : Bool := 65536 < j.output.length || (match j.op with | some o => opOpens o | none => false)

/-- Committed results in fabric staging. -/
def State.stagingUsed (s : State) : Nat :=
  (s.fabric.jobs.map fun j => if j.bigResult then 0 else (j.parts.filter fun q => q.staged).length).sum

/-- The part's result is in staging, its bank freed; the job is staged once every part is. -/
def State.stagePart (s : State) (id part : Nat) (p : Pool) : State :=
  let s := s.freeBanks p id part (afterJob p)
  let s := s.modJob id fun j => { j with parts := j.parts.modify part fun q => { q with staged := true, slot := 0, region := [] } }
  s.modJob id fun j => if j.parts.all (fun q => q.staged) && j.phase == .computed then { j with phase := .staged } else j

/-- The commit point of a part: its shares are recombined (Laws/Engines, `recombine_threeShares`) and its result goes to staging, or stays in
its bank while staging is full (R90, R96, R103). -/
def State.commitPart (s : State) (id part : Nat) : State :=
  match s.job? id with
  | none => s
  | some j =>
    match j.parts[part]? with
    | none => s
    | some q =>
      if !q.computed || q.committed then s
      else
        let s := if j.op == some .mcelieceDecaps && !j.hit then s.cacheExpanded j else s
        let s := s.modJob id fun j => { j with parts := j.parts.modify part fun q => { q with committed := true, shares := [] } }
        if j.bigResult || s.stagingUsed < stagingPlaces then s.stagePart id part q.pool else s

/-- Operations whose row is their commit: they change state outside the engine (sessions, caches). -/
def State.finishNow (s : State) (id : Nat) (r : OpResult) : State := (s.finish id r).commitPart id 0

/-- The job runs an operation that changes the Cellar, and there is room to release it at its commit (R82, R190, R286, R289). -/
def State.closes? (s : State) (id : Nat) (op : Op) : Option Job :=
  match s.runs? id op with
  | some j => if s.stagingUsed < stagingPlaces then some j else none
  | none => none

/-- Ends such a job: its change of the Cellar, its commit and its release are one instant, so that a reset finds all of them or none (R82,
R289, R436). -/
def State.closeNow (s : State) (id : Nat) (r : OpResult) : State :=
  let s := s.finishNow id r
  match s.job? id with
  | some j => if j.phase == .staged then s.release id else s
  | none => s

/-- Instant from which a job may be released. -/
def Job.releaseAt (j : Job) : Nat := (j.parts.map (·.releaseAt)).foldl max 0

/-- Results wait in staging during Hold, and leave in the order of their release times (R103, R517). -/
def State.releasable (s : State) (j : Job) : Bool :=
  j.phase == .staged && s.power.mode != .hold && !s.randomBarred j && j.releaseAt ≤ s.clock.now &&
  s.fabric.jobs.all fun x => !(x.phase == .staged && !s.randomBarred x && x.releaseAt < j.releaseAt)

/-! ### Abandonment and restart (R62, R97, R216, R244) -/

/-- Abandons a part before its commit point, and no other (R132): it waits to be dispatched again, or the job ends after the fourth fault
(R62). Its last start is kept (R70). -/
def State.abandonPart (s : State) (id part : Nat) (fault hold : Bool) : State :=
  match s.job? id with
  | none => s
  | some j =>
    match j.parts[part]? with
    | none => s
    | some q =>
      if q.committed || q.engine.isNone then s
      else
        let s := s.freeBanks q.pool id part (afterJob q.pool)
        let parts := j.parts.modify part fun q => { pool := q.pool, tDispatch := q.tDispatch }
        let phase := if parts.any (fun q => q.engine.isSome) then JobPhase.running else .ready
        let s := s.modJob id fun j => { j with
          parts := parts, phase := phase, retried := true, faults := j.faults + b2n fault, byHold := j.byHold || hold, status := .success,
          output := [] }
        if 4 ≤ j.faults + b2n fault then s.failAny id .faultUnrecovered false else s

/-- Parts of jobs that hold a bank of an engine and have not committed. -/
def State.engineParts (s : State) (p : Pool) (i : Nat) : List (Nat × Nat) :=
  match (s.pool p)[i]? with
  | none => []
  | some e => e.banks.filterMap fun b => match b with | .job id part => if s.bankRuns b then some (id, part) else none | _ => none

/-- Expansion routines are abandoned: their keys are expanded anew (R97, R111). -/
def Engine.dropExpansions (e : Engine) : Engine :=
  e.endWork (fun b => match b with | .expanding _ => true | _ => false) .wiping

/-- Abandons every part that runs on an engine. -/
def State.abandonEngine (s : State) (p : Pool) (i : Nat) (fault hold : Bool) : State :=
  ((s.engineParts p i).foldl (fun s (id, part) => s.abandonPart id part fault hold) s).modEngine p i Engine.dropExpansions

/-- Results past their commit point cross to staging before their engine goes (R31). -/
def State.crossEngine (s : State) (p : Pool) (i : Nat) : State :=
  match (s.pool p)[i]? with
  | none => s
  | some e => e.banks.foldl (fun s b => match b with | .job id part => if s.bankRuns b then s else s.stagePart id part p | _ => s) s

/-- Uncouples an engine (R31): results cross, routines are abandoned, its seeds and banks are lost with its power. -/
def State.uncoupleEngine (s : State) (p : Pool) (i : Nat) (hold : Bool) : State :=
  let s := (s.crossEngine p i).abandonEngine p i false hold
  s.modEngine p i fun e => { e with banks := e.banks.map fun _ => Bank.free, contents := [], mask := none, seq := none, seeds := [] }

/-- Engines of a power domain (R15). -/
def domainEngines (d : Nat) : List (Pool × Nat) :=
  if 4 ≤ d && d < 36 then [(.press, d - 4)]
  else if 36 ≤ d && d < 40 then (List.range 16).map fun i => (.cooper, (d - 36) * 16 + i)
  else if 40 ≤ d && d < 42 then
    ((List.range 96).map fun i => (.sha2, (d - 40) * 96 + i)) ++ (List.range 32).map fun i => (.keccak, (d - 40) * 32 + i)
  else if 42 ≤ d && d < 44 then (List.range 4).map fun i => (.dray, (d - 42) * 4 + i)
  else []

/-- Turns an engine domain off (R31). -/
def State.domainOff (s : State) (d : Nat) (hold : Bool) : State :=
  let s := (domainEngines d).foldl (fun s (p, i) => s.uncoupleEngine p i hold) s
  ({ s with power.domains := s.power.domains.filter (· != d) }).verifyPatches

/-- Turns an engine domain on, its engines through their power-on tests (R32, R104, R105); not one that a fault keeps off (R542). While a
patch is loaded the engines then test it (R105). -/
def State.domainOnNow (s : State) (d : Nat) : State :=
  if s.power.domains.contains d || s.power.domainFaults.contains d then s
  else ((domainEngines d).foldl State.powerTest { s with power.domains := s.power.domains ++ [d] }).kats

/-- Engine domains (R15). -/
def engineDomains : List Nat := (List.range 40).map (· + 4)

/-- Counts a fault of an engine: with three within 1 s it goes offline until the next module reset (R95, R169, R215, R243). Answers
whether it just went offline. -/
def State.countFault (s : State) (p : Pool) (i : Nat) : State × Bool :=
  match (s.pool p)[i]? with
  | none => (s, false)
  | some e =>
    let times := (e.faultTimes.filter fun t => s.clock.now < t + 1000000000) ++ [s.clock.now]
    let off := 3 ≤ times.length && !e.offline
    (s.modEngine p i fun e => { e with faultTimes := times, offline := e.offline || off }, off)

/-- An engine has started the job, now or before an abandonment (R70, R332). -/
def Job.reached (j : Job) : Bool := j.parts.any fun q => q.tDispatch.isSome

/-- Withdraws every job that no engine has started, with a status; `p` tells which (R81, R332, R524). An entry that failed step 2 keeps its
own status. -/
def State.withdraw (s : State) (st : Status) (p : Job → Bool) : State :=
  let waiting (j : Job) : Bool := j.phase.undispatched && !j.reached && p j
  (s.fabric.jobs.filter waiting).foldl (fun s j =>
    if j.phase == .unknown then s.failAny j.id .unknownOpcode false else s.failAny j.id st true) s

end Sys2Proof.Machine
end

