-- ==== Sys2Proof/Machine/Lattice.lean ====
section
/-!
DEFINITION. Classes 0x01 ML-KEM, 0x02 ML-DSA and 0x03 X25519MLKEM768 (04 R109 to R139; 03 R99 to R102). FIPS 203 and FIPS 204
functions are uninterpreted (log entry 4); the module's own checks and layouts are computed.
-/
namespace Sys2Proof.Machine

/-- Runs the routine of an operation on a job whose parts are all dispatched. -/
def State.runOp (s : State) (id : Nat) (op : Op) (f : State → Job → OpResult) : State :=
  match s.runs? id op with
  | some j => s.finish id (f s j)
  | none => s

/-! ### Objects that operations place (R117, R561) -/

/-- The wrapped private key of a job: its class and PARAM, the operation's usage bits (R561). -/
def State.keyObject (s : State) (j : Job) (usage form : Nat) (material : Bytes) : Bytes :=
  s.jobWrap j { keyClass := entClass j.entry, param := j.param, worlds := 1, usage := usage, lcMask := s.lcBit, form := form }
    j.cek material

/-- A secret placed under K_WRAP or SS_WRAP: class 0x09, PARAM 0, usage derive (R117, R561). -/
def State.secretObject (s : State) (j : Job) (secret : Bytes) : Bytes :=
  s.jobWrap j { keyClass := 9, param := 0, worlds := 1, usage := 0x20, lcMask := s.lcBit, form := formSymmetric } j.cek secret

/-- The secret in plaintext, or wrapped with AUX [0] (R117). -/
def State.placedSecret (s : State) (j : Job) (secret : Bytes) : Bytes :=
  if j.aux.getLsbD 0 then s.secretObject j secret else secret

/-! ### ML-KEM (R115 to R120) -/

/-- The modulus check of R118 on pairs of 12-bit coefficients: each decodes below 3,329. `fuel` bounds the triples. -/
def coeffsOk : Nat → Bytes → Bool
  | fuel + 1, a :: b :: c :: rest =>
    let lo := a.toNat + 256 * (b.toNat % 16)
    let hi := b.toNat / 16 + 16 * c.toNat
    lo < 3329 && hi < 3329 && coeffsOk fuel rest
  | _, _ => true

/-- The FIPS 203 modulus check of an encapsulation key: all but its last 32 bytes are coefficients (R118). -/
def ekOk (ek : Bytes) : Bool := coeffsOk ek.length (ek.take (ek.length - 32))

/-- ek of private material, K and c of an encapsulation, K of a decapsulation. -/
def kemEk (p : Nat) (m : Bytes) : Bytes := std .kemEk p [m] (mlKemEk p)
def kemDk (p : Nat) (m : Bytes) : Bytes := std .kemDk p [m] (mlKemDk p)
def kemEncK (p : Nat) (ek m : Bytes) : Bytes := std .kemEncK p [ek, m] 32
def kemEncC (p : Nat) (ek m : Bytes) : Bytes := std .kemEncC p [ek, m] (mlKemCt p)
def kemDecK (p : Nat) (m c : Bytes) : Bytes := std .kemDecK p [m, c] 32

/-- Release time of a lattice job's Press part. -/
def latticeTime (op : Op) (p : Nat) : List (Option Nat) := [some (latticeRel op p)]

/-- KEYGEN: ek and the wrapped seed d, z with usage decaps (R115, R116). -/
def mlKemKeygenResult (s : State) (j : Job) : OpResult :=
  { output := kemEk j.param j.own ++ s.keyObject j 8 formSeed j.own, rel := latticeTime .mlKemKeygen j.param }

/-- ENCAPS: the ek of the input is checked, that of a key is not (R118). -/
def mlKemEncapsResult (s : State) (j : Job) : OpResult :=
  let p := j.param
  let rel := latticeTime .mlKemEncaps p
  let ek := if j.kind == .none then j.input else kemEk p j.material
  if j.kind == .none && !ekOk ek then .failed .malformedEncoding rel
  else { output := s.placedSecret j (kemEncK p ek j.own) ++ kemEncC p ek j.own, rel := rel }

/-- DECAPS: every ciphertext succeeds, implicit rejection inside the standard's function (R119). -/
def mlKemDecapsResult (s : State) (j : Job) : OpResult :=
  { output := s.placedSecret j (kemDecK j.param j.material j.input), rel := latticeTime .mlKemDecaps j.param }

/-- EK_CHECK (R118). -/
def mlKemEkCheckResult (_ : State) (j : Job) : OpResult :=
  let rel := latticeTime .mlKemEkCheck j.param
  if ekOk j.input then { rel := rel } else .failed .malformedEncoding rel

/-- KEYGEN_INTERNAL: ek and dk of the host's d, z (R120). -/
def mlKemKeygenInternalResult (_ : State) (j : Job) : OpResult :=
  { output := kemEk j.param j.input ++ kemDk j.param j.input, rel := latticeTime .mlKemKeygenInternal j.param }

/-- ENCAPS_INTERNAL: ek then m of the input (R118, R120). -/
def mlKemEncapsInternalResult (_ : State) (j : Job) : OpResult :=
  let p := j.param
  let rel := latticeTime .mlKemEncapsInternal p
  let ek := j.input.take (mlKemEk p)
  let m := j.input.drop (mlKemEk p)
  if !ekOk ek then .failed .malformedEncoding rel else { output := kemEncK p ek m ++ kemEncC p ek m, rel := rel }

/-- ML_KEM_KEYGEN (R115). -/
def execMlKemKeygen (t job : Nat) (s : State) : Host.Outcome State Fault Refusal :=
  .next ((s.advance t).runOp job .mlKemKeygen mlKemKeygenResult)
/-- ML_KEM_ENCAPS (R115, R118). -/
def execMlKemEncaps (t job : Nat) (s : State) : Host.Outcome State Fault Refusal :=
  .next ((s.advance t).runOp job .mlKemEncaps mlKemEncapsResult)
/-- ML_KEM_DECAPS (R119). -/
def execMlKemDecaps (t job : Nat) (s : State) : Host.Outcome State Fault Refusal :=
  .next ((s.advance t).runOp job .mlKemDecaps mlKemDecapsResult)
/-- ML_KEM_EK_CHECK (R118). -/
def execMlKemEkCheck (t job : Nat) (s : State) : Host.Outcome State Fault Refusal :=
  .next ((s.advance t).runOp job .mlKemEkCheck mlKemEkCheckResult)
/-- ML_KEM_KEYGEN_INTERNAL (R120). -/
def execMlKemKeygenInternal (t job : Nat) (s : State) : Host.Outcome State Fault Refusal :=
  .next ((s.advance t).runOp job .mlKemKeygenInternal mlKemKeygenInternalResult)
/-- ML_KEM_ENCAPS_INTERNAL (R120). -/
def execMlKemEncapsInternal (t job : Nat) (s : State) : Host.Outcome State Fault Refusal :=
  .next ((s.advance t).runOp job .mlKemEncapsInternal mlKemEncapsInternalResult)

/-! ### ML-DSA (R121 to R129, R100 to R102) -/

/-- DER encoding of a pre-hash function's OID, 11 bytes (R124). -/
def preHashOid (alg : Nat) : Bytes := toBe 10 0x06096086480165030402 ++ toLe 1 (preHashArc alg)

/-- The formatted message M' (R123, R173): pure, or of a pre-hash. -/
def formatted (pre : Bool) (alg : Nat) (ctx m : Bytes) : Bytes :=
  toLe 1 (b2n pre) ++ toLe 1 ctx.length ++ ctx ++ (if pre then preHashOid alg else []) ++ m

/-- Public key of a seed, tr of a public key, mu of a message (R123). -/
def dsaPkOf (p : Nat) (seed : Bytes) : Bytes := std .dsaPk p [seed] (mlDsaPk p)
def dsaTr (pk : Bytes) : Bytes := shake256 pk 64
def dsaMu (pk m : Bytes) : Bytes := shake256 (dsaTr pk ++ m) 64

/-- The FIPS 204 counters of the four candidates of round `i`, from 1 (R100). -/
def dsaCounters (p i : Nat) : List Nat := (List.range 4).map fun k => (4 * (i - 1) + k) * mlDsaEll p

/-- The candidate of a counter is valid (R100, log entry 4). -/
def dsaValid (p : Nat) (seed mu rnd : Bytes) (kappa : Nat) : Bool := Config.stdHolds .dsaSig p [seed, mu, rnd, toLe 4 kappa]

/-- The rounds from `i` on: the first with a valid candidate, and the lowest counter valid in it; `fuel` rounds are tried (R100). -/
def dsaSearch (p : Nat) (seed mu rnd : Bytes) : Nat → Nat → Option (Nat × Nat)
  | 0, _ => none
  | fuel + 1, i =>
    match (dsaCounters p i).find? (dsaValid p seed mu rnd) with
    | some k => some (i, k)
    | none => dsaSearch p seed mu rnd fuel (i + 1)

/-- Rounds run and the counter of the candidate kept; none when 256 rounds find no candidate (R100, R102). -/
def dsaKept (p : Nat) (seed mu rnd : Bytes) : Option (Nat × Nat) := dsaSearch p seed mu rnd 256 1

/-- The signature of a candidate (R100, log entry 4). -/
def dsaSigOf (p : Nat) (seed mu rnd : Bytes) (kappa : Nat) : Bytes := std .dsaSig p [seed, mu, rnd, toLe 4 kappa] (mlDsaSig p)

/-- rnd of a signature: 32 zero bytes in the deterministic variant (R127). -/
def Job.rnd (j : Job) : Bytes := if j.aux.getLsbD 0 then zeros 32 else j.own

/-- A signature over mu, released by its rounds; without a candidate in 256 rounds it fails (R100, R102). -/
def dsaSign (j : Job) (mu : Bytes) : OpResult :=
  let p := j.param
  let at' (n : Nat) : List (Option Nat) := [some (mlDsaBase p + n * mlDsaRound p)]
  match dsaKept p j.material mu j.rnd with
  | none => .failed .faultUnrecovered (at' 256)
  | some (n, k) => { output := dsaSigOf p j.material mu j.rnd k, rel := at' n }

/-- Verification of mu and a signature (R128). -/
def dsaVerify (op : Op) (p : Nat) (pk mu sig : Bytes) : OpResult :=
  let rel := latticeTime op p
  if Config.stdHolds .dsaVerify p [pk, mu, sig] then { rel := rel } else .failed .signatureInvalid rel

/-- The public key of a verification, and the input after it (R121). -/
def Job.dsaKey (j : Job) : Bytes × Bytes :=
  if j.kind == .none then (j.input.take (mlDsaPk j.param), j.input.drop (mlDsaPk j.param)) else (dsaPkOf j.param j.material, j.input)

/-- KEYGEN: pk and the wrapped seed with usage sign (R121, R129). -/
def mlDsaKeygenResult (s : State) (j : Job) : OpResult :=
  { output := dsaPkOf j.param j.own ++ s.keyObject j 1 formSeed j.own, rel := latticeTime .mlDsaKeygen j.param }

/-- SIGN: ctx then M (R123). -/
def mlDsaSignResult (_ : State) (j : Job) : OpResult :=
  let n := auxCtxLen j.aux
  dsaSign j (dsaMu (dsaPkOf j.param j.material) (formatted false 0 (j.input.take n) (j.input.drop n)))

/-- SIGN_PREHASH: ctx then PH(M) (R123, R124). -/
def mlDsaSignPrehashResult (_ : State) (j : Job) : OpResult :=
  let n := auxCtxLen j.aux
  dsaSign j (dsaMu (dsaPkOf j.param j.material) (formatted true (auxPhAlg j.aux) (j.input.take n) (j.input.drop n)))

/-- SIGN_MU: the input is mu (R123). -/
def mlDsaSignMuResult (_ : State) (j : Job) : OpResult := dsaSign j j.input

/-- VERIFY: signature, ctx, M (R123, R128). -/
def mlDsaVerifyResult (_ : State) (j : Job) : OpResult :=
  let p := j.param
  let (pk, b) := j.dsaKey
  let m := b.drop (mlDsaSig p)
  let n := auxCtxLen j.aux
  dsaVerify .mlDsaVerify p pk (dsaMu pk (formatted false 0 (m.take n) (m.drop n))) (b.take (mlDsaSig p))

/-- VERIFY_PREHASH: signature, ctx, PH(M) (R123, R128). -/
def mlDsaVerifyPrehashResult (_ : State) (j : Job) : OpResult :=
  let p := j.param
  let (pk, b) := j.dsaKey
  let m := b.drop (mlDsaSig p)
  let n := auxCtxLen j.aux
  dsaVerify .mlDsaVerifyPrehash p pk (dsaMu pk (formatted true (auxPhAlg j.aux) (m.take n) (m.drop n))) (b.take (mlDsaSig p))

/-- VERIFY_MU: mu then signature (R128). -/
def mlDsaVerifyMuResult (_ : State) (j : Job) : OpResult :=
  let (pk, b) := j.dsaKey
  dsaVerify .mlDsaVerifyMu j.param pk (b.take 64) (b.drop 64)

/-- KEYGEN_INTERNAL: pk and sk of the host's seed (R129). -/
def mlDsaKeygenInternalResult (_ : State) (j : Job) : OpResult :=
  { output := dsaPkOf j.param j.input ++ std .dsaSk j.param [j.input] (mlDsaSk j.param), rel := latticeTime .mlDsaKeygenInternal j.param }

/-- A signing job that found no candidate raises its tile's trap event, which counts towards the tile's faults (R102). -/
def State.dsaTrap (s : State) (id : Nat) : State :=
  match s.job? id with
  | none => s
  | some j =>
    match (j.parts.find? (·.pool == .press)).bind (·.engine) with
    | some tile =>
      if j.phase == .computed && j.status == .faultUnrecovered then
        let s := s.raise (2 * tile + 1) [0]
        let (s, off) := s.countFault .press tile
        if off then ((s.raise (2 * tile) [1]).crossEngine .press tile).verifyPatches else s
      else s
    | none => s

/-- ML_DSA_KEYGEN (R129). -/
def execMlDsaKeygen (t job : Nat) (s : State) : Host.Outcome State Fault Refusal :=
  .next ((s.advance t).runOp job .mlDsaKeygen mlDsaKeygenResult)
/-- Runs a signing operation, with the trap of R102. -/
def State.runSign (s : State) (id : Nat) (op : Op) (f : State → Job → OpResult) : State :=
  match s.runs? id op with
  | some j => (s.finish id (f s j)).dsaTrap id
  | none => s

/-- ML_DSA_SIGN (R100, R102, R123). -/
def execMlDsaSign (t job : Nat) (s : State) : Host.Outcome State Fault Refusal :=
  .next ((s.advance t).runSign job .mlDsaSign mlDsaSignResult)
/-- ML_DSA_SIGN_PREHASH (R100, R102, R123). -/
def execMlDsaSignPrehash (t job : Nat) (s : State) : Host.Outcome State Fault Refusal :=
  .next ((s.advance t).runSign job .mlDsaSignPrehash mlDsaSignPrehashResult)
/-- ML_DSA_SIGN_MU (R100, R102, R123). -/
def execMlDsaSignMu (t job : Nat) (s : State) : Host.Outcome State Fault Refusal :=
  .next ((s.advance t).runSign job .mlDsaSignMu mlDsaSignMuResult)
/-- ML_DSA_VERIFY (R128). -/
def execMlDsaVerify (t job : Nat) (s : State) : Host.Outcome State Fault Refusal :=
  .next ((s.advance t).runOp job .mlDsaVerify mlDsaVerifyResult)
/-- ML_DSA_VERIFY_PREHASH (R128). -/
def execMlDsaVerifyPrehash (t job : Nat) (s : State) : Host.Outcome State Fault Refusal :=
  .next ((s.advance t).runOp job .mlDsaVerifyPrehash mlDsaVerifyPrehashResult)
/-- ML_DSA_VERIFY_MU (R128). -/
def execMlDsaVerifyMu (t job : Nat) (s : State) : Host.Outcome State Fault Refusal :=
  .next ((s.advance t).runOp job .mlDsaVerifyMu mlDsaVerifyMuResult)
/-- ML_DSA_KEYGEN_INTERNAL (R129). -/
def execMlDsaKeygenInternal (t job : Nat) (s : State) : Host.Outcome State Fault Refusal :=
  .next ((s.advance t).runOp job .mlDsaKeygenInternal mlDsaKeygenInternalResult)

/-! ### X25519MLKEM768 (R130 to R133, R240) -/

/-- X25519 public value and shared value. -/
def x25519Pub (k : Bytes) : Bytes := std .xPub 0x10 [k] 32
def x25519Shared (k u : Bytes) : Bytes := std .xShared 0x10 [k, u] 32

/-- Release times of the Press and Cooper parts (R132, R240). -/
def hybridTime (op : Op) : List (Option Nat) :=
  [some (latticeRel op 1), some (match op with | .hybridInitKeygen => 2200 | .hybridRespond => 13900 | _ => 11700)]

/-- INIT_KEYGEN: client share, and the wrapped seed and scalar with usage decaps and agree (R131). -/
def hybridInitKeygenResult (s : State) (j : Job) : OpResult :=
  { output := kemEk 2 (j.own.take 64) ++ x25519Pub (slice j.own 64 32) ++ s.keyObject j 0x18 formSeed j.own,
    rel := hybridTime .hybridInitKeygen }

/-- RESPOND (R131, R133). -/
def hybridRespondResult (s : State) (j : Job) : OpResult :=
  let rel := hybridTime .hybridRespond
  let ek := j.input.take 1184
  let k := slice j.own 32 32
  let z := x25519Shared k (j.input.drop 1184)
  let m := j.own.take 32
  if !ekOk ek then .failed .malformedEncoding rel
  else if allZero z then .failed .outOfRange rel
  else { output := s.placedSecret j (kemEncK 2 ek m ++ z) ++ kemEncC 2 ek m ++ x25519Pub k, rel := rel }

/-- INIT_FINISH (R131, R133). -/
def hybridInitFinishResult (s : State) (j : Job) : OpResult :=
  let rel := hybridTime .hybridInitFinish
  let z := x25519Shared (slice j.material 64 32) (j.input.drop 1088)
  if allZero z then .failed .outOfRange rel
  else { output := s.placedSecret j (kemDecK 2 (j.material.take 64) (j.input.take 1088) ++ z), rel := rel }

/-- HYBRID_INIT_KEYGEN (R130). -/
def execHybridInitKeygen (t job : Nat) (s : State) : Host.Outcome State Fault Refusal :=
  .next ((s.advance t).runOp job .hybridInitKeygen hybridInitKeygenResult)
/-- HYBRID_RESPOND (R133). -/
def execHybridRespond (t job : Nat) (s : State) : Host.Outcome State Fault Refusal :=
  .next ((s.advance t).runOp job .hybridRespond hybridRespondResult)
/-- HYBRID_INIT_FINISH (R133). -/
def execHybridInitFinish (t job : Nat) (s : State) : Host.Outcome State Fault Refusal :=
  .next ((s.advance t).runOp job .hybridInitFinish hybridInitFinishResult)

end Sys2Proof.Machine
end

