-- ==== Sys2Proof/Machine/Hashes.lean ====
section
/-!
DEFINITION. The hash array: classes 0x06 SLH-DSA, 0x07 LMS and HSS, 0x08 XMSS and XMSS^MT, 0x09 hash, MAC and XOF sessions (06 R163 to
R206). The standards' functions are uninterpreted (log entry 4).
-/
namespace Sys2Proof.Machine

/-! ### SLH-DSA (R171 to R179) -/

/-- Release time of a class 0x06 job (R175, R179). -/
def slhTime (op : Op) (j : Job) : List (Option Nat) := [some (slhRel op j.param (slhMsgPart op j.param j.kind j.input.length))]

/-- PK.seed and PK.root of a private key (R276). -/
def slhPkOf (p : Nat) (sk : Bytes) : Bytes := sk.drop (2 * slhN p)

/-- The private key of SK.seed, SK.prf, PK.seed: the root is appended (R276). -/
def slhSkOf (p : Nat) (seeds : Bytes) : Bytes := seeds.take (3 * slhN p) ++ std .slhPk p [seeds] (slhN p)

/-- opt_rand: PK.seed in the deterministic variant, else fresh bytes (R173). -/
def Job.optRand (j : Job) : Bytes := if j.aux.getLsbD 0 then slice j.material (2 * slhN j.param) (slhN j.param) else j.own

/-- M' of an input that starts with ctx (R173). -/
def Job.slhMessage (j : Job) (pre : Bool) (b : Bytes) : Bytes :=
  formatted pre (auxPhAlg j.aux) (b.take (auxCtxLen j.aux)) (b.drop (auxCtxLen j.aux))

/-- A signature (R172, R173). -/
def slhSign (op : Op) (pre : Bool) (j : Job) : OpResult :=
  { output := std .slhSig j.param [j.material, j.slhMessage pre j.input, j.optRand] (slhSig j.param), rel := slhTime op j }

/-- A verification (R176). -/
def slhVerify (op : Op) (pre : Bool) (j : Job) : OpResult :=
  let p := j.param
  let own := j.kind == .none
  let pk := if own then j.input.take (slhPk p) else slhPkOf p j.material
  let b := if own then j.input.drop (slhPk p) else j.input
  if Config.stdHolds .slhVerify p [pk, j.slhMessage pre (b.drop (slhSig p)), b.take (slhSig p)] then { rel := slhTime op j }
  else .failed .signatureInvalid (slhTime op j)

/-- KEYGEN: pk and the wrapped private key with usage sign (R172). -/
def slhDsaKeygenResult (s : State) (j : Job) : OpResult :=
  let sk := slhSkOf j.param j.own
  { output := slhPkOf j.param sk ++ s.keyObject j 1 formSeed sk, rel := slhTime .slhDsaKeygen j }

/-- KEYGEN_INTERNAL: pk and sk (R177). -/
def slhDsaKeygenInternalResult (_ : State) (j : Job) : OpResult :=
  let sk := slhSkOf j.param j.input
  { output := slhPkOf j.param sk ++ sk, rel := slhTime .slhDsaKeygenInternal j }

/-- SLH_DSA_KEYGEN (R172). -/
def execSlhDsaKeygen (t job : Nat) (s : State) : Host.Outcome State Fault Refusal :=
  .next ((s.advance t).runOp job .slhDsaKeygen slhDsaKeygenResult)
/-- SLH_DSA_SIGN (R173). -/
def execSlhDsaSign (t job : Nat) (s : State) : Host.Outcome State Fault Refusal :=
  .next ((s.advance t).runOp job .slhDsaSign fun _ j => slhSign .slhDsaSign false j)
/-- SLH_DSA_SIGN_PREHASH (R173). -/
def execSlhDsaSignPrehash (t job : Nat) (s : State) : Host.Outcome State Fault Refusal :=
  .next ((s.advance t).runOp job .slhDsaSignPrehash fun _ j => slhSign .slhDsaSignPrehash true j)
/-- SLH_DSA_VERIFY (R176). -/
def execSlhDsaVerify (t job : Nat) (s : State) : Host.Outcome State Fault Refusal :=
  .next ((s.advance t).runOp job .slhDsaVerify fun _ j => slhVerify .slhDsaVerify false j)
/-- SLH_DSA_VERIFY_PREHASH (R176). -/
def execSlhDsaVerifyPrehash (t job : Nat) (s : State) : Host.Outcome State Fault Refusal :=
  .next ((s.advance t).runOp job .slhDsaVerifyPrehash fun _ j => slhVerify .slhDsaVerifyPrehash true j)
/-- SLH_DSA_KEYGEN_INTERNAL (R177). -/
def execSlhDsaKeygenInternal (t job : Nat) (s : State) : Host.Outcome State Fault Refusal :=
  .next ((s.advance t).runOp job .slhDsaKeygenInternal slhDsaKeygenInternalResult)

/-! ### Stateful keys (R180 to R192) -/

/-- Bytes of the types or OID at the front of stateful material (R276). -/
def statefulHead (xmss : Bool) (p : Nat) (ls : List TreeLevel) : Nat :=
  if xmss then 4 else if p == 1 then 8 else 4 + 8 * ls.length

/-- Node size of a key. -/
def levelsN (ls : List TreeLevel) : Nat := groupN (ls.headD ⟨0, 0, 0⟩).group

/-! #### The trees of LMS and HSS (R184, R188; layouts of RFC 8554, PRESUMED, log entry 13) -/

/-- The hash of a key's group, truncated to its node size (R184, R188). -/
def groupHash (g : Nat) (b : Bytes) : Bytes := (if groupShake g then shake256 b 32 else sha256 b).take (groupN g)

/-- LMS type and LM-OTS type of a level, in the material of an LMS or HSS key (R276). -/
def levelTypes (p : Nat) (m : Bytes) (i : Nat) : Bytes := if p == 1 then m.take 8 else slice m (4 + 8 * i) 8

/-- I and SEED of tree `t` of level `i`: the material's own for the top tree, derived below it (R188). -/
def treeSeeds (p : Nat) (ls : List TreeLevel) (m : Bytes) (i t : Nat) : Bytes × Bytes :=
  let h := statefulHead false p ls
  let n := levelsN ls
  let top := slice m h 16
  let seed := slice m (h + 16) n
  let derived (code : Nat) : Bytes :=
    groupHash (ls.headD ⟨0, 0, 0⟩).group (top ++ toBe 4 i ++ toBe 8 t ++ toBe 2 code ++ toBe 1 0xFF ++ seed)
  if i == 0 then (top, seed) else ((derived 0xFFFC).take 16, derived 0xFFFB)

/-- The randomiser C of leaf `q` of an LMS tree (R184). -/
def lmsRandomiser (x : TreeLevel) (tree : Bytes × Bytes) (q : Nat) : Bytes :=
  groupHash x.group (tree.1 ++ toBe 4 q ++ toBe 2 0xFFFD ++ toBe 1 0xFF ++ tree.2)

/-- T[1] of an LMS tree (log entry 4). -/
def lmsRoot (types : Bytes) (tree : Bytes × Bytes) (n : Nat) : Bytes := std .treeRoot 7 [types, tree.1, tree.2] n

/-- An LMS signature with leaf `q` of a tree: q, LM-OTS type, C, chains, LMS type, path (R184). -/
def lmsSign (x : TreeLevel) (types : Bytes) (tree : Bytes × Bytes) (q : Nat) (msg : Bytes) : Bytes :=
  let n := groupN x.group
  let c := lmsRandomiser x tree q
  toBe 4 q ++ types.drop 4 ++ c ++ std .lmotsSig 7 [types, tree.1, tree.2, toBe 4 q, c, msg] (n * lmotsP n x.w) ++
  types.take 4 ++ std .treePath 7 [types, tree.1, tree.2, toBe 4 q] (n * x.height)

/-- LMS public key of a tree of an HSS key: types, I, root (R188). -/
def treePk (p : Nat) (ls : List TreeLevel) (m : Bytes) (i t : Nat) : Bytes :=
  let types := levelTypes p m i
  let tree := treeSeeds p ls m i t
  types ++ tree.1 ++ lmsRoot types tree (levelsN ls)

/-- What a tree of level `i - 1` of an XMSS^MT key signs with, or signs of a root below it: chains and path (R188, log entry 4). -/
def xmssReduced (x : TreeLevel) (args : List Bytes) : Bytes :=
  let n := groupN x.group
  std .treeSig 8 args (((if n == 32 then 67 else 51) + x.height) * n)

/-- The signature of the root of tree `t` of level `i` by the tree above it, which is made once (R188). -/
def rootSig (xmss : Bool) (p : Nat) (ls : List TreeLevel) (m : Bytes) (i t : Nat) : Bytes :=
  if i == 0 then []
  else
    let above := ls.getD (i - 1) ⟨0, 0, 0⟩
    if xmss then xmssReduced above [m, toBe 4 i, toBe 8 t]
    else
      let up := t / 2 ^ above.height
      lmsSign above (levelTypes p m (i - 1)) (treeSeeds p ls m (i - 1) up) (t % 2 ^ above.height) (treePk p ls m i t)

/-- Index, among the trees of its level, of the tree of level `i` over leaf `q` (R188). -/
def treeOver (ls : List TreeLevel) (i q : Nat) : Nat := q / 2 ^ ((ls.drop i).map (·.height)).sum

/-- A stateful signature over `msg` with leaf `q`, the roots of the lower trees signed as `sigs` holds them (R184, R188). LMS and HSS are
composed as RFC 8554 does, XMSS and XMSS^MT as RFC 8391 does, r from SK_PRF and the index. -/
def statefulSig (xmss : Bool) (p : Nat) (ls : List TreeLevel) (m : Bytes) (q : Nat) (msg : Bytes) (sigs : Nat → Nat → Bytes) : Bytes :=
  let n := levelsN ls
  let low := ls.length - 1
  let x := ls.getD low ⟨0, 0, 0⟩
  let lower := (List.range low).map (· + 1)
  if xmss then
    let idx := toBe (if p == 1 then 4 else ((ls.map (·.height)).sum + 7) / 8) q
    let r := std .treePrf 8 [slice m (4 + n) n, toBe 32 q] n
    idx ++ r ++ xmssReduced x [m, toBe 8 q, r, msg] ++ (lower.reverse.map fun i => sigs i (treeOver ls i q)).flatten
  else
    let own := lmsSign x (levelTypes p m low) (treeSeeds p ls m low (treeOver ls low q)) (q % 2 ^ x.height) msg
    if p == 1 then own
    else toBe 4 low ++ (lower.map fun i => sigs i (treeOver ls i q) ++ treePk p ls m i (treeOver ls i q)).flatten ++ own

/-- Material of a new stateful key: types, seeds, root of the top tree (R276). -/
def statefulMaterial (xmss : Bool) (p : Nat) (ls : List TreeLevel) (types rand : Bytes) : Bytes :=
  let n := levelsN ls
  let head := types.take (statefulHead xmss p ls)
  if xmss then
    let seeds := rand.take n ++ slice rand 32 n ++ slice rand 64 n
    head ++ seeds ++ std .treeRoot 8 [head, seeds] n
  else
    let tree := (rand.take 16, slice rand 16 n)
    head ++ tree.1 ++ tree.2 ++ lmsRoot (levelTypes p types 0) tree n

/-- Public key of stateful material (RFC 8554, RFC 8391; R181). -/
def statefulPk (xmss : Bool) (p : Nat) (m : Bytes) : Bytes :=
  match statefulLevels xmss p m with
  | none => []
  | some ls =>
    let n := levelsN ls
    let h := statefulHead xmss p ls
    if xmss then m.take 4 ++ slice m (4 + 3 * n) n ++ slice m (4 + 2 * n) n
    else if p == 1 then m.take 8 ++ slice m 8 16 ++ slice m (24 + n) n
    else m.take 12 ++ slice m h 16 ++ slice m (h + 16 + n) n

/-- Bytes of a cached tree; for H25 the top 20 levels (R189). -/
def treeBytes (l : TreeLevel) : Nat := (2 ^ (min l.height 20 + 1) - 1) * groupN l.group

/-- Capacity of the tree cache (R189). -/
def treeCacheBytes : Nat := 4294967296

/-- Levels of the key in a slot. -/
def State.slotLevels (s : State) (slot : Nat) : List TreeLevel :=
  match s.slotRecord? slot with
  | some r => (statefulLevels (r.header.keyClass == 8) r.header.param r.material).getD []
  | none => []

/-- Bytes that the tree cache holds. -/
def State.treesUsed (s : State) : Nat :=
  (s.engines.trees.map fun t => treeBytes ((s.slotLevels t.slot).getD t.level ⟨0, 0, 0⟩)).sum

/-- A job of the slot's key runs: its trees are not evicted (R189). -/
def State.slotRuns (s : State) (slot : Nat) : Bool :=
  s.fabric.jobs.any fun j => (j.phase == .running || j.phase == .computed) && j.kind == .slot && refIndex j.keyRef == slot

/-- Evicts the least recently used trees of keys without running jobs until a tree fits; `fuel` bounds their number (R189). -/
def State.treeRoom : Nat → State → Nat → State
  | 0, s, _ => s
  | fuel + 1, s, need =>
    if s.treesUsed + need ≤ treeCacheBytes then s
    else
      let older (best : Option CachedTree) (x : CachedTree) : Option CachedTree :=
        if s.slotRuns x.slot then best
        else match best with
          | some b => if x.lastUse < b.lastUse then some x else best
          | none => some x
      let victim := s.engines.trees.foldl older none
      match victim with
      | some v => State.treeRoom fuel { s with engines.trees := s.engines.trees.filter fun (x : CachedTree) => x != v } need
      | none => s

/-- The signature that a tree of a slot's key is cached with (R188). -/
def State.slotRootSig (s : State) (slot level index : Nat) : Bytes :=
  match s.slotRecord? slot with
  | some r => rootSig (r.header.keyClass == 8) r.header.param (s.slotLevels slot) r.material level index
  | none => []

/-- Puts a built tree into the cache with the signature of its root, where it fits (R188, R189). -/
def State.cacheTree (s : State) (slot level index : Nat) : State :=
  if s.treeCached slot (level, index) then s
  else
    let need := treeBytes ((s.slotLevels slot).getD level ⟨0, 0, 0⟩)
    let s := s.treeRoom (s.engines.trees.length + 1) need
    if treeCacheBytes < s.treesUsed + need then s
    else
      let u := s.engines.uses + 1
      let t : CachedTree := { slot := slot, level := level, index := index, lastUse := u, sig := s.slotRootSig slot level index }
      { s with engines.trees := s.engines.trees ++ [t], engines.uses := u }

/-- Leaves of a 5-level subtree, which H25 caches below its top 20 levels (R189). -/
def subtreeLeaves : Nat := 32

/-- A signature with leaf `q` of an H25 tree builds one leaf of the subtree after the one in hand (R189). -/
def CachedTree.grow (x : CachedTree) (q : Nat) : CachedTree :=
  let now := q / subtreeLeaves
  { x with subtree := if now == x.subtree.1 then (now, min subtreeLeaves (x.subtree.2 + 1)) else (now, 1) }

/-- Counts a use of the trees that sign leaf `q` (R189). -/
def State.useTrees (s : State) (slot : Nat) (ls : List TreeLevel) (q : Nat) : State :=
  let u := s.engines.uses + 1
  let low := ls.length - 1
  let h := (ls.getD low ⟨0, 0, 0⟩).height
  let use (x : CachedTree) : CachedTree :=
    if x.slot != slot || !(leafTrees ls 0 q).contains (x.level, x.index) then x
    else if x.level == low && h == 25 then { x.grow (q % 2 ^ h) with lastUse := u }
    else { x with lastUse := u }
  { s with engines.trees := s.engines.trees.map use, engines.uses := u }

/-- KEYGEN: fills the record taken at step 10, makes the slot LIVE, gives it the whole index space, places pk, all at its commit (R82, R190).
A slot that is no longer PREPARED keeps its key (R182, DEDUCED, log entry 20). -/
def State.statefulKeygen (s : State) (id : Nat) (op : Op) : State :=
  let xmss := op == .xmssKeygen
  match s.closes? id op with
  | none => s
  | some j =>
    match j.key, j.shadow, statefulLevels xmss j.param j.input with
    | some k, some r, some ls =>
      if s.slotState k.index != .prepared then
        (s.modJob id fun j => { j with shadow := none }).closeNow id (.failed .keyUseDenied [none])
      else
      let m := statefulMaterial xmss j.param ls j.input j.own
      let h : SlotHeader := { k.header with
        state := .live, form := formStateful, materialLen := m.length, versionTime := s.clock.train, versionDevice := s.deviceIndex,
        materialHash := sha3 m }
      let pk := statefulPk xmss j.param m
      let total := 2 ^ (ls.map (·.height)).sum
      let l : Ledger := {
        slot := k.index, keyId := sha3 pk, next := 0, highWater := 0, ranges := [(0, 0, total)], low := total ≤ h.lowThreshold }
      let s := s.install k.index r h m
      let s := { s with cellar.ledgers := (s.cellar.ledgers.filter fun (x : Ledger) => x.slot != k.index) ++ [l] }
      let s := (List.range ls.length).foldl (fun s i => s.cacheTree k.index i 0) s
      (s.modJob id fun j => { j with shadow := none }).closeNow id { output := pk, rel := [none] }
    | _, _, _ => s

/-- Release time of a stateful signature: that of the lowest level, and the message part (R175, R192). -/
def statefulSignTime (xmss : Bool) (j : Job) : List (Option Nat) :=
  match j.levels with
  | some ls => [some (statefulSignRel xmss (ls.getLastD ⟨0, 0, 0⟩) + 750 * extraParts j.input.length)]
  | none => [some 0]

/-- The signature of a lower tree's root, as the cache holds it (R188). -/
def State.cachedSig (s : State) (slot level index : Nat) : Bytes :=
  match s.engines.trees.find? fun x => x.slot == slot && x.level == level && x.index == index with
  | some x => x.sig
  | none => []

/-- SIGN with the leaf that step 10 assigned (R183, R184, R192). -/
def State.statefulSign (s : State) (id : Nat) (op : Op) : State :=
  let xmss := op == .xmssSign
  match s.runs? id op with
  | none => s
  | some j =>
    match j.levels, j.leaf with
    | some ls, some q =>
      let slot := refIndex j.keyRef
      let sig := statefulSig xmss j.param ls j.material q j.input (s.cachedSig slot)
      (s.useTrees slot ls q).finish id { output := sig, rel := statefulSignTime xmss j }
    | _, _ => s

/-- Levels of an HSS signature below the top one, by its types; the top level's types where they cannot be read (R191). -/
def hssLower : Nat → TreeLevel → TreeLevel → Bytes → List TreeLevel
  | 0, _, _, _ => []
  | n + 1, top, cur, b =>
    let rest := b.drop (lmsSigLen cur)
    match lmsLevels [be rest 0 4, be rest 4 4] with
    | some [x] =>
      if 8 ≤ rest.length && x.group == top.group then x :: hssLower n top x (rest.drop (24 + groupN top.group))
      else List.replicate (n + 1) top
    | _ => List.replicate (n + 1) top

/-- Levels of the signature that a verification reads (R191). -/
def verifyLevels (xmss : Bool) (p : Nat) (ls : List TreeLevel) (sig : Bytes) : List TreeLevel :=
  let top := ls.headD ⟨0, 0, 0⟩
  if xmss || p == 1 then ls else top :: hssLower (ls.length - 1) top top (sig.drop 4)

/-- An LMS signature has the types of its key, and its index lies inside the tree (R191; layout of RFC 8554, PRESUMED, log entry 13). -/
def lmsFits (x : TreeLevel) (b : Bytes) : Bool :=
  lmsLevels [be b (8 + groupN x.group * (lmotsP (groupN x.group) x.w + 1)) 4, be b 4 4] == some [x] && be b 0 4 < 2 ^ x.height

/-- The levels of an HSS signature fit one by one, each below the top with the types of the public key that the level above signs (R191). -/
def hssFits : List TreeLevel → Bytes → Bool
  | [], _ => true
  | [x], b => lmsFits x b
  | x :: y :: ls, b =>
    let rest := b.drop (lmsSigLen x)
    lmsFits x b && lmsLevels [be rest 0 4, be rest 4 4] == some [y] && hssFits (y :: ls) (rest.drop (24 + groupN x.group))

/-- Types and index of a stateful signature fit the key: an HSS signature names one lower key fewer than it has levels, and an XMSS index has
4 bytes, an XMSS^MT one as many as its height needs (R191). -/
def statefulFits (xmss : Bool) (p : Nat) (vs : List TreeLevel) (sig : Bytes) : Bool :=
  let h := (vs.map (·.height)).sum
  if xmss then be sig 0 (if p == 1 then 4 else (h + 7) / 8) < 2 ^ h
  else if p == 1 then hssFits vs sig
  else be sig 0 4 + 1 == vs.length && hssFits vs (sig.drop 4)

/-- VERIFY of a stateful signature (R191, R192). -/
def statefulVerify (xmss : Bool) (_ : State) (j : Job) : OpResult :=
  let p := j.param
  let pk := if j.kind == .none then j.input.take (match j.levels with | some ls => statefulPkLen xmss p ls | none => 0)
            else statefulPk xmss p j.material
  let b := if j.kind == .none then j.input.drop pk.length else j.input
  let n := bitsOf j.aux 0 32
  let sig := b.take n
  match j.levels with
  | none => .failed .malformedEncoding [none]
  | some ls =>
    let vs := verifyLevels xmss p ls sig
    let rel := [some ((vs.map (statefulVerifyRel xmss)).sum + 750 * extraParts (b.length - n))]
    if statefulSigLen xmss p vs == n && statefulFits xmss p vs sig && Config.stdHolds .treeVerify (if xmss then 8 else 7) [pk, sig, b.drop n] then { rel := rel }
    else .failed .signatureInvalid rel

/-- TREE_STATE (R187). -/
def State.treeState (s : State) (slot : Nat) (ls : List TreeLevel) (next : Nat) : Nat :=
  let low := ls.length - 1
  let i := next / 2 ^ (ls.getLastD ⟨0, 0, 0⟩).height
  b2n (s.treeCached slot (low, i)) + (if 1 < ls.length then 2 * b2n (s.treeCached slot (low, i + 1)) else 0)

/-- The state record (R187). -/
def State.stateRecord (s : State) (slot : Nat) : Bytes :=
  match s.ledger? slot with
  | none => zeros 32
  | some l =>
    toLe 8 l.nextIndex ++ toLe 8 l.left ++ toLe 8 l.highWater ++ toLe 1 l.ranges.length ++
    toLe 1 (s.treeState slot (s.slotLevels slot) l.nextIndex) ++ zeros 6

/-- Ends a job that reaches no engine with SUCCESS and an output (R60, R187). -/
def State.answer (s : State) (id : Nat) (out : Bytes) : State :=
  (s.modJob id fun j => { j with status := .success, output := out, trailer := entTs j.entry, phase := .computed }).release id

/-- STATE_GET (R187). -/
def State.stateGet (s : State) (id : Nat) (op : Op) : State :=
  match s.control? id op with
  | some j => s.answer id (s.stateRecord (refIndex j.keyRef))
  | none => s

/-- LMS_KEYGEN (R190). -/
def execLmsKeygen (t job : Nat) (s : State) : Host.Outcome State Fault Refusal := .next ((s.advance t).statefulKeygen job .lmsKeygen).settle
/-- LMS_SIGN (R183, R184). -/
def execLmsSign (t job : Nat) (s : State) : Host.Outcome State Fault Refusal := .next ((s.advance t).statefulSign job .lmsSign)
/-- LMS_VERIFY (R191). -/
def execLmsVerify (t job : Nat) (s : State) : Host.Outcome State Fault Refusal :=
  .next ((s.advance t).runOp job .lmsVerify (statefulVerify false))
/-- LMS_STATE_GET (R187). -/
def execLmsStateGet (t job : Nat) (s : State) : Host.Outcome State Fault Refusal := .next ((s.advance t).stateGet job .lmsStateGet).settle
/-- XMSS_KEYGEN (R190). -/
def execXmssKeygen (t job : Nat) (s : State) : Host.Outcome State Fault Refusal := .next ((s.advance t).statefulKeygen job .xmssKeygen).settle
/-- XMSS_SIGN (R183, R184). -/
def execXmssSign (t job : Nat) (s : State) : Host.Outcome State Fault Refusal := .next ((s.advance t).statefulSign job .xmssSign)
/-- XMSS_VERIFY (R191). -/
def execXmssVerify (t job : Nat) (s : State) : Host.Outcome State Fault Refusal :=
  .next ((s.advance t).runOp job .xmssVerify (statefulVerify true))
/-- XMSS_STATE_GET (R187). -/
def execXmssStateGet (t job : Nat) (s : State) : Host.Outcome State Fault Refusal := .next ((s.advance t).stateGet job .xmssStateGet).settle

/-! ### Sessions (R199 to R206) -/

/-- DIGEST: N, S, data (R200, R201). -/
def hashDigestResult (_ : State) (j : Job) : OpResult :=
  let n := auxNLen j.aux
  let c := auxSLen j.aux
  { output := hashOf j.param j.material (j.input.take n) (slice j.input n c) (hashOutLen j.param j.aux) (j.input.drop (n + c)) }

/-- VERIFY: tag, N, S, data (R200, R205). -/
def hashVerifyResult (_ : State) (j : Job) : OpResult :=
  let len := hashOutLen j.param j.aux
  let n := auxNLen j.aux
  let c := auxSLen j.aux
  let b := j.input.drop len
  if hashOf j.param j.material (b.take n) (slice b n c) len (b.drop (n + c)) == j.input.take len then {}
  else .failed .signatureInvalid [none]

/-- Session objects in all (R202). -/
def sessionObjects : Nat := 1048576

/-- OPEN: a free session object with a drawn CHECK that is never 0 (R202). -/
def State.hashOpen (s : State) (id : Nat) : State :=
  match s.runs? id .hashOpen with
  | none => s
  | some j =>
    if sessionObjects ≤ s.fabric.sessions.length then s.finishNow id (.failed .quotaExceeded [none])
    else
      let n := s.fabric.sessions.length
      let i := anyFree "session object" (s.useNo n) sessionObjects n fun i => s.fabric.sessions.any fun x => x.index == i
      let check := 1 + leNat j.own % 255
      let nl := auxNLen j.aux
      let decl := le j.input 0 8
      let x : HashSession := {
        index := i, check := check, carriage := j.carriage, gen := j.gen, param := j.param, key := j.material, usage := j.usage,
        custN := slice j.input 8 nl, custS := slice j.input (8 + nl) (auxSLen j.aux), outLen := hashOutLen j.param j.aux,
        declLen := if decl == 0xFFFFFFFFFFFFFFFF then none else some decl, lastUse := s.clock.now }
      ({ s with fabric.sessions := s.fabric.sessions ++ [x] }).finishNow id { output := toLe 4 (i + check * 2 ^ 24) }

/-- Chunks that wait for a session go on, in their order, and those without a core whose number has passed, or whose session has closed, end
at once (R203). -/
def State.wakeChunks (s : State) (h : Nat) : State :=
  (s.fabric.jobs.filter fun j =>
    opChunk (j.op.getD .nop) && (j.phase == .waitChunk || j.phase == .ready) && j.handle == some h).foldl (fun s j =>
    match s.chunkOrder j with
    | none => s.failJob j.id .keyNotFound true
    | some .lt => s.failJob j.id .outOfRange true
    | some .eq => s.modJob j.id fun j => { j with phase := .ready }
    | some .gt => s) s

/-- Closes a session (R202, R203). -/
def State.closeSession (s : State) (h : Nat) : State :=
  ({ s with fabric.sessions := s.fabric.sessions.filter (·.index != h) }).wakeChunks h

/-- The session whose turn the job's chunk is; otherwise the status it ends with (R203). -/
def State.chunkTurn (s : State) (j : Job) : Except Status HashSession :=
  match s.handleSession j with
  | none => .error .keyNotFound
  | some x => if auxChunkNo j.aux == x.nextChunk then .ok x else .error .outOfRange

/-- The absorbed count after a chunk passes the declared total (R204). -/
def HashSession.past (x : HashSession) (n : Nat) : Bool := match x.declLen with | some d => d < x.absorbed.length + n | none => false
/-- The absorbed count after the last chunk differs from the declared total (R204). -/
def HashSession.short (x : HashSession) (n : Nat) : Bool := match x.declLen with | some d => d != x.absorbed.length + n | none => false

/-- UPDATE (R203, R204). -/
def State.hashUpdate (s : State) (id : Nat) : State :=
  match s.runs? id .hashUpdate with
  | none => s
  | some j =>
    match s.chunkTurn j with
    | .error st => s.finishNow id (.failed st [none])
    | .ok x =>
      if x.past j.input.length then (s.closeSession x.index).finishNow id (.failed .lengthMismatch [none])
      else
        let now := s.clock.now
        let grow (y : HashSession) : HashSession := { y with absorbed := y.absorbed ++ j.input, nextChunk := y.nextChunk + 1, lastUse := now }
        (({ s with fabric.sessions := mapIf (·.index == x.index) grow s.fabric.sessions }).wakeChunks x.index).finishNow id {}

/-- Output of a session with its last chunk. -/
def HashSession.output (x : HashSession) (last : Bytes) : Bytes :=
  hashOf x.param x.key x.custN x.custS x.outLen (x.absorbed ++ last)

/-- FINAL (R203, R204). -/
def State.hashFinal (s : State) (id : Nat) : State :=
  match s.runs? id .hashFinal with
  | none => s
  | some j =>
    match s.chunkTurn j with
    | .error st => s.finishNow id (.failed st [none])
    | .ok x =>
      let s := s.closeSession x.index
      if x.short j.input.length then s.finishNow id (.failed .lengthMismatch [none])
      else s.finishNow id { output := x.output j.input }

/-- FINAL_VERIFY: the tag comes first; an input shorter than the tag is a length mismatch that leaves the session (R203 to R205). -/
def State.hashFinalVerify (s : State) (id : Nat) : State :=
  match s.runs? id .hashFinalVerify with
  | none => s
  | some j =>
    match s.chunkTurn j with
    | .error st => s.finishNow id (.failed st [none])
    | .ok x =>
      let last := j.input.drop x.outLen
      if j.input.length < x.outLen || mib16 < last.length then s.finishNow id (.failed .lengthMismatch [none])
      else
        let s := s.closeSession x.index
        if x.short last.length then s.finishNow id (.failed .lengthMismatch [none])
        else s.finishNow id (if x.output last == j.input.take x.outLen then {} else .failed .signatureInvalid [none])

/-- ABORT (R203). -/
def State.hashAbort (s : State) (id : Nat) : State :=
  match s.runs? id .hashAbort with
  | none => s
  | some j =>
    match s.handleSession j with
    | none => s.finishNow id (.failed .keyNotFound [none])
    | some x => (s.closeSession x.index).finishNow id {}

/-- HASH_DIGEST (R200). -/
def execHashDigest (t job : Nat) (s : State) : Host.Outcome State Fault Refusal :=
  .next ((s.advance t).runOp job .hashDigest hashDigestResult)
/-- HASH_VERIFY (R205). -/
def execHashVerify (t job : Nat) (s : State) : Host.Outcome State Fault Refusal :=
  .next ((s.advance t).runOp job .hashVerify hashVerifyResult)
/-- HASH_OPEN (R202). -/
def execHashOpen (t job : Nat) (s : State) : Host.Outcome State Fault Refusal := .next ((s.advance t).hashOpen job)
/-- HASH_UPDATE (R203). -/
def execHashUpdate (t job : Nat) (s : State) : Host.Outcome State Fault Refusal := .next ((s.advance t).hashUpdate job).settle
/-- HASH_FINAL (R203). -/
def execHashFinal (t job : Nat) (s : State) : Host.Outcome State Fault Refusal := .next ((s.advance t).hashFinal job).settle
/-- HASH_FINAL_VERIFY (R205). -/
def execHashFinalVerify (t job : Nat) (s : State) : Host.Outcome State Fault Refusal := .next ((s.advance t).hashFinalVerify job).settle
/-- HASH_ABORT (R203). -/
def execHashAbort (t job : Nat) (s : State) : Host.Outcome State Fault Refusal := .next ((s.advance t).hashAbort job).settle

end Sys2Proof.Machine
end

