-- ==== Sys2Proof/Machine/Cooper.lean ====
section
/-!
DEFINITION. The Cooper engines: classes 0x0A ECDSA, 0x0B EdDSA, 0x0C ECDH, 0x0D RSA (07 R207 to R239). Curve arithmetic and RSA
encodings are uninterpreted (log entry 4); the range and form checks of R235 are computed.
-/
namespace Sys2Proof.Machine

/-- Release time of a class 0x0A to 0x0D job. -/
def cooperTime (op : Op) (p cls msg : Nat) : List (Option Nat) := [some (cooperRel op p cls msg)]

/-! ### ECDSA and ECDH (R218 to R223, R235) -/

/-- Group order n and field prime p of the curves of R219: P-256, P-384, P-521 (SP 800-186), then brainpool (RFC 5639). -/
def curveOrder (p : Nat) : Nat :=
  match p with
  | 1 => 0xFFFFFFFF00000000FFFFFFFFFFFFFFFFBCE6FAADA7179E84F3B9CAC2FC632551
  | 2 => 0xFFFFFFFFFFFFFFFFFFFFFFFFFFFFFFFFFFFFFFFFFFFFFFFFC7634D81F4372DDF581A0DB248B0A77AECEC196ACCC52973
  | 3 => 2 ^ 521 - 0x5AE79787C40D069948033FEB708F65A2FC44A36477663B851449048E16EC79BF7
  | 4 => 0xA9FB57DBA1EEA9BC3E660A909D838D718C397AA3B561A6F7901E0E82974856A7
  | 5 => 0x8CB91E82A3386D280F5D6F7E50E641DF152F7109ED5456B31F166E6CAC0425A7CF3AB6AF6B7FC3103B883202E9046565
  | _ => 0xAADD9DB8DBE9C48B3FD4E6AE33C9FC07CB308DB3B3C9D20ED6639CCA70330870553E5C414CA92619418661197FAC10471DB1D381085DDADDB58796829CA90069
def curvePrime (p : Nat) : Nat :=
  match p with
  | 1 => 2 ^ 256 - 2 ^ 224 + 2 ^ 192 + 2 ^ 96 - 1
  | 2 => 2 ^ 384 - 2 ^ 128 - 2 ^ 96 + 2 ^ 32 - 1
  | 3 => 2 ^ 521 - 1
  | 4 => 0xA9FB57DBA1EEA9BC3E660A909D838D726E3BF623D52620282013481D1F6E5377
  | 5 => 0x8CB91E82A3386D280F5D6F7E50E641DF152F7109ED5456B412B1DA197FB71123ACD3A729901D1A71874700133107EC53
  | _ => 0xAADD9DB8DBE9C48B3FD4E6AE33C9FC07CB308DB3B3C9D20ED6639CCA703308717D4D9B009BC66842AECDA12AE6A380E62881FF2F2D82C68528AA6056583A48F3

/-- Bit length of a number. -/
def bitLen (n : Nat) : Nat := if n == 0 then 0 else Nat.log2 n + 1

/-- The digest as an integer of its leftmost bits, up to the bit length of n, in L bytes (R222). -/
def ecDigest (p : Nat) (h : Bytes) : Bytes := toBe (ecL p) (beNat h / 2 ^ (8 * h.length - bitLen (curveOrder p)))

/-- d = (c mod (n - 1)) + 1 of L + 8 random bytes (R220). -/
def ecScalar (p : Nat) (c : Bytes) : Bytes := toBe (ecL p) (beNat c % (curveOrder p - 1) + 1)

/-- Public point of a private scalar: u for X25519 and X448. -/
def ecPubOf (p : Nat) (d : Bytes) : Bytes :=
  if p == 0x10 || p == 0x11 then std .xPub p [d] (ecPub p) else std .ecPub p [d] (ecPub p)

/-- The checks of a peer's or signer's point, in the order of R235. -/
def pointFault (p : Nat) (q : Bytes) : Option Status :=
  let first := byteAt q 0
  if first != 4 && (first != 0 || !allZero (q.drop 1)) then some .malformedEncoding
  else if first == 4 && (curvePrime p ≤ be q 1 (ecL p) || curvePrime p ≤ be q (1 + ecL p) (ecL p)) then some .outOfRange
  else if first == 0 || !Config.stdHolds .ecOnCurve p [q.drop 1] then some .pointNotOnCurve
  else none

/-- r and s lie from 1 to n - 1 (R235). -/
def ecSigRange (p : Nat) (sig : Bytes) : Bool :=
  let r := beNat (sig.take (ecL p))
  let x := beNat (sig.drop (ecL p))
  0 < r && r < curveOrder p && 0 < x && x < curveOrder p

/-- Candidates beyond the first that a signature takes (R223). -/
def ecExtra (p alg : Nat) (d digest fresh : Bytes) : Nat := Config.stdNat .ecRetries p [toLe 1 alg, d, digest, fresh]

/-- KEYGEN of ECDSA: Q and the wrapped scalar with usage sign (R220). -/
def ecdsaKeygenResult (s : State) (j : Job) : OpResult :=
  let d := ecScalar j.param j.own
  { output := ecPubOf j.param d ++ s.keyObject j 1 formPrivate d, rel := cooperTime .ecdsaKeygen j.param 0 0 }

/-- SIGN: RFC 6979 nonces, hedged with 32 fresh bytes; each extra candidate adds one T_REL (R223). -/
def ecdsaSignResult (_ : State) (j : Job) : OpResult :=
  let p := j.param
  let alg := auxPhAlg j.aux
  let h := ecDigest p j.input
  let n := 1 + ecExtra p alg j.material h j.own
  { output := std .ecSig p [toLe 1 alg, j.material, h, j.own] (2 * ecL p), rel := [some (n * cooperRel .ecdsaSign p 0 0)] }

/-- VERIFY: the point of the input is checked, then r, s and the equation (R235). -/
def ecdsaVerifyResult (_ : State) (j : Job) : OpResult :=
  let p := j.param
  let rel := cooperTime .ecdsaVerify p 0 0
  let own := j.kind == .none
  let q := if own then j.input.take (ecPub p) else ecPubOf p j.material
  let b := if own then j.input.drop (ecPub p) else j.input
  let sig := b.take (2 * ecL p)
  let digest := ecDigest p (b.drop (2 * ecL p))
  match (if own then pointFault p q else none) with
  | some st => .failed st rel
  | none => if ecSigRange p sig && Config.stdHolds .ecVerify p [q, sig, digest] then { rel := rel } else .failed .signatureInvalid rel

/-- KEYGEN of ECDH: Q or u and the wrapped scalar with usage agree; an X448 key is the first 56 bytes of its draw (R220, R236; log entry
97). -/
def ecdhKeygenResult (s : State) (j : Job) : OpResult :=
  let p := j.param
  let d := if p == 0x10 || p == 0x11 then j.own.take (ecL p) else ecScalar p j.own
  { output := ecPubOf p d ++ s.keyObject j 0x10 formPrivate d, rel := cooperTime .ecdhKeygen p 0 0 }

/-- A peer's u: the top bit of an X25519 u masked, then reduced modulo p (R228). -/
def xPeer (p : Nat) (u : Bytes) : Bytes :=
  toLe (ecL p) (if p == 0x10 then leNat u % 2 ^ 255 % (2 ^ 255 - 19) else leNat u % (2 ^ 448 - 2 ^ 224 - 1))

/-- DERIVE: Z, or wrapped Z; a Montgomery Z of all zero bytes is refused (R220, R228, R235). -/
def ecdhDeriveResult (s : State) (j : Job) : OpResult :=
  let p := j.param
  let rel := cooperTime .ecdhDerive p 0 0
  if p == 0x10 || p == 0x11 then
    let z := std .xShared p [j.material, xPeer p j.input] (ecL p)
    if allZero z then .failed .outOfRange rel else { output := s.placedSecret j z, rel := rel }
  else match pointFault p j.input with
    | some st => .failed st rel
    | none => { output := s.placedSecret j (std .ecShared p [j.material, j.input] (ecL p)), rel := rel }

/-- ECDSA_KEYGEN (R220). -/
def execEcdsaKeygen (t job : Nat) (s : State) : Host.Outcome State Fault Refusal :=
  .next ((s.advance t).runOp job .ecdsaKeygen ecdsaKeygenResult)
/-- ECDSA_SIGN (R223). -/
def execEcdsaSign (t job : Nat) (s : State) : Host.Outcome State Fault Refusal :=
  .next ((s.advance t).runOp job .ecdsaSign ecdsaSignResult)
/-- ECDSA_VERIFY (R235). -/
def execEcdsaVerify (t job : Nat) (s : State) : Host.Outcome State Fault Refusal :=
  .next ((s.advance t).runOp job .ecdsaVerify ecdsaVerifyResult)
/-- ECDH_KEYGEN (R220). -/
def execEcdhKeygen (t job : Nat) (s : State) : Host.Outcome State Fault Refusal :=
  .next ((s.advance t).runOp job .ecdhKeygen ecdhKeygenResult)
/-- ECDH_DERIVE (R220, R228). -/
def execEcdhDerive (t job : Nat) (s : State) : Host.Outcome State Fault Refusal :=
  .next ((s.advance t).runOp job .ecdhDerive ecdhDeriveResult)

/-! ### EdDSA (R224 to R227, R235) -/

/-- Field prime of Ed25519 and Ed448 (RFC 8032). -/
def edPrime (p : Nat) : Nat := if p == 1 then 2 ^ 255 - 19 else 2 ^ 448 - 2 ^ 224 - 1

/-- Public key of a seed. -/
def edPubOf (p : Nat) (seed : Bytes) : Bytes := std .edPub p [seed] (edPub p)

/-- The checks of an encoded A, in the order of R235. -/
def edKeyFault (p : Nat) (a : Bytes) : Option Status :=
  let v := leNat a
  let top := 2 ^ (8 * edPub p - 1)
  let y := v % top
  if top ≤ v && (y == 1 || y == edPrime p - 1) then some .malformedEncoding
  else if edPrime p ≤ y then some .outOfRange
  else if !Config.stdHolds .edXFound p [a] then some .pointNotOnCurve
  else none

/-- A signature over ctx and M or PH(M) in the variant (R225). -/
def eddsaSignResult (_ : State) (j : Job) : OpResult :=
  let n := auxCtxLen j.aux
  { output := std .edSig j.param [toLe 1 (auxVariant j.aux), j.material, j.input.take n, j.input.drop n] (edSig j.param),
    rel := cooperTime .eddsaSign j.param 0 (j.input.length - n) }

/-- KEYGEN: A and the wrapped seed with usage sign (R224). -/
def eddsaKeygenResult (s : State) (j : Job) : OpResult :=
  { output := edPubOf j.param j.own ++ s.keyObject j 1 formSeed j.own, rel := cooperTime .eddsaKeygen j.param 0 0 }

/-- VERIFY under the cofactored equation; A of small order is refused (R227, R235). -/
def eddsaVerifyResult (_ : State) (j : Job) : OpResult :=
  let p := j.param
  let own := j.kind == .none
  let a := if own then j.input.take (edPub p) else edPubOf p j.material
  let b := if own then j.input.drop (edPub p) else j.input
  let sig := b.take (edSig p)
  let m := b.drop (edSig p)
  let n := auxCtxLen j.aux
  let rel := cooperTime .eddsaVerify p 0 (m.length - n)
  match (if own then edKeyFault p a else none) with
  | some st => .failed st rel
  | none =>
    if !Config.stdHolds .edSmall p [a] && Config.stdHolds .edVerify p [toLe 1 (auxVariant j.aux), a, sig, m.take n, m.drop n] then { rel := rel }
    else .failed .signatureInvalid rel

/-- EDDSA_KEYGEN (R224). -/
def execEddsaKeygen (t job : Nat) (s : State) : Host.Outcome State Fault Refusal :=
  .next ((s.advance t).runOp job .eddsaKeygen eddsaKeygenResult)
/-- EDDSA_SIGN (R225). -/
def execEddsaSign (t job : Nat) (s : State) : Host.Outcome State Fault Refusal :=
  .next ((s.advance t).runOp job .eddsaSign eddsaSignResult)
/-- EDDSA_VERIFY (R227). -/
def execEddsaVerify (t job : Nat) (s : State) : Host.Outcome State Fault Refusal :=
  .next ((s.advance t).runOp job .eddsaVerify eddsaVerifyResult)

/-! ### RSA (R229 to R235) -/

/-- The primes of material p ∥ q, and the modulus n = p·q (R229). -/
def rsaPQ (p : Nat) (m : Bytes) : Nat × Nat := (beNat (m.take (rsaK p / 2)), beNat (m.drop (rsaK p / 2)))
def rsaN (p : Nat) (m : Bytes) : Nat := (rsaPQ p m).1 * (rsaPQ p m).2
def rsaModulus (p : Nat) (m : Bytes) : Bytes := toBe (rsaK p) (rsaN p m)

/-- The exponent of a held key, in the bytes of its class (R231). -/
def SlotHeader.e (h : SlotHeader) : Bytes := toBe (expBytes h.expClass) h.exponent

/-- Material of an RSA key: n has exactly the bit length of its PARAM, and e has no factor in common with λ(n) (R229, R285). -/
def rsaMaterialOk (p e : Nat) (m : Bytes) : Bool :=
  let (x, y) := rsaPQ p m
  m.length == rsaK p && bitLen (x * y) == 8 * rsaK p && Nat.gcd e (Nat.lcm (x - 1) (y - 1)) == 1

/-- A prime of `n` bits that a search found: odd, and high enough that the product of two has 2n bits (R229, FIPS 186-5). Its other bits are
FREE (log entry 4). -/
def rsaPrime (n x : Nat) : Nat :=
  let low := Nat.sqrt (2 ^ (2 * n - 1)) + 1
  (low + x % (2 ^ n - low)) ||| 1

/-- e of every generated key (R230). -/
def rsaE : Bytes := [1, 0, 1]

/-- Exponent class in force: the entry's with kind none, else the key's (R231). -/
def Job.expClass (j : Job) : Nat := if j.kind == .none then auxExpClass j.aux else j.keyExpClass

/-- n, e and the input after them. -/
def Job.rsaKey (j : Job) : Bytes × Bytes × Bytes :=
  let k := rsaK j.param
  let ne := expBytes (auxExpClass j.aux)
  if j.kind == .none then (j.input.take k, slice j.input k ne, j.input.drop (k + ne))
  else (rsaModulus j.param j.material, (match j.key with | some k => k.header.e | none => []), j.input)

/-- The checks of n and e given in the input, in the order of R235. -/
def rsaKeyFault (n e : Bytes) (cls : Nat) : Option Status :=
  if byteAt n 0 < 128 || beNat n % 2 == 0 || beNat e % 2 == 0 || beNat e < 3 then some .malformedEncoding
  else if 2 ^ expBits cls ≤ beNat e then some .outOfRange
  else none

/-- A signature (R230). -/
def rsaSign (op : Op) (j : Job) : OpResult :=
  { output := std .rsaPrivate j.param [toLe 1 (auxPhAlg j.aux), toLe 1 (if op == .rsaSignPss then 1 else 0), j.material, j.input, j.own] (rsaK j.param),
    rel := cooperTime op j.param 0 0 }

/-- A verification (R235). -/
def rsaVerify (op : Op) (f : StdFn) (j : Job) : OpResult :=
  let p := j.param
  let (n, e, b) := j.rsaKey
  let rel := cooperTime op p j.expClass 0
  let sig := b.take (rsaK p)
  match (if j.kind == .none then rsaKeyFault n e j.expClass else none) with
  | some st => .failed st rel
  | none =>
    if 0 < beNat sig && beNat sig < beNat n &&
        Config.stdHolds f p [toLe 1 (auxPhAlg j.aux), toLe 1 (auxSaltLabel j.aux), n, e, sig, b.drop (rsaK p)] then { rel := rel }
    else .failed .signatureInvalid rel

/-- DECRYPT_OAEP: label then c (R233, R235). -/
def rsaDecryptOaepResult (s : State) (j : Job) : OpResult :=
  let p := j.param
  let rel := cooperTime .rsaDecryptOaep p 0 0
  let n := auxSaltLabel j.aux
  let c := j.input.drop n
  let args := [toLe 1 (auxPhAlg j.aux), j.material, j.input.take n, c]
  let len := min (Config.stdNat .rsaOaepLen p args) (rsaK p - 2 * preHashLen (auxPhAlg j.aux) - 2)
  if beNat c == 0 then .failed .malformedEncoding rel
  else if beNat (rsaModulus p j.material) ≤ beNat c then .failed .outOfRange rel
  else if !Config.stdHolds .rsaOaepOk p args then .failed .malformedEncoding rel
  else { output := s.placedSecret j (std .rsaOaepMsg p args len), rel := rel }

/-- ENCRYPT_OAEP: label then M (R232, R235). -/
def rsaEncryptOaepResult (_ : State) (j : Job) : OpResult :=
  let p := j.param
  let (n, e, b) := j.rsaKey
  let rel := cooperTime .rsaEncryptOaep p j.expClass 0
  let l := auxSaltLabel j.aux
  match (if j.kind == .none then rsaKeyFault n e j.expClass else none) with
  | some st => .failed st rel
  | none => { output := std .rsaPublic p [toLe 1 (auxPhAlg j.aux), n, e, b.take l, b.drop l, j.own] (rsaK p), rel := rel }

/-- p ∥ q of a search over its draw. -/
def rsaPrimes (p : Nat) (own : Bytes) : Bytes :=
  let n := rsaK p / 2
  let x := std .rsaPrimes p [own] (2 * n)
  toBe n (rsaPrime (8 * n) (beNat (x.take n))) ++ toBe n (rsaPrime (8 * n) (beNat (x.drop n)))

/-- KEYGEN: n, e = 65,537 and the wrapped primes with usage sign and decaps (R230, R234). -/
def rsaKeygenResult (s : State) (j : Job) : OpResult :=
  let m := rsaPrimes j.param j.own
  { output := rsaModulus j.param m ++ rsaE ++ s.keyObject j 9 formPrivate m, rel := cooperTime .rsaKeygen j.param 0 0 }

/-- RSA_KEYGEN: a search that ends before T_REL has its result; one still running at T_REL is abandoned and restarted, and after 4 such
stops the job ends with FAULT_UNRECOVERED (R234). -/
def State.rsaKeygen (s : State) (id : Nat) : State :=
  match s.runs? id .rsaKeygen with
  | none => s
  | some j =>
    if Config.stdHolds .rsaSearchEnds j.param [j.own] then s.finish id (rsaKeygenResult s j)
    else
      let started := match j.parts.head? with | some q => q.nDispatch | none => 0
      if s.clock.now < started + cooperRel .rsaKeygen j.param 0 0 then s
      else
        let s := s.modJob id fun j => { j with stops := j.stops + 1 }
        if 4 ≤ j.stops + 1 then s.failAny id .faultUnrecovered false else s.abandonPart id 0 false false

/-- RSA_KEYGEN (R234). -/
def execRsaKeygen (t job : Nat) (s : State) : Host.Outcome State Fault Refusal := .next ((s.advance t).rsaKeygen job).settle
/-- RSA_SIGN_PKCS1 (R230). -/
def execRsaSignPkcs1 (t job : Nat) (s : State) : Host.Outcome State Fault Refusal :=
  .next ((s.advance t).runOp job .rsaSignPkcs1 fun _ j => rsaSign .rsaSignPkcs1 j)
/-- RSA_SIGN_PSS (R230). -/
def execRsaSignPss (t job : Nat) (s : State) : Host.Outcome State Fault Refusal :=
  .next ((s.advance t).runOp job .rsaSignPss fun _ j => rsaSign .rsaSignPss j)
/-- RSA_VERIFY_PKCS1 (R235). -/
def execRsaVerifyPkcs1 (t job : Nat) (s : State) : Host.Outcome State Fault Refusal :=
  .next ((s.advance t).runOp job .rsaVerifyPkcs1 fun _ j => rsaVerify .rsaVerifyPkcs1 .rsaPkcs1Ok j)
/-- RSA_VERIFY_PSS (R235). -/
def execRsaVerifyPss (t job : Nat) (s : State) : Host.Outcome State Fault Refusal :=
  .next ((s.advance t).runOp job .rsaVerifyPss fun _ j => rsaVerify .rsaVerifyPss .rsaPssOk j)
/-- RSA_DECRYPT_OAEP (R233). -/
def execRsaDecryptOaep (t job : Nat) (s : State) : Host.Outcome State Fault Refusal :=
  .next ((s.advance t).runOp job .rsaDecryptOaep rsaDecryptOaepResult)
/-- RSA_ENCRYPT_OAEP (R232). -/
def execRsaEncryptOaep (t job : Nat) (s : State) : Host.Outcome State Fault Refusal :=
  .next ((s.advance t).runOp job .rsaEncryptOaep rsaEncryptOaepResult)

end Sys2Proof.Machine
end

