-- ==== Sys2Proof/Machine/Bulk.lean ====
section
/-!
DEFINITION. The Drays: classes 0x0E bulk, 0x0F DLMS/COSEM records and 0x10 grafts (08 R241 to R266). Block-cipher modes are
uninterpreted (log entry 4); counter mode, graft derivation inputs and record layouts are computed. Dray jobs are released at commit
(R245).
-/
namespace Sys2Proof.Machine

/-! ### Grafts (R248, R249) -/

/-- Context of a derivation: title, kind and big-endian version (R249). -/
def graftContext (title : Bytes) (kind version : Nat) : Bytes := title ++ toBe 1 kind ++ toBe 4 version

/-- CMAC input of block `i` (R249). -/
def graftBlock (i : Nat) (context : Bytes) (bits : Nat) : Bytes :=
  toBe 1 i ++ ascii "ZMGRAFT1" ++ zeros 1 ++ context ++ toBe 2 bits

/-- AES-CMAC of a key, cut to a length. -/
def cmacOf (key msg : Bytes) (len : Nat) : Bytes := std .cmac key.length [key, msg] len

/-- A graft of `len` bytes from a Rootstock key and its PRF (R249). -/
def graft (root : Bytes) (prf : Nat) (title : Bytes) (kind version len : Nat) : Bytes :=
  let c := graftContext title kind version
  if prf == 2 then kmac root c len "ZMGRAFT1"
  else ((List.range (len / 16)).map fun i => cmacOf root (graftBlock (i + 1) c (8 * len)) 16).flatten

/-- GRAFT_PRF of the job's Rootstock key (R271). -/
def Job.prf (j : Job) : Nat := match j.key with | some k => k.header.graftPrf | none => 0

/-- The graft that a descriptor names under the job's Rootstock key (R248). -/
def Job.descGraft (j : Job) (d : Bytes) : Bytes := graft j.material j.prf (descTitle d) (descKind d) (descVersion d) (descLen d)

/-- The key of a class 0x0E job: the graft of its descriptor, or its own (R250). -/
def Job.bulkKey (j : Job) : Bytes := if j.kind == .graft then j.descGraft (j.input.take 16) else j.material

/-- The bulk input without its descriptor (R252). -/
def Job.bulkInput (j : Job) : Bytes := if j.kind == .graft then j.input.drop 16 else j.input

/-! ### Authenticated modes (R252, R255) -/

/-- GCM: the keystream on data, and the tag of AAD and ciphertext. -/
def gcmCrypt (key iv data : Bytes) : Bytes := std .gcmC key.length [key, iv, data] data.length
def gcmTag (key iv aad c : Bytes) (len : Nat) : Bytes := std .gcmTag key.length [key, iv, aad, c] len
/-- CCM: the keystream on data, and the tag of AAD and plaintext. -/
def ccmCrypt (key n data : Bytes) : Bytes := std .ccmC key.length [key, n, data] data.length
def ccmTag (key n aad p : Bytes) (len : Nat) : Bytes := std .ccmTag key.length [key, n, aad, p] len
/-- ChaCha20-Poly1305. -/
def chachaCrypt (key n data : Bytes) : Bytes := std .chachaC 0 [key, n, data] data.length
def chachaTag (key n aad c : Bytes) (len : Nat) : Bytes := std .chachaTag 0 [key, n, aad, c] len

/-- Result of a check: nothing or plaintext, or the status of its failure; released at commit. -/
def checked (ok : Bool) (st : Status) (out : Bytes) : OpResult := if ok then { output := out } else .failed st [none]

/-- AEAD encryption: IV from the input or drawn, AAD, plaintext; IV if drawn, ciphertext, tag. `mac` takes AAD, plaintext, ciphertext. -/
def aeadEncrypt (j : Job) (ivLen : Nat) (crypt : Bytes → Bytes → Bytes) (mac : Bytes → Bytes → Bytes → Bytes → Nat → Bytes) : OpResult :=
  let b := j.bulkInput
  let gen := auxIvGen j.aux
  let iv := if gen then j.own else b.take ivLen
  let b := if gen then b else b.drop ivLen
  let aad := b.take (auxAadLen j.aux)
  let p := b.drop (auxAadLen j.aux)
  let c := crypt iv p
  { output := (if gen then iv else []) ++ c ++ mac iv aad p c (auxTagLen j.aux) }

/-- AEAD decryption: IV, AAD, ciphertext, tag; plaintext only when the tag matches (R255). -/
def aeadDecrypt (j : Job) (ivLen : Nat) (crypt : Bytes → Bytes → Bytes) (mac : Bytes → Bytes → Bytes → Bytes → Nat → Bytes) : OpResult :=
  let b := j.bulkInput
  let iv := b.take ivLen
  let b := b.drop ivLen
  let aad := b.take (auxAadLen j.aux)
  let b := b.drop (auxAadLen j.aux)
  let n := b.length - auxTagLen j.aux
  let c := b.take n
  let p := crypt iv c
  checked (b.drop n == mac iv aad p c (auxTagLen j.aux)) .signatureInvalid p

def gcmEncryptResult (_ : State) (j : Job) : OpResult :=
  aeadEncrypt j 12 (gcmCrypt j.bulkKey) fun iv aad _ c n => gcmTag j.bulkKey iv aad c n
def gcmDecryptResult (_ : State) (j : Job) : OpResult :=
  aeadDecrypt j 12 (gcmCrypt j.bulkKey) fun iv aad _ c n => gcmTag j.bulkKey iv aad c n
def ccmEncryptResult (_ : State) (j : Job) : OpResult :=
  aeadEncrypt j (auxNonceLen j.aux) (ccmCrypt j.bulkKey) fun iv aad p _ n => ccmTag j.bulkKey iv aad p n
def ccmDecryptResult (_ : State) (j : Job) : OpResult :=
  aeadDecrypt j (auxNonceLen j.aux) (ccmCrypt j.bulkKey) fun iv aad p _ n => ccmTag j.bulkKey iv aad p n
def chachaEncryptResult (_ : State) (j : Job) : OpResult :=
  aeadEncrypt j 12 (chachaCrypt j.bulkKey) fun iv aad _ c n => chachaTag j.bulkKey iv aad c n
def chachaDecryptResult (_ : State) (j : Job) : OpResult :=
  aeadDecrypt j 12 (chachaCrypt j.bulkKey) fun iv aad _ c n => chachaTag j.bulkKey iv aad c n

/-- CTR: initial counter block then data (R252). -/
def ctrResult (_ : State) (j : Job) : OpResult :=
  let b := j.bulkInput
  { output := aesCtr j.bulkKey (b.take 16) (b.drop 16) }
/-- XTS: tweak then data (R252). -/
def xtsEncryptResult (_ : State) (j : Job) : OpResult :=
  { output := std .xtsEnc j.param [j.material, j.input.take 16, j.input.drop 16] (j.input.length - 16) }
def xtsDecryptResult (_ : State) (j : Job) : OpResult :=
  { output := std .xtsDec j.param [j.material, j.input.take 16, j.input.drop 16] (j.input.length - 16) }
/-- CMAC: the message; or tag then message (R252, R255). -/
def cmacGenerateResult (_ : State) (j : Job) : OpResult := { output := cmacOf j.bulkKey j.bulkInput (auxTagLen j.aux) }
def cmacVerifyResult (_ : State) (j : Job) : OpResult :=
  let n := auxTagLen j.aux
  let b := j.bulkInput
  checked (b.take n == cmacOf j.bulkKey (b.drop n) n) .signatureInvalid []
/-- GMAC: IV then A; or IV, tag, A (R252, R255). -/
def gmacGenerateResult (_ : State) (j : Job) : OpResult :=
  let b := j.bulkInput
  { output := gcmTag j.bulkKey (b.take 12) (b.drop 12) [] (auxTagLen j.aux) }
def gmacVerifyResult (_ : State) (j : Job) : OpResult :=
  let n := auxTagLen j.aux
  let b := j.bulkInput
  checked (slice b 12 n == gcmTag j.bulkKey (b.take 12) (b.drop (12 + n)) [] n) .signatureInvalid []

/-- AES-KW and AES-KWP (R252, R255). -/
def kwWrap (key data : Bytes) : Bytes := std .kwWrap key.length [key, data] (data.length + 8)
def kwpWrap (key data : Bytes) : Bytes := std .kwpWrap key.length [key, data] ((data.length + 7) / 8 * 8 + 8)
/-- Length of unwrapped KWP data: its padding is less than a semiblock. -/
def kwpLen (key blob : Bytes) : Nat := blob.length - 15 + Config.stdNat .kwpLen key.length [key, blob] % 8
def kwWrapResult (_ : State) (j : Job) : OpResult := { output := kwWrap j.bulkKey j.bulkInput }
def kwUnwrapResult (_ : State) (j : Job) : OpResult :=
  let k := j.bulkKey
  let b := j.bulkInput
  checked (Config.stdHolds .kwOk k.length [k, b]) .malformedEncoding (std .kwUnwrap k.length [k, b] (b.length - 8))
def kwpWrapResult (_ : State) (j : Job) : OpResult := { output := kwpWrap j.bulkKey j.bulkInput }
def kwpUnwrapResult (_ : State) (j : Job) : OpResult :=
  let k := j.bulkKey
  let b := j.bulkInput
  checked (Config.stdHolds .kwpOk k.length [k, b]) .malformedEncoding (std .kwpUnwrap k.length [k, b] (kwpLen k b))

/-! ### DLMS/COSEM records (R259 to R263) -/

/-- GRAFT_LEN of a suite (R258). -/
def suiteLen (p : Nat) : Nat := if dlmsSuite p == 2 then 32 else 16

/-- What a record's security control byte asks for. -/
structure DlmsKeys where
  ek : Bytes
  ak : Bytes
  iv : Bytes
  auth : Bool
  encrypt : Bool

/-- Keys, IV and protection of a record (R260). -/
def dlmsWith (ek ak r : Bytes) : DlmsKeys :=
  let sc := recSc r
  { ek := ek, ak := ak, iv := recIv r ++ toBe 4 (recIc r), auth := bit sc 4, encrypt := bit sc 5 }

/-- The grafts and IV of a record under a Rootstock key (R260). -/
def dlmsKeys (root : Bytes) (prf p : Nat) (r : Bytes) : DlmsKeys :=
  let sc := recSc r
  let g (kind : Nat) : Bytes := graft root prf (recTitle r) kind (recVersion r) (suiteLen p)
  dlmsWith (g (if bit sc 6 then 2 else 1)) (if bit sc 4 then g 3 else []) r

/-- AAD of GCM for a record (R260). -/
def dlmsAad (k : DlmsKeys) (sc : Nat) (apdu : Bytes) : Bytes :=
  if !k.auth then [] else if k.encrypt then toLe 1 sc ++ k.ak else toLe 1 sc ++ k.ak ++ apdu

/-- PROTECT of one record under its keys (R261). -/
def dlmsProtect (k : DlmsKeys) (r : Bytes) : Bytes :=
  let apdu := slice r 0x20 (recLen r)
  let c := if k.encrypt then gcmCrypt k.ek k.iv apdu else []
  let tag := if k.auth then gcmTag k.ek k.iv (dlmsAad k (recSc r) apdu) c 12 else []
  toLe 1 (recSc r) ++ toBe 4 (recIc r) ++ (if k.encrypt then c else apdu) ++ tag

/-- Step 5 of R263: the counter is accepted (R262). -/
def dlmsCounterOk (r : Bytes) : Bool := recLast r < recIc r || bit (recFlags r) 0

/-- Steps 5 and 6 of R263 and the plaintext APDU of an UNPROTECT record (R262). -/
def dlmsUnprotect (k : DlmsKeys) (r : Bytes) : Except Status Bytes :=
  let b := slice r 0x20 (recLen r)
  let n := if k.auth then b.length - 12 else b.length
  let body := b.take n
  let c := if k.encrypt then body else []
  if !dlmsCounterOk r then .error .outOfRange
  else if k.auth && b.drop n != gcmTag k.ek k.iv (dlmsAad k (recSc r) body) c 12 then .error .signatureInvalid
  else .ok (if k.encrypt then gcmCrypt k.ek k.iv body else body)

/-- Keys of the job's record under its Rootstock key (R260). -/
def Job.dlmsKeys (j : Job) : DlmsKeys := Sys2Proof.Machine.dlmsKeys j.material j.prf j.param j.input

def dlmsProtectResult (_ : State) (j : Job) : OpResult := { output := dlmsProtect j.dlmsKeys j.input }
def dlmsUnprotectResult (_ : State) (j : Job) : OpResult :=
  match dlmsUnprotect j.dlmsKeys j.input with
  | .ok out => { output := out }
  | .error st => .failed st [none]

/-! ### Graft operations (R256, R257) -/

def keyTransferResult (_ : State) (j : Job) : OpResult :=
  { output := kwWrap (j.descGraft (slice j.input 16 16)) (j.descGraft (j.input.take 16)) }
def exportWrappedResult (_ : State) (j : Job) : OpResult :=
  let t := match j.transport with | some k => k.material | none => []
  { output := kwpWrap t (j.descGraft (j.input.take 16)) }
def checkValueResult (_ : State) (j : Job) : OpResult :=
  let g := j.descGraft (j.input.take 16)
  { output := std .aes g.length [g, zeros 16] 4 }

/-! ### The commands -/

/-- GCM_ENCRYPT (R252). -/
def execGcmEncrypt (t job : Nat) (s : State) : Host.Outcome State Fault Refusal :=
  .next ((s.advance t).runOp job .gcmEncrypt gcmEncryptResult)
/-- GCM_DECRYPT (R255). -/
def execGcmDecrypt (t job : Nat) (s : State) : Host.Outcome State Fault Refusal :=
  .next ((s.advance t).runOp job .gcmDecrypt gcmDecryptResult)
/-- CCM_ENCRYPT (R252). -/
def execCcmEncrypt (t job : Nat) (s : State) : Host.Outcome State Fault Refusal :=
  .next ((s.advance t).runOp job .ccmEncrypt ccmEncryptResult)
/-- CCM_DECRYPT (R255). -/
def execCcmDecrypt (t job : Nat) (s : State) : Host.Outcome State Fault Refusal :=
  .next ((s.advance t).runOp job .ccmDecrypt ccmDecryptResult)
/-- CTR (R252). -/
def execCtr (t job : Nat) (s : State) : Host.Outcome State Fault Refusal :=
  .next ((s.advance t).runOp job .ctr ctrResult)
/-- XTS_ENCRYPT (R252). -/
def execXtsEncrypt (t job : Nat) (s : State) : Host.Outcome State Fault Refusal :=
  .next ((s.advance t).runOp job .xtsEncrypt xtsEncryptResult)
/-- XTS_DECRYPT (R252). -/
def execXtsDecrypt (t job : Nat) (s : State) : Host.Outcome State Fault Refusal :=
  .next ((s.advance t).runOp job .xtsDecrypt xtsDecryptResult)
/-- CMAC_GENERATE (R252). -/
def execCmacGenerate (t job : Nat) (s : State) : Host.Outcome State Fault Refusal :=
  .next ((s.advance t).runOp job .cmacGenerate cmacGenerateResult)
/-- CMAC_VERIFY (R255). -/
def execCmacVerify (t job : Nat) (s : State) : Host.Outcome State Fault Refusal :=
  .next ((s.advance t).runOp job .cmacVerify cmacVerifyResult)
/-- GMAC_GENERATE (R252). -/
def execGmacGenerate (t job : Nat) (s : State) : Host.Outcome State Fault Refusal :=
  .next ((s.advance t).runOp job .gmacGenerate gmacGenerateResult)
/-- GMAC_VERIFY (R255). -/
def execGmacVerify (t job : Nat) (s : State) : Host.Outcome State Fault Refusal :=
  .next ((s.advance t).runOp job .gmacVerify gmacVerifyResult)
/-- KW_WRAP (R252). -/
def execKwWrap (t job : Nat) (s : State) : Host.Outcome State Fault Refusal :=
  .next ((s.advance t).runOp job .kwWrap kwWrapResult)
/-- KW_UNWRAP (R255). -/
def execKwUnwrap (t job : Nat) (s : State) : Host.Outcome State Fault Refusal :=
  .next ((s.advance t).runOp job .kwUnwrap kwUnwrapResult)
/-- KWP_WRAP (R252). -/
def execKwpWrap (t job : Nat) (s : State) : Host.Outcome State Fault Refusal :=
  .next ((s.advance t).runOp job .kwpWrap kwpWrapResult)
/-- KWP_UNWRAP (R255). -/
def execKwpUnwrap (t job : Nat) (s : State) : Host.Outcome State Fault Refusal :=
  .next ((s.advance t).runOp job .kwpUnwrap kwpUnwrapResult)
/-- CHACHA_ENCRYPT (R252). -/
def execChachaEncrypt (t job : Nat) (s : State) : Host.Outcome State Fault Refusal :=
  .next ((s.advance t).runOp job .chachaEncrypt chachaEncryptResult)
/-- CHACHA_DECRYPT (R255). -/
def execChachaDecrypt (t job : Nat) (s : State) : Host.Outcome State Fault Refusal :=
  .next ((s.advance t).runOp job .chachaDecrypt chachaDecryptResult)
/-- DLMS_PROTECT (R261). -/
def execDlmsProtect (t job : Nat) (s : State) : Host.Outcome State Fault Refusal :=
  .next ((s.advance t).runOp job .dlmsProtect dlmsProtectResult)
/-- DLMS_UNPROTECT (R262). -/
def execDlmsUnprotect (t job : Nat) (s : State) : Host.Outcome State Fault Refusal :=
  .next ((s.advance t).runOp job .dlmsUnprotect dlmsUnprotectResult)
/-- KEY_TRANSFER (R257). -/
def execKeyTransfer (t job : Nat) (s : State) : Host.Outcome State Fault Refusal :=
  .next ((s.advance t).runOp job .keyTransfer keyTransferResult)
/-- EXPORT_WRAPPED (R257). -/
def execExportWrapped (t job : Nat) (s : State) : Host.Outcome State Fault Refusal :=
  .next ((s.advance t).runOp job .exportWrapped exportWrappedResult)
/-- CHECK_VALUE (R256). -/
def execCheckValue (t job : Nat) (s : State) : Host.Outcome State Fault Refusal :=
  .next ((s.advance t).runOp job .checkValue checkValueResult)

end Sys2Proof.Machine
end

