-- ==== Sys2Proof/Machine/Codes.lean ====
section
/-!
DEFINITION. Classes 0x04 HQC and 0x05 Classic McEliece (05 R140 to R162). The algorithms' own functions are uninterpreted (log
entry 4); checks, layouts, the public-key cache and the attempts are computed.
-/
namespace Sys2Proof.Machine

/-! ### HQC (R142 to R146) -/

/-- The bits of s beyond n in the last byte of a public key are 0 (R144). -/
def hqcPkOk (p : Nat) (pk : Bytes) : Bool := byteAt pk (pk.length - 1) / 2 ^ (hqcN p % 8) == 0

/-- Release time of a code-based job. -/
def codeTime (op : Op) (p : Nat) (miss : Bool) : List (Option Nat) := [some (codeRel op p miss)]

/-- K and c of an HQC encapsulation with m and salt. -/
def hqcEncK (p : Nat) (pk ms : Bytes) : Bytes := std .hqcEncK p [pk, ms] 64
def hqcEncC (p : Nat) (pk ms : Bytes) : Bytes := std .hqcEncC p [pk, ms] (hqcCt p)
/-- Public key of an HQC seed. -/
def hqcPkOf (p : Nat) (seed : Bytes) : Bytes := std .hqcPk p [seed] (hqcPk p)

/-- KEYGEN: pk and the wrapped seed with usage decaps (R142). -/
def hqcKeygenResult (s : State) (j : Job) : OpResult :=
  { output := hqcPkOf j.param j.own ++ s.keyObject j 8 formSeed j.own, rel := codeTime .hqcKeygen j.param false }

/-- ENCAPS: the check runs on the public key, whether input or of a key (R144). -/
def hqcEncapsResult (s : State) (j : Job) : OpResult :=
  let p := j.param
  let rel := codeTime .hqcEncaps p false
  let pk := if j.kind == .none then j.input else hqcPkOf p j.material
  if !hqcPkOk p pk then .failed .malformedEncoding rel
  else { output := s.placedSecret j (hqcEncK p pk j.own) ++ hqcEncC p pk j.own, rel := rel }

/-- DECAPS (R145). -/
def hqcDecapsResult (s : State) (j : Job) : OpResult :=
  { output := s.placedSecret j (std .hqcDecK j.param [j.material, j.input] 64), rel := codeTime .hqcDecaps j.param false }

/-- KEYGEN_INTERNAL (R146). -/
def hqcKeygenInternalResult (_ : State) (j : Job) : OpResult :=
  { output := hqcPkOf j.param j.input ++ std .hqcSk j.param [j.input] (hqcSk j.param), rel := codeTime .hqcKeygenInternal j.param false }

/-- ENCAPS_INTERNAL: pk, m, salt (R143, R144). -/
def hqcEncapsInternalResult (_ : State) (j : Job) : OpResult :=
  let p := j.param
  let rel := codeTime .hqcEncapsInternal p false
  let pk := j.input.take (hqcPk p)
  let ms := j.input.drop (hqcPk p)
  if !hqcPkOk p pk then .failed .malformedEncoding rel else { output := hqcEncK p pk ms ++ hqcEncC p pk ms, rel := rel }

/-- HQC_KEYGEN (R142). -/
def execHqcKeygen (t job : Nat) (s : State) : Host.Outcome State Fault Refusal :=
  .next ((s.advance t).runOp job .hqcKeygen hqcKeygenResult)
/-- HQC_ENCAPS (R144). -/
def execHqcEncaps (t job : Nat) (s : State) : Host.Outcome State Fault Refusal :=
  .next ((s.advance t).runOp job .hqcEncaps hqcEncapsResult)
/-- HQC_DECAPS (R145). -/
def execHqcDecaps (t job : Nat) (s : State) : Host.Outcome State Fault Refusal :=
  .next ((s.advance t).runOp job .hqcDecaps hqcDecapsResult)
/-- HQC_KEYGEN_INTERNAL (R146). -/
def execHqcKeygenInternal (t job : Nat) (s : State) : Host.Outcome State Fault Refusal :=
  .next ((s.advance t).runOp job .hqcKeygenInternal hqcKeygenInternalResult)
/-- HQC_ENCAPS_INTERNAL (R146). -/
def execHqcEncapsInternal (t job : Nat) (s : State) : Host.Outcome State Fault Refusal :=
  .next ((s.advance t).runOp job .hqcEncapsInternal hqcEncapsInternalResult)

/-! ### Classic McEliece (R147 to R157) -/

/-- Padding bits at the end of each 677-byte row of a mceliece6960119 key are 0; every other key is valid (R150). -/
def mcePkOk (p : Nat) (pk : Bytes) : Bool := p != 4 || pk.zipIdx.all fun (b, i) => i % 677 != 676 || b.toNat < 32

/-- Number of ones in a byte. -/
def ones (b : Byte) : Nat := ((List.range 8).filter fun i => b.getLsbD i).length

/-- Weight of a vector (R150). -/
def weight (e : Bytes) : Nat := (e.map ones).sum

/-- The attempt at which a chain from a seed first succeeds, from 1 (R156). -/
def mceAttempts (p : Nat) (seed : Bytes) : Nat := 1 + Config.stdNat .mceAttempt p [seed]

/-- The seed of the chain's successful attempt, and its public key. -/
def mceDelta (p : Nat) (seed : Bytes) : Bytes := std .mceDelta p [seed] 32
def mcePkOf (p : Nat) (delta : Bytes) : Bytes := std .mcePk p [delta] (mcePk p)

/-- K and c for a public key and a vector e. -/
def mceEncK (p : Nat) (pk e : Bytes) : Bytes := std .mceEncK p [pk, e] 32
def mceEncC (p : Nat) (pk e : Bytes) : Bytes := std .mceEncC p [pk, e] (mceCt p)

/-- The public key that ENCAPS streams: the input, the key its handle named at step 10, or the oversized part of a slot (R114, R147, R149). -/
def Job.mceKey (j : Job) : Bytes :=
  if j.kind != .none then j.material.drop 32 else if j.handle.isSome then j.publicKey else j.input

/-- The places of a vector in the order that sorting the sampler's random words gives (R152). -/
def mceOrder (n : Nat) (rand : Bytes) : List Nat :=
  (List.range n).mergeSort fun a b => le rand (4 * a) 4 ≤ le rand (4 * b) 4

/-- A vector of `n` places, packed least significant first, with ones at the places listed. -/
def vectorOf (n : Nat) (ones : List Nat) : Bytes :=
  (List.range ((n + 7) / 8)).map fun k =>
    BitVec.ofNat 8 (((List.range 8).map fun b => if ones.contains (8 * k + b) then 2 ^ b else 0).sum)

/-- The sampler: the first t places of the sorted order are ones, so the weight is t whatever is drawn (R152; DESIGN CHOICE, log entry 96). -/
def mceSample (p : Nat) (rand : Bytes) : Bytes := vectorOf (mceN p) ((mceOrder (mceN p) rand).take (mceT p))

/-- KEYGEN: pk and the wrapped seed with usage decaps, when one of 16 attempts succeeds (R156). -/
def mcelieceKeygenResult (s : State) (j : Job) : OpResult :=
  let d := mceDelta j.param j.own
  { output := mcePkOf j.param d ++ s.keyObject j 8 formSeed d, rel := codeTime .mcelieceKeygen j.param false }

/-- ENCAPS: a key of the input is checked (R150, R152). -/
def mcelieceEncapsResult (s : State) (j : Job) : OpResult :=
  let p := j.param
  let rel := codeTime .mcelieceEncaps p false
  let pk := j.mceKey
  let e := mceSample p j.own
  if j.kind == .none && j.handle.isNone && !mcePkOk p pk then .failed .malformedEncoding rel
  else { output := s.placedSecret j (mceEncK p pk e) ++ mceEncC p pk e, rel := rel }

/-- DECAPS: T_REGEN is added on a miss (R151, R154). -/
def mcelieceDecapsResult (s : State) (j : Job) : OpResult :=
  { output := s.placedSecret j (std .mceDecK j.param [j.material.take 32, j.input] 32), rel := codeTime .mcelieceDecaps j.param (!j.hit) }

/-- KEYGEN_INTERNAL: at most 64 attempts, released at four times T_REL (R157). -/
def mcelieceKeygenInternalResult (_ : State) (j : Job) : OpResult :=
  let p := j.param
  let rel := codeTime .mcelieceKeygenInternal p false
  let d := mceDelta p j.input
  if 64 < mceAttempts p j.input then .failed .faultUnrecovered rel
  else { output := mcePkOf p d ++ std .mceSk p [d] (mceSk p), rel := rel }

/-- ENCAPS_INTERNAL: pk then e, which must have weight t (R150). -/
def mcelieceEncapsInternalResult (_ : State) (j : Job) : OpResult :=
  let p := j.param
  let rel := codeTime .mcelieceEncapsInternal p false
  let pk := j.input.take (mcePk p)
  let e := j.input.drop (mcePk p)
  if !mcePkOk p pk || weight e != mceT p then .failed .malformedEncoding rel
  else { output := mceEncK p pk e ++ mceEncC p pk e, rel := rel }

/-- Capacity of the public-key cache (R149). -/
def pkCacheEntries : Nat := 4096
def pkCacheBytes : Nat := 2147483648

/-- A job that runs streams the entry (R150). -/
def State.pkInUse (s : State) (e : Nat) : Bool :=
  s.fabric.jobs.any fun j => j.op == some .mcelieceEncaps && j.handle == some e && j.parts.any JobPart.running

/-- The least recently used of some entries. -/
def leastUsed (l : List PkEntry) : Option PkEntry :=
  l.foldl (fun best x => match best with | some b => if x.lastUse < b.lastUse then some x else best | none => some x) none

/-- The entry to evict: the least recently used that no running job streams; there always is one, since at most 32 are streamed, and were
there none, the least recently used of all (R150). -/
def State.pkVictim (s : State) : Option PkEntry :=
  match leastUsed (s.engines.publicKeys.filter fun x => !s.pkInUse x.entry) with
  | some x => some x
  | none => leastUsed s.engines.publicKeys

/-- Evicts entries until a key of `len` bytes fits; `fuel` bounds their number (R150). -/
def State.pkRoom : Nat → State → Nat → State
  | 0, s, _ => s
  | fuel + 1, s, len =>
    let used := (s.engines.publicKeys.map (·.key.length)).sum
    if s.engines.publicKeys.length < pkCacheEntries && used + len ≤ pkCacheBytes then s
    else match s.pkVictim with
      | some v => State.pkRoom fuel { s with engines.publicKeys := s.engines.publicKeys.filter (·.entry != v.entry) } len
      | none => s

/-- Caches a public key for a job under a free entry number; answers the handle (R149). -/
def State.pkStore (s : State) (j : Job) (check : Nat) : State × Nat :=
  let s := s.pkRoom (pkCacheEntries + 1) j.input.length
  let n := s.engines.publicKeys.length
  let e := anyFree "entry" (s.useNo n) pkCacheEntries n fun i => s.engines.publicKeys.any fun x => x.entry == i
  let u := s.engines.uses + 1
  let x : PkEntry := ⟨e, check, j.param, j.carriage, j.gen, j.input, u⟩
  ({ s with engines.publicKeys := s.engines.publicKeys ++ [x], engines.uses := u }, e + check * 65536)

/-- PK_CACHE: checks the key, caches it and places the handle; CHECK is drawn and never 0 (R149, R150). -/
def State.mcePkCache (s : State) (id : Nat) : State :=
  match s.runs? id .mceliecePkCache with
  | none => s
  | some j =>
    let rel := codeTime .mceliecePkCache j.param false
    if !mcePkOk j.param j.input then s.finishNow id (.failed .malformedEncoding rel)
    else
      let (s, h) := s.pkStore j (1 + leNat j.own % 65535)
      s.finishNow id { output := toLe 4 h, rel := rel }

/-- Counts a use of a cached public key (R150). -/
def State.pkUse (s : State) (id : Nat) : State :=
  match (s.job? id).bind (·.handle) with
  | none => s
  | some e =>
    let u := s.engines.uses + 1
    let use (x : PkEntry) : PkEntry := { x with lastUse := u }
    { s with engines.publicKeys := mapIf (·.entry == e) use s.engines.publicKeys, engines.uses := u }

/-- KEYGEN of Classic McEliece commits only when an attempt of the dispatch succeeds (R156). -/
def State.mceKeygen (s : State) (id : Nat) : State :=
  match s.runs? id .mcelieceKeygen with
  | some j => if mceAttempts j.param j.own ≤ 16 then s.finish id (mcelieceKeygenResult s j) else s
  | none => s

/-- All 16 attempts have failed: restart with a fresh seed, or FAULT_UNRECOVERED after 8 stops (R156). Stops count as consecutive although an
abandonment by another cause comes between them (DESIGN CHOICE, log entry 96). -/
def State.mceStop (s : State) (id : Nat) : State :=
  match s.runs? id .mcelieceKeygen with
  | none => s
  | some j =>
    if mceAttempts j.param j.own ≤ 16 then s
    else
      let s := s.modJob id fun j => { j with stops := j.stops + 1 }
      if 8 ≤ j.stops + 1 then s.failAny id .faultUnrecovered false else s.abandonPart id 0 false false

/-- MCELIECE_KEYGEN (R156). -/
def execMcelieceKeygen (t job : Nat) (s : State) : Host.Outcome State Fault Refusal := .next ((s.advance t).mceKeygen job)
/-- KEYGEN_ATTEMPTS_EXHAUSTED (R156). -/
def execKeygenAttemptsExhausted (t job : Nat) (s : State) : Host.Outcome State Fault Refusal := .next ((s.advance t).mceStop job).settle
/-- MCELIECE_ENCAPS (R152). -/
def execMcelieceEncaps (t job : Nat) (s : State) : Host.Outcome State Fault Refusal :=
  let s := s.advance t
  .next (if (s.runs? job .mcelieceEncaps).isSome then (s.runOp job .mcelieceEncaps mcelieceEncapsResult).pkUse job else s)
/-- MCELIECE_DECAPS (R151, R154). -/
def execMcelieceDecaps (t job : Nat) (s : State) : Host.Outcome State Fault Refusal :=
  .next ((s.advance t).runOp job .mcelieceDecaps mcelieceDecapsResult)
/-- MCELIECE_PK_CACHE (R149). -/
def execMceliecePkCache (t job : Nat) (s : State) : Host.Outcome State Fault Refusal := .next ((s.advance t).mcePkCache job)
/-- MCELIECE_KEYGEN_INTERNAL (R157). -/
def execMcelieceKeygenInternal (t job : Nat) (s : State) : Host.Outcome State Fault Refusal :=
  .next ((s.advance t).runOp job .mcelieceKeygenInternal mcelieceKeygenInternalResult)
/-- MCELIECE_ENCAPS_INTERNAL (R150). -/
def execMcelieceEncapsInternal (t job : Nat) (s : State) : Host.Outcome State Fault Refusal :=
  .next ((s.advance t).runOp job .mcelieceEncapsInternal mcelieceEncapsInternalResult)

end Sys2Proof.Machine
end

