-- ==== Sys2Proof/Machine/Replicate.lean ====
section
/-!
DEFINITION. What the module is in its Train, and the pushes of replicated changes (15 R443 to R455): the roster's fields, Train ports,
Train messages, and the push of a slot or carriage key. The layout of a push's body is the model's (log entry 24).
-/
namespace Sys2Proof.Machine

/-! ### The roster in force (R443, R446) -/

/-- Fields of a roster header. -/
def rosMembers (r : Bytes) : Nat := le r 2 2
def rosRanges (r : Bytes) : Nat := le r 4 2
def rosVlan (r : Bytes) : Nat := le r 6 2
def rosSerial (r : Bytes) : Nat := le r 8 8
def rosTrainId (r : Bytes) : Bytes := slice r 0x10 16
def rosDomain (r : Bytes) : Nat := byteAt r 0x28
def rosGm (r : Bytes) : Nat := le r 0x2A 2

/-- Member entries, 96 bytes each, and range entries, 56 bytes each. -/
def rosterMembers (r : Bytes) : List Bytes := (List.range (rosMembers r)).map fun i => slice r (128 + 96 * i) 96
def rosterRanges (r : Bytes) : List Bytes := (List.range (rosRanges r)).map fun i => slice r (128 + 96 * rosMembers r + 56 * i) 56

/-- Fields of a member entry. -/
def memUid (m : Bytes) : Bytes := slice m 0 16
def memIndex (m : Bytes) : Nat := le m 0x10 2 % 1024
def memPorts (m : Bytes) : Nat := byteAt m 0x12
def memMac (m : Bytes) : Nat := le m 0x14 6
def memIdentity (m : Bytes) : Bytes := slice m 0x20 32
def memLink (m : Bytes) : Bytes := slice m 0x40 32

/-- Members of the roster in force. -/
def State.members (s : State) : List Bytes := match s.train.roster with | some r => rosterMembers r | none => []

/-- The module's own member entry, in a roster and in the one in force. -/
def State.ownEntry (s : State) (r : Bytes) : Option Bytes := (rosterMembers r).find? fun m => memUid m == s.fuses.uniqueId
def State.ownMember (s : State) : Option Bytes := s.train.roster.bind s.ownEntry

/-- A listed member by device index. -/
def State.member? (s : State) (i : Nat) : Option Bytes := s.members.find? fun m => memIndex m == i

/-- Train ports: named by the module's own entry, with MTU of at least 6,144 (R445). -/
def State.trainPorts (s : State) : List Nat :=
  match s.ownMember with
  | none => []
  | some m => (List.range 8).filter fun p =>
    bit (memPorts m) p && (match s.port? p with | some x => 6144 ≤ x.mtu && x.link == .up | none => false)

/-! ### Messages (R447) -/

/-- A Train message header. -/
def trainHeader (type flags src dst len seq tSend ack : Nat) : Bytes :=
  toLe 1 type ++ toLe 1 flags ++ toLe 2 src ++ toLe 2 dst ++ toLe 2 len ++ toLe 8 seq ++ toLe 8 tSend ++ toLe 8 ack

/-- Port on which a peer is sent to: the lowest Train port that heard it within 300 ms, else the lowest Train port (R449). -/
def State.peerPort (s : State) (p : Peer) : Option Nat :=
  let ports := s.trainPorts
  match ports.find? fun x => p.heard.any fun h => h.1 == x && s.clock.now ≤ h.2 + 300000000 with
  | some x => some x
  | none => ports.head?

/-- ACK_SEQ to a peer: the highest number received in order, short of a push that is still held (R447, R455). -/
def State.ackSeq (s : State) (p : Peer) : Nat :=
  match s.train.heldPushes.find? (·.1 == p.index) with
  | some h => min p.rxSeq (h.2.seq - 1)
  | none => p.rxSeq

/-- SCI of a Train frame: the port's MAC address, and the transmitting port number plus 1 (R447). -/
def State.trainSci (s : State) (port : Nat) : Nat := s.macOf port * 2 ^ 16 + (port + 1)

/-- Protection of the next frame to a peer: the module's own SAK and salt of the split of SK, its SSCI, and the next packet number (R449). -/
def State.pairSec (s : State) (port : Nat) (p : Peer) : SecTag :=
  let hi := b2n (p.index < s.deviceIndex)
  { sci := s.trainSci port, ssci := s.deviceIndex + 1, assocNo := p.assoc % 4, pn := p.txPn + 1, encrypted := true,
    sak := slice p.sk (32 * hi) 32, salt := slice p.sk (64 + 12 * hi) 12 }

/-- TRAIN_ID, empty before the first roster (R444). -/
def State.trainIdBytes (s : State) : Bytes := match s.train.trainId with | some x => x | none => []

/-- The bootstrap SAK (R447). -/
def bootSak (trainId : Bytes) : Bytes := kmac trainId [] 32 "ZMTRAIN-BOOT"

/-- Protection of a bootstrap frame: E bit 0 (R447). Salt FREE; SSCI, association and packet number DESIGN CHOICE (log entry 108). -/
def State.bootSec (s : State) (port : Nat) : SecTag :=
  { sci := s.trainSci port, ssci := s.deviceIndex + 1, assocNo := 0, pn := s.train.bootPn + 1, encrypted := false,
    sak := bootSak s.trainIdBytes, salt := std .trainKey 0 [s.trainIdBytes] 12 }

/-- Posts a message to a peer inside the pairwise association, on the port of R449. -/
def State.postPair (s : State) (i : Nat) (header body : Bytes) : State :=
  match s.peer? i with
  | none => s
  | some p =>
    match s.peerPort p with
    | none => s
    | some port =>
      (s.modPeer i fun p => { p with txPn := p.txPn + 1, lastTx := s.clock.now }).emit (.train port i (s.pairSec port p) header body)

/-- Sends a message to a peer inside the pairwise association, under the next MSG_SEQ (R447); answers the sequence number. -/
def State.sendPeer (s : State) (i type flags : Nat) (body : Bytes) : State × Nat :=
  match s.peer? i with
  | none => (s, 0)
  | some p =>
    let s := s.ensureMark
    let n := p.txSeq + 1
    let h := trainHeader type flags s.deviceIndex i body.length n s.clock.train (s.ackSeq p)
    (((s.modPeer i fun p => { p with txSeq := n, lastTx := s.clock.now }).postPair i h body), n)

/-- Sends a keying message under the bootstrap association on a port (R447). -/
def State.sendBoot (s : State) (port i type : Nat) (body : Bytes) : State :=
  let s := s.ensureMark
  ({ s with train.bootPn := s.train.bootPn + 1 }).emit
    (.train port i (s.bootSec port) (trainHeader type 0 s.deviceIndex i body.length 0 s.clock.train 0) body)

/-! ### Pushes (R453 to R455) -/

/-- Identifier of a slot and of a carriage key (R453). -/
def slotObject (n : Nat) : Nat := n
def keyObjectId (c : Nat) : Nat := 2 ^ 30 + c

/-- Body of a push (log entry 24). -/
def pushBody (p : Push) : Bytes :=
  toLe 4 p.object ++ toLe 8 p.version.1 ++ toLe 2 p.version.2 ++ toLe 1 (b2n p.destroy) ++ zeros 1 ++ p.header ++ p.material

/-- Both epochs of a carriage key as a push carries them; epoch 0 stands for none (R281). -/
def epochBytes (c : Carriage) : Bytes :=
  let one (k : Nat × Bytes) : Bytes := toLe 4 k.1 ++ padTo 32 k.2
  one c.key ++ (match c.prevKey with | some k => one k | none => zeros 36)

/-- Pushes that may wait for a peer (R455). -/
def pushLimit : Nat := 4096

/-- Queues a push for one peer and sends it; a peer that is DOWN or unkeyed, or a full queue, falls back to a digest exchange (R455). -/
def State.pushTo (s : State) (i : Nat) (p : Push) : State :=
  match s.peer? i with
  | none => s
  | some x =>
    if !x.keyed || x.down then s.modPeer i fun x => { x with overflow := true }
    else if pushLimit ≤ x.pushes.length then s.modPeer i fun x => { x with pushes := [], overflow := true }
    else
      let (s, n) := s.sendPeer i 0x20 1 (pushBody p)
      s.modPeer i fun x => { x with pushes := x.pushes ++ [{ p with seq := n }] }

/-- Queues a push for every peer (R454). -/
def State.pushAll (s : State) (p : Push) : State := s.train.peers.foldl (fun s x => s.pushTo x.index p) s

/-- Version of the last replicated change that a slot has seen (R453). -/
def State.slotVersion (s : State) (slot : Nat) : Nat × Nat :=
  match s.train.versions.find? (·.1 == slot) with | some v => v.2 | none => (0, 0)

/-- Records a slot's version (R453). -/
def State.setVersion (s : State) (slot : Nat) (v : Nat × Nat) : State :=
  let others := s.train.versions.filter fun (x : Nat × (Nat × Nat)) => x.1 != slot
  { s with train.versions := others ++ [(slot, v)] }

/-- The push of a slot as it stands (R454). -/
def SlotRecord.push (r : SlotRecord) : Push :=
  { object := slotObject r.header.slot, version := (r.header.versionTime, r.header.versionDevice), destroy := false,
    header := r.header.bytes, material := r.material }

/-- The change of a slot that carries REPLICATE goes to every member (R292, R454). -/
def State.pushSlot (s : State) (slot : Nat) : State :=
  match s.slotRecord? slot with
  | some r =>
    if hasUsage r.header.usage "replicate" then
      (s.setVersion slot (r.header.versionTime, r.header.versionDevice)).pushAll r.push
    else s
  | none => s

/-- The destruction of a slot that carried REPLICATE goes to every member, under the Train time of the directory write (R453). -/
def State.pushDestroy (s : State) (slot usage : Nat) : State :=
  if hasUsage usage "replicate" then
    let v := (s.clock.train, s.deviceIndex)
    (s.setVersion slot v).pushAll { object := slotObject slot, version := v, destroy := true, header := [], material := [] }
  else s

/-- A new carriage key goes to every member (R453, R454). -/
def State.pushKey (s : State) (c : Nat) : State :=
  match s.carriage? c with
  | some x => s.pushAll { object := keyObjectId c, version := x.keyVersion, destroy := false, header := epochBytes x, material := [] }
  | none => s

/-- DESTROY: one directory write, the ledger erased, the destruction replicated (R291, R454). -/
def State.destroySlot (s : State) (slot : Nat) : State :=
  match s.slotRecord? slot with
  | some r => (s.emptySlot slot).pushDestroy slot r.header.usage
  | none => s

/-! ### Identity keys (R302, R482) -/

/-- The identity ML-DSA-87 seed, the identity ECDSA P-384 scalar and the Train link ML-KEM-1024 seed, derived from DEVICE_SECRET. -/
def State.idSeed (s : State) : Bytes := idSeedOf s.deviceSecret
def State.idScalar (s : State) : Bytes := idScalarOf s.deviceSecret
def State.linkSeed (s : State) : Bytes := linkSeedOf s.deviceSecret

/-- Their public keys. -/
def State.idMldsa (s : State) : Bytes := dsaPkOf 3 s.idSeed
def State.idEcdsa (s : State) : Bytes := ecPubOf 2 s.idScalar
def State.linkEk (s : State) : Bytes := kemEk 3 s.linkSeed

/-- mu of bytes under the identity ML-DSA key. -/
def State.idMu (s : State) (b : Bytes) : Bytes := dsaMu s.idMldsa (formatted false 0 [] b)

/-- The ML-DSA-87 identity signature; one that finds no candidate in 256 rounds is FREE (R100, log entry 4). -/
def State.idDsaSign (s : State) (b rnd : Bytes) : Bytes :=
  let mu := s.idMu b
  match dsaKept 3 s.idSeed mu rnd with
  | some (_, k) => dsaSigOf 3 s.idSeed mu rnd k
  | none => std .dsaSig 3 [s.idSeed, mu, rnd] (mlDsaSig 3)

/-- The ECDSA P-384 identity signature over the SHA-384 digest, r then s. -/
def State.idEcSign (s : State) (b fresh : Bytes) : Bytes := std .ecSig 2 [toLe 1 2, s.idScalar, sha384 b, fresh] 96

/-- Both signatures of the identity keys over bytes, ML-DSA-87 under `rnd` and ECDSA P-384 under RFC 6979 with `fresh`: 4,627 and 96 bytes
(R195, R298, R302, R305). -/
def State.identitySign (s : State) (b rnd fresh : Bytes) : Bytes := s.idDsaSign b rnd ++ s.idEcSign b fresh

end Sys2Proof.Machine
end

