-- ==== Sys2Proof/Machine/Keys.lean ====
section
/-!
DEFINITION. Class 0x11 key management, class 0x12 GENERATE and class 0x13 QUOTE (09 R277, R281 to R291, R303 to R306; 10 R320, R321).
-/
namespace Sys2Proof.Machine

/-! ### Material by key class (R276, R285, R286) -/

/-- FORM of material (R271, R276). -/
def formOf (cls p : Nat) (m : Bytes) : Nat :=
  match cls with
  | 1 => if m.length == mlKemDk p then formPrivate else formSeed
  | 7 | 8 => formStateful
  | 9 | 0x0E | 0x10 => formSymmetric
  | 0x0A | 0x0C | 0x0D => formPrivate
  | _ => formSeed

/-- Heap part and oversized part of material: a Classic McEliece key keeps its seed in the heap, other material its first 1,920 bytes
(R268, R276; log entry 25). -/
def heapPart (cls : Nat) (m : Bytes) : Bytes := if cls == 5 then m.take 32 else m.take heapLimit
def overPart (cls : Nat) (m : Bytes) : Bytes := if cls == 5 then m.drop 32 else m.drop heapLimit

/-- Public key of material, as the KEYGEN of its class places it; `e` is the exponent of an RSA key (R282, R286). -/
def classPublic (cls p : Nat) (m e : Bytes) : Bytes :=
  match cls with
  | 1 => kemEk p m
  | 2 => dsaPkOf p m
  | 4 => hqcPkOf p m
  | 5 => if m.length ≤ 32 then mcePkOf p m else m.drop 32
  | 6 => slhPkOf p m
  | 7 => statefulPk false p m
  | 8 => statefulPk true p m
  | 0x0A | 0x0C => ecPubOf p m
  | 0x0B => edPubOf p m
  | 0x0D => rsaModulus p m ++ e
  | _ => []

/-- Material of a new key from its random bytes; none while its search has not succeeded (R156, R220, R234, R286). -/
def newMaterial (cls p : Nat) (r : Bytes) : Option Bytes :=
  match cls with
  | 1 => some (r.take 64)
  | 2 => some (r.take 32)
  | 4 => some (r.take (hqcSeed p))
  | 5 =>
    let seed := r.take 32
    if mceAttempts p seed ≤ 16 then some (mceDelta p seed ++ mcePkOf p (mceDelta p seed)) else none
  | 6 => some (slhSkOf p (r.take (3 * slhN p)))
  | 0x0A => some (ecScalar p (r.take (ecL p + 8)))
  | 0x0C => some (if p == 0x10 || p == 0x11 then r.take (ecL p) else ecScalar p (r.take (ecL p + 8)))
  | 0x0B => some (r.take (edPub p))
  | 0x0D =>
    let seed := r.take (rsaK p)
    if Config.stdHolds .rsaSearchEnds p [seed] then some (rsaPrimes p seed) else none
  | _ => some (r.take (classMaterial cls p))

/-- A private scalar lies from 1 to n - 1 (R285). -/
def scalarOk (p : Nat) (m : Bytes) : Bool := m.length == ecL p && 0 < beNat m && beNat m < curveOrder p

/-- Imported material has a form of R276 and passes the checks of R285. -/
def importOk (cls p : Nat) (m : Bytes) : Bool :=
  let n := m.length
  match cls with
  | 1 => n == 64 || (n == mlKemDk p && Config.stdHolds .kemHashOk p [m])
  | 2 | 5 => n == 32
  | 4 => n == hqcSeed p
  | 6 => n == slhSk p
  | 7 => (match statefulLevels false p m with | some ls => n == statefulHead false p ls + 16 + 2 * levelsN ls | none => false)
  | 8 => (match statefulLevels true p m with | some ls => n == 4 + 4 * levelsN ls | none => false)
  | 9 => 16 ≤ n && n ≤ heapLimit
  | 0x0A => scalarOk p m
  | 0x0B => n == edPub p
  | 0x0C => if p == 0x10 || p == 0x11 then n == ecL p else scalarOk p m
  | 0x0D => rsaMaterialOk p (rsaExpOf m) m
  | 0x0E => if p == 0x10 then n == 32 else n == aesLen p || (p != 2 && n == 2 * aesLen p)
  | 0x10 => n == 32
  | _ => false

/-- The pairwise-consistency test of R289: symmetric and stateful material has none. -/
def pairwiseOk (cls p : Nat) (m rand : Bytes) : Bool := !pairwiseClass cls || Config.stdHolds .pairwise cls [toLe 1 p, m, rand]

/-! ### Filling a slot (R284, R289, R290) -/

/-- An earlier replacement of the target still runs (R290). -/
def State.targetBusy (s : State) (j : Job) : Bool :=
  s.fabric.jobs.any fun x =>
    x.id < j.id && x.target == j.target && (x.op == some .kmGenerate || x.op == some .kmImport) && 10 ≤ x.passed &&
    x.phase != .computed && x.phase != .staged

/-- The target judged again at the directory write: it may have changed since step 10 (R284, R290; DEDUCED, log entry 20). -/
def State.targetNow (s : State) (j : Job) (slot : Nat) : Option Status :=
  match s.slotRecord? slot with
  | none => if auxReplace j.aux then some .keyUseDenied else none
  | some r =>
    if r.header.state == .corked then some .keyCorked
    else if !auxReplace j.aux || r.header.owner != j.carriage || hasUsage r.header.usage "stateful" || r.header.state == .prepared then
      some .keyUseDenied
    else none

/-- A ledger of a stateful key that holds no leaves (R182, R196). -/
def emptyLedger (slot : Nat) (pk : Bytes) : Ledger :=
  { slot := slot, keyId := sha3 pk, next := 0, highWater := 0, ranges := [], low := true }

/-- CEK of an oversized part that no object placed outside carries. FREE: no rule says how it is chosen (log entry 91). -/
def partCek (n : Nat) : Bytes := (List.range 32).map fun i => BitVec.ofNat 8 (Config.freeNat "CEK of an oversized part" (n * 32 + i))

/-- Fills a slot with a header and material through R289, its oversized part, a wrapped object, and its ledger with it, and replicates the
change (R277). -/
def State.fillSlot (s : State) (slot r : Nat) (h : SlotHeader) (heap : Bytes) (part : Option Bytes) : State :=
  let s := s.install slot r h heap
  let s := match part with | some b => { s with cellar.oversized := s.cellar.oversized ++ [(r, b)] } | none => s
  let s :=
    if (h.keyClass == 7 || h.keyClass == 8) && h.state == .live then
      let l := emptyLedger slot (statefulPk (h.keyClass == 8) h.param heap)
      { s with cellar.ledgers := (s.cellar.ledgers.filter fun (x : Ledger) => x.slot != slot) ++ [l] }
    else s
  s.pushSlot slot

/-- Attributes of an object from a header, and from an attribute block (R561). -/
def SlotHeader.object (h : SlotHeader) : ObjectAttrs :=
  { keyClass := h.keyClass, param := h.param, worlds := h.worlds, usage := h.usage, lcMask := h.lcMask, form := h.form }
def Attrs.object (a : Attrs) (form : Nat) : ObjectAttrs :=
  { keyClass := a.keyClass, param := a.param, worlds := a.worlds, usage := a.usage, lcMask := a.lcMask, form := form }

/-- Puts new material in force for a job in the record it took, and ends the job with an output: `pk`, then the oversized part as a wrapped
object where `place`; `e` is the exponent of an RSA key (R277, R282, R289). A heap short of granules refuses it (R268). -/
def State.putKey (s : State) (id : Nat) (j : Job) (a : Attrs) (state : SlotState) (e : Nat) (m pk : Bytes) (place : Bool) : State :=
  match j.target, j.shadow with
  | some slot, some r =>
    let heap := heapPart a.keyClass m
    let excess := overPart a.keyClass m
    if s.freeGranules < granules heap.length then s.closeNow id (.failed .quotaExceeded [none])
    else
      let h := s.newHeader a state (formOf a.keyClass a.param m) slot j.carriage e heap excess
      let part := if excess.isEmpty then none else some (s.jobWrap j h.object j.cek excess)
      let out := pk ++ (if place then part.getD [] else [])
      ((s.fillSlot slot r h heap part).modJob id fun j => { j with shadow := none }).closeNow id { output := out }
  | _, _ => s

/-! ### GENERATE and IMPORT -/

/-- A search of GENERATE that has not succeeded: Classic McEliece stops after 16 attempts, RSA at T_REL (R156, R234, R286). -/
def State.searchStop (s : State) (id : Nat) (j : Job) (a : Attrs) : State :=
  let started := match j.parts.head? with | some q => q.nDispatch | none => 0
  if a.keyClass == 0x0D && s.clock.now < started + cooperRel .rsaKeygen a.param 0 0 then s
  else
    let limit := if a.keyClass == 5 then 8 else 4
    let s := s.modJob id fun j => { j with stops := j.stops + 1 }
    if limit ≤ j.stops + 1 then s.failAny id .faultUnrecovered false else s.abandonPart id 0 false false

/-- GENERATE (R286): a stateful key leaves its slot PREPARED; any other key is generated, tested and put in force. A failed test restarts
the job as an engine fault (R289). -/
def State.kmGenerate (s : State) (id : Nat) : State :=
  match s.closes? id .kmGenerate with
  | none => s
  | some j =>
    match j.target with
    | none => s
    | some slot =>
      if s.targetBusy j then s else
      let a := attrsOf j.input
      let a := if a.keyClass == 0x0D then { a with expClass := 1 } else a
      match s.targetNow j slot with
      | some st => s.closeNow id (.failed st [none])
      | none =>
        if a.keyClass == 7 || a.keyClass == 8 then s.putKey id j a .prepared 0 [] [] false
        else match newMaterial a.keyClass a.param j.own with
          | none => s.searchStop id j a
          | some m =>
            if !pairwiseOk a.keyClass a.param m j.own then s.abandonPart id 0 true false
            else s.putKey id j a .live (if a.keyClass == 0x0D then beNat rsaE else 0) m (classPublic a.keyClass a.param m rsaE) true

/-- The key-encryption key and the blob of an IMPORT (R285). -/
def Job.importParts (j : Job) : Bytes × Bytes :=
  let b := j.input.drop 16
  if j.keyIsKem then (kemDecK 3 j.material (b.take 1568), b.drop 1568) else (j.material, b)

/-- IMPORT (R285): unwraps, checks and tests the material, then fills the slot or places a wrapped object. The public key of a Classic
McEliece key is computed for the test and kept as its oversized part (log entry 25). -/
def State.kmImport (s : State) (id : Nat) : State :=
  match s.closes? id .kmImport with
  | none => s
  | some j =>
    if s.targetBusy j && j.target.isSome then s else
    let a := attrsOf j.input
    let (kek, blob) := j.importParts
    let m := std .kwpUnwrap 32 [kek, blob] (kwpLen kek blob)
    if !Config.stdHolds .kwpOk 32 [kek, blob] || !importOk a.keyClass a.param m || !pairwiseOk a.keyClass a.param m j.rand then
      s.closeNow id (.failed .malformedEncoding [none])
    else match j.target with
      | none =>
        s.closeNow id { output := s.jobWrap j (a.object (formOf a.keyClass a.param m)) j.cek m }
      | some slot =>
        match s.targetNow j slot with
        | some st => s.closeNow id (.failed st [none])
        | none =>
          let whole := if a.keyClass == 5 then m ++ mcePkOf a.param m else m
          s.putKey id j a .live (if a.keyClass == 0x0D then rsaExpOf m else 0) whole [] (a.keyClass != 5)

/-! ### The other operations -/

/-- EXPORT: the slot's key as a wrapped object (R282, R561). -/
def kmExportResult (s : State) (j : Job) : OpResult :=
  match j.key with
  | some k => { output := s.jobWrap j k.header.object j.cek k.material }
  | none => .failed .keyNotFound [none]

/-- DESTROY: a slot that another job has emptied since step 10 is KEY_NOT_FOUND (R291; DEDUCED, log entry 20). -/
def State.kmDestroy (s : State) (id : Nat) : State :=
  match s.closes? id .kmDestroy with
  | none => s
  | some j =>
    match j.target with
    | none => s
    | some slot =>
      if (s.slotRecord? slot).isNone then s.closeNow id (.failed .keyNotFound [none])
      else (s.destroySlot slot).closeNow id {}

/-- PUBLIC_GET (R282). -/
def kmPublicGetResult (_ : State) (j : Job) : OpResult :=
  match j.key with
  | some k =>
    let h := k.header
    { output := classPublic h.keyClass h.param k.material h.e }
  | none => .failed .keyNotFound [none]

/-- REWRAP: the same material under the current epoch and a fresh CEK; an object that does not resolve is KEY_NOT_FOUND (R280, R281). -/
def State.kmRewrap (s : State) (id : Nat) : State :=
  match s.runs? id .kmRewrap with
  | none => s
  | some j =>
    match s.jobOpen j j.input with
    | some (h, m) => s.finish id { output := s.jobWrap j h.object j.cek m }
    | none => s.objectFailure.finish id (.failed .keyNotFound [none])

/-- RESTORE: the oversized part, from its object or regenerated, is accepted when MATERIAL_HASH agrees, and held as a wrapped object; an
object that does not open counts for source 181 (R277, R301). -/
def State.kmRestore (s : State) (id : Nat) : State :=
  match s.closes? id .kmRestore with
  | none => s
  | some j =>
    match j.key with
    | none => s
    | some k =>
      let h := k.header
      let heap := k.material.take h.materialLen
      let part :=
        if !j.input.isEmpty then (s.jobOpen j j.input).map fun x => (x.2, j.input)
        else if h.keyClass == 5 then
          let pk := mcePkOf h.param heap
          some (pk, s.jobWrap j h.object (partCek id) pk)
        else none
      match part with
      | some (b, object) =>
        if h.oversized && sha3 (heap ++ b) == h.materialHash then
          let others := s.cellar.oversized.filter fun (x : Nat × Bytes) => x.1 != k.record
          ({ s with cellar.oversized := others ++ [(k.record, object)] }).closeNow id {}
        else s.closeNow id (.failed .malformedEncoding [none])
      | none =>
        let s := if j.input.isEmpty then s else s.objectFailure
        s.closeNow id (.failed .malformedEncoding [none])

/-- INFO: header bytes +0x00 to +0x5F of the key resolved (R282). -/
def kmInfoResult (_ : State) (j : Job) : OpResult :=
  match j.key with | some k => { output := k.header.bytes } | none => .failed .keyNotFound [none]

/-! ### GENERATE of class 0x12 (R320, R321) -/

/-- LENGTH bytes of the draw served at dispatch (R321). -/
def rngGenerateResult (_ : State) (j : Job) : OpResult := { output := j.own }

/-! ### QUOTE (R303 to R306) -/

/-- PATCH_STATE code, and the value of a vintage register (R37). -/
def patchCode (x : PatchState) : Nat := match x with | .none => 0 | .loaded => 1 | .verified => 2
def Vintage.word (v : Vintage) : Nat := v.base % 2 ^ 16 + v.patchId % 2 ^ 16 * 2 ^ 16 + patchCode v.patchState * 2 ^ 32

/-- Head of a CBOR item: major type and argument in the fewest bytes (R304; RFC 8949, log entry 99). -/
def cborHead (major n : Nat) : Bytes :=
  let first (x : Nat) : Bytes := toBe 1 (major * 32 + x)
  if n < 24 then first n
  else if n < 2 ^ 8 then first 24 ++ toBe 1 n
  else if n < 2 ^ 16 then first 25 ++ toBe 2 n
  else if n < 2 ^ 32 then first 26 ++ toBe 4 n
  else first 27 ++ toBe 8 n

/-- Unsigned integer, byte string, text string, array. -/
def cborUint (n : Nat) : Bytes := cborHead 0 n
def cborBytes (b : Bytes) : Bytes := cborHead 2 b.length ++ b
def cborText (x : String) : Bytes := cborHead 3 x.length ++ ascii x
def cborArray (l : List Bytes) : Bytes := cborHead 4 l.length ++ l.flatten

/-- The integer `-n`, `n` at least 1. -/
def cborNeg (n : Nat) : Bytes := cborHead 1 (n - 1)

/-- A map of encoded keys and values, given in the bytewise order of the keys that the core deterministic encoding asks for. -/
def cborMap (l : List (Bytes × Bytes)) : Bytes := cborHead 5 l.length ++ (l.map fun x => x.1 ++ x.2).flatten

/-- Private claim key -70,000 - `n` (R304). -/
def zwClaim (n : Nat) : Bytes := cborNeg (70000 + n)

/-- The payload of a quote: the claims of R304 as a CBOR map. The keys that RFC 9711 registers are 258 oemid, 259 hwmodel, 263 dbgstat
(PRESUMED, log entry 99). -/
def State.quoteClaims (s : State) (nonce : Bytes) : Bytes :=
  let e := s.engines
  cborMap [
    (cborUint 10, cborBytes nonce),
    (cborUint 256, cborBytes (1 :: padTo 16 s.fuses.uniqueId)),
    (cborUint 258, cborBytes (padTo 16 s.oemId)),
    (cborUint 259, cborBytes (ascii "ZM-8840")),
    (cborUint 263, cborUint (if s.power.mode == .debug then 0 else 2)),
    (zwClaim 1, cborUint s.lcCode),
    (zwClaim 2, cborArray (s.firmware.measurements.map fun m => cborArray [cborUint m.1, cborBytes m.2])),
    (zwClaim 3, cborArray ([e.press, e.cooper, e.dray, e.fw].map fun v => cborUint v.word)),
    (zwClaim 4, cborBytes (match s.train.roster with | some r => sha384 r | none => [])),
    (zwClaim 5, cborArray [cborUint (le s.book.anchor 0 8), cborBytes (slice s.book.anchor 8 32)]),
    (zwClaim 6, cborUint s.deviceIndex),
    (zwClaim 7, cborUint s.clock.train)]

/-- Protected headers of the two signatures, `alg` ML-DSA-87 and ECDSA with SHA-384 (R305). -/
def coseDsa : Bytes := cborMap [(cborUint 1, cborNeg 50)]
def coseEc : Bytes := cborMap [(cborUint 1, cborNeg 35)]

/-- Sig_structure of a COSE_Sign signature: context, empty body header, the signer's header, no external data, payload (R305; RFC 9052). -/
def coseToSign (header payload : Bytes) : Bytes :=
  cborArray [cborText "Signature", cborBytes [], cborBytes header, cborBytes [], cborBytes payload]

/-- A COSE_Signature under the header `kid`: the first 16 bytes of the SHA3-256 of the identity public key (R305). -/
def coseSigned (header pk sig : Bytes) : Bytes :=
  cborArray [cborBytes header, cborMap [(cborUint 4, cborBytes ((sha3 pk).take 16))], cborBytes sig]

/-- Rounds of the ML-DSA signature of a quote; none when 256 find no candidate (R100, R306). -/
def State.quoteRounds (s : State) (payload rand : Bytes) : Option Nat :=
  (dsaKept 3 s.idSeed (s.idMu (coseToSign coseDsa payload)) (rand.take 32)).map (·.1)

/-- The COSE_Sign message of a quote, tag 98, its two signatures hedged (R303, R305). -/
def State.quoteOver (s : State) (payload rand : Bytes) : Bytes :=
  let dsa := coseSigned coseDsa s.idMldsa (s.idDsaSign (coseToSign coseDsa payload) (rand.take 32))
  let ec := coseSigned coseEc s.idEcdsa (s.idEcSign (coseToSign coseEc payload) (slice rand 32 32))
  cborHead 6 98 ++ cborArray [cborBytes [], cborMap [], cborBytes payload, cborArray [dsa, ec]]

/-- The signatures of a quote over the claims taken; it is released at the later one's release, at most 2 us of assembly after it
(R306, log entry 6). -/
def quoteResult (s : State) (j : Job) : OpResult :=
  let more := Config.freeNat "quoteAssembly" j.id % 2001
  let rel (n : Nat) : List (Option Nat) := [none, some (mlDsaBase 3 + n * mlDsaRound 3 + more), some (cooperRel .ecdsaSign 2 0 0 + more)]
  match s.quoteRounds j.claims j.own with
  | none => .failed .faultUnrecovered (rel 256)
  | some n => { output := s.quoteOver j.claims j.own, rel := rel n }

/-- QUOTE: the control complex's part commits with the claims it takes; the signatures follow (R306). -/
def State.quote (s : State) (id : Nat) : State :=
  match s.runs? id .quote with
  | none => s
  | some j =>
    if (j.parts[0]?).any (·.running) then
      ((s.modJob id fun j => { j with claims := s.quoteClaims j.input }).finish id {}).commitPart id 0
    else s.runSign id .quote quoteResult

/-! ### The commands -/

/-- KM_GENERATE (R286). -/
def execKmGenerate (t job : Nat) (s : State) : Host.Outcome State Fault Refusal := .next ((s.advance t).kmGenerate job).settle
/-- KM_IMPORT (R285). -/
def execKmImport (t job : Nat) (s : State) : Host.Outcome State Fault Refusal := .next ((s.advance t).kmImport job).settle
/-- KM_EXPORT (R282). -/
def execKmExport (t job : Nat) (s : State) : Host.Outcome State Fault Refusal :=
  .next ((s.advance t).runOp job .kmExport kmExportResult)
/-- KM_DESTROY (R291). -/
def execKmDestroy (t job : Nat) (s : State) : Host.Outcome State Fault Refusal := .next ((s.advance t).kmDestroy job).settle
/-- KM_PUBLIC_GET (R282). -/
def execKmPublicGet (t job : Nat) (s : State) : Host.Outcome State Fault Refusal :=
  .next ((s.advance t).runOp job .kmPublicGet kmPublicGetResult)
/-- KM_REWRAP (R281). -/
def execKmRewrap (t job : Nat) (s : State) : Host.Outcome State Fault Refusal := .next ((s.advance t).kmRewrap job)
/-- KM_RESTORE (R277). -/
def execKmRestore (t job : Nat) (s : State) : Host.Outcome State Fault Refusal := .next ((s.advance t).kmRestore job).settle
/-- KM_INFO (R282). -/
def execKmInfo (t job : Nat) (s : State) : Host.Outcome State Fault Refusal :=
  .next ((s.advance t).runOp job .kmInfo kmInfoResult)
/-- RNG_GENERATE (R321). -/
def execRngGenerate (t job : Nat) (s : State) : Host.Outcome State Fault Refusal :=
  .next ((s.advance t).runOp job .rngGenerate rngGenerateResult)
/-- QUOTE (R306). -/
def execQuote (t job : Nat) (s : State) : Host.Outcome State Fault Refusal :=
  .next ((s.advance t).quote job)

end Sys2Proof.Machine
end

