-- ==== Sys2Proof/Machine/JobEvents.lean ====
section
/-!
DEFINITION. The events of a job's life: input read, key expanded, leaf journalled, dispatched, committed, wiped, staged, released, and the
limits of its waits (02 R61, R64; 03 R85, R96, R103; 04 R111; 06 R183, R188, R202, R203; 07 R209; 09 R268, R297; 10 R317).
-/
namespace Sys2Proof.Machine

/-- Millisecond in ns. -/
def ms : Nat := 1000000

/-- The whole input of a job has been read: an array splits into records, any other input is checked (R64, R75). -/
def State.inputDone (s : State) (id : Nat) : State :=
  match s.job? id with
  | none => s
  | some j => if j.phase != .fetch || j.inputMissing != 0 then s else if j.array then s.splitRecords j else s.afterInput id

/-- An expansion that runs on a tile ends: its result enters the cache, its bank is wiped, and every job that waits for the same key goes on
(R85, R111, R287). -/
def State.expanded (s : State) (id : Nat) : State :=
  match s.job? id with
  | none => s
  | some j =>
    if j.phase != .expand || !s.expanding id then s
    else
      let s := (s.freeExpansion id).cacheExpanded j
      (s.fabric.jobs.filter fun x => x.phase == .expand && x.cacheKey == j.cacheKey).foldl (fun s x => s.makeReady x.id) s

/-- A HIGH_WATER write is durable: the ledger has its new block, and the jobs that wait for a leaf of the slot take theirs in order
(R183). -/
def State.journalDurable (s : State) (slot : Nat) : State :=
  if !s.cellar.journalWrites.contains slot then s
  else
    let s := { s with cellar.journalWrites := s.cellar.journalWrites.filter (· != slot) }
    let s := s.modLedger slot Ledger.reserve
    (s.fabric.jobs.filter fun j => j.phase == .waitJournal && (match j.key with | some k => k.index == slot | none => false)).foldl
      (fun s j => s.assignLeaf j.id) s

/-- A signature that waits needs the tree (R189). -/
def State.treeWanted (s : State) (slot level index : Nat) : Bool :=
  s.fabric.jobs.any fun j =>
    j.phase == .waitTree && refIndex j.keyRef == slot &&
    (match j.leaf, j.levels with | some q, some ls => (leafTrees ls 0 q).contains (level, index) | _, _ => false)

/-- The tree may be built in the background: it is the one over the next leaf, or the next lower one once that is half used, and no waiting
job can use a team of the kind (R188, R189). -/
def State.treeAhead (s : State) (slot level index : Nat) (ls : List TreeLevel) (p : Pool) : Bool :=
  match s.ledger? slot with
  | none => false
  | some l =>
    let size := 2 ^ ((ls.drop level).map (·.height)).sum
    let now := l.nextIndex / size
    !(s.fabric.jobs.any (s.wantsPool p)) &&
    (index == now || (1 ≤ level && index == now + 1 && size ≤ 2 * (l.nextIndex % size)))

/-- A tree of a slot's key is built and cached, on a team in service; the signatures that wait for their trees go on (R188, R189). -/
def State.treeBuilt (s : State) (slot level index : Nat) : State :=
  let ls := s.slotLevels slot
  let above := (ls.take level).map (·.height)
  if ls.length ≤ level || 2 ^ above.sum ≤ index then s
  else
    let pool : Pool := match ls with | l :: _ => if groupShake l.group then .keccak else .sha2 | [] => .sha2
    if !s.poolUp pool true || !(s.treeWanted slot level index || s.treeAhead slot level index ls pool) then s
    else
      let s := s.cacheTree slot level index
      (s.fabric.jobs.filter fun j => j.phase == .waitTree && s.treesReady j).foldl (fun s j => s.makeReady j.id) s

/-! ### The commands -/

/-- INPUT_FETCH_DONE (R64). -/
def execInputFetchDone (t job : Nat) (s : State) : Host.Outcome State Fault Refusal := .next ((s.advance t).inputDone job).settle
/-- KEY_EXPANSION_DONE (R111). -/
def execKeyExpansionDone (t job : Nat) (s : State) : Host.Outcome State Fault Refusal := .next ((s.advance t).expanded job).settle
/-- JOURNAL_WRITE_DURABLE (R183). -/
def execJournalWriteDurable (t slot : Nat) (s : State) : Host.Outcome State Fault Refusal :=
  .next ((s.advance t).journalDurable slot).settle
/-- JOB_DISPATCH (R22, R84, R209, R241): engines that start a known-answer test take no job (R104). -/
def execJobDispatch (t job part : Nat) (s : State) : Host.Outcome State Fault Refusal :=
  .next (((s.advance t).kats).dispatch job part).settle
/-- JOB_COMMIT (R96). -/
def execJobCommit (t job part : Nat) (s : State) : Host.Outcome State Fault Refusal := .next ((s.advance t).commitPart job part)

/-- A bank that is being zeroed holds zeros now, and becomes free (R85, R209). -/
def State.wiped (s : State) (p : Pool) (i b : Nat) : State :=
  s.modEngine p i fun e =>
    if e.banks[b]? != some .wiping then e
    else { e with banks := e.banks.set b .free, contents := e.contents.filter (·.1 != b) }

/-- BANK_WIPE_DONE (R85). -/
def execBankWipeDone (t tile bank : Nat) (s : State) : Host.Outcome State Fault Refusal := .next ((s.advance t).wiped .press tile bank)
/-- OPERAND_WIPE_DONE (R209). -/
def execOperandWipeDone (t engine : Nat) (s : State) : Host.Outcome State Fault Refusal := .next ((s.advance t).wiped .cooper engine 0)

/-- A staged job is released at its instant (R20, R103). -/
def State.releaseDue (s : State) (id : Nat) : State :=
  match s.job? id with
  | some j => if s.releasable j then s.release id else s
  | none => s

/-- A committed result that its bank still holds moves to staging when there is room (R103). -/
def State.stageHeld (s : State) (id part : Nat) : State :=
  match s.job? id with
  | none => s
  | some j =>
    match j.parts[part]? with
    | some q => if q.committed && !q.staged && s.stagingUsed < stagingPlaces then s.stagePart id part q.pool else s
    | none => s

/-- STAGING_SPACE_FREED (R103). -/
def execStagingSpaceFreed (t job part : Nat) (s : State) : Host.Outcome State Fault Refusal := .next ((s.advance t).stageHeld job part)

/-- TREE_BUILD_DONE (R188, R189). -/
def execTreeBuildDone (t slot level index : Nat) (s : State) : Host.Outcome State Fault Refusal :=
  .next ((s.advance t).treeBuilt slot level index)

/-! ### Limits of waits -/

/-- Ends a job with a status when a condition holds. -/
def State.endIf (s : State) (id : Nat) (due : Job → Bool) (st : Status) (trailer : Bool) : State :=
  match s.job? id with
  | some j => if due j then s.failAny id st trailer else s
  | none => s

/-- ENGINE_WAIT_TIMEOUT: 50 ms without an engine of the pool in service (R61). -/
def execEngineWaitTimeout (t job : Nat) (s : State) : Host.Outcome State Fault Refusal :=
  .next ((s.advance t).endIf job (fun j => j.waitsEngine && 50 * ms ≤ j.noEngineNs) .engineUnavailable true).settle
/-- BOOK_PLACE_TIMEOUT: 10 ms at step 11 (R297). -/
def execBookPlaceTimeout (t job : Nat) (s : State) : Host.Outcome State Fault Refusal :=
  let s := s.advance t
  .next (s.endIf job (fun j => j.phase == .waitBook && j.waitSince + 10 * ms ≤ s.clock.now) .bookFull false).settle
/-- ENTROPY_WAIT_TIMEOUT: 50 ms from consumption with the DRBG UNSEEDED (R317). -/
def execEntropyWaitTimeout (t job : Nat) (s : State) : Host.Outcome State Fault Refusal :=
  let s := s.advance t
  .next (s.endIf job (fun j => j.parts.any (·.waits) && s.rng.state == .unseeded && 50 * ms ≤ j.entropyNs) .entropyNotReady false).settle
/-- CHUNK_WAIT_TIMEOUT: 10 ms behind earlier chunks (R203). -/
def execChunkWaitTimeout (t job : Nat) (s : State) : Host.Outcome State Fault Refusal :=
  let s := s.advance t
  .next (s.endIf job (fun j => j.phase == .waitChunk && j.waitSince + 10 * ms ≤ s.clock.now) .outOfRange true).settle

/-- A session idle for 60 s closes (R202). -/
def State.sessionIdle (s : State) (h : Nat) : State :=
  match s.fabric.sessions.find? fun x => x.index == h with
  | some x => if x.lastUse + 60000 * ms ≤ s.clock.now then s.closeSession h else s
  | none => s

/-- SESSION_IDLE_TIMEOUT (R202). -/
def execSessionIdleTimeout (t session : Nat) (s : State) : Host.Outcome State Fault Refusal :=
  .next ((s.advance t).sessionIdle session).settle

end Sys2Proof.Machine
end

