-- ==== Sys2Proof/Machine/Links.lean ====
section
/-!
DEFINITION. What every family that talks to a host uses: a connection leaves the ready state, mailbox sessions end, and the packets of
an RDMA request are checked and placed one by one (12 R353; 13 R385 to R399; 14 R422).
-/
namespace Sys2Proof.Machine

/-! ### Sessions and connections -/

/-- Ends a mailbox session: its waiting commands are discarded; source 243 with the cause (R346 table of 14, R353). -/
def State.endSession (s : State) (id cause : Nat) : State :=
  match s.mailbox.sessions.find? (·.id == id) with
  | none => s
  | some x =>
    let s := { s with
      mailbox.sessions := s.mailbox.sessions.filter (·.id != id)
      mailbox.waiting := s.mailbox.waiting.filter (·.conn != x.conn) }
    s.raise 243 [id, cause]

/-- Jobs of a queue that have not released. -/
def State.queueJobs (s : State) (q : Nat) : Nat := (s.fabric.jobs.filter fun j => j.queue == q && j.parent.isNone).length

/-- A queue becomes BROKEN: it stops consuming, and source 228 is raised (R80, R346). -/
def State.breakQueue (s : State) (q : Nat) : State :=
  match s.queue? q with
  | none => s
  | some x =>
    if x.state == .broken || x.state == .draining then s
    else
      let n := s.queueJobs q
      (s.modQueue q fun x => { x with state := .broken, target := none, cache := [] }).raise 228 [q, n]

/-- Jobs of a queue whose input cannot arrive any more end at step 13 (R59, R80; DEDUCED, log entry 92). -/
def State.loseInputs (s : State) (q : Nat) : State :=
  (s.fabric.jobs.filter fun j => j.queue == q && j.phase == .fetch && j.inputMissing != 0).foldl
    (fun s j => s.failAny j.id .inputFetchError true) s

/-- A connection leaves the ready state (R395, R353, R422). -/
def State.failConnection (s : State) (c : Nat) : State :=
  match s.conn? c with
  | none => s
  | some k =>
    if !k.ready then s
    else
      let lost := k.heldOut.length + b2n k.notify.isSome
      let s := s.modConn c fun k => { k with
        ready := false, discarded := k.discarded + lost, heldOut := [], notify := none, outstanding := [], reads := [], readQueue := [] }
      let s := { s with router.rings := mapIf (·.conn == c) (fun r => { r with dead := true, waiting := [] }) s.router.rings }
      let s := (s.fabric.queues.filter (·.conn == c)).foldl (fun s q => (s.breakQueue q.index).loseInputs q.index) s
      if k.mailbox then
        (s.mailbox.sessions.filter (·.conn == c)).foldl (fun s x => s.endSession x.id 3)
          { s with mailbox.hellos := s.mailbox.hellos.filter (·.conn != c) }
      else s

/-! ### RDMA regions (R397, R398) -/

/-- The region that an rkey names. -/
inductive Region where
  | ring (queue : Nat)
  | window (conn : Nat)
  | memory (carriage : Nat)
  deriving DecidableEq, Repr

/-- Base addresses (R397). -/
def ringAddr (q : Nat) : Nat := 0x10000000000 + q * 0x400000
def doorbellAddr : Nat := 0x20000000000

/-- Region of an rkey (R397). -/
def regionOf (rkey : Nat) : Option Region :=
  if 0x40000000 ≤ rkey && rkey < 0x40010000 then some (.ring (rkey - 0x40000000))
  else if 0x80000000 ≤ rkey && rkey < 0x80010000 then some (.window (rkey - 0x80000000))
  else if 0xC0000000 ≤ rkey && rkey < 0xC0001000 then some (.memory (rkey - 0xC0000000))
  else none

/-- A Process Map entry on the connection resolves to the carriage (R328, R397). -/
def State.boundTo (s : State) (conn c : Nat) : Bool :=
  match s.carriage? c with
  | none => false
  | some x =>
    x.state == .active && s.fabric.pmap.any fun e => e.conn == conn && e.carriage == c && e.bindGen == x.gen

/-- Offset in its region of an access of `len` bytes on a connection, if the access is allowed (R397, R398). -/
def State.regionOffset (s : State) (conn : Nat) (r : Region) (addr len : Nat) : Option Nat :=
  let inside (base size : Nat) : Option Nat := if base ≤ addr && addr + len ≤ base + size then some (addr - base) else none
  match r with
  | .ring q =>
    match s.queue? q with
    | some x => if x.conn == conn then inside (ringAddr q) (x.size * 64) else none
    | none => none
  | .window c => if c == conn then inside doorbellAddr 0x100000 else none
  | .memory c =>
    if !s.boundTo conn c then none
    else match s.carriage? c with
      | some x => inside 0 (x.params.memSize * 4096)
      | none => none

/-- The connection takes RDMA requests: a data connection in the ready state (R385, R386). -/
def State.rdmaConn (s : State) (c : Nat) : Bool :=
  match s.conn? c with | some k => k.ready && !k.mailbox | none => false

/-- The connection takes SENDs of the mailbox. -/
def State.mailConn (s : State) (c : Nat) : Bool :=
  match s.conn? c with | some k => k.ready && k.mailbox | none => false

/-- Answers NAK Remote Access Error or Invalid Request; the connection leaves the ready state (R386, R398). -/
def State.refuseRequest (s : State) (c : Nat) (invalid : Bool) : State := (s.emit (.nak c invalid)).failConnection c

/-- Path MTU of a connection. -/
def State.mtuOf (s : State) (c : Nat) : Nat :=
  match s.conn? c with | some k => if k.req.pathMtu == 0 then 1024 else k.req.pathMtu | none => 1024

/-- Places the packets of an RDMA WRITE one after another while each passes the region check: the bytes before the first packet that
fails are placed (R398). `put` places one packet; `fuel` bounds their number. -/
def State.writePackets (conn rkey : Nat) (put : State → Region → Nat → Bytes → State) : Nat → State → Nat → Bytes → State
  | 0, s, _, _ => s
  | fuel + 1, s, addr, data =>
    if data.isEmpty then s.emit (.ack conn)
    else
      let p := data.take (s.mtuOf conn)
      match (regionOf rkey).bind fun r => (s.regionOffset conn r addr p.length).map fun off => (r, off) with
      | none => s.refuseRequest conn false
      | some (r, off) => State.writePackets conn rkey put fuel (put s r off p) (addr + p.length) (data.drop p.length)

/-- An RDMA WRITE on a connection (R385, R386, R398). -/
def State.rdmaWrite (s : State) (conn rkey addr : Nat) (data : Bytes) (put : State → Region → Nat → Bytes → State) : State :=
  match s.conn? conn with
  | none => s
  | some k =>
    if !k.ready then s
    else if k.mailbox then s.refuseRequest conn true
    else State.writePackets conn rkey put (data.length + 1) s addr data

end Sys2Proof.Machine
end

