-- ==== Sys2Proof/Machine/Mailbox.lean ====
section
/-!
DEFINITION. The mailbox: layouts of commands and responses, MACs, sessions, what each mode accepts, the answer of a command and its
KEY_CHANGE entry (12 R347 to R360; 09 R293 to R295, R560, R563).
-/
namespace Sys2Proof.Machine

/-! ### Commands (R348) -/

/-- Fields of a command. -/
def MbCommand.code (c : MbCommand) : Nat := le c.msg 0 2
def MbCommand.seq (c : MbCommand) : Nat := le c.msg 4 4
def MbCommand.bulk (c : MbCommand) : Bytes := c.msg.drop 128
/-- A parameter of `n` bytes at an offset. -/
def MbCommand.par (c : MbCommand) (off n : Nat) : Nat := le c.msg off n

/-- Most bulk of a message (R347). -/
def bulkLimit : Nat := 1048576

/-- The SEND is 128 + BULK_LEN bytes and its RSV fields are 0 (R349). -/
def MbCommand.formOk (c : MbCommand) : Bool :=
  let n := le c.msg 0x68 4
  c.msg.length == 128 + n && n ≤ bulkLimit && le c.msg 2 2 == 0 && le c.msg 0x60 8 == 0 && le c.msg 0x6C 4 == 0

/-- MAC of a message (R349). -/
def mbMac (key msg : Bytes) (custom : String) : Bytes := kmac key (msg.take 0x70 ++ msg.drop 128) 16 custom

/-- CMD_MAC holds (R349). -/
def MbCommand.macOk (c : MbCommand) (key : Bytes) : Bool := slice c.msg 0x70 16 == mbMac key c.msg "ZMCMD"

/-- Codes of HELLO_CHALLENGE and HELLO_PROVE, which need no session (R348). -/
def helloCode (code : Nat) : Bool := code ≤ 1

/-- The codes that the group tables define (R361 to R373). -/
def mbDefined (code : Nat) : Bool :=
  let n := code % 256
  match code / 256 with
  | 0 => n ≤ 5 || n == 0x10
  | 1 => n ≤ 5
  | 2 => n ≤ 7
  | 3 => n ≤ 0x0D
  | 4 => n ≤ 4
  | 5 => n ≤ 4 || n == 0x20 || n == 0x21
  | 6 => n ≤ 4
  | 7 => n ≤ 4
  | 8 => n ≤ 2
  | 9 => n ≤ 2
  | 0x0A => n ≤ 2
  | 0x0B => n ≤ 3
  | _ => false

/-! ### Modes (R39, R358, R441, R483, R511) -/

/-- Mode numbers (R39). -/
def modeCode (m : Mode) : Nat :=
  match m with
  | .off => 0 | .standby => 1 | .boot => 2 | .service => 3 | .derated => 4 | .hold => 5 | .recovery => 6 | .trainJoin => 7
  | .provisioning => 8 | .debug => 9 | .entropyTest => 10 | .tasting => 11

/-- The mailbox answers in the present mode. -/
def State.mbAnswers (s : State) : Bool :=
  !s.power.zeroising &&
  match s.power.mode with
  | .off | .boot | .tasting => false
  | .standby => s.power.parked
  | _ => true

/-- The mode and life-cycle state accept the code, what the commands check themselves apart (R358, R362, R483). -/
def State.mbModeOk (s : State) (code : Nat) : Bool :=
  (match s.power.mode with
   | .standby => [0, 1, 3, 4, 0x0502].contains code
   | .hold => code / 256 == 0 && code != 5
   | _ => true) &&
  (code / 256 != 1 || [Mode.service, .derated, .recovery, .trainJoin, .debug].contains s.power.mode)

/-! ### Answers -/

/-- What a command answers. -/
structure MbOut where
  status : Status := .success
  /-- RESULT, bytes from +0x08 on. -/
  result : Bytes := []
  bulk : Bytes := []
  /-- The command has an effect, so T_APPLIED names its instant (R357). -/
  effect : Bool := false
  /-- Session key of a response to HELLO_PROVE. -/
  key : Option Bytes := none
  /-- Session that ends after the response. -/
  ends : Option Nat := none
  /-- KEY_CHANGE entry: slot, carriage, and the record that the change put in force (R560). -/
  slot : Option Nat := none
  carriage : Nat := 0
  record : Option Nat := none
  deriving DecidableEq, Repr

/-- A command answers, or goes on later. -/
inductive MbReply where
  | answer (o : MbOut)
  | waits (w : MbWait)
  deriving DecidableEq, Repr

/-- A refusal with its status, and a result that it carries. -/
def MbReply.refuse (st : Status) : MbReply := .answer { status := st }

/-- The answer of a setting that is in effect (R357). -/
def MbReply.ok : MbReply := .answer { effect := true }

/-- Answer of a command that only reads. -/
def MbReply.info (result : Bytes) : MbReply := .answer { result := result }

/-- Fields at their offsets in a response, as RESULT from +0x08 on. -/
def mbFields (fs : List (Nat × Bytes)) : Bytes :=
  fs.foldl (fun b f => padTo (f.1 - 8) b ++ f.2 ++ b.drop (f.1 - 8 + f.2.length)) []

/-- A session by number (R351). -/
def State.mbSession? (s : State) (id : Nat) : Option Session := s.mailbox.sessions.find? (·.id == id)
/-- The session of a connection. -/
def State.sessionOn (s : State) (conn : Nat) : Option Session := s.mailbox.sessions.find? (·.conn == conn)

/-- The 128 bytes of a response and its bulk; RSP_MAC is zeros without a session key (R348, R349). -/
def mbResponse (code : Nat) (st : Status) (seq : Nat) (result : Bytes) (tApplied : Nat) (bulk : Bytes) (key : Option Bytes) : Bytes :=
  let head := toLe 2 code ++ toLe 2 (statusCode st) ++ toLe 4 seq ++ padTo 88 result ++ toLe 8 tApplied ++ toLe 4 bulk.length ++ zeros 4
  head ++ (match key with | some k => mbMac k (head ++ zeros 16 ++ bulk) "ZMRSP" | none => zeros 16) ++ bulk

/-- Sends a response; that of a session which has ended is dropped (R353). A hello is of no session: its response carries a MAC only under
the key that HELLO_PROVE has just set (R348). -/
def State.mbSend (s : State) (c : MbCommand) (o : MbOut) : State :=
  let hello := helloCode c.code
  let key := if hello then o.key else (s.mbSession? c.session).map (·.key)
  if !hello && c.session != 0 && (s.mbSession? c.session).isNone then s
  else
    let seq := match c.want with | some n => if o.status == .mbSequence then n else c.seq | none => c.seq
    let at' := if o.effect && o.status == .success then s.clock.train else 0
    s.post c.conn (.send c.conn (mbResponse c.code o.status seq o.result at' o.bulk key))

/-- Group 0x03xx commands that append a KEY_CHANGE entry (R295). -/
def mbKeyChange (code : Nat) : Bool :=
  code / 256 == 3 && mbDefined code && !([0x0300, 0x0304, 0x0308, 0x030A, 0x030C].contains code)

/-- A KEY_CHANGE entry finds a free place in the tail (R563). -/
def State.placeFree (s : State) : Bool := !s.bookOpen || (s.bookUsed < tailPlaces && s.book.held.isEmpty)

/-- The command answers: its KEY_CHANGE entry, the response, and the end of a session after it (R357, R560). -/
def State.mbAnswer (s : State) (c : MbCommand) (o : MbOut) : State :=
  let s := if mbKeyChange c.code then s.keyChange c.code 0 o.status o.slot o.carriage o.record (zeros 32) else s
  let s := s.mbSend c o
  match o.ends with | some id => s.endSession id 1 | none => s

/-! ### Arrival (R349, R350, R353) -/

/-- Takes a command's CMD_SEQ: the session expects the next one after a command in sequence (R350). -/
def State.mbArrival (s : State) (conn : Nat) (msg : Bytes) (extra : List Nat) : State × MbCommand :=
  let c : MbCommand := { conn := conn, msg := msg, extra := extra }
  match s.sessionOn conn with
  | none => (s, c)
  | some x =>
    let c := { c with session := x.id }
    if helloCode c.code || !c.formOk || !c.macOk x.key then (s, c)
    else if c.seq == x.nextSeq then
      let next (y : Session) : Session := { y with nextSeq := (y.nextSeq + 1) % 2 ^ 32 }
      ({ s with mailbox.sessions := mapIf (·.id == x.id) next s.mailbox.sessions }, c)
    else (s, { c with want := some x.nextSeq })

/-- The checks before a command runs: format and MAC, session, sequence, code, mode; answers whether it may run (R349, R350, R358,
R360). -/
def State.mbAdmit (s : State) (c : MbCommand) : State × Bool :=
  let hello := helloCode c.code
  let close : State := if c.session == 0 then s else s.endSession c.session 2
  if c.msg.length < 128 || !c.formOk then (close, false)
  else if s.lc == some .scrapped && c.code != 0 && c.code != 1 then (s, false)
  else if hello then (if s.mbModeOk c.code then (s, true) else (s, false))
  else match s.mbSession? c.session with
    | none => if c.session == 0 then (s.mbSend c { status := .mbNoSession }, false) else (s, false)
    | some x =>
      if !c.macOk x.key then (close, false)
      else if c.want.isSome then (s.mbSend c { status := .mbSequence }, false)
      else if !mbDefined c.code then (s.mbSend c { status := .mbUnknownCommand }, false)
      else if !s.mbModeOk c.code then (s.mbSend c { status := .mbNotInMode }, false)
      else (s, true)

end Sys2Proof.Machine
end

