-- ==== Sys2Proof/Machine/MbInfo.lean ====
section
/-!
DEFINITION. Mailbox group 0x00xx: the session hello and information (01 R38; 10 R322; 12 R351, R352, R361).
-/
namespace Sys2Proof.Machine

/-! ### The hello (R351, R352) -/

/-- Session key from the shared secret and the hello's transcript (R352). -/
def sessionKey (k th : Bytes) : Bytes := kmac k th 32 "ZMMBOX3"

/-- Most sessions open at once (R351). -/
def sessionLimit : Nat := 4

/-- HELLO_CHALLENGE: an ephemeral ML-KEM-768 key pair and MODULE_NONCE from the DRBG, for which it waits (R317, R351); refused where the
DRBG has failed (log entry 40). -/
def mbHelloChallenge (s : State) (c : MbCommand) : State × MbReply :=
  match s.drawFate false with
  | .failed => (s, .refuse .mbStateConflict)
  | .waits => (s, .waits .draw)
  | .served =>
    let (s, n) := s.serveDraw false 1
    let b := drawBytes n 96
    let seed := b.take 64
    let nonce := b.drop 64
    let x : Hello := { conn := c.conn, masterNonce := slice c.msg 8 32, moduleNonce := nonce, seed := seed, since := s.clock.now }
    let others := s.mailbox.hellos.filter fun (y : Hello) => y.conn != c.conn
    ({ s with mailbox.hellos := others ++ [x] },
     .answer {
       result := mbFields [(0x08, s.fuses.uniqueId), (0x18, toLe 2 3), (0x1A, toLe 1 s.lcCode), (0x1B, toLe 1 (modeCode s.power.mode)),
                           (0x1C, toLe 1 s.mailbox.sessions.length), (0x20, nonce)]
       bulk := kemEk 2 seed
       effect := true })

/-- Hash of the manufacturing control key in ROM (R351, log entry 7). -/
def romControlHash : Bytes := romValue "CTRL_KEY_HASH" 48

/-- The control-key hash in force (R351). -/
def State.controlHash (s : State) : Bytes := if s.perso 1 then s.fuses.ctrlKeyHash else romControlHash

/-- An ML-DSA signature, pure with an empty context, verifies (R351). -/
def dsaHolds (p : Nat) (pk msg sig : Bytes) : Bool := Config.stdHolds .dsaVerify p [pk, dsaMu pk (formatted false 0 [] msg), sig]

/-- An ECDSA P-384 signature with SHA-384 over a message verifies: point, range and equation (R235, R351). -/
def ecdsaHolds (pk msg sig : Bytes) : Bool :=
  (pointFault 2 pk).isNone && ecSigRange 2 sig && Config.stdHolds .ecVerify 2 [pk, sig, sha384 msg]

/-- Both signatures of a pair of keys over a message verify. -/
def bothHold (p : Nat) (dsa ec msg sigDsa sigEc : Bytes) : Bool := dsaHolds p dsa msg sigDsa && ecdsaHolds ec msg sigEc

/-- SESSION_IDs that a new session may not have: those of the sessions open, and of commands still running, whose responses are dropped once
their own session has ended (R351, R353). -/
def State.sessionIds (s : State) : List Nat :=
  s.mailbox.sessions.map (·.id) ++ s.mailbox.running.toList.map (·.session) ++ s.mailbox.drains.map (·.2.session)

/-- SESSION_ID of a new session, 1 to 0xFFFE (R351). -/
def State.freeSessionId (s : State) : Nat :=
  let n := s.sessionIds.length
  1 + anyFree "session" (s.useNo n) 0xFFFE n fun i => s.sessionIds.contains (i + 1)

/-- HELLO_PROVE (R351, R352): signatures and key hash, sessions open, life cycle; the key pair is spent whatever the outcome. -/
def mbHelloProve (s : State) (c : MbCommand) : State × MbReply :=
  match s.mailbox.hellos.find? (·.conn == c.conn) with
  | none => (s, .refuse .mbStateConflict)
  | some h =>
    let s := { s with mailbox.hellos := s.mailbox.hellos.filter fun (y : Hello) => y.conn != c.conn }
    let b := c.bulk
    if b.length != 6542 then (s, .refuse .lengthMismatch) else
    let ct := b.take 1088
    let dsa := slice b 1088 1952
    let ec := slice b 3040 97
    let th := sha3 (h.masterNonce ++ h.moduleNonce ++ s.fuses.uniqueId ++ kemEk 2 h.seed ++ ct)
    if !bothHold 2 dsa ec th (slice b 3137 3309) (slice b 6446 96) || sha384 (dsa ++ ec) != s.controlHash then
      (s, .refuse .signatureInvalid)
    else if sessionLimit ≤ s.mailbox.sessions.length then (s, .refuse .quotaExceeded)
    else if s.lc == some .scrapped then (s, .refuse .mbLifecycleDenied)
    else if (s.sessionOn c.conn).isSome then (s, .refuse .mbStateConflict)
    else
      let key := sessionKey (kemDecK 2 h.seed ct) th
      let id := s.freeSessionId
      let x : Session := { id := id, conn := c.conn, key := key, control := dsa ++ ec }
      let s := { s with mailbox.sessions := s.mailbox.sessions ++ [x] }
      (s.raise 242 [id],
       .answer { result := mbFields [(0x08, toLe 2 id), (0x0A, toLe 2 s.mailbox.sessions.length)], effect := true, key := some key })

/-! ### Information (R361) -/

/-- VINTAGE_GET (R38). -/
def mbVintageGet (s : State) (_ : MbCommand) : State × MbReply :=
  (s, .info (([s.engines.press, s.engines.cooper, s.engines.dray, s.engines.fw].map fun v => toLe 8 v.word).flatten))

/-- MODULE_INFO. -/
def mbModuleInfo (s : State) (_ : MbCommand) : State × MbReply :=
  (s, .info (mbFields [(0x08, s.fuses.uniqueId), (0x18, s.oemId), (0x28, toLe 1 s.lcCode), (0x29, toLe 1 (modeCode s.power.mode)),
    (0x2A, toLe 1 s.mailbox.sessions.length), (0x2B, toLe 1 (b2n s.holdover)), (0x2C, toLe 2 s.deviceIndex),
    (0x30, toLe 8 s.clock.train), (0x38, toLe 4 s.fuses.fwSvn)]))

/-- SESSION_CLOSE: the sender's own session ends after the response. -/
def mbSessionClose (s : State) (c : MbCommand) : State × MbReply :=
  let n := c.par 8 2
  if n == 0xFFFF || n == c.session then (s, .answer { effect := true, ends := some c.session })
  else match s.mbSession? n with
    | some _ => (s.endSession n 1, .ok)
    | none => (s, .refuse .keyNotFound)

/-- QUOTE_GET: the quote of R303 over the nonce, under its own draw (R306, R361). A quote that the identity keys cannot sign has no
status of its own in R360 (log entry 41). -/
def mbQuoteGet (s : State) (c : MbCommand) : State × MbReply :=
  let n := c.bulk.length
  if s.power.mode == .standby || s.power.mode == .hold then (s, .refuse .mbNotInMode)
  else if n < 8 || 64 < n then (s, .refuse .lengthMismatch)
  else if !s.quotes then (s, .refuse .mbLifecycleDenied)
  else match s.drawFate false with
    | .failed => (s, .refuse .mbStateConflict)
    | .waits => (s, .waits .draw)
    | .served =>
      let (s, k) := s.serveDraw false 2
      let payload := s.quoteClaims c.bulk
      let rand := drawBytes k 64
      if (s.quoteRounds payload rand).isSome then (s, .answer { bulk := s.quoteOver payload rand }) else (s, .refuse .mbStateConflict)

/-- RNG_STATUS (R322). -/
def State.rngStatus (s : State) : Nat :=
  let r := s.rng
  let code := match r.state with | .unseeded => 0 | .seeded => 1 | .reseedDue => 2 | .failed => 3 | .blocked => 4
  let cells := (r.cells.zipIdx.map fun (x, i) => b2n x.healthy * 2 ^ i).sum
  let fails := min 3 (r.failures.filter fun t => s.clock.now < t + 1000000000).length
  b2n r.valid + 2 * b2n r.emptyRead + 4 * code + 32 * b2n r.fatal + 64 * s.fuses.noiseDebias + 256 * cells + 2 ^ 24 * fails +
    2 ^ 32 * r.reseeds

/-- RNG_INFO. -/
def mbRngInfo (s : State) (_ : MbCommand) : State × MbReply := (s, .info (toLe 8 s.rngStatus))

/-- HELLO_KEYPAIR_EXPIRY: 1 s after the response (R351). -/
def execHelloKeypairExpiry (t conn : Nat) (s : State) : Host.Outcome State Fault Refusal :=
  let s := s.advance t
  let live (h : Hello) : Bool := h.conn != conn || s.clock.now < h.since + 1000000000
  .next { s with mailbox.hellos := s.mailbox.hellos.filter live }

end Sys2Proof.Machine
end

