-- ==== Sys2Proof/Machine/Rom.lean ====
section
/-!
DEFINITION. ROM boot: manifests, the checks of each bank, the bank chosen, measurements and base versions (17 R478, R491 to R496; 12 R369,
R370). A bank that FW_STAGE has never written holds the factory image, taken as verified (DESIGN CHOICE, log entry 7).
-/
namespace Sys2Proof.Machine

/-! ### Manifests (R493) -/

/-- Header fields. -/
def manSigner (b : Bytes) : Nat := byteAt b 2
def manCount (b : Bytes) : Nat := byteAt b 3
def manSvn (b : Bytes) : Nat := le b 4 4
def manBase (b : Bytes) : Nat := le b 8 2
def manLen (b : Bytes) : Nat := le b 0x0C 4

/-- A component entry: KIND, VERSION, OFFSET, LENGTH, DIGEST. -/
structure Component where
  kind : Nat
  version : Nat
  offset : Nat
  length : Nat
  digest : Bytes
  deriving DecidableEq, Repr

/-- Component entries of a manifest, in order. -/
def components (b : Bytes) : List Component :=
  (List.range (manCount b)).map fun i =>
    let e := slice b (128 + 64 * i) 64
    { kind := byteAt e 0, version := le e 2 2, offset := le e 4 4, length := le e 8 4, digest := slice e 0x10 48 }

/-- Bytes that the signatures cover: header, entries and public keys. -/
def manSigned (b : Bytes) : Nat := 128 + 64 * manCount b + (if manSigner b == 0 then 0 else 2689)

/-- The whole manifest with its signatures. -/
def manifestOf (b : Bytes) : Bytes := b.take (manSigned b + (if manSigner b == 0 then 0 else 4723))

/-- Most bytes of a bank (R369). -/
def bankSize : Nat := 33554432

/-- The layout obeys R493; a signer of OEM code carries only kind 2 (R494). -/
def manifestForm (b : Bytes) : Bool :=
  let cs := components b
  le b 0 2 == 1 && 1 ≤ manCount b && manCount b ≤ 7 && manSvn b ≤ 64 && manLen b ≤ bankSize &&
  (manifestOf b).length ≤ 32768 && manSigned b ≤ b.length &&
  cs.all (fun c => 2 ≤ c.kind && c.kind ≤ 8 && (c.kind != 2 || c.length ≤ 3145728)) &&
  (cs.filter fun c => c.kind == 2).length == 1 && (cs.map (·.kind)).eraseDups.length == cs.length &&
  (manSigner b != 2 || cs.length == 1)

/-- SIGNER values that the life-cycle state permits (R478). -/
def State.signerPermitted (s : State) (signer : Nat) : Bool :=
  match s.lc with
  | some .wafer | some .moduleTest => signer ≤ 1
  | some .oemField => signer == 1 || (signer == 2 && s.perso 2)
  | some .zawardProvisioned | some .returned | some .scrapped => signer == 1
  | none => false

/-- Hash of the code-signing keys that SIGNER names (R493, R494). -/
def State.codeKeyHash (s : State) (signer : Nat) : Bytes :=
  if signer == 2 then s.fuses.oemCodeKeyHash else romValue "ZW_CODE_KEY_HASH" 48

/-- Signer's keys and both signatures hold (R494). -/
def State.manifestSigned (s : State) (b : Bytes) : Bool :=
  if manSigner b == 0 then true
  else
    let n := manSigned b
    let keys := slice b (n - 2689) 2689
    b.length ≥ n + 4723 && sha384 keys == s.codeKeyHash (manSigner b) &&
    bothHold 3 (keys.take 2592) (keys.drop 2592) (b.take n) (slice b n 4627) (slice b (n + 4627) 96)

/-- A component compares equal with its digest (R491). -/
def componentOk (b : Bytes) (c : Component) : Bool := c.offset + c.length ≤ b.length && sha384 (slice b c.offset c.length) == c.digest

/-- FUSED_SVN (R495). -/
def State.fusedSvn (s : State) : Nat := s.fuses.fwSvn

/-- The ROM step, 3 to 6, at which an image fails; none when it boots (R491, R494, R495). -/
def State.romFails (s : State) (b : Bytes) : Option Nat :=
  if !manifestForm b || !s.signerPermitted (manSigner b) || !s.manifestSigned b then some 3
  else if manSvn b < s.fusedSvn then some 4
  else if !((components b).filter fun c => c.kind == 2).all (componentOk b) then some 5
  else if !(components b).all (componentOk b) then some 6
  else none

/-! ### Banks (R492) -/

/-- Contents and COMMIT_SERIAL of a bank, 0 A and 1 B. -/
def State.bank (s : State) (i : Nat) : Bytes := if i == 0 then s.firmware.bankA else s.firmware.bankB
def State.bankSerial (s : State) (i : Nat) : Nat := if i == 0 then s.firmware.serialA else s.firmware.serialB

/-- The factory image: a bank with a valid header that FW_STAGE has never written. -/
def State.factory (s : State) (i : Nat) : Bool := (s.bank i).isEmpty && 0 < s.bankSerial i

/-- The step at which a bank fails; the factory image has SVN 0 (R495, log entry 7). -/
def State.bankFails (s : State) (i : Nat) : Option Nat :=
  if s.factory i then (if 0 < s.fusedSvn then some 4 else none) else s.romFails (s.bank i)

/-- A vintage as Boot sets it: the base image and boot patch of the manifest, or the silicon image (R37, R104, R105, R491). -/
def bootVintage (b : Bytes) (base patch : Nat) (silicon : Vintage) : Vintage :=
  let cs := components b
  let v := match cs.find? fun c => c.kind == base with | some c => c.version | none => 0
  match cs.find? fun c => c.kind == patch with
  | some c =>
    { silicon with base := v, patchId := c.version, patchState := .verified, oldId := 0, oldState := .none, oldPatch := []
                   patch := slice b c.offset c.length }
  | none => { base := v }

/-- Starts the firmware of a bank: RUNNING_SVN, measurements, base versions (R491 step 7, R496). -/
def State.startBank (s : State) (i : Nat) : State :=
  if s.factory i then
    { s with
      firmware.running := i, firmware.svn := 0
      firmware.measurements := [(1, romValue "FACTORY_MANIFEST" 48), (2, romValue "FACTORY_FIRMWARE" 48)]
      engines.press := {}, engines.cooper := {}, engines.dray := {}, engines.fw := {} }
  else
    let b := s.bank i
    let cs := components b
    { s with
      firmware.running := i, firmware.svn := manSvn b
      firmware.measurements := (1, sha384 (manifestOf b)) :: cs.map fun c => (c.kind, c.digest)
      engines.press := bootVintage b 3 6 s.engines.press
      engines.cooper := bootVintage b 4 7 s.engines.cooper
      engines.dray := bootVintage b 5 8 s.engines.dray
      engines.fw := { base := manBase b } }

/-- ROM steps 2 to 7: the bank with the higher serial first, then the other with event 199; with both failing the module stays in Boot
and asserts nALARM. Answers the state and whether the firmware runs (R492). -/
def State.romBoot (s : State) : State × Bool :=
  let first := if s.bankSerial 0 < s.bankSerial 1 then 1 else 0
  match s.bankFails first with
  | none => (s.startBank first, true)
  | some step =>
    match s.bankFails (1 - first) with
    | none => ((s.startBank (1 - first)).raise 199 [first, step], true)
    | some _ => ({ s with power.bootStuck := true, power.alarm := s.power.alarm ++ [3] }, false)

end Sys2Proof.Machine
end

