-- ==== Sys2Proof/Machine/BootDigest.lean ====
section
/-!
DEFINITION. The Boot Digest unit: START, FINISH, ABORT, data, snooping and the comparator (17 R497 to R501).
-/
namespace Sys2Proof.Machine

/-- The FIPS 180-4 padding that the writer appends (R499). -/
def shaPad (m : Bytes) : Bytes := m ++ [0x80#8] ++ zeros ((239 - m.length % 128) % 128) ++ toBe 16 (8 * m.length)

/-- The message whose padding the absorbed bytes are. -/
def unpad (b : Bytes) : Option Bytes :=
  let m := b.take (be (b.drop (b.length - 16)) 0 16 / 8)
  if 128 ≤ b.length && shaPad m == b then some m else none

/-- The digest of whole blocks to which the unit adds no padding (R499). -/
def blockDigest (b : Bytes) : Bytes :=
  match unpad b with
  | some m => sha384 m
  | none => std .hash 0x03 [b] 48

/-- The expected digest (R497). -/
def BootDigest.expected (u : BootDigest) : Bytes := (u.expect.map fun w => toLe 8 w.toNat).flatten

/-- The digest equals BD_EXPECT. -/
def BootDigest.same (u : BootDigest) : Bool := blockDigest u.absorbed == u.expected

/-- Comparator outputs EQ and EQ_N (R499, R501). -/
def BootDigest.eq (u : BootDigest) : Bool := u.done && u.whole && u.same
def BootDigest.eqN (u : BootDigest) : Bool := u.done && u.whole && !u.same

/-- START (R498). -/
def BootDigest.start (u : BootDigest) (owner : BdOwner) : BootDigest :=
  if u.busy then { u with refused := true } else { u with absorbed := [], done := false, whole := false, busy := true, owner := owner }

/-- ABORT, by the owner only (R497, R498). -/
def BootDigest.abort (u : BootDigest) (owner : BdOwner) : BootDigest :=
  if u.owner == owner then { u with absorbed := [], busy := false, done := false, whole := false } else u

/-- FINISH ends the message in progress (R499). -/
def BootDigest.finish (u : BootDigest) : BootDigest :=
  if u.busy then { u with busy := false, done := true, whole := u.absorbed.length % 128 == 0 } else u

/-- Bytes arrive: into the message in progress, or silently as the first of a new one while DONE is 1 (R500). -/
def BootDigest.absorb (u : BootDigest) (b : Bytes) : BootDigest :=
  if b.isEmpty then u
  else if u.done then { u with absorbed := b, done := false, whole := false, busy := true }
  else if u.busy then { u with absorbed := u.absorbed ++ b }
  else u

/-- The control complex has its clock: from Boot on (R11). -/
def State.bdUp (s : State) : Bool := s.power.mode != .off && (s.power.mode != .standby || s.power.parked)

/-- Changes the unit. -/
def State.bdDo (s : State) (g : BootDigest → BootDigest) : State := if s.bdUp then { s with bd := g s.bd } else s

/-- A byte of a NOR bank; what FW_STAGE has not written has the value that manufacture left (log entry 7). -/
def State.norByte (s : State) (bank i : Nat) : Byte :=
  match (s.bank bank)[i]? with
  | some x => x
  | none => Config.fuseByte "NOR" (bank * bankSize + i)

/-- Bytes read from NOR are absorbed while SNOOP is set (R497). -/
def State.norRead (s : State) (bank off len : Nat) : State :=
  if s.bd.snoop && bank < 2 && off + len ≤ bankSize then
    s.bdDo fun u => u.absorb ((List.range len).map fun k => s.norByte bank (off + k))
  else s

/-- BD_START; the value written has SNOOP 0 (R498). -/
def execBdStart (t : Nat) (owner : BdOwner) (s : State) : Host.Outcome State Fault Refusal :=
  .next ((s.advance t).bdDo fun u => { u.start owner with snoop := false })
/-- BD_FINISH (R499). -/
def execBdFinish (t : Nat) (_owner : BdOwner) (s : State) : Host.Outcome State Fault Refusal :=
  .next ((s.advance t).bdDo fun u => { u.finish with snoop := false })
/-- BD_ABORT (R498). -/
def execBdAbort (t : Nat) (owner : BdOwner) (s : State) : Host.Outcome State Fault Refusal :=
  .next ((s.advance t).bdDo fun u => { u.abort owner with snoop := false })
/-- BD_DATA_WRITE: eight bytes (R497, R500). -/
def execBdDataWrite (t : Nat) (_owner : BdOwner) (data : Bytes) (s : State) : Host.Outcome State Fault Refusal :=
  .next (if data.length == 8 then (s.advance t).bdDo fun u => u.absorb data else s.advance t)
/-- NOR_READ_SNOOPED (R497). -/
def execNorReadSnooped (t bank offset len : Nat) (s : State) : Host.Outcome State Fault Refusal := .next ((s.advance t).norRead bank offset len)

/-- The unit compares bytes with a digest for an owner: START, EXPECT, the padded message, FINISH (R498, R499). -/
def BootDigest.compare (u : BootDigest) (owner : BdOwner) (bytes digest : Bytes) : BootDigest :=
  let words := (List.range 6).map fun i => BitVec.ofNat 64 (le digest (8 * i) 8)
  (({ u.start owner with expect := words, snoop := false }).absorb (shaPad bytes)).finish

/-- What ROM's comparisons of steps 5 and 6 leave in the unit: that of the last component; the factory image's bytes are FREE (R491, log
entry 7). -/
def State.romDigest (s : State) : State :=
  let i := s.firmware.running
  if s.factory i then
    let image := romValue "FACTORY_IMAGE" 48
    { s with bd := s.bd.compare .rom image (sha384 image) }
  else
    let b := s.bank i
    { s with bd := (components b).foldl (fun u c => u.compare .rom (slice b c.offset c.length) c.digest) s.bd }

/-- One comparison of a component with its digest by the firmware: none where the unit is busy (17, read-back of FW_COMMIT). -/
def State.readBack (s : State) (b : Bytes) (c : Component) : State × Option Bool :=
  if s.bd.busy then ({ s with bd.refused := false }, none)
  else
    let u := s.bd.compare .firmware (slice b c.offset c.length) c.digest
    ({ s with bd := u }, some (u.done && u.eq && !u.eqN))

end Sys2Proof.Machine
end

