-- ==== Sys2Proof/Machine/Reserve.lean ====
section
/-!
DEFINITION. The engines that Express reserves: four Cooper engines of cluster 0 and one Dray of group 0 (01 R19; 07 R216; 08 R244;
16 R463, R464).
-/
namespace Sys2Proof.Machine

/-- Express holds engines: it is enabled, or its last replies are still due (R463). -/
def State.expressHolds (s : State) : Bool := s.express.enabled || s.express.closing

/-- A reserved engine still serves: it is not offline, and its domain is not off by a fault. -/
def State.reservedAlive (s : State) (p : Pool) (i : Nat) : Bool :=
  match (s.pool p)[i]? with
  | some e => !e.offline && !s.power.domainFaults.contains (engineDomain p i)
  | none => false

/-- Takes an engine from Service: its routine is abandoned, which is no fault (R216, R244). -/
def State.takeForExpress (s : State) (p : Pool) (i : Nat) : State := (s.crossEngine p i).abandonEngine p i false false

/-- Reserves the highest-numbered engines of cluster 0 in service until four are reserved (R19, R464). -/
def State.fillCoopers : Nat → State → State
  | 0, s => s
  | fuel + 1, s =>
    if 4 ≤ s.engines.reservedCoopers.length then s
    else match ((s.servicing .cooper).filter fun i => i < 16).getLast? with
      | none => s
      | some i =>
        let s := s.takeForExpress .cooper i
        State.fillCoopers fuel { s with engines.reservedCoopers := s.engines.reservedCoopers ++ [i] }

/-- Reserves the lowest-numbered Dray of group 0 in service when none is reserved: Dray 0, then Dray 1 (R19, R464). -/
def State.fillDray (s : State) : State :=
  if s.engines.reservedDray.isSome then s
  else match (s.servicing .dray).filter fun i => i < 4 with
    | [] => s
    | i :: _ => { s.takeForExpress .dray i with engines.reservedDray := some i }

/-! ### The commands of accepted frames on the reserved engines (R464, R470, R476) -/

/-- CMD of a request (R465). -/
def frameCmd (f : MaldinFrame) : Nat := byteAt f.payload 3

/-- CMD 0x01 to 0x03 run on a Cooper engine, the others on a Dray (R471). -/
def cooperCmd (c : Nat) : Bool := 1 ≤ c && c ≤ 3
def framePool (f : MaldinFrame) : Pool := if cooperCmd (frameCmd f) then .cooper else .dray

/-- The reserved engines of a pool that still serve. -/
def State.expressEngines (s : State) (p : Pool) : List Nat :=
  (match p with | .cooper => s.engines.reservedCoopers | .dray => s.engines.reservedDray.toList | _ => []).filter (s.reservedAlive p)

/-- Instant from which a reserved engine is free of the frames accepted so far. -/
def State.engineFree (s : State) (p : Pool) (i : Nat) : Nat :=
  ((s.express.frames.filter fun (f : MaldinJob) => framePool f.frame == p && f.engine == some i).map (·.readyAt)).foldl max 0

/-- The reserved engine that is free first, and from when; none while no replacement is in service (R464). -/
def State.frameEngine (s : State) (p : Pool) : Option (Nat × Nat) :=
  ((s.expressEngines p).map fun i => (i, s.engineFree p i)).foldl (fun best x =>
    match best with | none => some x | some b => if x.2 < b.2 then some x else some b) none

/-- A delay between two bounds of R476, in ns. FREE within them (log entry 6). -/
def stageDelay (tag : String) (use least most : Nat) : Nat := least + Config.freeNat tag use % (most - least + 1)

/-- From dispatch to the result (R476). -/
def resultDelay (cmd use : Nat) : Nat :=
  match cmd with
  | 1 => 17600
  | 2 => 31700
  | 3 => 23500
  | _ => stageDelay "express result" use 100 500

/-- Gives a frame's command to the reserved engine that is free first, from `from'` on; with none in service the frame is answered with
FAULT (R464, R476). -/
def State.dispatchFrame (s : State) (from' : Nat) (f : MaldinJob) : MaldinJob :=
  let built := stageDelay "express reply" f.id 200 300
  match s.frameEngine (framePool f.frame) with
  | some (i, free) => { f with engine := some i, readyAt := max from' free + resultDelay (frameCmd f.frame) f.id + built }
  | none => { f with engine := none, readyAt := from' + built, status := .engineUnavailable, data := [], counterRefusal := false }

/-- A frame's command draws blinding from the DRBG at each dispatch; without the DRBG it ends with the status given (R213, R236, R317). -/
def State.drawBlinding (s : State) : State × Option Status :=
  match s.drawFate false with
  | .served => ((s.serveDraw false 1).1, none)
  | .waits => (s, some .entropyNotReady)
  | .failed => (s, some .entropyFailed)

/-- CMD 0x01 and 0x03 run with a private key, blinded (R213, R471). -/
def blindedCmd (c : Nat) : Bool := c == 1 || c == 3

/-- Starts an accepted frame's command again, with fresh blinding (R213, R464). -/
def State.redispatchFrame (s : State) (id : Nat) : State :=
  match s.express.frames.find? (·.id == id) with
  | none => s
  | some f =>
    let others := { s with express.frames := s.express.frames.filter fun (x : MaldinJob) => x.id != id }
    let blinds := blindedCmd (frameCmd f.frame) && (others.frameEngine (framePool f.frame)).isSome
    let (s, st) := if blinds then s.drawBlinding else (s, none)
    let f := match st with | some st => { f with status := st, data := [], counterRefusal := false } | none => f
    let g := others.dispatchFrame s.clock.now { f with abandoned := false }
    { s with express.frames := mapIf (·.id == id) (fun _ => g) s.express.frames }

/-- Frames whose command is under way on a reserved engine (R470). -/
def State.framesUnder (s : State) (p : Pool) (i : Nat) : List MaldinJob :=
  s.express.frames.filter fun f => framePool f.frame == p && f.engine == some i && s.clock.now < f.readyAt && !f.abandoned

/-- Starts again the commands whose engine no longer serves (R216, R464). -/
def State.moveFrames (s : State) : State :=
  let lost := s.express.frames.filter fun f =>
    !f.abandoned && s.clock.now < f.readyAt && f.engine.any fun i => !(s.expressEngines (framePool f.frame)).contains i
  lost.foldl (fun s f => s.redispatchFrame f.id) s

/-- A fault of a reserved engine abandons its frame's command: it restarts, and after the fourth abandonment the frame is answered with
FAULT (R62, R215, R243). -/
def State.faultFrames (s : State) (p : Pool) (i : Nat) : State :=
  (s.framesUnder p i).foldl (fun s (f : MaldinJob) =>
    let n := f.faults + 1
    if 4 ≤ n then
      let g := { f with faults := n, engine := none, status := .faultUnrecovered, data := [], counterRefusal := false, readyAt := s.clock.now }
      { s with express.frames := mapIf (·.id == f.id) (fun _ => g) s.express.frames }
    else
      ({ s with express.frames := mapIf (·.id == f.id) (fun (x : MaldinJob) => { x with faults := n }) s.express.frames }).redispatchFrame f.id) s

/-- The reservation of R19, with a replacement for each engine that went offline (R464). -/
def State.reserveExpress (s : State) : State :=
  if !s.expressHolds then s
  else
    let s := { s with
      engines.reservedCoopers := s.engines.reservedCoopers.filter fun i => s.reservedAlive .cooper i
      engines.reservedDray := s.engines.reservedDray.filter fun i => s.reservedAlive .dray i }
    (State.fillCoopers 4 s).fillDray.moveFrames

/-- The engines return to service at the epoch after the last reply (R463). -/
def State.returnExpress (s : State) : State :=
  if s.express.closing && s.express.frames.isEmpty && !s.express.enabled then
    { s with express.closing := false, engines.reservedCoopers := [], engines.reservedDray := none }
  else s

end Sys2Proof.Machine
end

