-- ==== Sys2Proof/Machine/Faults.lean ====
section
/-!
DEFINITION. Faults of engines and of GDDR7, and the known-answer tests of a patch (01 R14; 03 R95, R97, R104 to R108; 06 R169; 07 R208,
R215, R216; 08 R243, R244; 02 R63; 14 R415; 18 R531).
-/
namespace Sys2Proof.Machine

/-- An engine goes offline: results past their commit point leave it, and its jobs are abandoned (R97, R103, R216, R244). -/
def State.takeOffline (s : State) (p : Pool) (i : Nat) (source : Nat) (detail : List Nat) : State :=
  ((s.crossEngine p i).abandonEngine p i false false).raise source detail

/-- A fault of a powered engine: its event, its jobs abandoned and counted, and with the third in 1 s the engine goes offline
(R62, R95, R169, R215, R243); an engine reserved for Express is replaced (R464). A third fault of a tile is told once, with the offline flag
(R95; DEDUCED, log entry 88). -/
def State.engineFault (s : State) (p : Pool) (i source : Nat) (detail : List Nat) (offSource : Option (Nat × List Nat)) : State :=
  match (s.pool p)[i]? with
  | none => s
  | some _ =>
    if !s.domainOn (engineDomain p i) then s
    else
      let once := p == .press && (s.countFault p i).2 && offSource == some (source, [1])
      let s := ((if once then s else s.raise source detail).abandonEngine p i true false).faultFrames p i
      let (s, off) := s.countFault p i
      if !off then s
      else match offSource with
        | some (src, d) => (s.takeOffline p i src d).reserveExpress.verifyPatches
        | none => (s.crossEngine p i).abandonEngine p i false false

/-- Detail of a tile's fault event: the offline flag (R95). -/
def execTileFault (t tile : Nat) (kind : FaultKind) (s : State) : Host.Outcome State Fault Refusal :=
  let source := match kind with | .fault => 2 * tile | .trap => 2 * tile + 1
  .next ((s.advance t).engineFault .press tile source [0] (some (2 * tile, [1]))).settle

/-- Event source of a Cooper cluster, by kind (R215). -/
def cooperSource (engine : Nat) (kind : CooperFault) : Nat :=
  64 + 4 * (engine / 16) + (match kind with | .fault => 0 | .trap => 1 | .mismatch => 3)

/-- COOPER_FAULT (R215): the detail names the engine within the cluster that the source names (DEDUCED, log entry 88). -/
def execCooperFault (t engine : Nat) (kind : CooperFault) (s : State) : Host.Outcome State Fault Refusal :=
  .next ((s.advance t).engineFault .cooper engine (cooperSource engine kind) [engine % 16]
    (some (64 + 4 * (engine / 16) + 2, [engine % 16]))).settle

/-- Pool and index in the pool of a hash core: 128 cores to a half, its SHA-2 cores first (R163; DEDUCED, log entry 88). -/
def coreOf (core : Nat) : Pool × Nat :=
  let half := core / 128
  let i := core % 128
  if i < 96 then (.sha2, 96 * half + i) else (.keccak, 32 * half + (i - 96))

/-- HASH_CORE_FAULT: a parity mismatch or a failed signature check (R168, R169); the detail names the core within its half. -/
def execHashCoreFault (t core : Nat) (signatureCheck : Bool) (s : State) : Host.Outcome State Fault Refusal :=
  let (p, i) := coreOf core
  let s := s.advance t
  -- R168: only a signing job of classes 0x06 to 0x08 has its signature checked
  let signs := (s.engineParts p i).any fun x =>
    match (s.job? x.1).bind (·.op) with
    | some o => opTeam o && (match o with | .slhDsaSign | .slhDsaSignPrehash | .lmsSign | .xmssSign => true | _ => false)
    | none => false
  .next (if signatureCheck && !signs then s else s.engineFault p i (80 + core / 128) [core % 128] none).settle

/-- DRAY_FAULT: kind 1 fault, 2 trap, 3 taken offline (R243). -/
def execDrayFault (t dray : Nat) (kind : FaultKind) (s : State) : Host.Outcome State Fault Refusal :=
  let code := match kind with | .fault => 1 | .trap => 2
  .next ((s.advance t).engineFault .dray dray (84 + dray) [code] (some (84 + dray, [3]))).settle

/-! ### A cycle of the microcode (R92 to R95) -/

/-- The sequencer's routine runs and has not committed. -/
def State.sequences (s : State) (q : Sequencer) : Bool :=
  !q.atCommit && (s.expanding q.job.1 || ((s.job? q.job.1).bind fun j => j.parts[q.job.2]?).any (·.running))

/-- A tile executes one microword of the routine that runs on it, on the image in its store; a microword or nanoword that traps abandons the
routine as TILE_FAULT does. The errors that scratch memory corrects meanwhile are counted without an event: how many there are is FREE (R94,
R95, log entry 93). -/
def State.tickTile (s : State) (i : Nat) : State :=
  match s.engines.tiles[i]? with
  | none => s
  | some e =>
    match e.seq with
    | none => s
    | some q =>
      if !s.sequences q then s
      else
        let n := Config.freeNat "scratch errors corrected" (q.ticks * 32 + i)
        match q.step (s.vintage .press).base e.image with
        | .goes q => s.modEngine .press i fun e => { e with seq := some q, corrected := e.corrected + n }
        | .traps => (s.engineFault .press i (2 * i + 1) [0] (some (2 * i, [1]))).settle

/-- One cycle of every tile: what the block does while no command waits (DESIGN CHOICE, log entries 2 and 93). -/
def State.tick (s : State) : State := (List.range s.engines.tiles.length).foldl State.tickTile s

/-! ### Known-answer tests of a patch (R105) -/

/-- Fault event of an engine whose test of a patch failed (R105). -/
def katSource (k : MicroKind) (i : Nat) : Nat × List Nat :=
  match k with | .press => (2 * i, [0]) | .cooper => (64 + 4 * (i / 16), [i % 16]) | .dray => (84 + i, [1])

/-- The test of engine `i` ends: on a pass it runs the new image, and once all do the patch is verified; on a failure every engine that has
switched goes back at its next job boundary to the image verified before, with the registers as before PATCH_LOAD (R105, R106). -/
def State.katDone (s : State) (k : MicroKind) (i : Nat) (pass : Bool) : State :=
  let p := kindPool k
  let s := s.startKats k
  match (s.pool p)[i]? with
  | none => s
  | some e =>
    if !e.kat then s
    else
      let v := s.vintage k
      if pass then (s.modEngine p i fun e => { e with kat := false, switched := true, image := v.patch }).verifyPatch k
      else
        let back : Vintage := { v with patchId := v.oldId, patchState := v.oldState, patch := v.oldPatch }
        let clear (x : Engine) : Engine := { x with kat := false, switched := false, reverting := x.reverting || x.switched }
        let (src, d) := katSource k i
        (((s.setPool p ((s.pool p).map clear)).setVintage k back).startKats k).raise src d

/-- PATCH_KAT_DONE (R105). -/
def execPatchKatDone (t : Nat) (kind : MicroKind) (engine : Nat) (pass : Bool) (s : State) : Host.Outcome State Fault Refusal :=
  .next ((s.advance t).katDone kind engine pass)

/-! ### GDDR7 (R14, R63, R153, R155, R189, R205, R208, R531) -/

/-- A job of class 0x05 streams its public key from GDDR7 now: an ENCAPS that runs on a tile, from staging, the cache, or a slot's part
(R147, R153). -/
def Job.streaming (j : Job) : Bool :=
  (j.op == some .mcelieceEncaps || j.op == some .mceliecePkCache || j.op == some .mcelieceEncapsInternal) && j.parts.any JobPart.running

/-- The job streams a cached public key (R153). -/
def Job.streams (j : Job) (e : Nat) : Bool := j.streaming && j.op == some .mcelieceEncaps && j.kind == .none && j.handle == some e

/-- The job reads its input from GDDR7: from module memory, or a key or ciphertext that streams from staging (R63, R153). -/
def Job.readsGddr (j : Job) : Bool :=
  (j.phase == .fetch && !addrHost (entInAddr j.entry) && !entInline j.entry && 0 < entInLen j.entry) || j.streaming

/-- What a component holds of bytes written to GDDR7: their AES-256-XTS ciphertext under the per-boot key. State keeps the bytes as the islands
write and read them; the tweak is the address in 16 bytes (R14; DESIGN CHOICE, log entry 102). -/
def State.gddrImage (s : State) (addr : Nat) (data : Bytes) : Bytes := std .xtsEnc 3 [s.rng.gddrKey, toLe 16 addr, data] data.length

/-- The integrity tag that data in the key-cache and Cellar-extension regions carries; its length and form are FREE (R14, log entry 102). -/
def State.gddrTag (s : State) (addr : Nat) (data : Bytes) : Bytes :=
  std .gddrTag 0 [s.rng.gddrKey, toLe 16 addr, data] (Config.freeNat "GDDR7 tag bytes" 0)

/-- Data read back with its tag is used only where the tag matches; a mismatch is GDDR7_UNCORRECTABLE (R14). -/
def State.gddrUsable (s : State) (addr : Nat) (data tag : Bytes) : Bool := tag == s.gddrTag addr data

/-- The data lost is not used: what it was decides what follows. -/
def State.gddrLost (s : State) (x : GddrTarget) : State :=
  match x with
  | .other => s
  | .jobInput id =>
    let used := (s.job? id).bind fun j => if j.streaming then j.handle else none
    let s := { s with engines.publicKeys := s.engines.publicKeys.filter fun (k : PkEntry) => used != some k.entry }
    s.endIf id Job.readsGddr .inputFetchError true
  | .jobOutput id => s.modJob id fun j => { j with placeFault := true }
  | .publicKey e =>
    let s := { s with engines.publicKeys := s.engines.publicKeys.filter fun (k : PkEntry) => k.entry != e }
    (s.fabric.jobs.filter (·.streams e)).foldl (fun s j => s.failAny j.id .inputFetchError true) s
  | .expandedKey h =>
    let s := { s with cellar.expanded := s.cellar.expanded.filter fun x => x.2 != h }
    (s.fabric.jobs.filter fun j => j.hit && j.cacheKey.2 == h).foldl (fun s j => s.abandonPart j.id 0 false false) s
  | .tree slot level index =>
    { s with engines.trees := s.engines.trees.filter fun (y : CachedTree) => !(y.slot == slot && y.level == level && y.index == index) }
  | .session h =>
    let s := (s.fabric.jobs.filter fun j => j.phase == .running && j.handle == some h && (match j.op with | some o => opChunk o | none => false)).foldl
      (fun s j => s.failAny j.id .inputFetchError true) s
    s.closeSession h
  | .largeMode id =>
    match s.job? id with
    | some j =>
      if (j.parts.head?).any (fun q => q.running && !q.region.isEmpty) then s.abandonPart id 0 false false else s
    | none => s

/-- An uncorrectable error or tag mismatch of a component: source 128 + 2k, the row to be retired at the next Boot (R14, R531). -/
def State.gddrError (s : State) (component row region : Nat) (x : GddrTarget) : State :=
  let s := s.raise (128 + 2 * (component / 2)) [component % 2, row, region]
  let at' := (component, row)
  let s := if s.tasting.reported.contains at' then s else { s with tasting.reported := s.tasting.reported ++ [at'] }
  s.gddrLost x

/-- GDDR7_UNCORRECTABLE (R14): eight components in four pairs. -/
def execGddr7Uncorrectable (t component row region : Nat) (target : GddrTarget) (s : State) : Host.Outcome State Fault Refusal :=
  .next (if component < 8 then (s.advance t).gddrError component row region target else s.advance t).settle

/-- More than 1,000 corrected errors in 1 s (R415). -/
def State.gddrCorrected (s : State) (component count : Nat) : State :=
  let k := component / 2
  let recent := s.router.gddrRate.any fun x => x.1 == k && s.clock.now < x.2 + 1000 * ms
  if count ≤ 1000 || recent then s
  else
    let others := s.router.gddrRate.filter fun (x : Nat × Nat) => x.1 != k
    ({ s with router.gddrRate := others ++ [(k, s.clock.now)] }).raise (129 + 2 * k) [component % 2, count]

/-- GDDR7_CORRECTED_RATE (R415). -/
def execGddr7CorrectedRate (t component count : Nat) (s : State) : Host.Outcome State Fault Refusal :=
  .next (if component < 8 then (s.advance t).gddrCorrected component count else s.advance t)

end Sys2Proof.Machine
end

