-- ==== Sys2Proof/Machine/MbCarriages.lean ====
section
/-!
DEFINITION. Generations, and mailbox group 0x02xx: carriages, the Process Map, host windows (09 R278; 11 R327 to R345; 12 R363).
-/
namespace Sys2Proof.Machine

/-! ### Generations (R330 to R333) -/

/-- The next generation: after 0xFF_FFFF comes 1 (R330). -/
def nextGen (g : Nat) : Nat := if g == 0xFFFFFF then 1 else g + 1

/-- The sessions and public-key handles of a carriage stop resolving: its sessions close, and its entries lose their CHECK, which no handle has
as 0 (R149, R202, R332). -/
def State.dropHandles (s : State) (c : Nat) : State :=
  let stale (k : PkEntry) : PkEntry := if k.carriage == c then { k with check := 0 } else k
  { s with fabric.sessions := s.fabric.sessions.filter (·.carriage != c), engines.publicKeys := s.engines.publicKeys.map stale }

/-- Increments the generation of a carriage in one step: jobs that no engine has are withdrawn, its handles stop resolving, the old generation
drains, source 224 (R332, R333, R346). -/
def State.bumpGeneration (s : State) (c cause : Nat) : State :=
  match s.carriage? c with
  | none => s
  | some x =>
    let g := nextGen x.gen
    let s := s.modCarriage c fun x => { x with gen := g, draining := x.draining ++ [x.gen] }
    let s := s.raiseFor 224 [c, g, cause] c
    (s.withdraw .generationMismatch fun j => j.carriage == c && 4 ≤ j.passed && j.gen == x.gen).dropHandles c

/-- Jobs of a generation of a carriage that have not released. -/
def State.genJobs (s : State) (c g : Nat) : Nat :=
  (s.fabric.jobs.filter fun j => j.parent.isNone && 4 ≤ j.passed && j.carriage == c && j.gen == g).length

/-- A generation has drained: source 225; with the last one a DESTROYING carriage becomes ABSENT (R333, R334). -/
def State.drainGeneration (s : State) (c g : Nat) : State :=
  match s.carriage? c with
  | none => s
  | some x =>
    if !x.draining.contains g || s.genJobs c g != 0 then s
    else
      let s := s.raiseFor 225 [c, g, x.dropped] c
      let left := x.draining.filter (· != g)
      let s := s.modCarriage c fun x => { x with draining := left }
      if x.state == .destroying && left.isEmpty then { s with fabric.carriages := s.fabric.carriages.filter (·.number != c) } else s

/-- GENERATION_DRAINED (R333). -/
def execGenerationDrained (t carriage generation : Nat) (s : State) : Host.Outcome State Fault Refusal :=
  .next ((s.advance t).drainGeneration carriage generation)

/-! ### Parameters (R337, R338, R342, R343) -/

/-- A parameter block. -/
def paramsOf (b : Bytes) : CarriageParams :=
  { flags := byteAt b 2, memSize := le b 4 4, maxInflight := le b 8 4, sessionQuota := le b 0x0C 4,
    weights := (List.range 6).map fun i => byteAt b (0x10 + i), windowLimit := le b 0x16 2,
    ceilings := (List.range 19).map fun i => le b (0x18 + 4 * i) 4 }

/-- Every field of the block is in range for the carriage (R337, R338). -/
def CarriageParams.inRange (p : CarriageParams) (carriage : Nat) : Bool :=
  p.flags < 2 && (p.flags == 0 || carriage == 0) && p.memSize ≤ 2097152 && 1 ≤ p.maxInflight && p.maxInflight ≤ 1048576 &&
  p.sessionQuota ≤ 1048576 && p.weights.all (fun w => 1 ≤ w) && p.windowLimit ≤ 256

/-- Carriage-memory pool in 4 KiB pages, and windows in all (R338). -/
def memPool : Nat := 2097152
def windowPool : Nat := 65536

/-- The pools hold the block beside the other carriages (R338). -/
def State.poolsOk (s : State) (p : CarriageParams) (carriage : Nat) : Bool :=
  let others := s.fabric.carriages.filter (·.number != carriage)
  (others.map (·.params.memSize)).sum + p.memSize ≤ memPool && (others.map (·.params.windowLimit)).sum + p.windowLimit ≤ windowPool

/-- Most that the budget of a ceiling holds: two epochs' worth, and at least one job (R342; DEDUCED, log entry 30). -/
def budgetCap (ceiling : Nat) : Nat := max (2 * ceiling) oneJob

/-- Budgets after new parameters: that of a changed ceiling is full. -/
def newBudgets (old new : List Nat) (budgets : List Nat) : List Nat :=
  (List.range 19).map fun i => if old.getD i 0 == new.getD i 0 then budgets.getD i 0 else budgetCap (new.getD i 0)

/-- A carriage field has [15:12] at 0 (R363). -/
def carriageField (c : Nat) : Bool := c < 4096

/-- CARRIAGE_CREATE: generation 1, K_C drawn and pushed to the Train, memory zeroed (R278, R330, R334, R335, R338, R454). -/
def mbCarriageCreate (s : State) (c : MbCommand) : State × MbReply :=
  let b := c.bulk
  let n := le b 0 2
  let p := paramsOf b
  if b.length != 112 then (s, .refuse .lengthMismatch)
  else if !carriageField n then (s, .refuse .mbRange)
  else if (s.carriage? n).isSome then (s, .refuse .mbStateConflict)
  else if !p.inRange n then (s, .refuse .mbRange)
  else if !s.poolsOk p n then (s, .refuse .quotaExceeded)
  else match s.drawFate false with
    | .failed => (s, .refuse .mbStateConflict)
    | .waits => (s, .waits .draw)
    | .served =>
      let (s, k) := s.serveDraw false 1
      let x : Carriage := { number := n, params := p, key := (1, drawBytes k 32), keyVersion := (s.clock.train, s.deviceIndex),
                            budgets := p.ceilings.map budgetCap }
      (({ s with fabric.carriages := s.fabric.carriages ++ [x] }).pushKey n,
       .answer { result := mbFields [(0x08, toLe 4 1)], effect := true })

/-- The pages from `first` on that an area of module memory covers: the first of them, if any. -/
def pageInUse (first addr len : Nat) : Option Nat :=
  if addrHost addr || len == 0 then none
  else
    let last := (addrOffset addr + len - 1) / 4096
    if last < first then none else some (max first (addrOffset addr / 4096))

/-- First page from `first` on in the input or output area of a job past step 8 and not released (R343). -/
def State.firstInUse (s : State) (carriage first : Nat) : Option Nat :=
  let pages := (s.fabric.jobs.filter fun j => j.parent.isNone && j.carriage == carriage && 9 ≤ j.passed).flatMap fun j =>
    let input := if entInline j.entry then none else pageInUse first (entInAddr j.entry) (entInLen j.entry)
    [input, pageInUse first (entOutAddr j.entry) (entOutLen j.entry)].filterMap id
  match pages with
  | [] => none
  | x :: rest => some (rest.foldl min x)

/-- The checks of a CARRIAGE_RESIZE that do not depend on memory in use; none when it may go on (R334, R338). -/
def State.resizeFault (s : State) (b : Bytes) : Option Status :=
  let n := le b 0 2
  let active := match s.carriage? n with | some x => x.state == .active | none => false
  if b.length != 112 then some .lengthMismatch
  else if !carriageField n then some .mbRange
  else if !active then some .mbStateConflict
  else if !(paramsOf b).inRange n then some .mbRange
  else if !s.poolsOk (paramsOf b) n then some .quotaExceeded
  else none

/-- CARRIAGE_RESIZE waits for the epoch boundary (R343). -/
def mbCarriageResize (s : State) (c : MbCommand) : State × MbReply :=
  match s.resizeFault c.bulk with
  | some st => (s, .refuse st)
  | none => (s, .waits .epoch)

/-- CARRIAGE_RESIZE at the epoch boundary: it is judged again, and a shrink under pages in use changes nothing (R343). -/
def State.resizeNow (s : State) (c : MbCommand) : State × MbOut :=
  let b := c.bulk
  let n := le b 0 2
  let p := paramsOf b
  match s.resizeFault b, s.carriage? n with
  | some st, _ => (s, { status := st })
  | none, none => (s, { status := .mbStateConflict })
  | none, some x =>
    match (if p.memSize < x.params.memSize then s.firstInUse n p.memSize else none) with
    | some page => (s, { status := .mbInUse, result := mbFields [(0x08, toLe 4 page)] })
    | none =>
      (s.modCarriage n fun x => { x with
        params := p, mem := x.mem.clip (p.memSize * 4096), budgets := newBudgets x.params.ceilings p.ceilings x.budgets },
       { effect := true })

/-- State of a carriage (R334). -/
def State.carState (s : State) (n : Nat) : CarriageState := match s.carriage? n with | some x => x.state | none => .absent

/-- The carriage takes DISABLE and RESET: not ABSENT, not DESTROYING (R334, R363). -/
def State.liveCarriage (s : State) (n : Nat) : Bool := s.carState n == .active || s.carState n == .disabled

/-- GENERATION of the answer of a carriage command. -/
def State.genAnswer (s : State) (n : Nat) (effect : Bool) : State × MbReply :=
  let g := match s.carriage? n with | some x => x.gen | none => 0
  (s, .answer { result := mbFields [(0x08, toLe 4 g)], effect := effect })

/-- CARRIAGE_DISABLE: no action on a carriage that is DISABLED (R334). -/
def mbCarriageDisable (s : State) (c : MbCommand) : State × MbReply :=
  let n := c.par 8 2
  if !carriageField n then (s, .refuse .mbRange)
  else if !s.liveCarriage n then (s, .refuse .mbStateConflict)
  else if s.carState n == .disabled then s.genAnswer n false
  else ((s.bumpGeneration n 1).modCarriage n fun x => { x with state := .disabled }).settle.genAnswer n true

/-- CARRIAGE_RESET: counters cleared, generation incremented (R332, R334, R345). -/
def mbCarriageReset (s : State) (c : MbCommand) : State × MbReply :=
  let n := c.par 8 2
  if !carriageField n then (s, .refuse .mbRange)
  else if !s.liveCarriage n then (s, .refuse .mbStateConflict)
  else
    let s := s.modCarriage n fun x => { x with dropped := 0, quotaRefusals := 0, translationFaults := 0, state := .active }
    (s.bumpGeneration n 2).settle.genAnswer n true

/-- The carriage owns a slot that is not EMPTY, or stands in the SHARE_LIST of one (R335). -/
def State.ownsSlots (s : State) (n : Nat) : Bool :=
  s.cellar.dir.any fun d =>
    match s.slotRecord? d.slot with
    | some r => r.header.owner == n || r.header.shareList.contains n
    | none => false

/-- CARRIAGE_DESTROY: generation incremented, Process Map entries removed, DESTROYING (R334, R335). -/
def mbCarriageDestroy (s : State) (c : MbCommand) : State × MbReply :=
  let n := c.par 8 2
  if !carriageField n then (s, .refuse .mbRange)
  else if n == 0 || !s.liveCarriage n || s.ownsSlots n then (s, .refuse .mbStateConflict)
  else
    let s := (s.bumpGeneration n 3).modCarriage n fun x => { x with state := .destroying }
    ({ s with fabric.pmap := s.fabric.pmap.filter (·.carriage != n) }).settle.genAnswer n true

/-! ### Process Map (R327, R329) -/

/-- Entries that the Process Map holds (R327). -/
def pmapLimit : Nat := 1048576

/-- Writes one entry of a PMAP_SET: BIND_GEN is the carriage's generation (R327, R329). -/
def State.pmapWrite (s : State) (e : Bytes) : State :=
  let wild := bit (byteAt e 2) 1
  let proc := if wild then 0 else le e 4 4 % 2 ^ 20
  let same (x : PMapEntry) : Bool := x.conn == le e 0 2 && x.wildcard == wild && x.procId == proc
  let others := s.fabric.pmap.filter fun x => !same x
  let gen := match s.carriage? (le e 8 2) with | some x => x.gen | none => 0
  let new : PMapEntry := { conn := le e 0 2, wildcard := wild, procId := proc, carriage := le e 8 2, bindGen := gen }
  { s with fabric.pmap := if bit (byteAt e 2) 0 then others ++ [new] else others }

/-- PMAP_SET: refused as a whole, or every entry written (R329, R363). -/
def mbPmapSet (s : State) (c : MbCommand) : State × MbReply :=
  let n := c.par 8 1
  let es := (List.range n).map fun i => slice c.bulk (16 * i) 16
  let new := es.foldl State.pmapWrite s
  if n == 0 || 6 < n || c.bulk.length != 16 * n then (s, .refuse .lengthMismatch)
  else if !es.all (fun e => carriageField (le e 8 2)) then (s, .refuse .mbRange)
  else if !es.all (fun e => s.liveCarriage (le e 8 2)) then (s, .refuse .mbStateConflict)
  else if pmapLimit < new.fabric.pmap.length then (s, .refuse .quotaExceeded)
  else (new, .ok)

/-! ### Host windows (R339, R340) -/

/-- WINDOW_SET: a window is known by its RKEY and CONN_INDEX (R339, R363; DEDUCED, log entry 31). -/
def mbWindowSet (s : State) (c : MbCommand) : State × MbReply :=
  let n := c.par 8 2
  let w : Window := { rkey := c.par 0x10 4, conn := c.par 0x14 2, access := c.par 0x16 1 % 4, base := c.par 0x18 8 % 2 ^ 63, length := c.par 0x20 8 }
  match s.carriage? n with
  | none => (s, .refuse (if carriageField n then .mbStateConflict else .mbRange))
  | some x =>
    let others := x.windows.filter fun (y : Window) => !(y.rkey == w.rkey && y.conn == w.conn)
    if x.state == .destroying then (s, .refuse .mbStateConflict)
    else if w.access == 0 then (s.modCarriage n fun x => { x with windows := others }, .ok)
    else if w.length == 0 || 2 ^ 40 < w.length then (s, .refuse .mbRange)
    else if x.params.windowLimit < others.length + 1 then (s, .refuse .quotaExceeded)
    else (s.modCarriage n fun x => { x with windows := others ++ [w] }, .ok)

/-! ### CARRIAGE_INFO (R345) -/

/-- STATE of the status record. -/
def carriageStateCode (x : CarriageState) : Nat := match x with | .absent => 0 | .active => 1 | .disabled => 2 | .destroying => 3

/-- The status record of a carriage; an ABSENT carriage has every other field 0 (R345). -/
def State.statusRecord (s : State) (n : Nat) : Bytes :=
  match s.carriage? n with
  | none => padTo 32 (toLe 2 n)
  | some x =>
    let draining := (x.draining.map (s.genJobs n)).sum
    toLe 2 n ++ toLe 1 (carriageStateCode x.state) ++ zeros 1 ++ toLe 4 x.gen ++ toLe 4 (s.inFlight x) ++ toLe 4 draining ++
    toLe 8 x.dropped ++ toLe 4 x.quotaRefusals ++ toLe 4 x.translationFaults

/-- CARRIAGE_INFO. -/
def mbCarriageInfo (s : State) (c : MbCommand) : State × MbReply :=
  let n := c.par 8 2
  if !carriageField n then (s, .refuse .mbRange) else (s, .info (s.statusRecord n))

end Sys2Proof.Machine
end

