-- ==== Sys2Proof/Machine/MbCellar.lean ====
section
/-!
DEFINITION. Mailbox group 0x03xx: Cellar administration, leaf ranges, identity certificates, PROVISION_IMPORT (06 R193 to R196;
09 R281 to R302; 12 R352, R364; 15 R458).
-/
namespace Sys2Proof.Machine

/-! ### Slots (R293, R364) -/

/-- SLOT is [13:0] of its field (R364). -/
def MbCommand.slot (c : MbCommand) : Nat := c.par 8 2 % 16384

/-- OWNER_CARRIAGE of a slot, 0 for an EMPTY one. -/
def State.slotOwner (s : State) (slot : Nat) : Nat := match s.slotRecord? slot with | some r => r.header.owner | none => 0

/-- The answer of a command that names a slot, with what its KEY_CHANGE entry records: the record in force (R560). -/
def State.slotAnswer (s : State) (slot : Nat) (o : MbOut) : MbReply :=
  .answer { o with slot := some slot, carriage := s.slotOwner slot, record := (s.slotRecord? slot).map (·.index) }

/-- A refusal of a command that names a slot. -/
def State.slotRefuse (s : State) (slot : Nat) (st : Status) : MbReply := s.slotAnswer slot { status := st }

/-- CONTROL_MASTER in MASTERS (R272). -/
def SlotHeader.controlMaster (h : SlotHeader) : Bool := bit h.masters 0

/-- The checks of R293 in order: EMPTY, CORKED, CONTROL_MASTER, and STATEFUL for LOW_THRESHOLD_SET. -/
def slotFault (r : Option SlotRecord) (cork stateful : Bool) : Option Status :=
  match r with
  | none => some .keyNotFound
  | some r =>
    if cork && r.header.state == .corked then some .mbStateConflict
    else if !r.header.controlMaster then some .keyUseDenied
    else if stateful && !hasUsage r.header.usage "stateful" then some .keyUseDenied
    else none

/-- Takes a free record for the mailbox command that runs, behind the jobs that wait, or puts it among those that wait (R268). -/
def State.mbRecord (s : State) : State × Option Nat :=
  let first := match s.cellar.recordQueue with | [] => true | x :: _ => x == RecordWaiter.mailbox
  let others := s.cellar.recordQueue.filter fun x => x != RecordWaiter.mailbox
  match s.freeRecord? with
  | some r => if first then ({ s with cellar.recordQueue := others }, some r) else
      ({ s with cellar.recordQueue := if s.cellar.recordQueue.contains .mailbox then s.cellar.recordQueue
                                      else s.cellar.recordQueue ++ [.mailbox] }, none)
  | none => ({ s with cellar.recordQueue := if s.cellar.recordQueue.contains .mailbox then s.cellar.recordQueue
                                            else s.cellar.recordQueue ++ [.mailbox] }, none)

/-- A header change: steps 1, 2, 4 and 6 of R289 with the material as it stands. VERSION_TIME, VERSION_DEVICE and REPLACE_COUNT, which
speak of the material, are kept (R271, R293; DEDUCED, log entry 33). -/
def State.changeHeader (s : State) (r : SlotRecord) (g : SlotHeader → SlotHeader) : State × MbReply :=
  match s.mbRecord with
  | (s, none) => (s, .waits .record)
  | (s, some n) =>
    if s.freeGranules < granules r.material.length then (s, s.slotRefuse r.header.slot .quotaExceeded)
    else
      let excess := (s.cellar.oversized.filter fun (x : Nat × Bytes) => x.1 == r.index).map fun x => (n, x.2)
      let s := { s with cellar.oversized := s.cellar.oversized ++ excess }
      let s := (s.install r.header.slot n (g r.header) r.material).pushSlot r.header.slot
      (s, s.slotAnswer r.header.slot { effect := true })

/-- SLOT_SHARE (R293). -/
def mbSlotShare (s : State) (c : MbCommand) : State × MbReply :=
  let car := c.par 0x0A 2
  match slotFault (s.slotRecord? c.slot) true false, s.slotRecord? c.slot with
  | some st, _ => (s, s.slotRefuse c.slot st)
  | none, none => (s, s.slotRefuse c.slot .keyNotFound)
  | none, some r =>
    if 4096 ≤ car then (s, s.slotRefuse c.slot .mbRange)
    else if r.header.shareList.contains car then (s, s.slotAnswer c.slot {})
    else if 8 ≤ r.header.shareList.length then (s, s.slotRefuse c.slot .quotaExceeded)
    else s.changeHeader r fun h => { h with shareList := h.shareList ++ [car] }

/-- SLOT_UNSHARE (R293). -/
def mbSlotUnshare (s : State) (c : MbCommand) : State × MbReply :=
  let car := c.par 0x0A 2
  match slotFault (s.slotRecord? c.slot) true false, s.slotRecord? c.slot with
  | some st, _ => (s, s.slotRefuse c.slot st)
  | none, none => (s, s.slotRefuse c.slot .keyNotFound)
  | none, some r =>
    if 4096 ≤ car then (s, s.slotRefuse c.slot .mbRange)
    else if !r.header.shareList.contains car then (s, s.slotAnswer c.slot {})
    else s.changeHeader r fun h => { h with shareList := h.shareList.filter (· != car) }

/-- SLOT_DESTROY: any slot, a CORKED one too; not a FIRMWARE one (R291, R293). -/
def mbSlotDestroy (s : State) (c : MbCommand) : State × MbReply :=
  match s.slotRecord? c.slot with
  | none => (s, s.slotRefuse c.slot .keyNotFound)
  | some r =>
    if bit r.header.masters 4 then (s, s.slotRefuse c.slot .keyUseDenied)
    else ((s.destroySlot c.slot).settle, .answer { effect := true, slot := some c.slot, carriage := r.header.owner })

/-- SLOT_INFO (R282, R293). -/
def mbSlotInfo (s : State) (c : MbCommand) : State × MbReply :=
  match s.slotRecord? c.slot with
  | none => (s, .refuse .keyNotFound)
  | some r => (s, .answer { bulk := r.header.bytes })

/-- LOW_THRESHOLD_SET: 0 sets 65,536 (R293). The leaves left do not fall with it, so source 177 is for a later fall (R186; log entry 91). -/
def mbLowThresholdSet (s : State) (c : MbCommand) : State × MbReply :=
  let n := c.par 0x0C 4
  match slotFault (s.slotRecord? c.slot) true true, s.slotRecord? c.slot with
  | some st, _ => (s, s.slotRefuse c.slot st)
  | none, none => (s, s.slotRefuse c.slot .keyNotFound)
  | none, some r =>
    let low := if n == 0 then 65536 else n
    match s.changeHeader r fun h => { h with lowThreshold := low } with
    | (s, .answer o) => (if o.effect then s.modLedger c.slot fun l => { l with low := decide (l.left ≤ low) } else s, .answer o)
    | (s, o) => (s, o)

/-- CELLAR_STATUS: slots by state, free resources, the last BOOK_SEQ appended, and the oldest entry not yet credited as the export head
(R293, R297; DEDUCED, log entry 34). -/
def mbCellarStatus (s : State) (_ : MbCommand) : State × MbReply :=
  let count (x : SlotState) : Nat := (s.cellar.dir.filter fun d => s.slotState d.slot == x).length
  let used := count .prepared + count .live + count .corked
  let head := match s.book.tail with | e :: _ => entrySeq e | [] => s.book.seq + 1
  (s, .info (mbFields [(0x08, toLe 2 (16384 - used)), (0x0A, toLe 2 (count .prepared)), (0x0C, toLe 2 (count .live)),
    (0x0E, toLe 2 (count .corked)), (0x10, toLe 4 s.freeGranules), (0x14, toLe 2 (recordCount - s.cellar.records.length)),
    (0x18, toLe 8 s.book.seq), (0x20, toLe 8 head)]))

/-! ### Wrapping keys (R281) -/

/-- WRAPKEY_ROLL (R281, R453, R454). -/
def mbWrapkeyRoll (s : State) (c : MbCommand) : State × MbReply :=
  let n := c.par 8 2
  if 4096 ≤ n then (s, .answer { status := .mbRange }) else
  match s.carriage? n with
  | none => (s, .answer { status := .mbStateConflict, carriage := n })
  | some x =>
    match s.drawFate false with
    | .failed => (s, .answer { status := .mbStateConflict, carriage := n })
    | .waits => (s, .waits .draw)
    | .served =>
      let (s, k) := s.serveDraw false 1
      let e := x.key.1 + 1
      let s := s.modCarriage n fun x => { x with
        key := (e, drawBytes k 32), prevKey := some x.key, keyVersion := (s.clock.train, s.deviceIndex) }
      (s.pushKey n, .answer { result := mbFields [(0x08, toLe 4 e)], effect := true, carriage := n })

/-! ### The Book (R293, R299, R364) -/

/-- The export ring returns to event records: zeros over its area as an event ring, its control block with them, the counters at 0, its
filter program kept (R421). -/
def State.ringReturns (s : State) (r : Nat) : State :=
  match s.ering? r with
  | none => s
  | some x =>
    let back (y : EventRing) : EventRing := { y with prod := 0, cons := 0, lost := 0, waiting := [] }
    (s.post x.conn (.write x.conn x.rkey x.base (zeros (x.size * 32 + 64)))).modEring r back

/-- BOOK_EXPORT_SET (R299). -/
def mbBookExportSet (s : State) (c : MbCommand) : State × MbReply :=
  let r := c.par 8 2
  let leave (next : Option Nat) : State :=
    match s.book.exportRing with
    | some o => if next == some o then s else s.ringReturns o
    | none => s
  if r == 0xFFFF then ((leave none).restartExport none, .ok)
  else if 1 < r then (s, .refuse .mbRange)
  else if (s.ering? r).isNone then (s, .refuse .mbStateConflict)
  else
    let start (x : EventRing) : EventRing := { x with prod := 0, cons := 0, waiting := [] }
    (((leave (some r)).modEring r start).restartExport (some r), .ok)

/-- BOOK_READ (R364). -/
def mbBookRead (s : State) (c : MbCommand) : State × MbReply :=
  let n := c.par 0x10 1
  let from' := c.par 8 8
  let oldest := match s.book.ring.getLast? with | some e => entrySeq e | none => s.book.seq + 1
  if n == 0 || 64 < n then (s, .refuse .lengthMismatch)
  else if s.book.seq < from' || s.book.ring.isEmpty then (s, .info (mbFields [(0x08, toLe 8 from')]))
  else
    let first := max from' oldest
    let es := ((s.book.ring.filter fun e => first ≤ entrySeq e && entrySeq e < first + n)).reverse
    (s, .answer { result := mbFields [(0x08, toLe 8 first), (0x10, toLe 1 es.length)], bulk := es.flatten })

/-! ### Leaf ranges (R193 to R196, R364, R458) -/

/-- Alignment unit of a stateful key (R194). -/
def leafUnit (h : SlotHeader) (m : Bytes) : Nat :=
  match statefulLevels (h.keyClass == 8) h.param m with
  | some ls => if h.param == 2 then 2 ^ (match ls.getLast? with | some l => l.height | none => 0) else 64
  | none => 64

/-- Range entries of the roster in force for a key, as the module's own index holds them (R458). -/
def State.rosterHolds (s : State) (keyId : Bytes) : List (Nat × Nat) :=
  match s.train.roster, s.ownMember with
  | some r, some m =>
    (rosterRanges r).filterMap fun e =>
      if slice e 0 32 == keyId && le e 0x20 2 % 1024 == memIndex m then some (le e 0x28 8, le e 0x30 8) else none
  | _, _ => []

/-- First index at which two lists of ranges differ, if they do: an index that one covers and the other does not (R458). -/
def rangesDiffer (a b : List (Nat × Nat)) : Option Nat :=
  let covers (l : List (Nat × Nat)) (i : Nat) : Bool := l.any fun r => r.1 ≤ i && i < r.2
  let edges := ((a ++ b).flatMap fun r => [r.1, r.2]).mergeSort
  edges.find? fun i => covers a i != covers b i

/-- Compares the ranges held with the roster: source 214 for each key that differs (R458). -/
def State.compareRanges (s : State) : State :=
  if s.ownMember.isNone then s else
  s.cellar.ledgers.foldl (fun s l =>
    match rangesDiffer (l.ranges.map fun r => (r.1, r.2.2)) (s.rosterHolds l.keyId) with
    | some i => s.raise 214 [l.slot, i]
    | none => s) s

/-- The signed part of a release object (R195). -/
def releaseBody (holder recipient serial : Nat) (keyId : Bytes) (first last : Nat) (holderUid recipientUid : Bytes) (t : Nat) : Bytes :=
  toLe 2 1 ++ toLe 2 holder ++ toLe 2 recipient ++ zeros 2 ++ toLe 8 serial ++ padTo 32 keyId ++ toLe 8 first ++ toLe 8 last ++
  padTo 16 holderUid ++ padTo 16 recipientUid ++ toLe 8 t ++ zeros 24

/-- A release object: its body and the identity signatures, both deterministic (R195, R269). -/
def State.releaseObject (s : State) (body : Bytes) : Bytes := body ++ s.identitySign body (zeros 32) []

/-- Release bodies kept for a key (R195). -/
def releaseLimit : Nat := 64

/-- LEAF_RELEASE: the top part [x, END) of a range goes to a listed recipient; every refusal once the ledger is found carries HIGH_WATER (R195,
R364). The rules give no case for a 65th object, an x in no range held or a module without identity keys: QUOTA_EXCEEDED, OUT_OF_RANGE and
MB_LIFECYCLE_DENIED (DESIGN CHOICE, log entry 91). -/
def mbLeafRelease (s : State) (c : MbCommand) : State × MbReply :=
  let x := c.par 0x10 8
  let index := c.par 0x0A 2
  match slotFault (s.slotRecord? c.slot) false false, s.slotRecord? c.slot, s.ledger? c.slot with
  | some st, _, _ => (s, s.slotRefuse c.slot st)
  | none, some r, some l =>
    let refuse (st : Status) : State × MbReply := (s, s.slotAnswer c.slot { status := st, result := mbFields [(0x08, toLe 8 l.highWater)] })
    if !s.quotes then refuse .mbLifecycleDenied else
    match s.member? index with
    | none => refuse .keyNotFound
    | some m =>
      match l.ranges.find? fun y => y.1 ≤ x && x < y.2.2 with
      | some y =>
        if x < l.highWater || x < y.2.1 || x % leafUnit r.header r.material != 0 then
          refuse .outOfRange
        else if releaseLimit ≤ l.releases.length then refuse .quotaExceeded
        else
          let serial := l.serial + 1
          let body := releaseBody s.deviceIndex (memIndex m) serial l.keyId x y.2.2 s.fuses.uniqueId (memUid m) s.clock.train
          let cut := l.ranges.flatMap fun z => if z == y then (if y.1 < x then [(y.1, y.2.1, x)] else []) else [z]
          let s := s.modLedger c.slot fun l => { l with ranges := cut, releases := l.releases ++ [body], serial := serial }
          let s := s.leafEvent c.slot r.header.lowThreshold r.header.owner
          (s.compareRanges, s.slotAnswer c.slot { bulk := s.releaseObject body, effect := true })
      | none => refuse .outOfRange
  | none, _, _ => (s, s.slotRefuse c.slot .keyUseDenied)

/-- LEAF_RELEASE_GET (R195). -/
def mbLeafReleaseGet (s : State) (c : MbCommand) : State × MbReply :=
  match slotFault (s.slotRecord? c.slot) false false, s.ledger? c.slot with
  | some st, _ => (s, .refuse st)
  | none, none => (s, .refuse .keyNotFound)
  | none, some l =>
    match l.releases.find? fun b => le b 8 8 == c.par 0x10 8 with
    | none => (s, .refuse .keyNotFound)
    | some b => if s.quotes then (s, .answer { bulk := s.releaseObject b }) else (s, .refuse .mbLifecycleDenied)

/-- Last serial accepted from a holder for a key (R196). -/
def Ledger.lastAccepted (l : Ledger) (uid : Bytes) : Nat := match l.accepted.find? (·.1 == uid) with | some x => x.2 | none => 0

/-- Ranges held for a key (R193). -/
def rangeLimit : Nat := 16

/-- A range takes in a leaf that this module has released for the key: "A holder never regains a range it has released" (R197). -/
def Ledger.regains (l : Ledger) (first last : Nat) : Bool := l.releases.any fun b => first < le b 0x38 8 && le b 0x30 8 < last

/-- LEAF_ACCEPT, in the order of R196, with R197 among its range checks (R364, R458). -/
def mbLeafAccept (s : State) (c : MbCommand) : State × MbReply :=
  let b := c.bulk
  let body := b.take 128
  let uid := slice b 0x40 16
  let first := le b 0x30 8
  let last := le b 0x38 8
  if b.length != 4851 then (s, .refuse .lengthMismatch)
  else if le b 0 2 != 1 then (s, .refuse .malformedEncoding)
  else
    let index := le b 2 2
    let listed := match s.member? index with | some m => memUid m == uid | none => false
    let keys := match s.peer? index with | some p => p.identity | none => []
    if !listed || keys.isEmpty then (s, .refuse .keyNotFound)
    else if !bothHold 3 (keys.take 2592) (slice keys 2592 97) body (slice b 0x80 4627) (slice b 0x1293 96) then
      (s, .refuse .signatureInvalid)
    else if slice b 0x50 16 != s.fuses.uniqueId then (s, .refuse .mbStateConflict)
    else match s.cellar.ledgers.find? fun l => l.keyId == slice b 0x10 32 with
      | none => (s, .refuse .keyNotFound)
      | some l =>
        let unit := match s.slotRecord? l.slot with | some r => leafUnit r.header r.material | none => 64
        let serial := le b 8 8
        let overlaps := l.ranges.any fun y => first < y.2.2 && y.1 < last
        let answer (s : State) (o : MbOut) : MbReply :=
          .answer { o with carriage := s.slotOwner l.slot, record := (s.slotRecord? l.slot).map (·.index) }
        if serial ≤ l.lastAccepted uid || first % unit != 0 || last % unit != 0 || last ≤ first || overlaps || l.regains first last then
          (s, answer s { status := .outOfRange })
        else if rangeLimit ≤ l.ranges.length then (s, answer s { status := .quotaExceeded })
        else
          let below := l.ranges.filter fun (y : Nat × Nat × Nat) => y.1 < first
          let above := l.ranges.filter fun (y : Nat × Nat × Nat) => first < y.1
          let others := l.accepted.filter fun (y : Bytes × Nat) => y.1 != uid
          let s := s.modLedger l.slot fun l => { l with
            ranges := below ++ [(first, first, last)] ++ above, accepted := others ++ [(uid, serial)] }
          let s := match s.slotRecord? l.slot with
            | some r => s.leafEvent l.slot r.header.lowThreshold r.header.owner
            | none => s
          (s.compareRanges, answer s { effect := true })

/-! ### Identity certificates (R302, R482) -/

/-- The self-signed certificate of MODULE_TEST over both identity keys and the Train link key (R482). -/
def State.selfCert (s : State) : Bytes :=
  let args := [s.idMldsa, s.idEcdsa, s.linkEk, s.fuses.uniqueId]
  std .csr 0 args (min bulkLimit (Config.stdNat .csr 0 args))

/-- IDENTITY_CERT_GET. -/
def mbIdentityCertGet (s : State) (c : MbCommand) : State × MbReply :=
  let which := c.par 8 1
  let cert := if s.lc == some .moduleTest then s.selfCert else if which == 1 then s.cellar.certMldsa else s.cellar.certEcdsa
  if which != 1 && which != 2 then (s, .refuse .mbRange)
  else if cert.isEmpty then (s, .refuse .keyNotFound)
  else (s, .answer { bulk := cert })

/-! ### PROVISION_IMPORT (R285, R293, R352, R364) -/

/-- The target of a PROVISION_IMPORT refuses it: EMPTY, CORKED, CONTROL_MASTER, then the rules of R284 for REPLACE. -/
def importTarget (old : Option SlotRecord) (replace : Bool) (a : Attrs) : Option Status :=
  match old with
  | none => if replace then some .keyNotFound else none
  | some r =>
    let h := r.header
    if h.state == .corked then some .mbStateConflict
    else if !h.controlMaster then some .keyUseDenied
    else if !replace || hasUsage h.usage "stateful" || h.state == .prepared || !a.agrees h then some .keyUseDenied
    else none

/-- PROVISION_IMPORT in M8: a slot from plaintext material that the session encrypts; a new slot belongs to carriage 0 (DEDUCED, log
entry 35). -/
def mbProvisionImport (s : State) (c : MbCommand) : State × MbReply :=
  let slot := c.slot
  let replace := bit (c.par 0x0A 1) 0
  let a := attrsOf c.bulk
  let key := match s.mbSession? c.session with | some x => kmac x.key [] 32 "ZMMBOX-ENC" | none => zeros 32
  let m := aesCtr key (toLe 4 c.seq ++ zeros 12) (c.bulk.drop 16)
  let refuse (s : State) (st : Status) : State × MbReply := (s, s.slotRefuse slot st)
  if s.power.mode != .provisioning then refuse s .mbNotInMode
  else if c.bulk.length < 17 || 4112 < c.bulk.length then refuse s .lengthMismatch
  else match importTarget (s.slotRecord? slot) replace a with
    | some st => refuse s st
    | none =>
      if !a.ok true then refuse s .unsupportedParam
      else if hasUsage a.usage "stateful" && 256 ≤ s.statefulSlots then refuse s .quotaExceeded
      else if !importOk a.keyClass a.param m then refuse s .malformedEncoding
      else
        let test := pairwiseClass a.keyClass
        match (if test then s.drawFate false else .served) with
        | .failed => refuse s .mbStateConflict
        | .waits => (s, .waits .draw)
        | .served =>
          let whole := if a.keyClass == 5 then m ++ mcePkOf a.param m else m
          let heap := heapPart a.keyClass whole
          if s.freeGranules < granules heap.length then refuse s .quotaExceeded else
          match s.mbRecord with
          | (s, none) => (s, .waits .record)
          | (s, some r) =>
            let (s, rand) := if test then (let (s, k) := s.serveDraw false 1; (s, drawBytes k 32)) else (s, [])
            if !pairwiseOk a.keyClass a.param m rand then refuse s .malformedEncoding
            else
              let h := s.newHeader a .live (formOf a.keyClass a.param m) slot 0 (if a.keyClass == 0x0D then rsaExpOf m else 0) heap (overPart a.keyClass whole)
              let excess := overPart a.keyClass whole
              let part := if excess.isEmpty then none else some (s.wrapFor h.owner h.object (partCek (s.useNo r)) excess)
              let s := s.fillSlot slot r h heap part
              (s, s.slotAnswer slot { effect := true })

end Sys2Proof.Machine
end

