-- ==== Sys2Proof/Machine/Repair.lean ====
section
/-!
DEFINITION. Fault records, soft and fused repair of SRAM, and retired GDDR7 rows, as each Boot applies them (18 R527 to R531).
-/
namespace Sys2Proof.Machine

/-! ### Fault records (R527) -/

/-- ISLAND and INSTANCE of a MEM_ID (R525). -/
def memIsland (m : Nat) : Nat := m / 1024 % 64
def memInstance (m : Nat) : Nat := m % 1024

/-- Most fault records (R527). -/
def faultRecordLimit : Nat := 32512

/-- RFLAGS of a fault record (R527). -/
def rSoft : Nat := 1
def rFused : Nat := 2
def rUnrepairable : Nat := 4
def rRetired : Nat := 8

/-- Two findings are of one fault: MEM_ID, ROW, COLUMN and BIT agree (R527). -/
def sameFault (a b : MemFault) : Bool := a.memId == b.memId && a.row == b.row && a.column == b.column && a.bit == b.bit

/-- Records a fault once; found again, SEEN counts; without room, OVERFLOW counts (R527). -/
def State.recordFault (s : State) (f : MemFault) : State :=
  if s.tasting.records.any fun r => sameFault r.fault f then
    let again (r : FaultRec) : FaultRec := { r with seen := min 255 (r.seen + 1) }
    { s with tasting.records := mapIf (fun r => sameFault r.fault f) again s.tasting.records }
  else if s.tasting.records.length < faultRecordLimit then
    { s with tasting.records := s.tasting.records ++ [⟨f, 0, 1, s.journal.bootCount % 2 ^ 32⟩] }
  else { s with tasting.overflow := satAdd 32 s.tasting.overflow 1 }

/-! ### Fuse repair entries (R530) -/

/-- Fields of a fuse repair entry. -/
def repMem (e : Nat) : Nat := e % 2 ^ 16
def repAxis (e : Nat) : Nat := e / 2 ^ 16 % 2
def repSpare (e : Nat) : Nat := e / 2 ^ 17 % 2
def repAddress (e : Nat) : Nat := e / 2 ^ 18 % 4096
def repValid (e : Nat) : Bool := bit e 30

/-- Number of 1 bits among bits [31:0]. -/
def ones32 (e : Nat) : Nat := ((List.range 32).filter fun i => bit e i).length

/-- An entry passes its checks: VALID, even parity, one SRAM instance of an island that exists (R530). -/
def repairOk (e : Nat) : Bool :=
  e < 2 ^ 32 && repValid e && ones32 e % 2 == 0 && memIsland (repMem e) ≤ 57 && memInstance (repMem e) != 0x3FF

/-- Fused repairs in force: none in SCRAPPED (R483). -/
def State.fusedRepairs (s : State) : List Nat := if s.lc == some .scrapped then [] else s.fuses.repair

/-! ### Repair at Boot (R528) -/

/-- A spare in use: instance, axis (0 row, 1 column) and the address it replaces. -/
structure Spare where
  mem : Nat
  axis : Nat
  address : Nat
  deriving DecidableEq, Repr

/-- Spares of one axis that an instance has left, of 2. -/
def sparesLeft (l : List Spare) (mem axis : Nat) : Bool := (l.filter fun x => x.mem == mem && x.axis == axis).length < 2

/-- The spare is already in use for the address. -/
def spareCovers (l : List Spare) (mem axis address : Nat) : Bool :=
  l.any fun x => x.mem == mem && x.axis == axis && x.address == address

/-- Gives a record a spare, in record order: its new RFLAGS and the spares then in use (R528). -/
def giveSpare (fused used : List Spare) (f : MemFault) : Nat × List Spare :=
  let byRow := f.kind != 3
  let byColumn := f.kind == 3 || f.kind == 1
  if (byRow && spareCovers fused f.memId 0 f.row) || (byColumn && spareCovers fused f.memId 1 f.column) then (rFused, used)
  else if (byRow && spareCovers used f.memId 0 f.row) || (byColumn && spareCovers used f.memId 1 f.column) then (rSoft, used)
  else if byRow && sparesLeft used f.memId 0 then (rSoft, used ++ [⟨f.memId, 0, f.row⟩])
  else if byColumn && sparesLeft used f.memId 1 then (rSoft, used ++ [⟨f.memId, 1, f.column⟩])
  else (rUnrepairable, used)

/-- Repairs every SRAM record: fused repairs first, then the records in order (R528). -/
def repairAll (fused : List Spare) : List Spare → List FaultRec → List FaultRec
  | _, [] => []
  | used, r :: rest =>
    if memIsland r.fault.memId == 63 then r :: repairAll fused used rest
    else
      let (flags, used) := giveSpare fused used r.fault
      { r with flags := flags } :: repairAll fused used rest

/-- Power domain of an engine island (R15). -/
def islandDomain (i : Nat) : Option Nat :=
  if i < 40 then some (i + 4) else none

/-- Ports that a port or lane-group island serves (R528). -/
def islandPorts (i : Nat) : List Nat :=
  if 40 ≤ i && i < 48 then [i - 40] else if i == 48 then [0, 1, 2, 3] else if i == 49 then [4, 5, 6, 7] else []

/-- Asserts nALARM for a cause (R550). -/
def State.assertAlarm (s : State) (cause : Nat) : State :=
  if s.power.alarm.contains cause then s else { s with power.alarm := s.power.alarm ++ [cause] }

/-- The module stays in Boot until reset (R508). -/
def State.stick (s : State) (cause : Nat) : State := ({ s with power.bootStuck := true }).assertAlarm cause

/-- What an island with an unrepairable record does (R528). -/
def State.islandLost (s : State) (island : Nat) : State :=
  match islandDomain island with
  | some d =>
    if s.power.domainFaults.contains d then s
    else ({ s with power.domainFaults := s.power.domainFaults ++ [d] }).raise 153 [2, d]
  | none =>
    match islandPorts island with
    | [] => s.stick 5
    | ps => ps.foldl (fun s p => s.setLink p .fault) s

/-- Applies the repairs of R528 to every SRAM instance. -/
def State.repairMemories (s : State) : State :=
  let fused := s.fusedRepairs.map fun e => (⟨repMem e, repAxis e, repAddress e⟩ : Spare)
  let s := { s with tasting.records := repairAll fused fused s.tasting.records }
  let lost := s.tasting.records.filter fun (r : FaultRec) => memIsland r.fault.memId != 63 && r.flags == rUnrepairable
  lost.foldl (fun s r => s.islandLost (memIsland r.fault.memId)) s

/-! ### GDDR7 rows (R531) -/

/-- Reserve rows of a component (R531). -/
def reserveRows : Nat := 512

/-- Sets the RFLAGS of the records of a GDDR7 row. -/
def State.flagRow (s : State) (component row flags : Nat) : State :=
  let hit (r : FaultRec) : Bool := memIsland r.fault.memId == 63 && memInstance r.fault.memId == component && r.fault.row == row
  let put (r : FaultRec) : FaultRec := { r with flags := flags }
  { s with tasting.records := mapIf hit put s.tasting.records }

/-- Retires one row, or holds the module in Boot when its component has no reserve row left (R531). -/
def State.retireRow (s : State) (x : Nat × Nat) : State :=
  if s.tasting.retired.contains x then s
  else if (s.tasting.retired.filter fun y => y.1 == x.1).length < reserveRows then
    (({ s with tasting.retired := s.tasting.retired ++ [x] }).flagRow x.1 x.2 rRetired).raise 136 [x.1 / 2, x.1 % 2, x.2]
  else (s.flagRow x.1 x.2 rUnrepairable).stick 5

/-- Retires every row that Tasting found or source 128 reported (R531). -/
def State.retireRows (s : State) : State :=
  let found := (s.tasting.records.filter fun r => memIsland r.fault.memId == 63).map fun r => (memInstance r.fault.memId, r.fault.row)
  let all := found ++ s.tasting.reported
  all.foldl (fun s x => s.retireRow x) { s with tasting.reported := [] }

end Sys2Proof.Machine
end

