-- ==== Sys2Proof/Machine/TrainOps.lean ====
section
/-!
DEFINITION. The Train: peers of the roster, leaving, joining, digests, and pushes as a member applies them (15 R444 to R457; 09 R292).
-/
namespace Sys2Proof.Machine

/-! ### Peers (R448, R451, R452) -/

/-- Members of the roster other than this module. -/
def State.otherMembers (s : State) : List Bytes := s.members.filter fun m => memUid m != s.fuses.uniqueId

/-- The module is listed in its roster. -/
def State.listed (s : State) : Bool := s.ownMember.isSome

/-- Keeps the peers that the roster lists, and adds one for each other member. -/
def State.syncPeers (s : State) : State :=
  let peer (m : Bytes) : Peer := match s.peer? (memIndex m) with | some p => p | none => { index := memIndex m }
  { s with train.peers := s.otherMembers.map peer }

/-- A peer goes DOWN: source 210 with the cause, and its queue is discarded for a digest exchange (R451, R455). -/
def State.peerDown (s : State) (i cause : Nat) : State :=
  match s.peer? i with
  | none => s
  | some p =>
    if p.down then s
    else
      let off (p : Peer) : Peer :=
        { p with down := true, pushes := [], overflow := true, digestSent := false, digestRecv := false, digest := [] }
      (s.modPeer i off).raise 210 [cause]

/-- Deletes the pairwise association of a peer (R449, R451). -/
def Peer.unkey (p : Peer) : Peer :=
  { p with keyed := false, oldAssoc := none, sk := [], hello := [], reply := [], k1 := [], txSeq := 0, rxSeq := 0, txPn := 0, rxPn := 0, pushes := [],
           overflow := true, digestSent := false, digestRecv := false, digest := [] }

/-- Sends LEAVE to every keyed peer and deletes every association (R452, R506). -/
def State.leavePeers (s : State) (cause : Nat) : State :=
  let s := (s.train.peers.filter (·.keyed)).foldl (fun s p => (s.sendPeer p.index 0x11 0 (toLe 1 cause)).1) s
  { s with train.peers := s.train.peers.map Peer.unkey, train.heldPushes := [] }

/-- Enters Train Join: the peers of the roster are keyed afresh, and under a new TRAIN_ID every K_C yields (R452, R457). -/
def State.enterJoining (s : State) : State :=
  let s := s.syncPeers
  let first := s.train.joinedId != s.train.trainId
  let yielding (c : Carriage) : Carriage := { c with keyVersion := (0, 0) }
  let s := if first then { s with fabric.carriages := s.fabric.carriages.map yielding, train.joinedId := s.train.trainId } else s
  { s with power.mode := .trainJoin, train.state := .joining, train.joinSince := s.clock.now }

/-! ### Keying (R448) -/

/-- Body of a HELLO: nonce, roster serial and digest, link encapsulation key, identity public keys (R447). -/
def State.helloBody (s : State) (nonce : Bytes) : Bytes :=
  nonce ++ toLe 8 (match s.train.roster with | some r => rosSerial r | none => 0) ++
  (match s.train.roster with | some r => sha384 r | none => zeros 48) ++ s.linkEk ++ s.idMldsa ++ s.idEcdsa

/-- The module keys peers: it is JOINING or MEMBER, and its link key is usable (R448, R506). -/
def State.keys (s : State) : Bool := (s.train.state == .joining || s.train.state == .member) && s.cellar.identity && !s.cellar.sealed

/-- The lower index of the pair, LO, starts an exchange with a HELLO on each Train port (R448). -/
def State.startKeying (s : State) (i : Nat) : State :=
  if !s.keys || i ≤ s.deviceIndex || (s.member? i).isNone || (s.peer? i).isNone || s.trainPorts.isEmpty then s
  else match s.drawNow 32 with
    | (s, none) => s
    | (s, some nonce) =>
      let body := s.helloBody nonce
      let s := s.trainPorts.foldl (fun s p => s.sendBoot p i 1 body) s
      s.modPeer i fun p => { p with hello := body, reply := [], k1 := [], lastHello := some s.clock.now }

/-! ### Digests (R447, R452) -/

/-- Entries of one DIGEST message (R447). -/
def digestLimit : Nat := 370

/-- Every object the module knows with its version: slots that a replicated change has reached, and K_Cs (R453). -/
def State.digestEntries (s : State) : List (Nat × (Nat × Nat)) :=
  s.train.versions ++ s.fabric.carriages.map fun c => (keyObjectId c.number, c.keyVersion)

/-- A DIGEST body. -/
def digestBody (l : List (Nat × (Nat × Nat))) : Bytes :=
  (l.map fun e => toLe 4 e.1 ++ toLe 8 e.2.1 ++ toLe 2 e.2.2 ++ zeros 2).flatten

/-- Entries of a DIGEST body. -/
def digestOf (b : Bytes) : List (Nat × (Nat × Nat)) :=
  (List.range (b.length / 16)).map fun i => (le b (16 * i) 4, (le b (16 * i + 4) 8, le b (16 * i + 12) 2 % 1024))

/-- Sends the complete DIGEST: full messages, then one with fewer than 370 entries, which ends it (log entry 26). `fuel` bounds their
number. -/
def State.sendDigest : Nat → State → Nat → List (Nat × (Nat × Nat)) → State
  | 0, s, _, _ => s
  | fuel + 1, s, i, l =>
    let s := (s.sendPeer i 0x21 0 (digestBody (l.take digestLimit))).1
    if l.length < digestLimit then s else State.sendDigest fuel s i (l.drop digestLimit)

/-- Starts the digest exchange with a peer that is keyed and up. -/
def State.startDigest (s : State) (i : Nat) : State :=
  match s.peer? i with
  | none => s
  | some p =>
    if !p.keyed || p.down || p.digestSent then s
    else
      let l := s.digestEntries
      (State.sendDigest (l.length + 1) s i l).modPeer i fun p => { p with digestSent := true, overflow := false }

/-- One version exceeds another. -/
def versionAbove (a b : Nat × Nat) : Bool := b.1 < a.1 || (a.1 == b.1 && b.2 < a.2)

/-- The object as the module would push it now (R453, R454). -/
def State.pushOf (s : State) (object : Nat) (v : Nat × Nat) : Option Push :=
  if object < 2 ^ 30 then
    match s.slotRecord? object with
    | some r => some r.push
    | none => some { object := object, version := v, destroy := true, header := [], material := [] }
  else
    (s.carriage? (object - 2 ^ 30)).map fun c =>
      { object := object, version := c.keyVersion, destroy := false, header := epochBytes c, material := [] }

/-- Pushes every object of which the peer's complete DIGEST names a lesser version or none (R452). -/
def State.catchUp (s : State) (i : Nat) : State :=
  match s.peer? i with
  | none => s
  | some p =>
    s.digestEntries.foldl (fun s e =>
      let theirs := match p.digest.find? (·.1 == e.1) with | some d => d.2 | none => (0, 0)
      if versionAbove e.2 theirs then (match s.pushOf e.1 e.2 with | some x => s.pushTo i x | none => s) else s) s

/-- Catch-up with a peer is done (R452). -/
def Peer.caughtUp (p : Peer) : Bool := p.keyed && !p.down && p.digestSent && p.digestRecv && p.pushes.isEmpty

/-! ### Applying a push (R292, R454) -/

/-- A header from its bytes (R271). -/
def headerOf (b : Bytes) : SlotHeader :=
  { state := (match byteAt b 0 with | 1 => .prepared | 2 => .live | 3 => .corked | _ => .empty)
    keyClass := byteAt b 1, param := byteAt b 2, form := byteAt b 3, usage := le b 4 2, worlds := byteAt b 6, lcMask := byteAt b 7
    masters := byteAt b 8, graftPrf := byteAt b 9, expClass := byteAt b 0x0A, owner := le b 0x0C 2 % 4096, materialLen := le b 0x0E 2
    shareList := ((List.range 8).map fun i => le b (0x10 + 2 * i) 2).filter (· != 0xFFFF)
    versionTime := le b 0x20 8, versionDevice := le b 0x28 2 % 1024, slot := le b 0x2A 2 % 16384, lowThreshold := le b 0x2C 4
    materialHash := slice b 0x30 32, replaceCount := le b 0x50 8 }

/-- What a receiver does with a push. -/
inductive PushFate where
  | apply
  | ignore
  | hold
  | refuse (cause : Nat)
  deriving DecidableEq, Repr

/-- MASTERS carries TRAIN (R272). -/
def SlotHeader.train (h : SlotHeader) : Bool := bit h.masters 3

/-- Attributes in which a LIVE slot and a pushed header must agree (R454). -/
def sameAttributes (a b : SlotHeader) : Bool :=
  a.keyClass == b.keyClass && a.param == b.param && a.form == b.form && a.usage == b.usage && a.worlds == b.worlds &&
  a.lcMask == b.lcMask && a.masters == b.masters && a.owner == b.owner

/-- Fate of a slot push (R292, R454); it waits for a Book place, a free record and granules (R268, R563). -/
def State.slotPushFate (s : State) (slot : Nat) (p : Push) : PushFate :=
  let h := headerOf p.header
  let room := p.destroy || (s.freeRecord?.isSome && granules p.material.length ≤ s.freeGranules)
  if !versionAbove p.version (s.slotVersion slot) then .ignore
  else match s.slotRecord? slot with
    | some r =>
      if r.header.state == .corked then .refuse 2
      else if !r.header.train then .refuse 1
      else if p.destroy then (if s.placeFree then .apply else .hold)
      else if !sameAttributes r.header h then .refuse 3
      else if !pairwiseOk h.keyClass h.param p.material [] then .refuse 5
      else if s.placeFree && room then .apply else .hold
    | none =>
      if p.destroy then .apply
      else if !h.train then .refuse 1
      else if !pairwiseOk h.keyClass h.param p.material [] then .refuse 5
      else if s.placeFree && room then .apply else .hold

/-- Puts a slot push in force through R289, with its KEY_CHANGE entry (R292, R560). -/
def State.applySlotPush (s : State) (slot : Nat) (p : Push) : State :=
  let s := s.setVersion slot p.version
  if p.destroy then
    match s.slotRecord? slot with
    | some r => (s.emptySlot slot).keyChange 0 r.header.param .success (some slot) r.header.owner none (zeros 32)
    | none => s
  else match s.freeRecord? with
    | none => s
    | some r =>
      let h := headerOf p.header
      let h := { h with slot := slot, versionTime := p.version.1, versionDevice := p.version.2
                        exponent := if h.keyClass == 0x0D then rsaExpIn h.expClass p.material else 0 }
      (s.install slot r h p.material).keyChange 0 h.param .success (some slot) h.owner (some r) (zeros 32)

/-- Fate of a K_C push (R454). -/
def State.keyPushFate (s : State) (c : Nat) (p : Push) : PushFate :=
  match s.carriage? c with
  | none => .refuse 4
  | some x => if !versionAbove p.version x.keyVersion then .ignore else if s.placeFree then .apply else .hold

/-- Puts a K_C push in force: it brings its epochs with it (R281, R454). -/
def State.applyKeyPush (s : State) (c : Nat) (p : Push) : State :=
  let key := (le p.header 0 4, slice p.header 4 32)
  let prev := if le p.header 36 4 == 0 then none else some (le p.header 36 4, slice p.header 40 32)
  (s.modCarriage c fun x => { x with key := key, prevKey := prev, keyVersion := p.version }).keyChange 0 0 .success none c none (zeros 32)

/-- Fate of a push. -/
def State.pushFate (s : State) (p : Push) : PushFate :=
  if s.power.mode == .hold then .hold
  else if p.object < 2 ^ 14 then s.slotPushFate p.object p
  else if 2 ^ 30 ≤ p.object && p.object < 2 ^ 30 + 4096 then s.keyPushFate (p.object - 2 ^ 30) p
  else .ignore

/-- Applies, ignores or refuses a push; answers whether it is done, so that it may be acknowledged (R454, R455). -/
def State.takePush (s : State) (p : Push) : State × Bool :=
  match s.pushFate p with
  | .hold => (s, false)
  | .ignore => (s, true)
  | .refuse cause => (s.raise 213 [p.object, cause], true)
  | .apply => (if p.object < 2 ^ 14 then s.applySlotPush p.object p else s.applyKeyPush (p.object - 2 ^ 30) p, true)

/-- Acknowledges what a peer has sent with a LIVE (R447, R455). -/
def State.ackPeer (s : State) (i : Nat) : State := (s.sendPeer i 0x10 0 []).1

/-- Tries the held pushes again, oldest first, until one must still wait (R268, R455, R563). `fuel` bounds their number. -/
def State.flushPushes : Nat → State → State
  | 0, s => s
  | fuel + 1, s =>
    match s.train.heldPushes with
    | [] => s
    | (i, p) :: rest =>
      match s.takePush p with
      | (_, false) => s
      | (s', true) => State.flushPushes fuel (({ s' with train.heldPushes := rest }).ackPeer i)

end Sys2Proof.Machine
end

