-- ==== Sys2Proof/Machine/Power.lean ====
section
/-!
DEFINITION. The power manager: supply, the Derated ladder, the modes and the passages between them, resets, Boot, Recovery, Hold and
zeroisation (01 R25 to R27, R31, R32, R39; 14 R427, R432, R435 to R441; 18 R508 to R535; 19 R536 to R545, R550).
-/
namespace Sys2Proof.Machine

/-! ### Supply and Derated conditions (R520, R537) -/

/-- Thresholds in mV (R537, R520). -/
def vinStart : Nat := 6000
def vinReset : Nat := 4800
def vinFull : Nat := 11400
def vinLeave : Nat := 11600
def vinWarnReset : Nat := 5700

/-- VIN as measured over a time in which a condition settles. -/
def State.noteVin (s : State) (v : Nat) : State :=
  { s with
    power.vin := v
    power.vinWait := s.power.vinWait && v < vinStart
    power.vinGoodSince := if v < vinFull then none else if s.power.vinGoodSince.isSome then s.power.vinGoodSince else some s.clock.now
    power.vinLow := if vinLeave ≤ v then false else if v < vinFull then true else s.power.vinLow }

/-- A Derated condition holds (R520). -/
def State.deratedNow (s : State) : Bool := s.power.vinLow || s.power.thermal || s.power.dipLatch

/-- No Derated condition has held for 100 ms (R520). -/
def State.clearLong (s : State) : Bool :=
  !s.deratedNow && (match s.power.clearSince with | some t => t + 100 * ms ≤ s.clock.now | none => false)

/-! ### The ladder (R519 to R521) -/

/-- Ladder units: step 1, 2, 3, the 12 tiles of step 4, step 5, the 16 tiles of step 6, step 7. -/
def ladderUnits : Nat := 33

/-- Engine domains of ladder unit `u`, 1 to 33 (R519). -/
def unitDomains (u : Nat) : List Nat :=
  if u == 2 then [36, 40, 42] else if u == 3 then [4, 5, 6, 7] else if 4 ≤ u && u ≤ 15 then [u + 4]
  else if u == 16 then [37, 41, 43] else if 17 ≤ u && u ≤ 32 then [u + 3] else if u == 33 then [38, 39] else []

/-- Load of an engine domain in tenths of a watt (R541). -/
def domainLoad (d : Nat) : Nat := if d < 36 then 26 else if d < 40 then 80 else if d < 42 then 90 else 60

/-- Load of a unit, domains off by a fault not counted (R519, R542). -/
def State.unitLoad (s : State) (u : Nat) : Nat :=
  if u == 1 then 680 else (((unitDomains u).filter fun d => !s.power.domainFaults.contains d).map domainLoad).sum

/-- Units whose cumulative load stays within 20 A x VIN x 0.90; step 2 always fits (R521). -/
def State.capUnits (s : State) : Nat :=
  let fits (n : Nat) : Bool := (((List.range n).map fun i => s.unitLoad (i + 1)).sum) * 1000 ≤ 180 * s.power.vin
  max 2 (((List.range (ladderUnits + 1)).takeWhile fits).length - 1)

/-- Units of the ladder up to step 4 (R521). -/
def latchUnits : Nat := 15

/-- Units that the ladder allows now (R521, R523; only step 1 in SCRAPPED, R483). -/
def State.ladderLimit (s : State) : Nat :=
  if s.lc == some .scrapped then 1
  else
    let byVin := if s.deratedNow then min s.capUnits (if s.power.dipLatch then latchUnits else ladderUnits) else ladderUnits
    max 1 (min s.power.ladderCap byVin)

/-- Modes in which the ladder powers engine domains (R39, R509). -/
def ladderMode (m : Mode) : Bool :=
  match m with
  | .boot | .service | .derated | .recovery | .trainJoin | .provisioning | .debug => true
  | _ => false

/-- Puts the ladder at `n` units: units above go off from the top, units below come on (R31, R32, R521). -/
def State.setLadder (s : State) (n : Nat) : State :=
  let off := ((List.range ladderUnits).reverse.map (· + 1)).filter fun u => n < u
  let on := ((List.range ladderUnits).map (· + 1)).filter fun u => u ≤ n
  let s := off.foldl (fun s u => (unitDomains u).foldl (fun s d => if s.domainOn d then s.domainOff d false else s) s) s
  let s := on.foldl (fun s u => (unitDomains u).foldl (fun s d => s.domainOnNow d) s) s
  { s with power.ladder := n }

/-- Removes at once the steps that no longer fit (R521). -/
def State.fitLadder (s : State) : State :=
  if ladderMode s.power.mode && s.ladderLimit < s.power.ladder then s.setLadder s.ladderLimit else s

/-- Enters Derated: source 147 (R415, R508). -/
def State.enterDerated (s : State) : State := { s with power.mode := .derated }.raise 147 []

/-- What follows a change of the Derated conditions: Service passes to Derated, the ladder fits the cap, and the 100 ms without a
condition begin (R508, R520). -/
def State.conditions (s : State) : State :=
  if s.deratedNow then
    let s := { s with power.clearSince := none }
    let s := if s.power.mode == .service then s.enterDerated else s
    s.fitLadder
  else if s.power.clearSince.isNone then { s with power.clearSince := some s.clock.now }
  else s

/-! ### Service entry (R393, R508) -/

/-- The first entry into Service or Derated after a Boot fills the admission buckets (R393). -/
def State.serviceEntered (s : State) : State :=
  if s.power.serviceEntry.isSome then s
  else
    let fill (p : Port) : Port := { p with admitTokens := 200, admitSince := s.clock.now }
    { s with power.serviceEntry := some s.clock.now, ports := s.ports.map fill }

/-- "M3 or M4": Derated while a condition holds, Service otherwise (R508). -/
def State.returnToService (s : State) : State :=
  if s.deratedNow then s.enterDerated.serviceEntered
  else
    let s := ({ s with power.mode := .service }).serviceEntered
    if s.power.clearSince.isNone then { s with power.clearSince := some s.clock.now } else s

/-- Derated ends once nothing has held for 100 ms and the ladder is whole: source 148 (R508, R520). -/
def State.leaveDerated (s : State) : State :=
  if s.power.mode == .derated && s.clearLong && s.ladderLimit ≤ s.power.ladder then
    ({ s with power.mode := .service }).raise 148 []
  else s

/-! ### What a reset loses (R336, R437) -/

/-- A carriage across a reset (R336). -/
def Carriage.kept (c : Carriage) : Carriage :=
  { number := c.number, state := c.state, gen := c.gen, params := { c.params with ceilings := List.replicate 19 0 },
    key := c.key, prevKey := c.prevKey, keyVersion := c.keyVersion }

/-- A leaf ledger across a reset: signing resumes at HIGH_WATER (R185, R437). -/
def Ledger.resumed (l : Ledger) : Ledger := { l with next := max l.next l.highWater }

/-- The Book across a reset: the tail, its chain, the anchor; checkpoints not yet credited are signed again (R298 to R300, R437). -/
def Book.kept (b : Book) (sign : Bytes → Bytes) : Book :=
  let marks := b.tail.filter fun e => entryKind e == 4
  let (unsigned, done) := marks.partition fun e => entrySeq b.anchor < entrySeq e
  { seq := b.seq, head := b.head, tail := b.tail, anchor := b.anchor, lastCheckpoint := b.lastCheckpoint,
    sinceCheckpoint := b.sinceCheckpoint, signing := unsigned, signatures := done.map fun e => (entrySeq e, sign e) }

/-- LANE_MODE of a port at Boot: fuse PORT_MODE, 0x01 when unfused (R377). The spec does not say whether PORT_MODE 0x00 with PERSO_VALID[3]
blown counts as unfused or as fused to 0x00 Disabled: it counts as unfused (DESIGN CHOICE, log entry 104). -/
def State.bootLaneMode (s : State) : Nat := if s.portModeFuse == 0 then 1 else s.portModeFuse

/-- The ports as a Boot lays them out: in a grouped LANE_MODE the group's lowest port carries it and the others are members (R374, R377). -/
def bootPorts (mode : Nat) : List Port :=
  (List.range 8).map fun p => if p % groupSize mode == 0 then { laneMode := mode } else { link := .member }

/-! ### Port settings (R33, R36, R374 to R378) -/

/-- LANE_MODE last written: the shadow's, or the one in force (R33). -/
def Port.heldMode (x : Port) : Nat := match x.shadow with | some c => c.laneMode | none => x.laneMode

/-- A port without a configuration of its own: the reset values of R377, with its addresses and counters as they were (R374). -/
def Port.discard (x : Port) (mode : Nat) : Port :=
  { x with laneMode := mode, mtu := 9216, vlan := 0, pfcMask := 8, ets := List.replicate 8 0 }

/-- LANE_MODE of a port that has left its group. -/
def State.aloneMode (s : State) : Nat := if groupSize s.bootLaneMode == 1 then s.bootLaneMode else 1

/-- A lane or its rail is out until the next Boot (R528, R542). -/
def State.portFault (s : State) (p : Nat) : Bool := match s.port? p with | some x => x.link == .fault | none => false

/-- A change of LANE_MODE: the group's ports, those that leave and those that join, retrain, and their connections end (R374, R378). -/
def State.setLanes (s : State) (p mode : Nat) : State :=
  let old := match s.port? p with | some x => groupSize x.laneMode | none => 1
  let n := groupSize mode
  let span := (List.range (max old n)).map (p + ·)
  let fault := (span.take n).any s.portFault
  let s := (span.drop n).foldl (fun s i => ((s.modPort i fun x => x.discard s.aloneMode).setLink i (if s.portFault i then .fault else .training))) s
  let s := ((span.take n).drop 1).foldl (fun s i =>
    (s.modPort i fun x => x.discard s.aloneMode).setLink i (if s.portFault i then .fault else .member)) s
  let s := s.modPort p fun x => { x with laneMode := mode }
  let s := s.setLink p .idle
  let s := if fault then s.setLink p .fault else if mode == 0 then s else s.setLink p .training
  (s.fabric.conns.filter fun c => span.contains c.port).foldl (fun s c => s.failConnection c.index) s

/-- Connections that the port's MTU no longer carries (R378). -/
def State.tooSmall (s : State) (p mtu : Nat) : State :=
  (s.fabric.conns.filter fun c => c.port == p && mtu < c.req.pathMtu + 80).foldl (fun s c => s.failConnection c.index) s

/-- Settings take effect on a port: a change of LANE_MODE through its lanes, every other field at once (R378). -/
def State.setPort (s : State) (p : Nat) (c : PortSettings) : State :=
  let same := match s.port? p with | some x => x.laneMode == c.laneMode | none => true
  let s := if same then s else s.setLanes p c.laneMode
  let put (x : Port) : Port := { x with mtu := c.mtu, vlan := c.vlan, pfcMask := c.pfcMask, ets := c.ets, shadow := none }
  (s.modPort p put).tooSmall p c.mtu

/-- The domain of a port's island (R15, R374). -/
def portDomain (p : Nat) : Nat := if p < 4 then 44 else 45

/-- Settings written to a port: in force at once, or in the shadow alone while its island is off, where the shadows of the ports that join
its group are discarded (R33, R36, R374). -/
def State.writePort (s : State) (p : Nat) (c : PortSettings) : State :=
  if s.domainOn (portDomain p) then s.setPort p c
  else
    let joins := ((List.range (groupSize c.laneMode)).drop 1).map (p + ·)
    (joins.foldl (fun s i => s.modPort i fun x => { x with shadow := none }) s).modPort p fun x => { x with shadow := some c }

/-- A classifier program loaded: in force at once, or in the shadow alone while the port's island is off (R33, R36, R407). -/
def State.writeProgram (s : State) (p : Nat) (program : List (BitVec 64)) : State :=
  if s.domainOn (portDomain p) then s.modPort p fun x => { x with classifier := program }
  else s.modPort p fun x => { x with shadowProgram := some program }

/-- Applies the settings held for a port (R32 step 4, R33). -/
def State.applyShadow (s : State) (p : Nat) : State :=
  let s := match (s.port? p).bind Port.shadow with | some c => s.setPort p c | none => s
  s.modPort p fun x => { x with classifier := x.shadowProgram.getD x.classifier, shadowProgram := none }

/-- Links leave electrical idle and begin to train, in the domains that are on (R375, R491). -/
def State.trainLinks (s : State) : State :=
  (List.range 8).foldl (fun s p =>
    match s.port? p with
    | some x => if x.link == .idle && x.laneMode != 0 && s.domainOn (portDomain p) then s.setLink p .training else s
    | none => s) s

/-- Domains that Entropy Test has off and Hold on: ports P4 to P7 and the GDDR7 (R39). -/
def outerDomains : List Nat := [45, 46, 47, 48, 49]

/-- Turns those domains off; P4 to P7 go idle, but for a port that a group holds as a member or that is out by a fault (R39, R374, R542). -/
def State.outerOff (s : State) : State :=
  let idle (s : State) (p : Nat) : State := if s.portMember p || s.portFault p then s else s.setLink p .idle
  { ([4, 5, 6, 7].foldl idle s) with power.domains := s.power.domains.filter fun d => !outerDomains.contains d }

/-- Turns them on, but for one that a fault keeps off; the settings held take effect, and the links train (R32, R33, R39, R542). -/
def State.outerOn (s : State) : State :=
  let on := outerDomains.filter fun d => !s.power.domainFaults.contains d && !s.power.domains.contains d
  let s := { s with power.domains := s.power.domains ++ on }
  ((if on.contains 45 then [4, 5, 6, 7].foldl State.applyShadow s else s)).trainLinks

/-- Tasting across a reset (R437, R525 to R531): a Tasting in progress was cut, and CRITICAL_DONE speaks of an orderly shutdown only. -/
def Tasting.kept (x : Tasting) (orderly : Bool) : Tasting :=
  { x with sequence := [], run := none, stepAt := 0, criticalDone := x.criticalDone && orderly,
           lastOutcome := if x.run.isSome then 4 else x.lastOutcome,
           stepsUntested := if x.run.isSome then x.stepCount - x.stepsRun else x.stepsUntested }

/-- The state after a module reset: what R437 keeps, everything else as at first power-up. -/
def State.afterReset (s : State) : State :=
  { pending := s.pending
    clock := { now := s.clock.now }
    power := { vin := s.power.vin, vinWait := s.power.vinWait, nResetLow := s.power.nResetLow, alarm := s.power.alarm.filter fun a => a == 2 || a == 4,
               vinLow := s.power.vinLow, vinGoodSince := s.power.vinGoodSince, junction := s.power.junction, lid := s.power.lid,
               lidWarned := s.power.lidWarned, hot := s.power.hot, sealShare := s.power.sealShare, sealLost := s.power.sealLost,
               sealValue := s.power.sealValue }
    fuses := s.fuses
    journal := s.journal
    book := s.book.kept fun e => s.identitySign e (zeros 32) []
    cellar := { dir := s.cellar.dir, records := s.cellar.records, ledgers := s.cellar.ledgers.map Ledger.resumed,
                identity := s.cellar.identity, certMldsa := s.cellar.certMldsa, certEcdsa := s.cellar.certEcdsa }
    rng := { draws := s.rng.draws }
    firmware := { s.firmware with stagedLen := 0, measurements := [] }
    fabric := { carriages := s.fabric.carriages.map Carriage.kept, nextRead := s.fabric.nextRead, nextJob := s.fabric.nextJob }
    ports := bootPorts s.bootLaneMode
    router := { nextSeq := s.journal.eventBlock, bootSeq := s.journal.eventBlock }
    train := { roster := s.train.roster, trainId := s.train.trainId, serial := s.train.serial, history := s.train.history,
               lastIndex := s.train.lastIndex, versions := s.train.versions, joinedId := s.train.joinedId,
               state := if s.train.roster.isNone then .noRoster else if s.listed then .listed else .notListed }
    tasting := s.tasting.kept s.journal.orderly
    sent := s.sent
    egress := { base := s.sent.length, left := s.egress.left } }

/-- Domains of the power-up passage (R39, R508). -/
def passageDomains : List Nat := [0, 1, 2, 44]

/-- Power-up passage of Standby (R508, R511, R512). -/
def State.enterPassage (s : State) : State :=
  { s with power.mode := .standby, power.parked := false, power.domains := passageDomains, power.pwrgd := true }

/-- Records a reset cause for the next source 241 (R439). -/
def State.recordCause (s : State) (c : Nat) : State := { s with journal.cause := c }

/-- Modes beyond Standby (R27, R508). -/
def beyondStandby (m : Mode) : Bool :=
  match m with
  | .off | .standby => false
  | _ => true

/-- Internal reset: every domain except PD0 goes off, and the power-up passage follows (R508). -/
def State.internalReset (s : State) : State := s.afterReset.enterPassage

/-- An internal reset with a cause, beyond Standby only (R439, R508). -/
def State.faultReset (s : State) (cause : Nat) : State :=
  if beyondStandby s.power.mode then (s.recordCause cause).internalReset else s

/-- Off: reset under R435, PWRGD low (R508, R512). -/
def State.powerOff (s : State) : State := { s.afterReset with power.mode := .off, power.pwrgd := false, power.domains := [] }

/-! ### Zeroisation (R533 to R535) -/

/-- The wipes of R533 and the state they leave (R534): the Cellar empty, no carriage before the next Boot makes carriage 0, no roster. -/
def State.wipe (s : State) : State :=
  { s with
    cellar := { identity := s.cellar.identity, certMldsa := s.cellar.certMldsa, certEcdsa := s.cellar.certEcdsa }
    fabric.carriages := []
    fabric.pmap := []
    train := { trainId := s.train.trainId, serial := s.train.serial, history := s.train.history, lastIndex := s.train.lastIndex } }

/-- Tamper with VIN present: its event, nALARM, and the wipes; the module takes no command until its reset (R508, R533). -/
def State.tamper (s : State) (source : Nat) (detail : List Nat) : State :=
  if s.power.mode == .off || s.power.zeroising then s
  else
    let s := (s.raise source detail).recordCause 5
    let s := { s with journal.zeroisePending := true, journal.orderly := false }
    let s := (s.afterReset.enterPassage).wipe
    ({ s with power.zeroising := true, power.sealShare := false, power.sealValue := [], power.sealLost := false }).assertAlarm 4

/-- Tamper while off: PD0 clears the seal share where the VBAT seal is in use (R532). -/
def State.tamperOff (s : State) : State :=
  if s.power.mode == .off && s.sealEnabled then { s with power.sealShare := false, power.sealLost := true } else s

/-! ### Boot (R427, R432, R440, R491, R508, R513) -/

/-- The default Tasting sequence: one step for each SRAM island, then 192 GDDR7 steps (R525). -/
def defaultSteps : List Bytes :=
  let step (mem algo flags first count : Nat) : Bytes := toLe 2 mem ++ toLe 1 algo ++ toLe 1 flags ++ toLe 4 first ++ toLe 4 count ++ toLe 4 0
  ((List.range 58).map fun i => step (i * 1024 + 0x3FF) 2 (if 55 ≤ i then 1 else 0) 0 0) ++
  (List.range 192).map fun k => step (63 * 1024 + k / 24) 4 0 (k % 24 * 65536) 65536

/-- Loads a Tasting sequence: a new digest returns the cursor to 0 (R526). -/
def State.loadSteps (s : State) (steps : List Bytes) : State :=
  let d := sha3 steps.flatten
  { s with tasting.sequence := steps, tasting.stepCount := steps.length, tasting.seqDigest := d,
           tasting.cursor := if s.tasting.seqDigest == d then s.tasting.cursor else 0 }

/-- Finishes at Boot what a reset cut: a zeroisation, or one for a seal share found cleared (R533, R535). -/
def State.bootWipes (s : State) : State :=
  let s :=
    if s.sealEnabled && s.power.sealLost then
      let s := ((s.raise 193 [2]).recordCause 5).wipe
      { s with power.sealLost := false, power.sealValue := [] }
    else s
  if s.journal.zeroisePending then { s.wipe with journal.zeroisePending := false } else s

/-- MRAM zeroed apart from the counter set, the Tasting records, the identity region and LC_PENDING (R483, R484, R487). -/
def State.zeroMram (s : State) : State :=
  { s with
    cellar := { identity := s.cellar.identity, certMldsa := s.cellar.certMldsa, certEcdsa := s.cellar.certEcdsa }
    engines.trees := []
    fabric.carriages := [], fabric.pmap := []
    book := { seq := s.book.seq, head := s.book.head, anchor := s.book.anchor, lastCheckpoint := s.book.lastCheckpoint }
    journal := { timeMark := s.journal.timeMark, eventBlock := s.journal.eventBlock, bootCount := s.journal.bootCount,
                 lcPending := s.journal.lcPending }
    train := { trainId := s.train.trainId, history := s.train.history, lastIndex := s.train.lastIndex } }

/-- The identity region zeroed (R483). -/
def State.zeroIdentity (s : State) : State :=
  { s with cellar.identity := false, cellar.certMldsa := [], cellar.certEcdsa := [], power.sealShare := false, power.sealValue := [] }

/-- The factory's slots, carriages, ledgers, Train state and Book tail wiped; carriage 0 is made anew at the next Boot (R483). -/
def State.wipeFactory (s : State) : State := { s.zeroMram with journal := s.journal }

/-- The wipes of a transition's preparation (R483). -/
def State.transitionWipe (s : State) (target : Nat) : State :=
  match target with
  | 0x03 => s
  | 0x07 => { s.zeroMram with book := {} }
  | 0x0F => s.wipeFactory
  | _ => s.zeroMram.zeroIdentity

/-- Identity keys for which no certificate was stored are discarded (R489). -/
def State.dropUncertified (s : State) : State :=
  { s with cellar.identity := s.cellar.identity && !(s.cellar.certMldsa.isEmpty && s.cellar.certEcdsa.isEmpty) }

/-- A life-cycle transition that a reset cut: before the fuse window its wipes are repeated, and event 192 has outcome 2; after it the
transition completes (R489). -/
def State.bootTransition (s : State) : State :=
  match s.journal.lcPending with
  | none => s
  | some (f, t) =>
    if s.lcCode == t then { s with journal.lcPending := none, journal.lcDone := some (f, t) }
    else
      let x := (s.transitionWipe t).dropUncertified
      let kept : Journal := { x.journal with lcPending := none, cause := s.journal.cause, holdEntered := s.journal.holdEntered }
      ({ x with journal := kept }).raise 192 [f, t, 2]

/-- Domains of Boot: all but the engines, or the few of SCRAPPED (R39, R483). -/
def State.bootDomains (s : State) : List Nat :=
  (if s.lc == some .scrapped then [0, 1, 3, 44] else [0, 1, 2, 3, 44, 45, 46, 47, 48, 49]).filter fun d => !s.power.domainFaults.contains d

/-- Entry into Boot: Train time starts at the mark, the boot count rises, ROM senses the fuses and starts a bank, memories are repaired
(R427, R479, R491, R492, R515, R528, R531). -/
def State.enterBoot (s : State) : State :=
  let s := { s with
    power.mode := .boot, power.parked := false, power.pllLocked := true, power.pllPorts := true, power.bootAt := s.clock.now, power.vinWarn := vinWarnReset
    power.domains := [0, 1, 2, 3, 44]
    clock := { now := s.clock.now, train := s.journal.timeMark, running := true }
    journal.bootCount := s.journal.bootCount + 1 }
  let s := s.ensureMark
  if s.lc.isNone then s.stick 2
  else
    let (s, ok) := s.romBoot
    if !ok then s
    else
      let s := (s.romDigest.bootWipes.bootTransition.repairMemories.retireRows).loadSteps defaultSteps
      let s := { s with power.domains := s.bootDomains }
      let s := if s.power.bootStuck then s else s.trainLinks
      s.setLadder s.ladderLimit

/-- A wake from parked Standby: every session ends, and Boot starts afresh from an orderly shutdown (R319, R353, R508, R511). -/
def State.wake (s : State) : State :=
  let ended := s.mailbox.sessions
  let s := s.afterReset.enterPassage.enterBoot
  ended.foldl (fun s x => s.raise 243 [x.id, 4]) s

/-- Carriage 0, made at its first Boot (R337, R534). -/
def State.makeCarriage0 (s : State) : State :=
  if (s.carriage? 0).isSome then s
  else
    let (s, n) := s.serveDraw false 1
    { s with fabric.carriages := { number := 0, key := (1, drawBytes n 32), keyVersion := (s.clock.train, s.deviceIndex) } :: s.fabric.carriages }

/-! ### Recovery (R438 to R440) -/

/-- Places a slot record in slot order. -/
def insertSlot (r : SlotRecord) : List SlotRecord → List SlotRecord
  | [] => [r]
  | x :: rest => if r.header.slot ≤ x.header.slot then r :: x :: rest else x :: insertSlot r rest

/-- LIVE records in slot order whose TAG fails (R288, R438). -/
def State.badSlots (s : State) : List SlotRecord :=
  let bad := s.cellar.dir.filterMap fun (d : DirEntry) =>
    match s.slotRecord? d.slot with
    | some r => if r.header.state == .live && !s.tagOk r then some r else none
    | none => none
  bad.foldr insertSlot []

/-- Corks a record, its KEY_CHANGE entry apart (R288, R438 step 3). -/
def State.corkQuiet (s : State) (r : SlotRecord) : State :=
  let mark (x : SlotRecord) : SlotRecord := { x with header.state := .corked }
  ({ s with cellar.records := mapIf (·.index == r.index) mark s.cellar.records }).raiseFor 176 [r.header.slot, r.index, r.header.owner]
    r.header.owner

/-- Steps 1 and 4: the RECOVERY entry, and the LIFE_CYCLE entry and event 192 of a transition just completed (R438, R487). -/
def State.recoveryEntry (s : State) : State :=
  let s := s.appendBook { kind := 5 }
  match s.journal.lcDone with
  | none => s
  | some (f, t) => (({ s with journal.lcDone := none }).appendBook { kind := 6 }).raise 192 [f, t, 1]

/-- Step 5: the generation of every existing carriage rises by one with source 224, then DESTROYING carriages go (R330, R334, R336, R346,
R438). -/
def State.recoverCarriages (s : State) : State :=
  let s := (s.fabric.carriages.map (·.number)).foldl (fun s c =>
    match s.carriage? c with
    | some x => (s.modCarriage c fun x => { x with gen := nextGen x.gen }).raiseFor 224 [c, nextGen x.gen, 4] c
    | none => s) s
  { s with fabric.carriages := s.fabric.carriages.filter fun (c : Carriage) => c.state != CarriageState.destroying }

/-- The reset cause: one recorded, else 1 for an open Hold, else 7 (R439). -/
def State.causeOf (s : State) : Nat :=
  if s.journal.cause != 0 then s.journal.cause else if s.journal.holdEntered.isSome then 1 else 7

/-- Reads the reset cause out of the journal and clears it there, before a Hold of Recovery is journalled (R438 step 1, R439). -/
def State.clearJournal (s : State) : State :=
  { s with journal.cause := 0, journal.holdEntered := none, power.resetCause := s.causeOf, book.checkpointAt := s.clock.now }

/-- Steps 1 to 6 of Recovery (R438); a stateful slot that the burning of its block took to its threshold is reported (R186). -/
def State.recover (s : State) : State :=
  let s := s.sweepRecords
  let bad := s.badSlots
  let s := bad.foldl (fun s r => s.corkQuiet r) s
  let s := s.recoveryEntry
  let s := bad.foldl (fun s r =>
    s.keyChange 0 r.header.param .success (some r.header.slot) r.header.owner (some r.index) (zeros 32)) s
  let s := s.recoverCarriages
  let excess := s.cellar.records.filter fun r => r.header.oversized
  let s := (excess.foldl (fun s r => s.raiseFor 182 [r.header.slot, r.header.owner] r.header.owner) s).leafEvents
  let s := s.raise 241 [s.power.resetCause, s.router.bootSeq]
  { s with power.alarm := s.power.alarm.filter (· != 4), book.checkpointAt := s.clock.now }

/-- Where Recovery, and an orderly Boot, hand over: Train Join when the roster lists the module (R438, R440, R452). -/
def State.handOver (s : State) : State := if s.listed then s.enterJoining else s.returnToService

/-- Boot ends: it needs a seeded DRBG and everything that R508 holds it for; orderly, it runs steps 1, 4 and 5 itself (R319, R440, R508,
R510). -/
def State.bootEnd (s : State) : State :=
  if s.power.mode != .boot || s.power.bootStuck || s.rng.state != .seeded then s
  else
    let s := s.makeCarriage0
    if s.journal.orderly then
      (((s.recoveryEntry.recoverCarriages.leafEvents).clearJournal).handOver) |> fun s => { s with journal.orderly := false }
    else { s.clearJournal with power.mode := .recovery }

/-- Recovery ends (R438). -/
def State.recoveryEnd (s : State) : State := if s.power.mode == .recovery then s.recover.handOver else s

/-! ### Hold (R516 to R518) -/

/-- Modes that a VIN_WARN crossing takes to Hold (R508). -/
def holdable (m : Mode) : Bool :=
  match m with
  | .service | .derated | .recovery | .trainJoin | .provisioning | .debug | .entropyTest => true
  | _ => false

/-- Abandons the Express commands under way (R474). -/
def State.abandonFrames (s : State) : State :=
  { s with express.frames := s.express.frames.map fun (f : MaldinJob) => { f with abandoned := f.engine.isSome && s.clock.now < f.readyAt } }

/-- Restarts the Express commands that Hold abandoned, in order of acceptance (R474). -/
def State.restartFrames (s : State) : State :=
  (s.express.frames.filter (·.abandoned)).foldl (fun s f => s.redispatchFrame f.id) s

/-- Entry into Hold: engine domains uncoupled, HOLD_ENTERED journalled, sources 144 and 145 (R516); from Entropy Test the domains that it has
off come on (R39). -/
def State.enterHold (s : State) (vin : Nat) : State :=
  let m := s.power.mode
  let recent := s.power.holdBegins.filter fun t => s.clock.now ≤ t + 100 * ms
  let inM8 := m == .provisioning
  let s := { s with
    power.mode := .hold, power.held := some m, power.vin := vin, power.vinGoodSince := none, power.holdBegins := recent ++ [s.clock.now]
    power.crossedInM8 := s.power.crossedInM8 || inM8 }
  let s := (engineDomains.foldl (fun s d => if s.domainOn d then s.domainOff d true else s) s).abandonFrames
  let s := if m == .entropyTest then s.outerOn else s
  let s := s.ensureMark
  let s := { s with power.ladder := 1, journal.holdEntered := some s.clock.train }
  (s.raise 144 [vin, s.power.vinWarn]).raise 145 []

/-- VIN below VIN_WARN (R508, R511, R516): Hold, or a Boot abandoned; a fuse window is closed by then (R488). -/
def State.vinWarnCrossing (s : State) (vin : Nat) : State :=
  if s.power.vinWarn ≤ vin then s
  else if holdable s.power.mode then s.enterHold vin
  else if s.power.mode == .boot then { s.internalReset with power.vin := vin, power.vinGoodSince := none, power.vinWait := true }
  else if s.power.mode == .standby && !s.power.parked then { s with power.vin := vin, power.vinGoodSince := none, power.vinWait := true }
  else s

/-- "M3 and M4 decided afresh" after Hold: source 147 or 148 where the choice is not the mode that Hold interrupted (R508; DEDUCED, log entry
62). -/
def State.decideAfresh (s : State) (derated : Bool) : State :=
  if derated && s.deratedNow then s.serviceEntered
  else if derated then s.returnToService.raise 148 []
  else s.returnToService

/-- Exit from Hold, which is a dip: the mode interrupted, engines as the ladder allows, source 146, and where this Hold and the two before it
began in 100 ms the latch and source 149 (R517, R518). -/
def State.exitHold (s : State) (vin : Nat) : State :=
  if s.power.mode != .hold || vin < s.power.vinWarn + 250 then s
  else
    let s := s.noteVin vin
    let m := s.power.held.getD .service
    let third := 3 ≤ s.power.holdBegins.length
    let s := { s with journal.holdEntered := none, power.held := none, power.dipLatch := s.power.dipLatch || third, power.mode := m }
    let s := if m == .entropyTest then s.outerOff else s
    let s := if ladderMode m then s.setLadder (if s.deratedNow then 1 else s.ladderLimit) else s
    let s := s.restartFrames.raise 146 []
    let s := if third then s.raise 149 [] else s
    let s := if m == .service || m == .derated then s.decideAfresh (m == .derated) else s
    let s := s.conditions
    s.flushPushes s.train.heldPushes.length

end Sys2Proof.Machine
end

