-- ==== Sys2Proof/Machine/MbTrain.lean ====
section
/-!
DEFINITION. Mailbox group 0x04xx: the roster and Train membership (12 R365; 15 R443, R444, R452, R458).
-/
namespace Sys2Proof.Machine

/-- TRAIN_STATE (R452). -/
def trainStateCode (x : TrainState) : Nat := match x with | .noRoster => 0 | .notListed => 1 | .listed => 2 | .joining => 3 | .member => 4

/-- Roster digest (R443). -/
def State.rosterDigest (s : State) : Bytes := match s.train.roster with | some r => sha384 r | none => zeros 48

/-- TRAIN_STATUS: MEMBERS_UP counts the peers keyed and not DOWN (log entry 43). -/
def mbTrainStatus (s : State) (_ : MbCommand) : State × MbReply :=
  let up := (s.train.peers.filter fun p => p.keyed && !p.down).length
  (s, .info (mbFields [(0x08, toLe 1 (trainStateCode s.train.state)), (0x0A, toLe 2 s.deviceIndex), (0x0C, toLe 2 up),
    (0x10, toLe 8 s.train.serial), (0x18, s.rosterDigest)]))

/-! ### ROSTER_SET (R443, R444) -/

/-- Bytes of the two signatures of a roster. -/
def rosterSigs : Nat := 3405

/-- Every element is above the one before it. -/
def ascending : List Nat → Bool
  | [] => true
  | [_] => true
  | a :: b :: rest => a < b && ascending (b :: rest)

/-- No element occurs twice. -/
def distinct : List Bytes → Bool
  | [] => true
  | a :: rest => !rest.contains a && distinct rest

/-- A member entry obeys R443. -/
def memberOk (m : Bytes) : Bool :=
  le m 0x10 2 < 1024 && memPorts m != 0 && byteAt m 0x13 == 0 && allZero (slice m 0x1A 6)

/-- A range entry obeys R443. -/
def rangeEntryOk (x : Bytes) : Bool := le x 0x20 2 < 1024 && allZero (slice x 0x22 6)

/-- The layout obeys R443, member entries ascend, UNIQUE_IDs differ, GM_INDEX is external or listed (R444). -/
def rosterForm (r : Bytes) : Bool :=
  let ms := rosterMembers r
  let vlan := rosVlan r
  le r 0 2 == 1 && 1 ≤ rosMembers r && rosMembers r ≤ 1024 && rosRanges r ≤ 2048 &&
  r.length == 128 + 96 * rosMembers r + 56 * rosRanges r + rosterSigs && 1 ≤ vlan && vlan ≤ 4094 && rosDomain r ≤ 127 &&
  byteAt r 0x29 == 0 && allZero (slice r 0x2C 84) && ms.all memberOk && (rosterRanges r).all rangeEntryOk &&
  ascending (ms.map memIndex) && distinct (ms.map memUid) &&
  (rosGm r == 0xFFFF || (ms.map memIndex).contains (rosGm r))

/-- TRAIN_ID and every index agree with the rosters accepted before (R444). -/
def State.rosterAgrees (s : State) (r : Bytes) : Bool :=
  (match s.train.trainId with | some x => x == rosTrainId r | none => true) &&
  (rosterMembers r).all fun m => s.train.history.all fun h => h.1 != memIndex m || h.2 == memUid m

/-- Both signatures of a roster verify under the control master's keys (R443). -/
def rosterSigned (control r : Bytes) : Bool :=
  let n := r.length - rosterSigs
  rosterSigs ≤ r.length && bothHold 2 (control.take 1952) (control.drop 1952) (r.take n) (slice r n 3309) (slice r (n + 3309) 96)

/-- The index history with the members of a roster (R444). -/
def addHistory (h : List (Nat × Bytes)) (r : Bytes) : List (Nat × Bytes) :=
  h ++ ((rosterMembers r).filter fun m => !h.any fun x => x.1 == memIndex m).map fun m => (memIndex m, memUid m)

/-- Leaves the Train: LEAVE to every peer, every association deleted, source 215, and out of M7 (R452). -/
def State.leaveTrain (s : State) (cause : Nat) (next : TrainState) : State :=
  let s := (s.leavePeers cause).raise 215 [cause]
  let s := { s with train.state := next, train.peers := [] }
  if s.power.mode == .trainJoin then s.returnToService else s

/-- What a roster change does to the peers of a JOINING or MEMBER module: removed ones go DOWN with cause 2 and lose their association,
changed ones are keyed again (R450 to R452). -/
def State.changePeers (s : State) (old : Bytes) : State :=
  let listed (i : Nat) : Bool := (s.member? i).isSome
  let gone := s.train.peers.filter fun p => !listed p.index
  let s := gone.foldl (fun s p => s.peerDown p.index 2) s
  let s := s.syncPeers
  let entry (r : Bytes) (i : Nat) : Option Bytes := (rosterMembers r).find? fun m => memIndex m == i
  let own := s.ownMember != s.ownEntry old
  s.train.peers.foldl (fun s p => if p.keyed && (own || s.member? p.index != entry old p.index) then s.startKeying p.index else s) s

/-- An accepted roster is in force (R444, R446, R452, R458). -/
def State.acceptRoster (s : State) (r : Bytes) : State :=
  let old := s.train.roster.getD []
  let was := s.train.state
  let inside := was == .joining || was == .member
  let s := if inside && (s.ownEntry r).isNone then s.leavePeers 2 else s
  let s := { s with
    train.roster := some r, train.trainId := some (rosTrainId r), train.serial := rosSerial r
    train.history := addHistory s.train.history r }
  let s := match s.ownMember with | some m => { s with train.lastIndex := memIndex m } | none => s
  let s := s.raise 208 []
  let s := s.appendBook { kind := 7, subject := (sha384 r).take 32 }
  let s :=
    if inside && s.listed then s.changePeers old
    else if inside then s.leaveTrain 2 .notListed
    else { s with train.state := if s.listed then .listed else .notListed }
  s.compareRanges

/-- ROSTER_SET (R365, R444). -/
def mbRosterSet (s : State) (c : MbCommand) : State × MbReply :=
  let r := c.bulk
  let control := match s.mbSession? c.session with | some x => x.control | none => []
  if !rosterSigned control r then (s, .refuse .signatureInvalid)
  else if rosSerial r ≤ s.train.serial then (s, .refuse .outOfRange)
  else if !rosterForm r || !s.rosterAgrees r then (s, .refuse .malformedEncoding)
  else (s.acceptRoster r, .answer { result := mbFields [(0x08, toLe 8 (rosSerial r))], effect := true })

/-- TRAIN_JOIN: from LISTED, in Service or Derated (R365, R452). -/
def mbTrainJoin (s : State) (_ : MbCommand) : State × MbReply :=
  if s.power.mode != .service && s.power.mode != .derated then (s, .refuse .mbNotInMode)
  else if s.train.state != .listed then (s, .refuse .mbStateConflict)
  else (s.enterJoining, .ok)

/-- TRAIN_LEAVE: the roster is discarded; TRAIN_ID, serial and index history stay (R365, R452). -/
def mbTrainLeave (s : State) (_ : MbCommand) : State × MbReply :=
  if s.train.state != .joining && s.train.state != .member then (s, .refuse .mbStateConflict)
  else
    let s := s.leaveTrain 1 .noRoster
    ({ s with train.roster := none }, .ok)

/-- ROSTER_GET: the roster in force, no bulk without one (R365). -/
def mbRosterGet (s : State) (_ : MbCommand) : State × MbReply := (s, .answer { bulk := s.train.roster.getD [] })

end Sys2Proof.Machine
end

