-- ==== Sys2Proof/Machine/Tasting.lean ====
section
/-!
DEFINITION. Parked Standby, and Tasting: its steps, their budgets, and its end (18 R511, R524 to R527; 01 R39; 13 R375, R376).
-/
namespace Sys2Proof.Machine

/-! ### Parked Standby (R39, R376, R511) -/

/-- A mailbox connection on P0, which outlives a shutdown. -/
def Connection.stays (c : Connection) : Bool := c.mailbox && c.port == 0 && c.ready

/-- P0 alone as a single lane of its type, with its settings (R376). -/
def Port.alone (p : Port) : Port :=
  let mode := p.laneMode % 16
  let link : LinkState :=
    if p.link == .fault then .fault else if mode == 0 then .idle
    else if groupSize p.laneMode == 1 && p.link == .up then .up else .training
  { p with laneMode := mode, link := link }

/-- Parked Standby: P0 alone, mailbox connections on it, no engine and no GDDR7 (R39, R376, R511). -/
def State.park (s : State) : State :=
  let kept := s.fabric.conns.filter (·.stays)
  let stays (i : Nat) : Bool := kept.any fun c => c.index == i
  let r := s.afterReset
  let p0 := match s.port? 0 with | some p => p.alone | none => {}
  { r with
    clock := s.clock
    power := { s.power with mode := .standby, parked := true, pllLocked := false, pllPorts := true, domains := [0, 1, 2, 3, 44], ladder := 0,
                            shutdown := none, thermal := false, dipLatch := false, expressReady := false }
    rng := s.rng
    router := { s.router with rings := [] }
    fabric.conns := kept
    mailbox := { s.mailbox with sessions := s.mailbox.sessions.filter (fun x => stays x.conn), hellos := s.mailbox.hellos.filter (fun x => stays x.conn)
                                waiting := s.mailbox.waiting.filter (fun c => stays c.conn), running := none, drains := [] }
    ports := p0 :: List.replicate 7 {}
    engines.press := s.engines.press, engines.cooper := s.engines.cooper, engines.dray := s.engines.dray, engines.fw := s.engines.fw
    firmware := s.firmware
    dbg := s.dbg
    book.checkpointAt := s.book.checkpointAt
    egress := s.egress }

/-! ### Steps (R525, R526) -/

/-- Fields of a Tasting step. -/
def stepMem (b : Bytes) : Nat := le b 0 2
def stepAlgo (b : Bytes) : Nat := byteAt b 2
def stepFlags (b : Bytes) : Nat := byteAt b 3
def stepBudget (b : Bytes) : Nat := le b 0x0C 4

/-- A step is CRITICAL. -/
def stepCritical (b : Bytes) : Bool := bit (stepFlags b) 0

/-- Domains of Tasting beside those under test (R39). -/
def tastingDomains : List Nat := [0, 1]

/-- Domains that a step powers: its island's, or the controller pair of a GDDR7 component (R15, R526). -/
def stepDomains (b : Bytes) : List Nat :=
  let i := memIsland (stepMem b)
  if i < 40 then [i + 4]
  else if i < 44 || i == 48 || i == 50 then [44]
  else if i < 48 || i == 49 then [45]
  else if i < 55 then [i - 5]
  else if i == 56 then [2] else if i == 57 then [3]
  else if i == 63 then [46 + memInstance (stepMem b) / 2] else []

/-- Budget of a step in ns: its own, or SLICE_US (R525). -/
def State.stepBudgetNs (s : State) (b : Bytes) : Nat := 1000 * (if stepBudget b == 0 then s.tasting.sliceUs else stepBudget b)

/-- The step at the cursor. -/
def State.stepNow (s : State) : Bytes := s.tasting.sequence.getD s.tasting.cursor []

/-- Tasting ends: the cursor at the first step cut or not reached, the counts, and the shutdown's passage (R508, R526, R527). -/
def State.endTasting (s : State) (outcome : Nat) : State :=
  match s.tasting.run with
  | none => s
  | some r =>
    let s := { s with
      tasting.run := none, tasting.lastOutcome := outcome, tasting.cursor := r.cut.getD s.tasting.cursor
      tasting.stepsUntested := s.tasting.stepCount - s.tasting.stepsRun, tasting.criticalDone := r.critical == 0 }
    if r.action == 0 then s.park else s.internalReset

/-- What a step came to. -/
inductive StepEnd where
  | ran
  | cut
  | excess
  deriving DecidableEq, Repr

/-- The step at the cursor is behind: the cursor is journalled at the next (R526). -/
def State.passStep (s : State) (e : StepEnd) : State :=
  match s.tasting.run with
  | none => s
  | some r =>
    let at' := s.tasting.cursor
    let done := e == .ran && stepCritical s.stepNow
    let r : TastingRun := { r with
      passed := r.passed + 1
      cut := if e == .cut && r.cut.isNone then some at' else r.cut
      critical := r.critical - b2n done }
    { s with tasting.run := some r, tasting.cursor := if s.tasting.stepCount ≤ at' + 1 then 0 else at' + 1
             tasting.stepsRun := s.tasting.stepsRun + b2n (e == .ran) }

/-- Starts the step at the cursor when its budget fits, passing over island 55 with ACTION 0; ends Tasting after a full pass or at
TOTAL_MS (R526). `fuel` bounds the steps passed over. -/
def State.nextStep : Nat → State → State
  | 0, s => s
  | fuel + 1, s =>
    match s.tasting.run with
    | none => s
    | some r =>
      if s.tasting.stepCount ≤ r.passed then s.endTasting 1
      else if r.action == 0 && memIsland (stepMem s.stepNow) == 55 then State.nextStep fuel (s.passStep .excess)
      else if s.tasting.totalMs * ms < (s.clock.now - r.since) + s.stepBudgetNs s.stepNow then s.endTasting 2
      else { s with tasting.stepAt := s.clock.now, power.domains := tastingDomains ++ stepDomains s.stepNow }

/-- Entry into Tasting: the mailbox no longer answers, so every session ends; the lanes go idle; the pass starts at the cursor (R353, R375,
R526). -/
def State.startTasting (s : State) (action : Nat) : State :=
  let s := s.mailbox.sessions.foldl (fun s x => s.endSession x.id 3) s
  let r := s.afterReset
  let quiet (p : Port) : Port := if p.link == .member || p.link == .fault then p else { p with link := .idle }
  let run : TastingRun := { action := action, since := s.clock.now, critical := (s.tasting.sequence.filter stepCritical).length }
  let s : State := { r with
    power := { r.power with mode := .tasting, pwrgd := true, vinWarn := s.power.vinWarn, domains := tastingDomains }
    clock := s.clock
    router := { s.router with rings := [] }
    fabric := { r.fabric with conns := s.fabric.conns.filter (·.stays) }
    ports := s.ports.map quiet
    tasting := { s.tasting with run := some run, stepAt := s.clock.now, stepsRun := 0, stepsUntested := 0, criticalDone := false }
    engines.press := s.engines.press, engines.cooper := s.engines.cooper, engines.dray := s.engines.dray, engines.fw := s.engines.fw }
  s.nextStep (s.tasting.stepCount + 1)

end Sys2Proof.Machine
end

