-- ==== Sys2Proof/Machine/MbPower.lean ====
section
/-!
DEFINITION. Mailbox group 0x05xx: power and modes, shutdown, Entropy Test (12 R366; 05 R158; 10 R325, R326; 18 R508 to R518, R524).
-/
namespace Sys2Proof.Machine

/-- VIN_WARN_SET: a multiple of 10 from 5,700 to 50,000, and not above VIN less 1.0 V (R366, R515). -/
def mbVinWarnSet (s : State) (c : MbCommand) : State × MbReply :=
  let v := c.par 8 4
  if v < 5700 || 50000 < v || v % 10 != 0 || s.power.vin < v + 1000 then (s, .refuse .mbRange)
  else ({ s with power.vinWarn := v }, .ok)

/-- DERATED_CLEAR clears only the dip latch (R366, R518, R520). -/
def mbDeratedClear (s : State) (_ : MbCommand) : State × MbReply :=
  if s.power.vin < vinFull then (s, .refuse .mbVinLow)
  else if s.power.thermal then (s, .refuse .mbStateConflict)
  else ({ s with power.dipLatch := false }.conditions, .ok)

/-! ### SHUTDOWN_WAKE (R366, R508, R510, R511, R524) -/

/-- Modes from which ACTION 0 and ACTION 1 shut down (R508). -/
def shutdownMode (action : Nat) (m : Mode) : Bool :=
  match m with
  | .service | .derated | .trainJoin | .provisioning => true
  | .debug | .entropyTest => action == 1
  | _ => false

/-- Steps 1 and 2 of R524: consumption and Express stop, and every job that no engine has ends with NOT_EXECUTED. -/
def State.startShutdown (s : State) (action taste : Nat) : State :=
  ({ s with power.shutdown := some (action, taste) }).withdraw .notExecuted fun _ => true

/-- SHUTDOWN_WAKE with ACTION 0 or 1: the drain starts, and SHUTDOWN_DRAIN_DONE answers (R524). -/
def mbShutdown (s : State) (c : MbCommand) : State × MbReply :=
  let action := c.par 8 1
  let taste := c.par 9 1
  if 2 < action || 1 < taste then (s, .refuse .mbRange)
  else if !shutdownMode action s.power.mode then (s, .refuse .mbNotInMode)
  else (s.startShutdown action taste, .waits .drain)

/-- SHUTDOWN_WAKE with ACTION 2: in parked Standby only; the wake follows the response (R366, R508). -/
def mbWake (s : State) (c : MbCommand) : State × MbReply :=
  if 2 < c.par 8 1 then (s, .refuse .mbRange)
  else if s.power.mode == .standby && s.power.parked then (s, .ok)
  else (s, .refuse .mbNotInMode)

/-- Everything that a shutdown has to drain has drained (R524). -/
def State.drained (s : State) : Bool := s.fabric.jobs.isEmpty && s.express.frames.isEmpty

/-- What follows the response of a shutdown (R508, R524). -/
def State.endShutdown (s : State) (action taste : Nat) : State :=
  let s := { s with tasting.criticalDone := false }
  if taste == 1 then s.startTasting action else if action == 0 then s.park else s.internalReset

/-! ### PRESS_SHARE_SET and POWER_STATUS -/

/-- PRESS_SHARE_SET: the new limit acts at the next epoch, which answers (R158, R366). -/
def mbPressShareSet (s : State) (c : MbCommand) : State × MbReply :=
  let n := c.par 8 1
  if n < 1 || 32 < n then (s, .refuse .mbRange) else ({ s with engines.nextLimit := some n }, .waits .epoch)

/-- DERATE_CAUSE (R520). -/
def State.derateCause (s : State) : Nat := b2n s.power.vinLow + 2 * b2n s.power.thermal + 4 * b2n s.power.dipLatch

/-- DIPS_100MS: Holds begun in the last 100 ms (R518). -/
def State.dips (s : State) : Nat := (s.power.holdBegins.filter fun t => s.clock.now < t + 100 * ms).length

/-- POWER_STATUS, with the input power and lid temperature measured now (R366, R537, R544). -/
def mbPowerStatus (s : State) (c : MbCommand) : State × MbReply :=
  (s, .info (mbFields [(0x08, toLe 4 s.power.vin), (0x0C, toLe 4 (c.extra.getD 0 0)), (0x10, toLe 1 (modeCode s.power.mode)),
    (0x11, toLe 1 s.derateCause), (0x12, toLe 1 s.dips), (0x14, toLe 4 (c.extra.getD 1 0))]))

/-! ### Rights and Entropy Test (R325, R326, R502, R505) -/

/-- RIGHTS bits (R502). -/
def rJtag : Nat := 0
def rTrace : Nat := 1
def rRawEntropy : Nat := 2
def rMemRead : Nat := 3
def rUart : Nat := 4
def rFuseRepair : Nat := 5

/-- A grant has not lapsed (R503). -/
def Grant.holds (g : Grant) (train : Nat) : Bool := match g.notAfter with | some t => train < t | none => true

/-- The union of the rights in force (R505). -/
def State.rights (s : State) : Nat := ((s.dbg.grants.filter fun g => g.holds s.clock.train).map (·.rights)).foldl (· ||| ·) 0

/-- A right is held (R505). -/
def State.hasRight (s : State) (i : Nat) : Bool := bit s.rights i

/-! The lands that carry test and console traffic, which no command of the table carries (R13). -/

/-- JTAG is open: without a grant in WAFER and MODULE_TEST, by JTAG_SCAN elsewhere, in SCRAPPED never; TDO is high impedance otherwise
(R13, R502, R548). -/
def State.jtagOpen (s : State) : Bool :=
  s.power.mode != .off &&
  match s.lc with
  | some .wafer | some .moduleTest => true
  | some .zawardProvisioned | some .oemField | some .returned => s.hasRight rJtag
  | some .scrapped | none => false

/-- The console on UART_TX is open, by the same rule under UART_CONSOLE (R13, R502, R548). -/
def State.consoleOpen (s : State) : Bool :=
  s.power.mode != .off &&
  match s.lc with
  | some .wafer | some .moduleTest => true
  | some .zawardProvisioned | some .oemField | some .returned => s.hasRight rUart
  | some .scrapped | none => false

/-- UART_RX is accepted in WAFER and MODULE_TEST only (R502, R548). -/
def State.consoleListens (s : State) : Bool := s.power.mode != .off && (s.lc == some .wafer || s.lc == some .moduleTest)

/-- Why ENTROPY_TEST_ENTER is refused (R325, R508). -/
def State.entropyFault (s : State) : Option Status :=
  match s.power.mode with
  | .service | .derated | .provisioning =>
    match s.lc with
    | some .wafer | some .moduleTest => none
    | some .zawardProvisioned | some .oemField | some .returned => if s.hasRight rRawEntropy then none else some .mbRightsDenied
    | some .scrapped | none => some .mbLifecycleDenied
  | _ => some .mbNotInMode

/-- Entry into Entropy Test (R325): the DRBG blocked, every pool and value dropped, the draws that wait failed, source 167. -/
def State.enterEntropyTest (s : State) : State :=
  let f : State := { s with rng.state := if s.rng.state == .failed then .failed else .blocked }
  let s := (f.dropPools.failWaiting fun _ => true).1.raise 167 [if s.inTest then 0 else s.rights, s.lcCode]
  let s := engineDomains.foldl (fun s d => if s.domainOn d then s.domainOff d false else s) s
  { s.outerOff with power.mode := .entropyTest, power.ladder := 1 }

/-- ENTROPY_TEST_ENTER. -/
def mbEntropyTestEnter (s : State) (_ : MbCommand) : State × MbReply :=
  match s.entropyFault with
  | some st => (s, .refuse st)
  | none => (s.enterEntropyTest, .ok)

/-- Bytes of an ENTROPY_TEST_READ (R326). -/
def tapBytes : Nat := 65536

/-- ENTROPY_TEST_READ: the samples and failure counts that the command carries; a stopped cell reads as zeros (R326). -/
def mbEntropyTestRead (s : State) (c : MbCommand) : State × MbReply :=
  let cell := c.par 8 1
  let tap := c.par 9 1
  if s.power.mode != .entropyTest then (s, .refuse .mbNotInMode)
  else if 15 < cell || 2 < tap then (s, .refuse .mbRange)
  else
    let stopped := tap != 2 && (match s.rng.cells[cell]? with | some x => x.stopped | none => true)
    if stopped then (s, .answer { result := mbFields [(0x08, toLe 4 0xFFFFFFFF), (0x0C, toLe 4 0xFFFFFFFF)], bulk := zeros tapBytes })
    else
      let samples := (c.extra.drop 2).map fun n => BitVec.ofNat 8 n
      (s, .answer { result := mbFields [(0x08, toLe 4 (c.extra.getD 0 0)), (0x0C, toLe 4 (c.extra.getD 1 0))],
                    bulk := padTo tapBytes samples })

end Sys2Proof.Machine
end

