-- ==== Sys2Proof/Machine/MbLife.lean ====
section
/-!
DEFINITION. Mailbox group 0x06xx: Provisioning, life-cycle transitions, debug grants and entry into Debug (12 R367; 17 R483 to R490, R502 to
R506).
-/
namespace Sys2Proof.Machine

/-! ### Checkpoints (R298) -/

/-- Both signatures of the oldest checkpoint that waits are made: they go with it, and the anchor is written (R298, R299). -/
def State.checkpointDone (s : State) : State :=
  match s.book.signing with
  | [] => s
  | e :: rest =>
    let n := entrySeq e
    let s := { s with
      book.signing := rest
      book.anchor := toLe 8 n ++ sha3 e
      book.signatures := s.book.signatures ++ [(n, s.identitySign e (zeros 32) [])] }
    s.pumpExport (exportFuel s)

/-- Every checkpoint that waits gets its signatures, oldest first. -/
def State.checkpointsDone : Nat → State → State
  | 0, s => s
  | fuel + 1, s => State.checkpointsDone fuel s.checkpointDone

/-! ### Debug (R506) -/

/-- Rights that enter Debug (R502). -/
def entersDebug (rights : Nat) : Bool := bit rights rJtag || bit rights rTrace || bit rights rMemRead

/-- Jobs past step 10 whose key a sealed Cellar takes away, and quotes, whose keys become unusable (R306, R506 steps 2 and 6). What has
committed whole is released. -/
def Job.losesKey (j : Job) : Bool :=
  10 ≤ j.passed && (j.kind != .none || j.op == some .quote) && j.phase != .staged && !(j.parts.all fun q => q.committed)

/-- Engine routines are abandoned, those past their commit points staged (R97, R216, R244). -/
def State.abandonRoutines (s : State) : State :=
  let pools : List Pool := [.press, .cooper, .dray]
  pools.foldl (fun s p => (List.range (s.pool p).length).foldl (fun s i => (s.crossEngine p i).abandonEngine p i false false) s) s

/-- The Cellar is sealed: steps 2 to 6 of R506, with the LIFE_CYCLE entry and the last checkpoint in between. -/
def State.sealCellar (s : State) : State :=
  let s := (s.fabric.jobs.filter (·.losesKey)).foldl (fun s j => s.failAny j.id .keyLifecycleDenied false) s
  let s := s.appendBook { kind := 6 }
  let s := s.checkpointsDone s.book.signing.length
  let s := s.checkpoint
  let s := s.checkpointsDone s.book.signing.length
  let s := { s with
    book.closed := true
    cellar.sealed := true, cellar.expanded := [], cellar.cache := []
    engines.trees := [], engines.publicKeys := []
    fabric.sessions := [] }
  s.leavePeers 3

/-- Entry into Debug: source 197 and the LIFE_CYCLE entry, routines abandoned; in OEM_FIELD the Cellar is sealed (R97, R295, R506). No rule
names the domains that a right requires: those powered stay so (DESIGN CHOICE, log entry 100). -/
def State.enterDebug (s : State) : State :=
  let s := ({ s with power.mode := .debug }.raise 197 []).abandonRoutines
  if s.lc == some .oemField then s.sealCellar else s.appendBook { kind := 6 }

/-! ### Provisioning (R367) -/

/-- PROVISIONING_ENTER. -/
def mbProvisioningEnter (s : State) (_ : MbCommand) : State × MbReply :=
  if s.power.mode != .service && s.power.mode != .derated then (s, .refuse .mbNotInMode)
  else ({ s with power.mode := .provisioning, power.crossedInM8 := false }, .ok)

/-- PROVISIONING_EXIT: to Debug with a right that enters it, otherwise to Service or Derated (R508). -/
def mbProvisioningExit (s : State) (_ : MbCommand) : State × MbReply :=
  if s.power.mode != .provisioning then (s, .refuse .mbNotInMode)
  else if entersDebug s.rights then (s.enterDebug, .ok)
  else (s.returnToService, .ok)

/-! ### Transition tokens (R483, R485, R486, R490) -/

/-- Key and signature bytes of a signer: ML-DSA key, both keys, ML-DSA signature. -/
def tokenDsaKey (signer : Nat) : Nat := if signer == 1 then 2592 else 1952
def tokenDsaSig (signer : Nat) : Nat := if signer == 1 then 4627 else 3309
/-- ML-DSA parameter of a signer: ML-DSA-87 for Zaward, ML-DSA-65 for the OEM. -/
def tokenDsaParam (signer : Nat) : Nat := if signer == 1 then 3 else 2

/-- A structure of `head` bytes, the signer's keys and both signatures over all before them is signed under the hash of the keys (R485,
R503). -/
def signedBlob (b : Bytes) (head signer : Nat) (hash : Bytes) : Bool :=
  let k := tokenDsaKey signer
  let n := head + k + 97
  let keys := slice b head (k + 97)
  b.length == n + tokenDsaSig signer + 96 && sha384 keys == hash &&
  bothHold (tokenDsaParam signer) (keys.take k) (keys.drop k) (b.take n) (slice b n (tokenDsaSig signer)) (slice b (n + tokenDsaSig signer) 96)

/-- Token fields (R485); only TARGET 0x07 has certificates. -/
def tokSigner (b : Bytes) : Nat := byteAt b 4
def tokCertA (b : Bytes) : Nat := if byteAt b 3 == 0x07 then le b 0x8C 4 else 0
def tokCertB (b : Bytes) : Nat := if byteAt b 3 == 0x07 then le b 0x90 4 else 0
def tokHead (b : Bytes) : Nat := 256 + tokCertA b + tokCertB b

/-- The hash that SIGNER names: none where the state holds no such key. -/
def State.signerHash (s : State) (signer : Nat) (rom : String) : Option Bytes :=
  if signer == 1 then some (romValue rom 48)
  else if signer == 2 && s.perso 1 then some s.fuses.ctrlKeyHash
  else none

/-- Check 3 of R486. -/
def State.tokenSigned (s : State) (b : Bytes) : Bool :=
  match s.signerHash (tokSigner b) "ZW_LC_KEY_HASH" with
  | some h => signedBlob b (tokHead b) (tokSigner b) h
  | none => false

/-- The pair of states is permitted for the signer (R483). -/
def pairPermitted (from' dest signer : Nat) : Bool :=
  [(0x01, 0x03, 1), (0x03, 0x07, 1), (0x07, 0x0F, 1), (0x07, 0x1F, 1), (0x0F, 0x1F, 2), (0x01, 0xFF, 1), (0x03, 0xFF, 1),
   (0x07, 0xFF, 1), (0x1F, 0xFF, 1), (0x0F, 0xFF, 2)].contains (from', dest, signer)

/-- Certificates of a token for TARGET 0x07. -/
def tokMldsaCert (b : Bytes) : Bytes := slice b 256 (tokCertA b)
def tokEcdsaCert (b : Bytes) : Bytes := slice b (256 + tokCertA b) (tokCertB b)

/-- Both certificates carry the identity public keys and UNIQUE_ID and chain to Zaward's authority (R486; X.509 left to its standard, log
entry 4). -/
def State.certsHold (s : State) (b : Bytes) : Bool :=
  let key : Bytes := s.fuses.deviceSecret
  let dsa := dsaPkOf 3 (idSeedOf key)
  let ec := ecPubOf 2 (idScalarOf key)
  Config.stdHolds .certHolds 0 [tokMldsaCert b, dsa, s.fuses.uniqueId, romValue "ZW_DEVICE_CA" 48] &&
  Config.stdHolds .certHolds 1 [tokEcdsaCert b, ec, s.fuses.uniqueId, romValue "ZW_DEVICE_CA" 48]

/-- Every bit that `old` holds is set in `new`. -/
def bitsWithin (old new : Bytes) : Bool := old.length == new.length && (List.zipWith (fun a b => a &&& b == a) old new).all id

/-- A personalisation field accepts a value: exactly the blown one when valid, else one that only adds bits (R490). -/
def fieldAccepts (valid : Bool) (old new : Bytes) : Bool := if valid then old == new else bitsWithin old new

/-- Personalisation values of a token for TARGET 0x0F. -/
def tokOemId (b : Bytes) : Bytes := slice b 0x18 16
def tokCtrlHash (b : Bytes) : Bytes := slice b 0x28 48
def tokCodeHash (b : Bytes) : Bytes := slice b 0x58 48
def tokFlags (b : Bytes) : Nat := byteAt b 0x88 % 4
def tokPortMode (b : Bytes) : Nat := byteAt b 0x89

/-- DBG_AUTH_MODE, VBAT_SEAL_EN and PORT_MODE as three bytes, in the fuses and in a token. -/
def State.optionFuses (s : State) : Bytes := toLe 1 s.fuses.dbgAuthMode ++ toLe 1 s.fuses.vbatSealEn ++ toLe 1 s.fuses.portMode
def tokOptions (b : Bytes) : Bytes := toLe 1 (tokFlags b % 2) ++ toLe 1 (tokFlags b / 2 % 2) ++ toLe 1 (tokPortMode b)

/-- R490 holds for a token. -/
def State.persoAccepts (s : State) (b : Bytes) : Bool :=
  fieldAccepts (s.perso 0) s.fuses.oemId (tokOemId b) && fieldAccepts (s.perso 1) s.fuses.ctrlKeyHash (tokCtrlHash b) &&
  fieldAccepts (s.perso 2) s.fuses.oemCodeKeyHash (tokCodeHash b) && fieldAccepts (s.perso 3) s.optionFuses (tokOptions b)

/-- Check 4 of R486. It names no field that must be 0, so a value there is ignored (R10). -/
def State.tokenMatches (s : State) (b : Bytes) (target : Nat) : Bool :=
  le b 0 2 == 1 && slice b 8 16 == s.fuses.uniqueId && byteAt b 2 == s.lcCode && byteAt b 3 == target &&
  pairPermitted s.lcCode target (tokSigner b) && (target != 0x07 || s.certsHold b) && (target != 0x0F || s.persoAccepts b)

/-- VIN has stayed at or above 11.4 V for 1 s, and nothing crossed since M8 was entered (R486 check 2). -/
def State.vinSteady (s : State) : Bool :=
  !s.power.crossedInM8 && (match s.power.vinGoodSince with | some t => t + 1000 * ms ≤ s.clock.now | none => false)

/-- The status of the first check of R486 that fails. -/
def State.transitionFault (s : State) (b : Bytes) (target : Nat) : Option Status :=
  if s.power.mode != .provisioning then some .mbNotInMode
  else if !s.vinSteady then some .mbVinLow
  else if !s.tokenSigned b then some .signatureInvalid
  else if !s.tokenMatches b target then some .mbLifecycleDenied
  else none

/-! ### Transitions (R483, R484, R487) -/

/-- Bits added to a fuse field. -/
def blow (old new : Bytes) : Bytes := List.zipWith (· ||| ·) old new

/-- A field with one bit more: the lowest that the value sets and the field does not hold; none when it holds them all. -/
def blowBit : Bytes → Bytes → Option Bytes
  | a :: old, b :: new =>
    let missing := b &&& ~~~a
    if missing == 0 then (blowBit old new).map (a :: ·) else some ((a ||| (missing &&& -missing)) :: old)
  | _, _ => none

/-- Blows one bit more of the personalisation fields of a token; none when every field holds its value (R487 step 3, R490). -/
def State.persoBit (s : State) (b : Bytes) : Option State :=
  match blowBit s.fuses.oemId (tokOemId b) with
  | some x => some { s with fuses.oemId := x }
  | none =>
    match blowBit s.fuses.ctrlKeyHash (tokCtrlHash b) with
    | some x => some { s with fuses.ctrlKeyHash := x }
    | none =>
      match blowBit s.fuses.oemCodeKeyHash (tokCodeHash b) with
      | some x => some { s with fuses.oemCodeKeyHash := x }
      | none => (blowBit s.optionFuses (tokOptions b)).map fun x =>
        { s with fuses.dbgAuthMode := byteAt x 0, fuses.vbatSealEn := byteAt x 1, fuses.portMode := byteAt x 2 }

/-- PERSO_VALID of each field that the token sets (R487 step 3). -/
def State.persoDone (s : State) (b : Bytes) : State :=
  let sets := b2n (!allZero (tokOemId b)) + 2 * b2n (!allZero (tokCtrlHash b)) + 4 * b2n (!allZero (tokCodeHash b)) +
    8 * b2n (tokFlags b != 0 || tokPortMode b != 0)
  { s with fuses.persoValid := s.fuses.persoValid ||| sets }

/-- The preparation of R483 up to the certificates; `secret` is what the transition drew. -/
def State.prepare (s : State) (b : Bytes) (target : Nat) (secret : Bytes) : State :=
  let s := s.transitionWipe target
  match target with
  | 0x03 => { s with fuses.deviceSecret := blow s.fuses.deviceSecret secret }
  | 0x07 => { s with cellar.identity := true }
  | 0x0F => if bit (tokFlags b) 1 then { s with power.sealShare := true, power.sealLost := false, power.sealValue := secret } else s
  | _ => s

/-- The fuse window: engine domains off, then the three copies take the new code (R487 step 4). The board's hold-up outlasts it, so no reset
falls inside (R488; DESIGN CHOICE, log entry 111). -/
def State.fuseWindow (s : State) (target : Nat) : State :=
  let s := engineDomains.foldl (fun s d => if s.domainOn d then s.domainOff d false else s) s
  { s with power.ladder := 1, fuses.lcA := target, fuses.lcB := target, fuses.lcC := target }

/-- Steps 4 and 5 of R487; the reset follows the response by 10 ms. -/
def State.closeWindow (s : State) (target : Nat) : State :=
  let from' := s.lcCode
  { s.fuseWindow target with
    journal.lcPending := none, journal.lcDone := some (from', target), dbg.resetAt := some (s.clock.now + 10 * ms) }

/-- A transition goes on by one stage: the preparation; the certificates, or one personalisation bit and at last PERSO_VALID; the fuse window
(R487). -/
def State.transitionStage (s : State) (b : Bytes) (target stage : Nat) (secret : Bytes) : State × MbReply :=
  match stage with
  | 0 => (s.prepare b target secret, .waits (.fuses 1 []))
  | 1 =>
    if target == 0x0F then
      match s.persoBit b with
      | some s => (s, .waits (.fuses 1 []))
      | none => (s.persoDone b, .waits (.fuses 2 []))
    else if target == 0x07 then
      ({ s with cellar.certMldsa := tokMldsaCert b, cellar.certEcdsa := tokEcdsaCert b }, .waits (.fuses 2 []))
    else (s, .waits (.fuses 2 []))
  | _ => (s.closeWindow target, .ok)

/-- A transition draws from the DRBG: DEVICE_SECRET, or the seal share (R483). -/
def tokenDraws (b : Bytes) (target : Nat) : Bool := target == 0x03 || (target == 0x0F && bit (tokFlags b) 1)

/-- An accepted transition journals LC_PENDING (R487 step 1). -/
def State.startTransition (s : State) (target : Nat) (secret : Bytes) : State × MbReply :=
  ({ s with journal.lcPending := some (s.lcCode, target) }, .waits (.fuses 0 secret))

/-- LC_TRANSITION (R367, R486, R487); a draw that the DRBG cannot serve refuses it before anything changes (log entry 44). While it goes on,
what check 4 compares is found unchanged at each stage. -/
def mbLcTransition (s : State) (c : MbCommand) : State × MbReply :=
  let b := c.bulk
  let target := c.par 8 1
  match c.wait with
  | .fuses stage secret => if s.tokenMatches b target then s.transitionStage b target stage secret else (s, .refuse .mbLifecycleDenied)
  | _ =>
    match s.transitionFault b target with
    | some st => (s, .refuse st)
    | none =>
      if !tokenDraws b target then s.startTransition target []
      else match s.drawFate false with
        | .failed => (s, .refuse .mbStateConflict)
        | .waits => (s, .waits .draw)
        | .served => let (s, n) := s.serveDraw false 1; s.startTransition target (drawBytes n 32)

/-- LC_TRANSITION_RESET: 10 ms after the response (R487). -/
def execLcTransitionReset (t : Nat) (s : State) : Host.Outcome State Fault Refusal :=
  let s := s.advance t
  .next (match s.dbg.resetAt with | some at' => if at' ≤ s.clock.now then s.internalReset else s | none => s)

/-! ### Debug authorisation (R502 to R505) -/

/-- DEBUG_CHALLENGE, under method 1 (R367, R504); in SCRAPPED and the open states nothing is granted (R502). -/
def mbDebugChallenge (s : State) (_ : MbCommand) : State × MbReply :=
  if s.dbgAuthMode == 0 then (s, .refuse .mbStateConflict)
  else match s.drawFate false with
    | .failed | .waits => (s, .refuse .mbStateConflict)
    | .served =>
      let (s, n) := s.serveDraw false 1
      let x := drawBytes n 32
      ({ s with dbg.challenge := some (x, s.clock.now) },
       .answer { result := mbFields [(0x08, x), (0x28, s.fuses.uniqueId)], effect := true })

/-- Life of a challenge: 10 min (R504). -/
def challengeLife : Nat := 600000000000

/-- DEBUG_CHALLENGE_EXPIRY (R504). -/
def execDebugChallengeExpiry (t : Nat) (s : State) : Host.Outcome State Fault Refusal :=
  let s := s.advance t
  .next (match s.dbg.challenge with
    | some (_, since) => if since + challengeLife ≤ s.clock.now then { s with dbg.challenge := none } else s
    | none => s)

/-- Rights that a signer may grant (R502). -/
def grantable (signer : Nat) : Nat := if signer == 1 then 0x3F else 0x16

/-- States in which a debug function needs a grant, and a grant may be given (R502). -/
def State.grants (s : State) : Bool := s.lc == some .zawardProvisioned || s.lc == some .oemField || s.lc == some .returned

/-- Why a certificate is refused, signatures first (R367, R502, R503). -/
def State.certificateFault (s : State) (b : Bytes) : Option Status :=
  let signer := byteAt b 3
  match s.signerHash signer "ZW_DEBUG_KEY_HASH" with
  | none => some .signatureInvalid
  | some h =>
    if !signedBlob b 64 signer h || le b 0 2 != 1 then some .signatureInvalid
    else if slice b 8 16 != s.fuses.uniqueId || le b 0x18 8 ≤ s.clock.train then some .mbRightsDenied
    else if byteAt b 2 &&& grantable signer != byteAt b 2 then some .mbRightsDenied
    else if !s.grants || (signer == 2 && s.lc != some .oemField) then some .mbRightsDenied
    else none

/-- Why a server response is refused (R504). -/
def State.responseFault (s : State) (b : Bytes) : Option Status :=
  if !signedBlob b 64 1 (romValue "ZW_DEBUG_KEY_HASH" 48) || le b 0 2 != 2 then some .signatureInvalid
  else
    let fresh := match s.dbg.challenge with
      | some (x, since) => slice b 0x18 32 == x && s.clock.now < since + challengeLife
      | none => false
    if !fresh || slice b 8 16 != s.fuses.uniqueId || 0x3F < byteAt b 2 || !s.grants then some .mbRightsDenied else none

/-- A grant is in force: source 196, and Debug at once where it brings the first right that enters it, unless in M8 (R505, R506, R508). -/
def State.grant (s : State) (g : Grant) (signer serial : Nat) : State :=
  let before := entersDebug s.rights
  let s := { s with dbg.grants := s.dbg.grants ++ [g] }.raise 196 [g.rights, signer, serial]
  if !before && entersDebug s.rights && (s.power.mode == .service || s.power.mode == .derated) then s.enterDebug else s

/-- DEBUG_AUTH: a certificate under method 0, a server response under method 1; a challenge serves once (R367, R502 to R505). -/
def mbDebugAuth (s : State) (c : MbCommand) : State × MbReply :=
  let b := c.bulk
  let method := s.dbgAuthMode
  let fault := if method == 0 then s.certificateFault b else s.responseFault b
  let s := { s with dbg.challenge := none }
  match fault with
  | some st => (s.raise 198 [], .refuse st)
  | none =>
    let g : Grant := { rights := byteAt b 2, notAfter := if method == 0 then some (le b 0x18 8) else none }
    let s := if method == 0 then s.grant g (byteAt b 3) (le b 0x20 8) else s.grant g 1 0
    (s, .answer { result := mbFields [(0x08, toLe 1 s.rights)], effect := true })

/-- DEBUG_RIGHTS_LAPSE: a Debug mode already entered does not end (R503). -/
def execDebugRightsLapse (t : Nat) (s : State) : Host.Outcome State Fault Refusal :=
  let s := s.advance t
  .next { s with dbg.grants := s.dbg.grants.filter fun g => g.holds s.clock.train }

end Sys2Proof.Machine
end

