-- ==== Sys2Proof/Machine/MbQueues.lean ====
section
/-!
DEFINITION. Mailbox group 0x01xx: work queues, completion rings and connections (02 R41, R42, R80, R81; 12 R362).
-/
namespace Sys2Proof.Machine

/-- CONN_INDEX names a data connection in the ready state (R362, R372). -/
def State.ringConn (s : State) (c : Nat) : Bool :=
  match s.conn? c with | some k => k.ready && !k.mailbox | none => false

/-- Ring sizes are 2^6 to 2^16 (R41, R42, R372). -/
def log2Ok (n : Nat) : Bool := 6 ≤ n && n ≤ 16

/-- WQ_CREATE (R41, R362). -/
def mbWqCreate (s : State) (c : MbCommand) : State × MbReply :=
  let q := c.par 8 2
  let conn := c.par 0x0A 2
  let cr := c.par 0x0E 2
  let onConn := match s.cring? cr with | some r => r.conn == conn | none => false
  if (s.queue? q).isSome || !onConn || !s.ringConn conn then (s, .refuse .mbStateConflict)
  else if !log2Ok (c.par 0x0C 1) then (s, .refuse .mbRange)
  else
    let x : WorkQueue := { index := q, conn := conn, cr := cr, size := 2 ^ c.par 0x0C 1 }
    ({ s with fabric.queues := s.fabric.queues ++ [x] },
     .answer { result := mbFields [(0x08, toLe 4 (0x40000000 + q)), (0x10, toLe 8 (ringAddr q))], effect := true })

/-- WQ_DESTROY: consumption stops, what no engine has completes with NOT_EXECUTED, and the drain goes on without the mailbox (R81, R356). -/
def mbWqDestroy (s : State) (c : MbCommand) : State × MbReply :=
  let q := c.par 8 2
  match s.queue? q with
  | none => (s, .refuse .mbStateConflict)
  | some x =>
    if x.state == .draining then (s, .refuse .mbStateConflict)
    else
      let s := s.modQueue q fun x => { x with state := .draining, target := none, cache := [] }
      ((s.withdraw .notExecuted fun j => j.queue == q).settle, .waits .drain)

/-- CR_CREATE (R42, R362). No rule refuses a BASE that is not 32-byte aligned: it is taken, and completions are written from it on (R68;
DESIGN CHOICE, log entry 92). -/
def mbCrCreate (s : State) (c : MbCommand) : State × MbReply :=
  let i := c.par 8 2
  let conn := c.par 0x0A 2
  if (s.cring? i).isSome || !s.ringConn conn then (s, .refuse .mbStateConflict)
  else if !log2Ok (c.par 0x0C 1) then (s, .refuse .mbRange)
  else
    let x : CompletionRing := { index := i, conn := conn, base := c.par 0x10 8, rkey := c.par 0x18 4, size := 2 ^ c.par 0x0C 1 }
    ({ s with fabric.rings := s.fabric.rings ++ [x] }, .ok)

/-- CR_DESTROY (R362). -/
def mbCrDestroy (s : State) (c : MbCommand) : State × MbReply :=
  let i := c.par 8 2
  if (s.cring? i).isNone || s.fabric.queues.any (·.cr == i) then (s, .refuse .mbStateConflict)
  else ({ s with fabric.rings := s.fabric.rings.filter (·.index != i) }, .ok)

/-- STATE of a work queue (R362). -/
def queueStateCode (x : QueueState) : Nat :=
  match x with | .absent => 0 | .idle => 1 | .active => 2 | .crWait => 3 | .broken => 4 | .draining => 5

/-- WQ_INFO: a queue that does not exist is ABSENT, its counters 0 (R362). -/
def mbWqInfo (s : State) (c : MbCommand) : State × MbReply :=
  match s.queue? (c.par 8 2) with
  | none => (s, .info [])
  | some x => (s, .info (mbFields [(0x08, toLe 1 (queueStateCode x.state)), (0x0A, toLe 2 x.cons), (0x0C, toLe 4 x.submitSeq),
      (0x10, toLe 8 x.droppedWrites), (0x18, toLe 8 x.invIgnored)]))

/-- CONN_INFO (R362). -/
def mbConnInfo (s : State) (c : MbCommand) : State × MbReply :=
  match s.conn? (c.par 8 2) with
  | none => (s, .refuse .mbStateConflict)
  | some k => (s, .info (mbFields [(0x08, toLe 1 (b2n k.mailbox)), (0x09, toLe 1 (b2n k.ready)), (0x0A, toLe 1 k.port),
      (0x10, toLe 8 k.windowDropped), (0x18, toLe 8 k.creditsIgnored), (0x20, toLe 8 k.consIgnored)]))

/-- A completion of the ring still waits behind a NOTIFY SEND (R69, R80). -/
def State.completionHeld (s : State) (cr : Nat) : Bool :=
  match s.cring? cr with
  | none => false
  | some r =>
    match s.conn? r.conn with
    | none => false
    | some k => k.heldOut.any fun o =>
        match o with | .write _ rkey a _ => rkey == r.rkey && r.base ≤ a && a < r.base + r.size * 32 | _ => false

/-- The drain of a queue has ended, its last completion placed: the response with the final CONS and the last SUBMIT_SEQ, and the queue is
ABSENT (R80, R81). LAST_SUBMIT_SEQ of a queue that has consumed nothing is 0xFFFFFFFF (DESIGN CHOICE, log entry 92). -/
def State.drainDone (s : State) (q : Nat) : State :=
  match s.queue? q with
  | none => s
  | some x =>
    if x.state != .draining || s.queueJobs q != 0 || s.completionHeld x.cr || s.power.mode == .hold then s
    else
      let o : MbOut := { result := mbFields [(0x08, toLe 2 x.cons), (0x0C, toLe 4 ((x.submitSeq + 2 ^ 32 - 1) % 2 ^ 32))], effect := true }
      let s := match s.mailbox.drains.find? (·.1 == q) with | some (_, c) => s.mbSend c o | none => s
      { s with
        mailbox.drains := s.mailbox.drains.filter fun (d : Nat × MbCommand) => d.1 != q
        fabric.queues := s.fabric.queues.filter (·.index != q) }

/-- WQ_DRAIN_DONE (R81). -/
def execWqDrainDone (t queue : Nat) (s : State) : Host.Outcome State Fault Refusal := .next ((s.advance t).drainDone queue)

end Sys2Proof.Machine
end

