-- ==== Sys2Proof/Machine/MbFirmware.lean ====
section
/-!
DEFINITION. Mailbox group 0x07xx, firmware and microcode, and group 0x08xx, event rings and their filters (12 R368 to R372; 03 R104, R105,
R108; 14 R417, R420, R424, R425; 17 R495).
-/
namespace Sys2Proof.Machine

/-! ### Staging (R369) -/

/-- The bank that is not running. -/
def State.otherBank (s : State) : Nat := 1 - s.firmware.running

/-- Replaces the contents and COMMIT_SERIAL of a bank. -/
def State.setBank (s : State) (i : Nat) (b : Bytes) (serial : Nat) : State :=
  if i == 0 then { s with firmware.bankA := b, firmware.serialA := serial } else { s with firmware.bankB := b, firmware.serialB := serial }

/-- FIRST: earlier staging and the bank's header are gone (R369). -/
def State.stageFirst (s : State) : State := { s.setBank s.otherBank [] 0 with firmware.stagedLen := 0 }

/-- The response of FW_STAGE carries STAGED_LEN. -/
def State.stagedResult (s : State) : Bytes := mbFields [(0x08, toLe 4 s.firmware.stagedLen)]

/-- FW_STAGE (R369). -/
def mbFwStage (s : State) (c : MbCommand) : State × MbReply :=
  let off := c.par 8 4
  let first := c.par 0x0C 1
  let n := c.bulk.length
  if n == 0 then (s, .answer { status := .lengthMismatch, result := s.stagedResult })
  else
    let want := if first == 1 then 0 else s.firmware.stagedLen
    if 1 < first || off != want || bankSize < off + n then (s, .answer { status := .mbRange, result := s.stagedResult })
    else
      let s := if first == 1 then s.stageFirst else s
      let b := s.bank s.otherBank
      let s := s.setBank s.otherBank (b.take off ++ c.bulk ++ b.drop (off + n)) (s.bankSerial s.otherBank)
      let s := { s with firmware.stagedLen := off + n }
      (s, .answer { result := s.stagedResult, effect := true })

/-! ### FW_COMMIT (R370) -/

/-- Compares every component through the Boot Digest unit, until one fails: none where the unit was busy. -/
def State.compareAll (s : State) (b : Bytes) : List Component → State × Option Bool
  | [] => (s, some true)
  | c :: rest =>
    if b.length < c.offset + c.length then (s, some false)
    else match s.readBack b c with
      | (s, none) => (s, none)
      | (s, some false) => (s, some false)
      | (s, some true) => s.compareAll b rest

/-- FW_COMMIT: the checks of R370 in their order, then the bank header. -/
def mbFwCommit (s : State) (c : MbCommand) : State × MbReply :=
  let b := (s.bank s.otherBank).take s.firmware.stagedLen
  if c.par 8 4 != s.firmware.stagedLen then (s, .refuse .mbStateConflict)
  else if !s.signerPermitted (manSigner b) || !s.manifestSigned b then (s, .refuse .signatureInvalid)
  else if !manifestForm b then (s, .refuse .malformedEncoding)
  else match s.compareAll b (components b) with
    | (s, none) => (s, .refuse .mbStateConflict)
    | (s, some false) => (s, .refuse .malformedEncoding)
    | (s, some true) =>
      if manSvn b < s.fusedSvn then (s, .refuse .mbRollback)
      else
        let serial := (s.bankSerial s.firmware.running + 1) % 2 ^ 32
        (s.setBank s.otherBank (s.bank s.otherBank) serial, .answer { result := mbFields [(0x08, toLe 4 serial)], effect := true })

/-! ### FW_CONFIRM (R371, R495) -/

/-- FW_CONFIRM: the bits up to RUNNING_SVN are blown one at a time, then source 201; VIN is judged as the command starts. -/
def mbFwConfirm (s : State) (c : MbCommand) : State × MbReply :=
  if c.wait == .none && s.power.vin < vinFull then (s, .refuse .mbVinLow)
  else if s.firmware.svn ≤ s.fusedSvn then (s, .refuse .mbStateConflict)
  else
    let s := { s with fuses.fwSvn := s.fusedSvn + 1 }
    if s.fusedSvn < s.firmware.svn then (s, .waits (.fuses 0 []))
    else
      let s := s.raise 201 []
      (s, .answer { result := mbFields [(0x08, toLe 4 s.fusedSvn)], effect := true })

/-! ### PATCH_LOAD (R104, R105, R108) -/

/-- Microcode kind of a KIND code. -/
def microKind (k : Nat) : Option MicroKind := match k with | 1 => some .press | 2 => some .cooper | 3 => some .dray | _ => none

/-- Fields of a signed patch of a kind, to which the spec gives no layout (log entry 45): valid signatures, PATCH_ID other than 0, the base
version it names, its words and nanowords. -/
def patchSigned (kind : Nat) (b : Bytes) : Bool := Config.stdHolds .patch kind [b]
def patchIdOf (b : Bytes) : Nat := 1 + Config.stdNat .patch 0 [b] % 65535
def patchBase (b : Bytes) : Nat := Config.stdNat .patch 1 [b] % 65536
def patchWords (b : Bytes) : Nat := Config.stdNat .patch 2 [b]
def patchNanowords (b : Bytes) : Nat := Config.stdNat .patch 3 [b]

/-- Largest patch of each kind: words and nanowords (R104). -/
def patchFits (k : MicroKind) (b : Bytes) : Bool :=
  match k with
  | .press => patchWords b ≤ 512 && patchNanowords b ≤ 64
  | .cooper => patchWords b ≤ 256 && patchNanowords b == 0
  | .dray => patchWords b ≤ 128 && patchNanowords b == 0

/-- The patch stands in the shadow stores (R105). -/
def State.loadPatch (s : State) (k : MicroKind) (b : Bytes) : State :=
  let v := s.vintage k
  let p := kindPool k
  let clear (e : Engine) : Engine := { e with switched := false }
  ((s.setPool p ((s.pool p).map clear)).setVintage k
    { v with patchId := patchIdOf b, patchState := .loaded, oldId := v.patchId, oldState := v.patchState, oldPatch := v.patch, patch := b }).startKats k

/-- PATCH_LOAD: answers once the shadow stores are written (R108). -/
def mbPatchLoad (s : State) (c : MbCommand) : State × MbReply :=
  match microKind (c.par 8 1) with
  | none => (s, .refuse .mbRange)
  | some k =>
    let v := s.vintage k
    if !patchSigned (c.par 8 1) c.bulk then (s, .refuse .signatureInvalid)
    else if patchBase c.bulk != v.base || v.patchState == .loaded then (s, .refuse .mbStateConflict)
    else if !patchFits k c.bulk then (s, .refuse .lengthMismatch)
    else (s.loadPatch k c.bulk, .ok)

/-- FW_STATUS. -/
def mbFwStatus (s : State) (_ : MbCommand) : State × MbReply :=
  (s, .info (mbFields [(0x08, toLe 1 s.firmware.running), (0x0C, toLe 4 s.firmware.stagedLen), (0x10, toLe 4 s.firmware.serialA),
    (0x14, toLe 4 s.firmware.serialB), (0x18, toLe 4 s.firmware.svn), (0x1C, toLe 4 s.fusedSvn)]))

/-! ### Event rings (R372, R417, R420, R425) -/

/-- Ring 2 + c needs carriage c. -/
def State.ringOwner (s : State) (r : Nat) : Bool := r < 2 || (s.carriage? (r - 2)).isSome

/-- ERING_CREATE; a control-master ring receives the early buffer. -/
def mbEringCreate (s : State) (c : MbCommand) : State × MbReply :=
  let r := c.par 8 2
  let log := c.par 0x0C 1
  if 4097 < r || log < 6 || 16 < log then (s, .refuse .mbRange)
  else if (s.ering? r).isSome || !s.ringOwner r || !s.ringConn (c.par 0x0A 2) then (s, .refuse .mbStateConflict)
  else
    let x : EventRing := { index := r, conn := c.par 0x0A 2, base := c.par 0x10 8, rkey := c.par 0x18 4, size := 2 ^ log }
    let s := { s with router.rings := s.router.rings ++ [x] }
    (if r < 2 then s.deliverEarly r else s, .ok)

/-- ERING_DESTROY. -/
def mbEringDestroy (s : State) (c : MbCommand) : State × MbReply :=
  let r := c.par 8 2
  if 4097 < r then (s, .refuse .mbRange)
  else if (s.ering? r).isNone || s.book.exportRing == some r then (s, .refuse .mbStateConflict)
  else ({ s with router.rings := s.router.rings.filter fun (x : EventRing) => x.index != r }, .ok)

/-- 64-bit instructions of a program. -/
def programOf (b : Bytes) (n : Nat) : List (BitVec 64) := (List.range n).map fun i => BitVec.ofNat 64 (le b (8 * i) 8)

/-- EFILTER_LOAD (R23, R424). -/
def mbEfilterLoad (s : State) (c : MbCommand) : State × MbReply :=
  let r := c.par 8 2
  let n := c.par 0x0A 1
  let prog := programOf c.bulk n
  if 4097 < r then (s, .refuse .mbRange)
  else if (s.ering? r).isNone then (s, .refuse .mbStateConflict)
  else if n == 0 || 32 < n || c.bulk.length != 8 * n then (s, .refuse .lengthMismatch)
  else if !filterOk prog then (s, .refuse .malformedEncoding)
  else
    let load (x : EventRing) : EventRing := { x with program := prog, buckets := fullBuckets prog s.clock.now }
    (s.modEring r load, .ok)

end Sys2Proof.Machine
end

