-- ==== Sys2Proof/Machine/MbPorts.lean ====
section
/-!
DEFINITION. Mailbox groups 0x09xx to 0x0Bxx: Express, ports and classifiers, Tasting and fuse repair (12 R373; 13 R374 to R384, R393, R405,
R408; 16 R462, R463, R477; 18 R525, R527, R530).
-/
namespace Sys2Proof.Machine

/-! ### Express (R462, R463, R477) -/

/-- EXPRESS_ENABLE: mask and addresses, kept in the journal; the reservation is taken, and Express is ready. -/
def mbExpressEnable (s : State) (c : MbCommand) : State × MbReply :=
  let mask := c.par 8 1
  if mask == 0 || 3 < mask then (s, .refuse .mbRange)
  else
    let s := { s with
      journal.expressMask := mask, journal.addrP0 := c.par 0x0C 4, journal.addrP4 := c.par 0x10 4
      express.enabled := true, express.closing := false, power.expressReady := true }
    (s.reserveExpress, .ok)

/-- EXPRESS_DISABLE: acceptance stops at once; the next epoch answers. -/
def mbExpressDisable (s : State) (_ : MbCommand) : State × MbReply :=
  ({ s with express.closing := s.express.enabled || s.express.closing, express.enabled := false, journal.expressMask := 0 }, .waits .epoch)

/-- Sources of a port with an outstanding frame (R469). -/
def State.activeSources (s : State) (port : Nat) : List (Nat × Nat) :=
  ((s.express.frames.filter fun f => f.frame.port == port).map fun f => (f.frame.srcAddr, f.frame.srcPort)).eraseDups

/-- The port is in PORT_MASK (R462). -/
def State.expressOn (s : State) (port : Nat) : Bool := bit s.journal.expressMask (port / 4)

/-- The record of a port (R477). -/
def State.expressRecord (s : State) (port : Nat) (x : ExpressPort) : Bytes :=
  toLe 1 port ++ toLe 1 (b2n (s.expressOn port)) ++ zeros 2 ++ toLe 4 (s.activeSources port).length ++
  (x.counters.map (toLe 8)).flatten ++ toLe 4 x.maxLatency ++ zeros 4

/-- EXPRESS_STATUS: 192 bytes. -/
def mbExpressStatus (s : State) (_ : MbCommand) : State × MbReply :=
  (s, .answer { bulk := s.expressRecord 0 s.express.p0 ++ s.expressRecord 4 s.express.p4 })

/-! ### Ports (R374 to R384) -/

/-- LANE_MODE is one of the table's, on a port that may lead it (R374). -/
def laneModeOk (port mode : Nat) : Bool :=
  [0x00, 0x01, 0x02, 0x11, 0x12, 0x21, 0x22].contains mode && port % groupSize mode == 0

/-- The non-zero weights sum to 100, or there is none (R384). -/
def etsOk (w : List Nat) : Bool := w.sum == 0 || w.sum == 100

/-- PORT_CONFIG; the bits that R377 gives as 0 are ignored (R10), and a port whose island is off takes the settings when it comes on
(R33, R36). -/
def mbPortConfig (s : State) (c : MbCommand) : State × MbReply :=
  let p := c.par 8 1
  let mode := c.par 9 1
  let mtu := c.par 0x0A 2
  let vlan := c.par 0x0C 2 % 4096
  let ets := (List.range 8).map fun i => c.par (0x10 + i) 1
  if 7 < p || !laneModeOk p mode || s.memberUnder Port.heldMode p || mtu < 1500 || 9216 < mtu || 4094 < vlan || !etsOk ets then
    (s, .refuse .mbRange)
  else (s.writePort p { laneMode := mode, mtu := mtu, vlan := vlan, pfcMask := c.par 0x0E 1, ets := ets }, .ok)

/-- CLASSIFIER_LOAD (R23, R36, R407); R405 judges the program frame by frame. -/
def mbClassifierLoad (s : State) (c : MbCommand) : State × MbReply :=
  let p := c.par 8 1
  let n := c.par 9 1
  if 7 < p then (s, .refuse .mbRange)
  else if n == 0 || 64 < n || c.bulk.length != 8 * n then (s, .refuse .lengthMismatch)
  else (s.writeProgram p (programOf c.bulk n), .ok)

/-- Tokens per second, and the depth of the bucket (R393). -/
def State.admitRate (s : State) : Nat := if s.power.softStartDone then 20000 else 2000
def State.admitDepth (s : State) : Nat := if s.power.softStartDone then 2000 else 200

/-- The admission bucket, refilled up to now (R393). -/
def State.refill (s : State) (p : Nat) : State :=
  if s.power.serviceEntry.isNone then s
  else
    let rate := s.admitRate
    let depth := s.admitDepth
    s.modPort p fun x =>
      let n := (s.clock.now - x.admitSince) * rate / 1000000000
      if depth ≤ x.admitTokens + n then { x with admitTokens := depth, admitSince := s.clock.now }
      else { x with admitTokens := x.admitTokens + n, admitSince := x.admitSince + n * 1000000000 / rate }

/-- IPV4 of a port: 0 once its lease has ended (R379). -/
def State.ipv4Of (s : State) (x : Port) : Nat :=
  match x.dhcp.lease with
  | some (_, last) => if last ≤ s.clock.now then 0 else x.ipv4
  | none => x.ipv4

/-- The record of a port (R408). -/
def State.portRecord (s : State) (p : Nat) (x : Port) : Bytes :=
  let conns := (s.fabric.conns.filter fun c => c.port == p && c.ready).length
  toLe 1 p ++ toLe 1 (linkCode x.link) ++ toLe 1 x.laneMode ++ toLe 1 (b2n !x.fecLanes.isEmpty) ++ toLe 2 x.mtu ++ toLe 2 x.vlan ++
  toLe 6 (s.macOf p) ++ zeros 2 ++ toBe 4 (s.ipv4Of x) ++ toLe 4 conns ++ padTo 16 x.ipv6 ++ toLe 4 x.admitTokens ++
  toLe 4 x.linkDowns ++ (x.counters.map (toLe 8)).flatten

/-- PORT_STATUS. -/
def mbPortStatus (s : State) (c : MbCommand) : State × MbReply :=
  let p := c.par 8 1
  let s := s.refill p
  match s.port? p with
  | some x => (s, .answer { bulk := s.portRecord p x })
  | none => (s, .refuse .mbRange)

/-! ### Tasting and repair (R525, R527, R530) -/

/-- TASTING_SET. -/
def mbTastingSet (s : State) (c : MbCommand) : State × MbReply :=
  let total := c.par 8 4
  let slice' := c.par 0x0C 4
  if total < 500 || 10000 < total || slice' < 1000 || 100000 < slice' then (s, .refuse .mbRange)
  else ({ s with tasting.totalMs := total, tasting.sliceUs := slice' }, .ok)

/-- A step that TASTING_LOAD accepts (R525). -/
def stepOk (b : Bytes) : Bool :=
  let island := memIsland (stepMem b)
  (island ≤ 57 || (island == 63 && memInstance (stepMem b) ≤ 7)) && 1 ≤ stepAlgo b && stepAlgo b ≤ 4 && stepFlags b ≤ 1 &&
  (stepBudget b == 0 || (1000 ≤ stepBudget b && stepBudget b ≤ 100000))

/-- TASTING_LOAD (R23). -/
def mbTastingLoad (s : State) (c : MbCommand) : State × MbReply :=
  let n := c.par 8 2
  if n == 0 || 1024 < n || c.bulk.length != 16 * n then (s, .refuse .lengthMismatch)
  else
    let steps := chunks 16 n c.bulk
    if steps.all stepOk then (s.loadSteps steps, .ok) else (s, .refuse .malformedEncoding)

/-- The status block (R527). -/
def State.tastingBlock (s : State) : Bytes :=
  let x := s.tasting
  padTo 32 x.seqDigest ++ toLe 2 x.cursor ++ toLe 2 x.stepCount ++ toLe 1 x.lastOutcome ++ toLe 1 (b2n x.criticalDone) ++ zeros 2 ++
  toLe 2 x.stepsRun ++ toLe 2 x.stepsUntested ++ toLe 4 x.totalMs ++ toLe 4 x.sliceUs ++ toLe 4 x.records.length ++ toLe 4 x.overflow ++
  toLe 4 x.retired.length

/-- A fault record (R527). -/
def FaultRec.bytes (r : FaultRec) : Bytes :=
  toLe 2 r.fault.memId ++ toLe 1 r.fault.kind ++ toLe 1 r.flags ++ toLe 4 r.fault.row ++ toLe 2 r.fault.column ++ toLe 1 r.fault.bit ++
  toLe 1 r.seen ++ toLe 4 r.firstBoot

/-- TASTING_RESULTS: up to 8,192 records. -/
def mbTastingResults (s : State) (c : MbCommand) : State × MbReply :=
  let rs := (s.tasting.records.drop (c.par 8 4)).take 8192
  (s, .answer { bulk := s.tastingBlock ++ (rs.map FaultRec.bytes).flatten })

/-- Two entries name one spare. -/
def sameSpare (a b : Nat) : Bool := repMem a == repMem b && repAxis a == repAxis b && repSpare a == repSpare b

/-- Some entry names a spare that is fused, or that an earlier entry of the command names. -/
def spareTaken (fused : List Nat) : List Nat → Bool
  | [] => false
  | e :: rest => fused.any (sameSpare e) || spareTaken (fused ++ [e]) rest

/-- FUSE_REPAIR: the preconditions of R373 in their order, then those of R530. -/
def mbFuseRepair (s : State) (c : MbCommand) : State × MbReply :=
  let n := c.par 8 2
  let es := (List.range n).map fun i => le c.bulk (4 * i) 4
  if s.power.mode != .provisioning then (s, .refuse .mbNotInMode)
  else if s.power.vin < vinFull then (s, .refuse .mbVinLow)
  else if !s.inTest && !s.hasRight rFuseRepair then (s, .refuse .mbRightsDenied)
  else if c.bulk.length != 4 * n then (s, .refuse .lengthMismatch)
  else if !es.all repairOk then (s, .refuse .malformedEncoding)
  else if spareTaken s.fuses.repair es then (s, .refuse .mbStateConflict)
  else if 64 < s.fuses.repair.length + n then (s, .refuse .quotaExceeded)
  else (({ s with fuses.repair := s.fuses.repair ++ es }).raise 200 [], .ok)

end Sys2Proof.Machine
end

