-- ==== Sys2Proof/Machine/PowerRows.lean ====
section
/-!
DEFINITION. Commands of the supply, the ladder, temperatures, rails, resets and tamper (18 R508 to R535; 19 R536 to R551).
-/
namespace Sys2Proof.Machine

/-- VIN above 60 V: the behaviour is unspecified (R536). -/
def vinMost : Nat := 60000

/-- A supply command with a VIN that the spec covers. -/
def withVin (vin : Nat) (s : State) : Host.Outcome State Fault Refusal := if vinMost < vin then .fault .vinAbove60V else .next s

/-! ### Start and reset -/

/-- VIN at or above VIN_START with nRESET deasserted leaves Off; in the power-up passage it lets Boot proceed (R508). -/
def State.vinRise (s : State) (vin : Nat) : State :=
  if vin < vinStart then s
  else match s.power.mode with
    | .off => if s.power.nResetLow then s.noteVin vin else (s.noteVin vin).enterPassage
    | .standby => s.noteVin vin
    | _ => s

/-- VIN_START (R508). -/
def execVinStart (t vin : Nat) (s : State) : Host.Outcome State Fault Refusal := withVin vin ((s.advance t).vinRise vin)

/-- nRESET is released (R508). -/
def State.resetReleased (s : State) (vin : Nat) : State :=
  let s := { s with power.nResetLow := false }
  if s.power.mode == .off && vinStart ≤ vin then (s.noteVin vin).enterPassage else s

/-- NRESET_DEASSERT (R508). -/
def execNresetDeassert (t vin : Nat) (s : State) : Host.Outcome State Fault Refusal := withVin vin ((s.advance t).resetReleased vin)

/-- nRESET is asserted: cause 2, and Off (R439, R508). -/
def State.resetAsserted (s : State) : State :=
  let s := { s with power.nResetLow := true }
  if s.power.mode == .off then s else (s.recordCause 2).powerOff

/-- NRESET_ASSERT (R508). -/
def execNresetAssert (t : Nat) (s : State) : Host.Outcome State Fault Refusal := .next (s.advance t).resetAsserted

/-- VIN falls below VIN_RESET: Off (R435, R508). -/
def State.vinFall (s : State) (vin : Nat) : State :=
  if vinReset ≤ vin then s else { (if s.power.mode == .off then s else s.powerOff) with power.vin := vin, power.vinGoodSince := none }

/-- VIN_RESET (R435). -/
def execVinReset (t vin : Nat) (s : State) : Host.Outcome State Fault Refusal := withVin vin ((s.advance t).vinFall vin)

/-- Every PLL has locked: Boot, unless VIN has not come back, a junction is hot or a zeroisation runs (R26, R508, R533, R545). -/
def State.pllsLocked (s : State) : State :=
  if s.power.mode == .standby && !s.power.parked && !s.power.zeroising && !s.power.hot && !s.power.vinWait && vinWarnReset ≤ s.power.vin then s.enterBoot else s

/-- PLL_LOCK (R26). -/
def execPllLock (t : Nat) (s : State) : Host.Outcome State Fault Refusal := .next (s.advance t).pllsLocked

/-- A PLL loses lock: beyond Standby a reset after which the module enters Recovery, ORDERLY cleared (R27; DEDUCED, log entry 101); in parked
Standby, of a PLL kept running, P0 goes idle, every session ends, and the power-up passage follows from the values of Boot entry, ORDERLY as
it is (R11, R25, R508). -/
def State.pllLost (s : State) (kept : Bool) : State :=
  if beyondStandby s.power.mode then { s with journal.orderly := false }.faultReset 3
  else if s.power.mode == .standby && s.power.parked && kept then
    s.mailbox.sessions.foldl (fun r x => r.raise 243 [x.id, 3]) s.afterReset.enterPassage
  else s

/-- PLL_LOSS_OF_LOCK (R27). -/
def execPllLossOfLock (t : Nat) (kept : Bool) (s : State) : Host.Outcome State Fault Refusal := .next ((s.advance t).pllLost kept)

/-- BOOT_END (R508). -/
def execBootEnd (t : Nat) (s : State) : Host.Outcome State Fault Refusal := .next (s.advance t).bootEnd.settle

/-- NWAKE: nWAKE acts only in parked Standby (R508, R511). -/
def execNwake (t : Nat) (s : State) : Host.Outcome State Fault Refusal :=
  let s := s.advance t
  .next (if s.power.mode == .standby && s.power.parked then s.wake else s)

/-- Express is ready: it resumes with the journalled mask, its engines reserved (R463, R474). -/
def State.expressNow (s : State) : State :=
  match s.power.mode with
  | .boot | .recovery | .service | .derated | .trainJoin =>
    if s.power.bootStuck || s.journal.expressMask == 0 then s
    else ({ s with power.expressReady := true, express.enabled := true, express.closing := false }).reserveExpress
  | _ => s

/-- EXPRESS_READY (R474). -/
def execExpressReady (t : Nat) (s : State) : Host.Outcome State Fault Refusal := .next (s.advance t).expressNow.settle

/-- VIN below VIN_WARN in Tasting cuts the step in progress and ends it; anywhere else as R516 says (R508, R526). -/
def State.vinWarned (s : State) (vin : Nat) : State :=
  if s.power.mode == .tasting then
    if vin < s.power.vinWarn then { (s.endTasting 3) with power.vin := vin, power.vinGoodSince := none } else s
  else s.vinWarnCrossing vin

/-- VIN_WARN_CROSSING (R516). -/
def execVinWarnCrossing (t vin : Nat) (s : State) : Host.Outcome State Fault Refusal :=
  withVin vin ((s.advance t).vinWarned vin).settle

/-! ### Derated (R519 to R523) -/

/-- VIN below 11.4 V for 50 us (R520). -/
def execVinLowDerate (t vin : Nat) (s : State) : Host.Outcome State Fault Refusal :=
  let s := s.advance t
  withVin vin (if vin < vinFull && s.power.mode != .off then ((s.noteVin vin).conditions).settle else s)

/-- 100 ms without a condition, VIN being at `vin` (R520). -/
def State.deratedTimer (s : State) (vin : Nat) : State :=
  let was := s.power.vinLow
  let s := s.noteVin vin
  if s.deratedNow then s.conditions
  else
    let s := if was || s.power.clearSince.isNone then { s with power.clearSince := some (s.clock.now - 100 * ms) } else s
    s.leaveDerated

/-- DERATED_EXIT_TIMER (R520). -/
def execDeratedExitTimer (t vin : Nat) (s : State) : Host.Outcome State Fault Refusal := withVin vin ((s.advance t).deratedTimer vin).settle

/-- One step up the ladder where the cap allows it (R521). -/
def State.ladderUp (s : State) (vin : Nat) : State :=
  let s := (s.noteVin vin).conditions
  if !ladderMode s.power.mode then s
  else
    let may := s.power.mode != .derated || s.deratedNow || s.clearLong
    let s := if may && s.power.ladder < s.ladderLimit then s.setLadder (s.power.ladder + 1) else s
    s.leaveDerated

/-- LADDER_STEP_UP (R521). -/
def execLadderStepUp (t vin : Nat) (s : State) : Host.Outcome State Fault Refusal := withVin vin ((s.advance t).ladderUp vin).settle

/-- Removes the top step (R521). -/
def State.ladderDown (s : State) : State := if 1 < s.power.ladder then s.setLadder (s.power.ladder - 1) else s

/-- Input power above 20 A x VIN for 1 ms while a Derated condition holds (R521). -/
def State.powerOver (s : State) (current vin : Nat) : State :=
  if s.deratedNow && ladderMode s.power.mode && 20000 < current then (s.ladderDown).raise 152 [current, vin] else s

/-- INPUT_POWER_OVER (R521). -/
def execInputPowerOver (t currentMa vin : Nat) (s : State) : Host.Outcome State Fault Refusal :=
  withVin vin (((s.advance t).noteVin vin).conditions.powerOver currentMa vin).settle

/-- A domain's rail fails (R542): an engine domain goes off until the next Boot, PD45 takes ports P4 to P7 with it, any other resets the
module. -/
def State.railFault (s : State) (d cause : Nat) : State :=
  if !s.domainOn d then s
  else
    let s := s.raise 153 [cause, d]
    if 4 ≤ d && d < 44 then
      ({ s with power.domainFaults := s.power.domainFaults ++ [d] }.domainOff d false).reserveExpress
    else if d == 45 then
      let s := [4, 5, 6, 7].foldl (fun s p => s.setLink p .fault) s
      let s := { s with power.domainFaults := s.power.domainFaults ++ [45], power.domains := s.power.domains.filter (· != 45) }
      (s.fabric.conns.filter fun c => 4 ≤ c.port).foldl (fun s c => s.failConnection c.index) s
    else s.faultReset 6

/-- RAIL_FAULT (R542): cause 1 under-voltage, 3 over-current. -/
def execRailFault (t domain : Nat) (overCurrent : Bool) (s : State) : Host.Outcome State Fault Refusal :=
  .next ((s.advance t).railFault domain (if overCurrent then 3 else 1)).settle

/-- The input current stays at 22 A for 50 us: source 152, then the rail that fails first, or steps off the ladder (R538, R542). -/
def State.currentLimit (s : State) (rail : Option Nat) (current vin : Nat) : State :=
  if s.power.mode == .off then s
  else
    let s := s.raise 152 [current, vin]
    match rail with
    | some d => s.railFault d 1
    | none => { s with power.currentLimited := true }

/-- CURRENT_LIMIT (R538). -/
def execCurrentLimit (t : Nat) (rail : Option Nat) (currentMa vin : Nat) (s : State) : Host.Outcome State Fault Refusal :=
  withVin vin (((s.advance t).noteVin vin).conditions.currentLimit rail currentMa vin).settle

/-- After the current limit has acted: one step off every 10 us at or above 21 A, one back every 100 ms below it (R542). -/
def State.currentStep (s : State) (current : Nat) : State :=
  if !s.power.currentLimited || !ladderMode s.power.mode then s
  else if 21000 ≤ current then
    if s.power.ladder ≤ 1 then s
    else (({ s with power.ladderCap := s.power.ladder - 1 }).fitLadder).raise 152 [current, s.power.vin]
  else
    let s := { s with power.ladderCap := min ladderUnits (s.power.ladderCap + 1) }
    let s := if s.power.ladder < s.ladderLimit then s.setLadder (s.power.ladder + 1) else s
    if s.power.ladderCap == ladderUnits then { s with power.currentLimited := false } else s

/-- CURRENT_STEP_TIMER (R542). -/
def execCurrentStepTimer (t currentMa : Nat) (s : State) : Host.Outcome State Fault Refusal :=
  .next ((s.advance t).currentStep currentMa).settle

/-- A junction reaches 100 C: throttling begins; at 105 C every step above step 2 goes (R523). -/
def State.thermalLimit (s : State) (sensor temp : Nat) : State :=
  if temp < 100000 || s.power.mode == .off then s
  else
    let s := { s with power.junction := temp }
    let s :=
      if s.power.thermal then s
      else
        let cap := if ladderMode s.power.mode then min s.power.ladderCap (max 1 s.power.ladder) else s.power.ladderCap
        ({ s with power.thermal := true, power.ladderCap := cap }.raise 151 [sensor, temp]).conditions
    if 105000 ≤ temp then { s with power.ladderCap := min s.power.ladderCap 2 }.fitLadder else s

/-- THERMAL_LIMIT (R523). -/
def execThermalLimit (t sensor temp : Nat) (s : State) : Host.Outcome State Fault Refusal :=
  .next ((s.advance t).thermalLimit sensor temp).settle

/-- Throttling: one step off every 10 ms at or above 100 C, one back every 100 ms below 95 C, until the ladder is where VIN allows
(R523). Below 95 C the PLLs may start again (R545). -/
def State.thermalStep (s : State) (temp : Nat) : State :=
  let s := { s with power.junction := temp, power.hot := s.power.hot && 95000 ≤ temp }
  if !s.power.thermal then s
  else if 105000 ≤ temp then { s with power.ladderCap := min s.power.ladderCap 2 }.fitLadder
  else if 100000 ≤ temp then { s with power.ladderCap := max 1 (s.power.ladder - 1) }.fitLadder
  else if 95000 ≤ temp then s
  else if { s with power.ladderCap := ladderUnits }.ladderLimit ≤ s.power.ladder || !ladderMode s.power.mode then
    { s with power.thermal := false, power.ladderCap := ladderUnits }.conditions
  else
    let s := { s with power.ladderCap := min ladderUnits (s.power.ladder + 1) }
    if s.power.ladder < s.ladderLimit then s.setLadder (s.power.ladder + 1) else s

/-- THERMAL_STEP_TIMER (R523). -/
def execThermalStepTimer (t temp : Nat) (s : State) : Host.Outcome State Fault Refusal := .next ((s.advance t).thermalStep temp).settle

/-- JUNCTION_OVERTEMP: cause 6, and the PLLs wait until every junction is below 95 C (R545). -/
def execJunctionOvertemp (t : Nat) (s : State) : Host.Outcome State Fault Refusal :=
  let s := s.advance t
  .next (if s.power.mode == .off then s else { s with power.hot := true }.faultReset 6)

/-- The lid reaches 80 C: source 150, again only after it has fallen below 75 C (R544). -/
def State.lidWarn (s : State) (temp : Nat) : State :=
  let s := { s with power.lid := temp }
  if temp < 75000 then { s with power.lidWarned := false }
  else if 80000 ≤ temp && !s.power.lidWarned && s.power.mode != .off then { s with power.lidWarned := true }.raise 150 [temp]
  else s

/-- LID_TEMP_WARN (R544). -/
def execLidTempWarn (t temp : Nat) (s : State) : Host.Outcome State Fault Refusal := .next ((s.advance t).lidWarn temp)

/-! ### Internal resets and tamper -/

/-- WATCHDOG_EXPIRY: cause 4 (R439). -/
def execWatchdogExpiry (t : Nat) (s : State) : Host.Outcome State Fault Refusal := .next ((s.advance t).faultReset 4)
/-- INTERNAL_FAULT: cause 6 (R508). -/
def execInternalFault (t : Nat) (s : State) : Host.Outcome State Fault Refusal := .next ((s.advance t).faultReset 6)

/-- TAMPER_MESH: source 193 with detail 1 while powered (R532; DEDUCED from detail 2 of R535, log entry 51). -/
def execTamperMesh (t : Nat) (s : State) : Host.Outcome State Fault Refusal :=
  let s := s.advance t
  .next (if s.power.mode == .off then s.tamperOff else s.tamper 193 [1])

/-- TAMPER_IN: source 194 with the input (R532). -/
def execTamperIn (t n : Nat) (s : State) : Host.Outcome State Fault Refusal :=
  let s := s.advance t
  .next (if 4 ≤ n then s else if s.power.mode == .off then s.tamperOff else s.tamper 194 [n])

/-- NZEROISE_ASSERT: source 195; nZEROISE is not watched in Off (R532). -/
def execNzeroiseAssert (t : Nat) (s : State) : Host.Outcome State Fault Refusal := .next ((s.advance t).tamper 195 [])

/-- VBAT_LOW: the seal share is cleared where the seal is in use; the next power-up zeroises (R535, R551). -/
def execVbatLow (t : Nat) (s : State) : Host.Outcome State Fault Refusal :=
  let s := s.advance t
  .next (if s.sealEnabled then { s with power.sealShare := false, power.sealLost := true } else s)

/-- The wipe of a zeroisation has ended: internal reset (R533). -/
def State.zeroised (s : State) : State :=
  if s.power.zeroising then { s with journal.zeroisePending := false }.internalReset else s

/-- ZEROISE_RESET (R533). -/
def execZeroiseReset (t : Nat) (s : State) : Host.Outcome State Fault Refusal := .next (s.advance t).zeroised

end Sys2Proof.Machine
end

