-- ==== Sys2Proof/Machine/MbRun.lean ====
section
/-!
DEFINITION. The mailbox at work: the command that runs and those that wait, what they wait for, and what is done at an epoch and at a
shutdown's end (09 R268, R563; 11 R341 to R343; 12 R347 to R359; 14 R441; 18 R517, R524).
-/
namespace Sys2Proof.Machine

/-- What a command of groups 0x00xx to 0x03xx does, by CODE. -/
def mbBodyLow (s : State) (c : MbCommand) : State × MbReply :=
  match c.code with
  | 0x0000 => mbHelloChallenge s c
  | 0x0001 => mbHelloProve s c
  | 0x0002 => mbVintageGet s c
  | 0x0003 => mbModuleInfo s c
  | 0x0004 => mbSessionClose s c
  | 0x0005 => mbQuoteGet s c
  | 0x0010 => mbRngInfo s c
  | 0x0100 => mbWqCreate s c
  | 0x0101 => mbWqDestroy s c
  | 0x0102 => mbCrCreate s c
  | 0x0103 => mbCrDestroy s c
  | 0x0104 => mbWqInfo s c
  | 0x0105 => mbConnInfo s c
  | 0x0200 => mbCarriageCreate s c
  | 0x0201 => mbCarriageResize s c
  | 0x0202 => mbCarriageDisable s c
  | 0x0203 => mbCarriageReset s c
  | 0x0204 => mbCarriageDestroy s c
  | 0x0205 => mbPmapSet s c
  | 0x0206 => mbWindowSet s c
  | 0x0207 => mbCarriageInfo s c
  | 0x0300 => mbCellarStatus s c
  | 0x0301 => mbSlotShare s c
  | 0x0302 => mbSlotUnshare s c
  | 0x0303 => mbSlotDestroy s c
  | 0x0304 => mbSlotInfo s c
  | 0x0305 => mbLowThresholdSet s c
  | 0x0306 => mbWrapkeyRoll s c
  | 0x0307 => mbBookExportSet s c
  | 0x0308 => mbBookRead s c
  | 0x0309 => mbLeafRelease s c
  | 0x030A => mbLeafReleaseGet s c
  | 0x030B => mbLeafAccept s c
  | 0x030C => mbIdentityCertGet s c
  | 0x030D => mbProvisionImport s c
  | _ => (s, .refuse .mbUnknownCommand)

/-- What a command of groups 0x04xx to 0x0Bxx does, by CODE. -/
def mbBodyHigh (s : State) (c : MbCommand) : State × MbReply :=
  match c.code with
  | 0x0400 => mbTrainStatus s c
  | 0x0401 => mbRosterSet s c
  | 0x0402 => mbTrainJoin s c
  | 0x0403 => mbTrainLeave s c
  | 0x0404 => mbRosterGet s c
  | 0x0500 => mbVinWarnSet s c
  | 0x0501 => mbDeratedClear s c
  | 0x0502 => if c.par 8 1 == 2 then mbWake s c else mbShutdown s c
  | 0x0503 => mbPressShareSet s c
  | 0x0504 => mbPowerStatus s c
  | 0x0520 => mbEntropyTestEnter s c
  | 0x0521 => mbEntropyTestRead s c
  | 0x0600 => mbProvisioningEnter s c
  | 0x0601 => mbProvisioningExit s c
  | 0x0602 => mbLcTransition s c
  | 0x0603 => mbDebugChallenge s c
  | 0x0604 => mbDebugAuth s c
  | 0x0700 => mbFwStage s c
  | 0x0701 => mbFwCommit s c
  | 0x0702 => mbFwConfirm s c
  | 0x0703 => mbPatchLoad s c
  | 0x0704 => mbFwStatus s c
  | 0x0800 => mbEringCreate s c
  | 0x0801 => mbEringDestroy s c
  | 0x0802 => mbEfilterLoad s c
  | 0x0900 => mbExpressEnable s c
  | 0x0901 => mbExpressDisable s c
  | 0x0902 => mbExpressStatus s c
  | 0x0A00 => mbPortConfig s c
  | 0x0A01 => mbClassifierLoad s c
  | 0x0A02 => mbPortStatus s c
  | 0x0B00 => mbTastingSet s c
  | 0x0B01 => mbTastingLoad s c
  | 0x0B02 => mbTastingResults s c
  | 0x0B03 => mbFuseRepair s c
  | _ => (s, .refuse .mbUnknownCommand)

/-- What a command does. -/
def mbBody (s : State) (c : MbCommand) : State × MbReply := if c.code < 0x0400 then mbBodyLow s c else mbBodyHigh s c

/-! ### Running and waiting (R354, R356, R441, R563) -/

/-- A command goes on later: WQ_DESTROY frees the mailbox at once, any other keeps it (R356). -/
def State.mbHold (s : State) (c : MbCommand) (w : MbWait) : State :=
  if c.code == 0x0101 then { s with mailbox.drains := s.mailbox.drains ++ [(c.par 8 2, c)] }
  else { s with mailbox.running := some { c with wait := w, since := if c.wait == w then c.since else s.clock.now } }

/-- The answer of a command, and the wake that follows the response of SHUTDOWN_WAKE with ACTION 2 (R366). -/
def State.mbDone (s : State) (c : MbCommand) (o : MbOut) : State :=
  let s := s.mbAnswer c o
  if c.code == 0x0502 && c.par 8 1 == 2 && o.status == .success then s.wake else s

/-- Runs a command, or goes on with it: one that appends a KEY_CHANGE entry first finds a place for it (R563). -/
def State.mbAttempt (s : State) (c : MbCommand) : State :=
  let s : State := { s with mailbox.running := none }
  if mbKeyChange c.code && !s.placeFree then s.mbHold c .place
  else match mbBody s c with
    | (s, .answer o) => s.mbDone c o
    | (s, .waits w) => s.mbHold c w

/-- The next command to run: in Recovery the first of group 0x00xx, else the first (R354, R441). -/
def State.mbNext (s : State) : Option MbCommand :=
  if s.power.mode == .recovery then s.mailbox.waiting.find? (fun c => c.code / 256 == 0) else s.mailbox.waiting.head?

/-- Runs commands one after another while none runs and one may; `fuel` bounds their number. -/
def State.mbPump : Nat → State → State
  | 0, s => s
  | fuel + 1, s =>
    if !s.mbAnswers || s.power.mode == .hold || s.mailbox.running.isSome then s
    else match s.mbNext with
      | none => s
      | some c =>
        let (s, ok) := ({ s with mailbox.waiting := s.mailbox.waiting.erase c }).mbAdmit c
        State.mbPump fuel (if ok then s.mbAttempt c else s)

/-- What is waited for may have come. -/
def MbWait.retries (w : MbWait) : Bool := match w with | .record | .place | .draw => true | .none | .epoch | .drain | .fuses _ _ => false

/-- In Hold the commands of group 0x00xx run, in order; one whose draw waits keeps its place, and those behind it wait too (R354, R358).
`fuel` bounds their number. -/
def State.mbHoldPump : Nat → State → State
  | 0, s => s
  | fuel + 1, s =>
    match s.mailbox.waiting.find? (fun c => c.code / 256 == 0) with
    | none => s
    | some c =>
      let (s', ok) := ({ s with mailbox.waiting := s.mailbox.waiting.erase c }).mbAdmit c
      if !ok then State.mbHoldPump fuel s'
      else match mbBody s' c with
        | (s', .answer o) => State.mbHoldPump fuel (s'.mbAnswer c o)
        | (_, .waits _) => s

/-- The command that runs tries again what it waited for, and then the others run (R268, R317, R358, R563). -/
def State.mbServe (s : State) : State :=
  if s.power.mode == .hold then s.mbHoldPump s.mailbox.waiting.length else
  let again := s.mbAnswers
  let s := match s.mailbox.running with
    | some c => if again && c.wait.retries then s.mbAttempt c else s
    | none => s
  s.mbPump (s.mailbox.waiting.length + 1)

/-- After a command: everything that waited for what it freed goes on. -/
def State.resume (s : State) : State :=
  let s := s.settle
  let s := if s.power.mode == .hold then s else s.flushPushes s.train.heldPushes.length
  s.mbServe

/-- The command that runs has fuses to blow. -/
def MbWait.blows (w : MbWait) : Bool := match w with | .fuses _ _ => true | _ => false

/-- A command that blows fuses goes on by one bit or stage while no command waits at the block (R487, R495; DESIGN CHOICE, log entries 2 and
111); Hold keeps it where it is. -/
def State.idleFuses (s : State) : State :=
  match s.mailbox.running with
  | some c => if c.wait.blows && s.mbAnswers && s.power.mode != .hold then (s.mbAttempt c).mbServe else s
  | none => s

/-! ### Arrival (R347, R350, R356, R358, R386) -/

/-- A command that arrives in Hold: group 0x00xx runs in its turn, any other is refused at once (R358). -/
def State.mbInHold (s : State) (c : MbCommand) : State :=
  if c.code / 256 == 0 then
    ({ s with mailbox.waiting := s.mailbox.waiting ++ [c] }).mbHoldPump (s.mailbox.waiting.length + 1)
  else (s.mbAdmit c).1

/-- A SEND arrives: refused on a data connection, held off when 32 commands wait. -/
def State.mbReceive (s : State) (conn : Nat) (msg : Bytes) (extra : List Nat) : State :=
  if s.rdmaConn conn then s.refuseRequest conn true
  else if !s.mbAnswers || !s.mailConn conn then s
  else if 32 ≤ s.mailbox.waiting.length then s.emit (.rnrNak conn)
  else
    let (s, c) := s.mbArrival conn msg extra
    if s.power.mode == .hold then s.mbInHold c else { s with mailbox.waiting := s.mailbox.waiting ++ [c] }

/-- A command of CODE `code` arrives; a SEND of another CODE is another row's. -/
def State.mbRow (s : State) (code conn : Nat) (msg : Bytes) (extra : List Nat) : State :=
  if le msg 0 2 == code then s.mbReceive conn msg extra else s

/-! ### The epoch (R158, R341 to R343, R463) -/

/-- Length of a scheduling epoch: 100 us (R341). -/
def epochLength : Nat := 100000

/-- A carriage at the boundary: shares anew, budgets refilled. -/
def Carriage.epoch (x : Carriage) : Carriage :=
  { x with
    shares := [0, 0, 0, 0, 0, 0]
    budgets := (List.range 19).map fun i =>
      let c := x.params.ceilings.getD i 0
      if c == 0 then 0 else min (budgetCap c) (x.budgets.getD i 0 + c) }

/-- The command that waited for the boundary answers. -/
def State.mbEpoch (s : State) : State :=
  match s.mailbox.running with
  | none => s
  | some c =>
    if c.wait != .epoch then s
    else
      let s : State := { s with mailbox.running := none }
      if c.code == 0x0201 then let (s, o) := s.resizeNow c; s.mbDone c o else s.mbDone c { effect := true }

/-- SCHEDULING_EPOCH: no boundary passes in Hold, where the scheduler stands still. -/
def State.epoch (s : State) : State :=
  if s.power.mode == .hold || s.clock.now < s.engines.epochAt + epochLength then s
  else
    let s := { s with
      engines.epochAt := s.clock.now
      engines.codeTileLimit := s.engines.nextLimit.getD s.engines.codeTileLimit, engines.nextLimit := none
      fabric.carriages := s.fabric.carriages.map Carriage.epoch }
    s.mbEpoch.returnExpress

/-- SCHEDULING_EPOCH (R341). -/
def execSchedulingEpoch (t : Nat) (s : State) : Host.Outcome State Fault Refusal := .next (s.advance t).epoch.resume

/-! ### Limits of the mailbox's waits (R268, R563) -/

/-- The command that runs has waited 10 ms for `w`. -/
def State.mbOverdue (s : State) (w : MbWait) : Option MbCommand :=
  match s.mailbox.running with
  | some c => if s.power.mode != .hold && c.wait == w && c.since + 10 * ms ≤ s.clock.now then some c else none
  | none => none

/-- RECORD_WAIT_TIMEOUT: a job, or the mailbox command, gives up its wait for a free record (R268). -/
def State.recordTimeout (s : State) (who : RecordWaiter) : State :=
  match who with
  | .job id => s.endIf id (fun j => j.phase == .waitRecord && j.waitSince + 10 * ms ≤ s.clock.now) .quotaExceeded false
  | .mailbox =>
    match s.mbOverdue .record with
    | none => s
    | some c =>
      let others := s.cellar.recordQueue.filter fun x => x != RecordWaiter.mailbox
      ({ s with mailbox.running := none, cellar.recordQueue := others }).mbDone c
        { status := .quotaExceeded, slot := some c.slot, carriage := s.slotOwner c.slot, record := (s.slotRecord? c.slot).map SlotRecord.index }

/-- RECORD_WAIT_TIMEOUT (R268). -/
def execRecordWaitTimeout (t : Nat) (who : RecordWaiter) (s : State) : Host.Outcome State Fault Refusal :=
  .next ((s.advance t).recordTimeout who).resume

/-- KEY_CHANGE_PLACE_TIMEOUT: no effect, and no entry, since no place is free (R563). -/
def State.placeTimeout (s : State) : State :=
  match s.mbOverdue .place with
  | none => s
  | some c => ({ s with mailbox.running := none }).mbSend c { status := .quotaExceeded }

/-- KEY_CHANGE_PLACE_TIMEOUT (R563). -/
def execKeyChangePlaceTimeout (t : Nat) (s : State) : Host.Outcome State Fault Refusal := .next (s.advance t).placeTimeout.resume

/-! ### A shutdown's end (R510, R524) -/

/-- Steps 4 and 5 of R524, and what follows the response. -/
def State.drainEnd (s : State) : State :=
  match s.power.shutdown with
  | none => s
  | some (action, taste) =>
    if !s.drained || s.power.mode == .hold then s
    else
      let s := { s with journal.orderly := true, power.shutdown := none }
      let s := match s.mailbox.running with
        | some c => (({ s with mailbox.running := none }).mbSend c { effect := true }).endSession c.session 4
        | none => s
      s.endShutdown action taste

/-- SHUTDOWN_DRAIN_DONE (R524). -/
def execShutdownDrainDone (t : Nat) (s : State) : Host.Outcome State Fault Refusal := .next (s.advance t).drainEnd.resume

/-! ### Rows of other families that let the mailbox go on -/

/-- JOB_RELEASE (R20). -/
def execJobRelease (t job : Nat) (s : State) : Host.Outcome State Fault Refusal := .next ((s.advance t).releaseDue job).resume

/-- RECOVERY_END (R438, R441). -/
def execRecoveryEnd (t : Nat) (s : State) : Host.Outcome State Fault Refusal := .next (s.advance t).recoveryEnd.resume

/-- HOLD_EXIT (R517, R358). -/
def execHoldExit (t vin : Nat) (s : State) : Host.Outcome State Fault Refusal := withVin vin ((s.advance t).exitHold vin).resume

/-! ### The rows (R361 to R373) -/

/-- MB_UNKNOWN_COMMAND: a CODE that no group table defines (R360). -/
def execMbUnknownCommand (t conn : Nat) (msg : Bytes) (s : State) : Host.Outcome State Fault Refusal :=
  let s := s.advance t
  .next (if mbDefined (le msg 0 2) then s else s.mbReceive conn msg []).resume

/-- A SHUTDOWN_WAKE whose ACTION satisfies `p`. -/
def State.shutdownRow (s : State) (p : Nat → Bool) (conn : Nat) (msg : Bytes) : State :=
  if p (le msg 8 1) then s.mbRow 0x0502 conn msg [] else s

/-- SHUTDOWN_WAKE_STANDBY: ACTION 0, and those that no other row takes (R524). -/
def execShutdownWakeStandby (t conn : Nat) (msg : Bytes) (s : State) : Host.Outcome State Fault Refusal :=
  .next ((s.advance t).shutdownRow (fun a => a == 0 || 2 < a) conn msg).resume
/-- SHUTDOWN_WAKE_RESET: ACTION 1 (R524). -/
def execShutdownWakeReset (t conn : Nat) (msg : Bytes) (s : State) : Host.Outcome State Fault Refusal :=
  .next ((s.advance t).shutdownRow (fun a => a == 1) conn msg).resume
/-- SHUTDOWN_WAKE_WAKE: ACTION 2 (R508). -/
def execShutdownWakeWake (t conn : Nat) (msg : Bytes) (s : State) : Host.Outcome State Fault Refusal :=
  .next ((s.advance t).shutdownRow (fun a => a == 2) conn msg).resume
/-- POWER_STATUS, with the input power and lid temperature measured (R366). -/
def execPowerStatus (t conn : Nat) (msg : Bytes) (inputMw lidMc : Nat) (s : State) : Host.Outcome State Fault Refusal :=
  .next ((s.advance t).mbRow 0x0504 conn msg [inputMw, lidMc]).resume
/-- ENTROPY_TEST_READ, with the samples captured (R326). -/
def execEntropyTestRead (t conn : Nat) (msg samples : Bytes) (failRep failProp : Nat) (s : State) : Host.Outcome State Fault Refusal :=
  .next ((s.advance t).mbRow 0x0521 conn msg (failRep :: failProp :: samples.map (·.toNat))).resume
/-- HELLO_CHALLENGE (R361). -/
def execHelloChallenge (t conn : Nat) (msg : Bytes) (s : State) : Host.Outcome State Fault Refusal := .next ((s.advance t).mbRow 0x0000 conn msg []).resume
/-- HELLO_PROVE (R361). -/
def execHelloProve (t conn : Nat) (msg : Bytes) (s : State) : Host.Outcome State Fault Refusal := .next ((s.advance t).mbRow 0x0001 conn msg []).resume
/-- VINTAGE_GET (R361). -/
def execVintageGet (t conn : Nat) (msg : Bytes) (s : State) : Host.Outcome State Fault Refusal := .next ((s.advance t).mbRow 0x0002 conn msg []).resume
/-- MODULE_INFO (R361). -/
def execModuleInfo (t conn : Nat) (msg : Bytes) (s : State) : Host.Outcome State Fault Refusal := .next ((s.advance t).mbRow 0x0003 conn msg []).resume
/-- SESSION_CLOSE (R361). -/
def execSessionClose (t conn : Nat) (msg : Bytes) (s : State) : Host.Outcome State Fault Refusal := .next ((s.advance t).mbRow 0x0004 conn msg []).resume
/-- QUOTE_GET (R361). -/
def execQuoteGet (t conn : Nat) (msg : Bytes) (s : State) : Host.Outcome State Fault Refusal := .next ((s.advance t).mbRow 0x0005 conn msg []).resume
/-- RNG_INFO (R361). -/
def execRngInfo (t conn : Nat) (msg : Bytes) (s : State) : Host.Outcome State Fault Refusal := .next ((s.advance t).mbRow 0x0010 conn msg []).resume
/-- WQ_CREATE (R362). -/
def execWqCreate (t conn : Nat) (msg : Bytes) (s : State) : Host.Outcome State Fault Refusal := .next ((s.advance t).mbRow 0x0100 conn msg []).resume
/-- WQ_DESTROY (R362). -/
def execWqDestroy (t conn : Nat) (msg : Bytes) (s : State) : Host.Outcome State Fault Refusal := .next ((s.advance t).mbRow 0x0101 conn msg []).resume
/-- CR_CREATE (R362). -/
def execCrCreate (t conn : Nat) (msg : Bytes) (s : State) : Host.Outcome State Fault Refusal := .next ((s.advance t).mbRow 0x0102 conn msg []).resume
/-- CR_DESTROY (R362). -/
def execCrDestroy (t conn : Nat) (msg : Bytes) (s : State) : Host.Outcome State Fault Refusal := .next ((s.advance t).mbRow 0x0103 conn msg []).resume
/-- WQ_INFO (R362). -/
def execWqInfo (t conn : Nat) (msg : Bytes) (s : State) : Host.Outcome State Fault Refusal := .next ((s.advance t).mbRow 0x0104 conn msg []).resume
/-- CONN_INFO (R362). -/
def execConnInfo (t conn : Nat) (msg : Bytes) (s : State) : Host.Outcome State Fault Refusal := .next ((s.advance t).mbRow 0x0105 conn msg []).resume
/-- CARRIAGE_CREATE (R363). -/
def execCarriageCreate (t conn : Nat) (msg : Bytes) (s : State) : Host.Outcome State Fault Refusal := .next ((s.advance t).mbRow 0x0200 conn msg []).resume
/-- CARRIAGE_RESIZE (R363). -/
def execCarriageResize (t conn : Nat) (msg : Bytes) (s : State) : Host.Outcome State Fault Refusal := .next ((s.advance t).mbRow 0x0201 conn msg []).resume
/-- CARRIAGE_DISABLE (R363). -/
def execCarriageDisable (t conn : Nat) (msg : Bytes) (s : State) : Host.Outcome State Fault Refusal := .next ((s.advance t).mbRow 0x0202 conn msg []).resume
/-- CARRIAGE_RESET (R363). -/
def execCarriageReset (t conn : Nat) (msg : Bytes) (s : State) : Host.Outcome State Fault Refusal := .next ((s.advance t).mbRow 0x0203 conn msg []).resume
/-- CARRIAGE_DESTROY (R363). -/
def execCarriageDestroy (t conn : Nat) (msg : Bytes) (s : State) : Host.Outcome State Fault Refusal := .next ((s.advance t).mbRow 0x0204 conn msg []).resume
/-- PMAP_SET (R363). -/
def execPmapSet (t conn : Nat) (msg : Bytes) (s : State) : Host.Outcome State Fault Refusal := .next ((s.advance t).mbRow 0x0205 conn msg []).resume
/-- WINDOW_SET (R363). -/
def execWindowSet (t conn : Nat) (msg : Bytes) (s : State) : Host.Outcome State Fault Refusal := .next ((s.advance t).mbRow 0x0206 conn msg []).resume
/-- CARRIAGE_INFO (R363). -/
def execCarriageInfo (t conn : Nat) (msg : Bytes) (s : State) : Host.Outcome State Fault Refusal := .next ((s.advance t).mbRow 0x0207 conn msg []).resume
/-- CELLAR_STATUS (R364). -/
def execCellarStatus (t conn : Nat) (msg : Bytes) (s : State) : Host.Outcome State Fault Refusal := .next ((s.advance t).mbRow 0x0300 conn msg []).resume
/-- SLOT_SHARE (R364). -/
def execSlotShare (t conn : Nat) (msg : Bytes) (s : State) : Host.Outcome State Fault Refusal := .next ((s.advance t).mbRow 0x0301 conn msg []).resume
/-- SLOT_UNSHARE (R364). -/
def execSlotUnshare (t conn : Nat) (msg : Bytes) (s : State) : Host.Outcome State Fault Refusal := .next ((s.advance t).mbRow 0x0302 conn msg []).resume
/-- SLOT_DESTROY (R364). -/
def execSlotDestroy (t conn : Nat) (msg : Bytes) (s : State) : Host.Outcome State Fault Refusal := .next ((s.advance t).mbRow 0x0303 conn msg []).resume
/-- SLOT_INFO (R364). -/
def execSlotInfo (t conn : Nat) (msg : Bytes) (s : State) : Host.Outcome State Fault Refusal := .next ((s.advance t).mbRow 0x0304 conn msg []).resume
/-- LOW_THRESHOLD_SET (R364). -/
def execLowThresholdSet (t conn : Nat) (msg : Bytes) (s : State) : Host.Outcome State Fault Refusal := .next ((s.advance t).mbRow 0x0305 conn msg []).resume
/-- WRAPKEY_ROLL (R364). -/
def execWrapkeyRoll (t conn : Nat) (msg : Bytes) (s : State) : Host.Outcome State Fault Refusal := .next ((s.advance t).mbRow 0x0306 conn msg []).resume
/-- BOOK_EXPORT_SET (R364). -/
def execBookExportSet (t conn : Nat) (msg : Bytes) (s : State) : Host.Outcome State Fault Refusal := .next ((s.advance t).mbRow 0x0307 conn msg []).resume
/-- BOOK_READ (R364). -/
def execBookRead (t conn : Nat) (msg : Bytes) (s : State) : Host.Outcome State Fault Refusal := .next ((s.advance t).mbRow 0x0308 conn msg []).resume
/-- LEAF_RELEASE (R364). -/
def execLeafRelease (t conn : Nat) (msg : Bytes) (s : State) : Host.Outcome State Fault Refusal := .next ((s.advance t).mbRow 0x0309 conn msg []).resume
/-- LEAF_RELEASE_GET (R364). -/
def execLeafReleaseGet (t conn : Nat) (msg : Bytes) (s : State) : Host.Outcome State Fault Refusal := .next ((s.advance t).mbRow 0x030A conn msg []).resume
/-- LEAF_ACCEPT (R364). -/
def execLeafAccept (t conn : Nat) (msg : Bytes) (s : State) : Host.Outcome State Fault Refusal := .next ((s.advance t).mbRow 0x030B conn msg []).resume
/-- IDENTITY_CERT_GET (R364). -/
def execIdentityCertGet (t conn : Nat) (msg : Bytes) (s : State) : Host.Outcome State Fault Refusal := .next ((s.advance t).mbRow 0x030C conn msg []).resume
/-- PROVISION_IMPORT (R364). -/
def execProvisionImport (t conn : Nat) (msg : Bytes) (s : State) : Host.Outcome State Fault Refusal := .next ((s.advance t).mbRow 0x030D conn msg []).resume
/-- TRAIN_STATUS (R365). -/
def execTrainStatus (t conn : Nat) (msg : Bytes) (s : State) : Host.Outcome State Fault Refusal := .next ((s.advance t).mbRow 0x0400 conn msg []).resume
/-- ROSTER_SET (R365). -/
def execRosterSet (t conn : Nat) (msg : Bytes) (s : State) : Host.Outcome State Fault Refusal := .next ((s.advance t).mbRow 0x0401 conn msg []).resume
/-- TRAIN_JOIN (R365). -/
def execTrainJoin (t conn : Nat) (msg : Bytes) (s : State) : Host.Outcome State Fault Refusal := .next ((s.advance t).mbRow 0x0402 conn msg []).resume
/-- TRAIN_LEAVE (R365). -/
def execTrainLeave (t conn : Nat) (msg : Bytes) (s : State) : Host.Outcome State Fault Refusal := .next ((s.advance t).mbRow 0x0403 conn msg []).resume
/-- ROSTER_GET (R365). -/
def execRosterGet (t conn : Nat) (msg : Bytes) (s : State) : Host.Outcome State Fault Refusal := .next ((s.advance t).mbRow 0x0404 conn msg []).resume
/-- VIN_WARN_SET (R366). -/
def execVinWarnSet (t conn : Nat) (msg : Bytes) (s : State) : Host.Outcome State Fault Refusal := .next ((s.advance t).mbRow 0x0500 conn msg []).resume
/-- DERATED_CLEAR (R366). -/
def execDeratedClear (t conn : Nat) (msg : Bytes) (s : State) : Host.Outcome State Fault Refusal := .next ((s.advance t).mbRow 0x0501 conn msg []).resume
/-- PRESS_SHARE_SET (R366). -/
def execPressShareSet (t conn : Nat) (msg : Bytes) (s : State) : Host.Outcome State Fault Refusal := .next ((s.advance t).mbRow 0x0503 conn msg []).resume
/-- ENTROPY_TEST_ENTER (R366). -/
def execEntropyTestEnter (t conn : Nat) (msg : Bytes) (s : State) : Host.Outcome State Fault Refusal := .next ((s.advance t).mbRow 0x0520 conn msg []).resume
/-- PROVISIONING_ENTER (R367). -/
def execProvisioningEnter (t conn : Nat) (msg : Bytes) (s : State) : Host.Outcome State Fault Refusal := .next ((s.advance t).mbRow 0x0600 conn msg []).resume
/-- PROVISIONING_EXIT (R367). -/
def execProvisioningExit (t conn : Nat) (msg : Bytes) (s : State) : Host.Outcome State Fault Refusal := .next ((s.advance t).mbRow 0x0601 conn msg []).resume
/-- LC_TRANSITION (R367). -/
def execLcTransition (t conn : Nat) (msg : Bytes) (s : State) : Host.Outcome State Fault Refusal := .next ((s.advance t).mbRow 0x0602 conn msg []).resume
/-- DEBUG_CHALLENGE (R367). -/
def execDebugChallenge (t conn : Nat) (msg : Bytes) (s : State) : Host.Outcome State Fault Refusal := .next ((s.advance t).mbRow 0x0603 conn msg []).resume
/-- DEBUG_AUTH (R367). -/
def execDebugAuth (t conn : Nat) (msg : Bytes) (s : State) : Host.Outcome State Fault Refusal := .next ((s.advance t).mbRow 0x0604 conn msg []).resume
/-- FW_STAGE (R368). -/
def execFwStage (t conn : Nat) (msg : Bytes) (s : State) : Host.Outcome State Fault Refusal := .next ((s.advance t).mbRow 0x0700 conn msg []).resume
/-- FW_COMMIT (R368). -/
def execFwCommit (t conn : Nat) (msg : Bytes) (s : State) : Host.Outcome State Fault Refusal := .next ((s.advance t).mbRow 0x0701 conn msg []).resume
/-- FW_CONFIRM (R368). -/
def execFwConfirm (t conn : Nat) (msg : Bytes) (s : State) : Host.Outcome State Fault Refusal := .next ((s.advance t).mbRow 0x0702 conn msg []).resume
/-- PATCH_LOAD (R368). -/
def execPatchLoad (t conn : Nat) (msg : Bytes) (s : State) : Host.Outcome State Fault Refusal := .next ((s.advance t).mbRow 0x0703 conn msg []).resume
/-- FW_STATUS (R368). -/
def execFwStatus (t conn : Nat) (msg : Bytes) (s : State) : Host.Outcome State Fault Refusal := .next ((s.advance t).mbRow 0x0704 conn msg []).resume
/-- ERING_CREATE (R372). -/
def execEringCreate (t conn : Nat) (msg : Bytes) (s : State) : Host.Outcome State Fault Refusal := .next ((s.advance t).mbRow 0x0800 conn msg []).resume
/-- ERING_DESTROY (R372). -/
def execEringDestroy (t conn : Nat) (msg : Bytes) (s : State) : Host.Outcome State Fault Refusal := .next ((s.advance t).mbRow 0x0801 conn msg []).resume
/-- EFILTER_LOAD (R372). -/
def execEfilterLoad (t conn : Nat) (msg : Bytes) (s : State) : Host.Outcome State Fault Refusal := .next ((s.advance t).mbRow 0x0802 conn msg []).resume
/-- EXPRESS_ENABLE (R373). -/
def execExpressEnable (t conn : Nat) (msg : Bytes) (s : State) : Host.Outcome State Fault Refusal := .next ((s.advance t).mbRow 0x0900 conn msg []).resume
/-- EXPRESS_DISABLE (R373). -/
def execExpressDisable (t conn : Nat) (msg : Bytes) (s : State) : Host.Outcome State Fault Refusal := .next ((s.advance t).mbRow 0x0901 conn msg []).resume
/-- EXPRESS_STATUS (R373). -/
def execExpressStatus (t conn : Nat) (msg : Bytes) (s : State) : Host.Outcome State Fault Refusal := .next ((s.advance t).mbRow 0x0902 conn msg []).resume
/-- PORT_CONFIG (R373). -/
def execPortConfig (t conn : Nat) (msg : Bytes) (s : State) : Host.Outcome State Fault Refusal := .next ((s.advance t).mbRow 0x0A00 conn msg []).resume
/-- CLASSIFIER_LOAD (R373). -/
def execClassifierLoad (t conn : Nat) (msg : Bytes) (s : State) : Host.Outcome State Fault Refusal := .next ((s.advance t).mbRow 0x0A01 conn msg []).resume
/-- PORT_STATUS (R373). -/
def execPortStatus (t conn : Nat) (msg : Bytes) (s : State) : Host.Outcome State Fault Refusal := .next ((s.advance t).mbRow 0x0A02 conn msg []).resume
/-- TASTING_SET (R373). -/
def execTastingSet (t conn : Nat) (msg : Bytes) (s : State) : Host.Outcome State Fault Refusal := .next ((s.advance t).mbRow 0x0B00 conn msg []).resume
/-- TASTING_LOAD (R373). -/
def execTastingLoad (t conn : Nat) (msg : Bytes) (s : State) : Host.Outcome State Fault Refusal := .next ((s.advance t).mbRow 0x0B01 conn msg []).resume
/-- TASTING_RESULTS (R373). -/
def execTastingResults (t conn : Nat) (msg : Bytes) (s : State) : Host.Outcome State Fault Refusal := .next ((s.advance t).mbRow 0x0B02 conn msg []).resume
/-- FUSE_REPAIR (R373). -/
def execFuseRepair (t conn : Nat) (msg : Bytes) (s : State) : Host.Outcome State Fault Refusal := .next ((s.advance t).mbRow 0x0B03 conn msg []).resume

end Sys2Proof.Machine
end

