-- ==== Sys2Proof/Machine/Queues.lean ====
section
/-!
DEFINITION. Ring writes, doorbells, credit words, prefetch, and the entries that reach no engine (02 R46 to R58, R59, R67, R74;
13 R397 to R399).
-/
namespace Sys2Proof.Machine

/-! ### The doorbell window -/

/-- Counts a dropped window write of the connection (R52). -/
def State.dropWindow (s : State) (conn : Nat) : State :=
  s.modConn conn fun k => { k with windowDropped := satAdd 64 k.windowDropped 1 }

/-- Counts a dropped doorbell in the queue that its offset names (R52). -/
def State.dropDoorbell (s : State) (conn q : Nat) : State :=
  (s.dropWindow conn).modQueue q fun x => { x with droppedWrites := satAdd 64 x.droppedWrites 1 }

/-- One index of an INV range (R57). -/
def WorkQueue.invalidate (q : WorkQueue) (i : Nat) : WorkQueue :=
  let d := (i + 65536 - q.cons) % 65536
  if d < q.size then { q with cache := q.cache.filter (·.1 != i) }
  else if 65536 - q.size ≤ d then { q with ring := q.ring.write (i % q.size * 64 + 63) 0 }
  else { q with invIgnored := satAdd 64 q.invIgnored 1 }

/-- The INV of a doorbell (R57, R58). -/
def WorkQueue.inv (q : WorkQueue) (first count : Nat) : WorkQueue :=
  if q.size == 65536 then { q with invIgnored := satAdd 64 q.invIgnored 1 }
  else (List.range count).foldl (fun q i => q.invalidate ((first + i) % 65536)) q

/-- PROD_INDEX of a doorbell: the run goes on to the farther of its end and the new one (R50). -/
def WorkQueue.ring' (q : WorkQueue) (prod : Nat) : WorkQueue :=
  let d := (prod + 65536 - q.cons) % 65536
  let old := match q.target with | some t => (t + 65536 - q.cons) % 65536 | none => 0
  if 1 ≤ d && d ≤ q.size then
    { q with target := some (if old < d then prod else (q.target.getD prod)), state := if q.state == .idle then .active else q.state }
  else q

/-- A doorbell word (R49 to R52). -/
def State.doorbellWord (s : State) (conn q : Nat) (w : Bytes) : State :=
  match s.queue? q with
  | none => s.dropWindow conn
  | some x =>
    if x.conn != conn || x.state == .draining then s.dropDoorbell conn q
    else
      let prod := le w 0 2
      let inv := bit (le w 2 2) 0
      let s := if inv then s.modQueue q fun x => x.inv (le w 4 2) (le w 6 2) else s
      (s.modQueue q fun x => x.ring' prod).runQueue q

/-- A credit word (R67). -/
def State.creditWord (s : State) (conn r : Nat) (w : Bytes) : State :=
  let ignore (s : State) : State := s.modConn conn fun k => { k with creditsIgnored := satAdd 64 k.creditsIgnored 1 }
  match s.cring? r with
  | none => ignore s
  | some x =>
    if x.conn != conn then ignore s
    else
      let c := le w 0 2
      let move := (c + 65536 - x.crCons) % 65536
      let unread := (x.count + 65536 - x.crCons) % 65536
      if unread < move then ignore s else (s.modCring r fun x => { x with crCons := c }).settle

/-- One word of the window: a doorbell in the first 512 KiB, a credit word in the second. -/
def State.windowWord (s : State) (conn off : Nat) (w : Bytes) : State :=
  if off < 0x80000 then s.doorbellWord conn (off / 8) w else s.creditWord conn ((off - 0x80000) / 8) w

/-- Words of a window write in ascending address order (R52). -/
def State.windowWords (s : State) (conn off : Nat) (data : Bytes) : State :=
  (chunks 8 data.length data).zipIdx.foldl (fun s (w, i) => s.windowWord conn (off + 8 * i) w) s

/-- A window write that is not made of whole aligned words is dropped, and counted in the queue its offset names (R52). -/
def State.windowWrite (s : State) (conn off : Nat) (data : Bytes) : State :=
  if off % 8 == 0 && data.length % 8 == 0 then s.windowWords conn off data
  else if off < 0x80000 && (s.queue? (off / 8)).isSome then s.dropDoorbell conn (off / 8)
  else s.dropWindow conn

/-- Places one packet of a host's RDMA WRITE (R46, R52, R399). -/
def State.placePacket (conn : Nat) (s : State) (r : Region) (off : Nat) (data : Bytes) : State :=
  match r with
  | .ring q => s.modQueue q fun x => { x with ring := x.ring.writeBytes off data }
  | .window _ => s.windowWrite conn off data
  | .memory c => s.modCarriage c fun x => { x with mem := x.mem.writeBytes off data }

/-- RING_ENTRY_WRITE (R46, R397, R398). -/
def execRingEntryWrite (t conn rkey addr : Nat) (data : Bytes) (s : State) : Host.Outcome State Fault Refusal :=
  .next ((s.advance t).rdmaWrite conn rkey addr data (State.placePacket conn))

/-- DOORBELL (R49 to R52, R57). -/
def execDoorbell (t conn offset : Nat) (data : Bytes) (s : State) : Host.Outcome State Fault Refusal :=
  .next ((s.advance t).rdmaWrite conn (0x80000000 + conn) (doorbellAddr + offset) data (State.placePacket conn))

/-- CREDIT_WORD (R67). -/
def execCreditWord (t conn offset : Nat) (data : Bytes) (s : State) : Host.Outcome State Fault Refusal :=
  .next ((s.advance t).rdmaWrite conn (0x80000000 + conn) (doorbellAddr + offset) data (State.placePacket conn))

/-! ### Prefetch (R54) -/

/-- Prefetched entries in all. -/
def State.prefetched (s : State) : Nat := (s.fabric.queues.map (·.cache.length)).sum

/-- Caches posted entries from index `i` on; `fuel` bounds their number. Answers the queue and the index after the last. -/
def WorkQueue.readAhead : Nat → WorkQueue → Nat → Nat → WorkQueue × Nat
  | 0, q, _, i => (q, i)
  | fuel + 1, q, room, i =>
    match q.cache.find? (·.1 == i) with
    | some (_, e) => if entPosted e then readAhead fuel q room ((i + 1) % 65536) else (q, i)
    | none =>
      let e := q.ring.readBytes (i % q.size * 64) 64
      if room == 0 || 8 ≤ q.cache.length || !entPosted e then (q, i)
      else readAhead fuel { q with cache := q.cache ++ [(i, e)] } (room - 1) ((i + 1) % 65536)

/-- Reads ahead, and with `consume` consumes what it has read (R53, R54). -/
def State.prefetch (s : State) (qi count : Nat) (consume : Bool) : State :=
  match s.queue? qi with
  | none => s
  | some q =>
    if q.state == .broken || q.state == .draining then s
    else
      let (q', stop) := q.readAhead (min count 8) (32768 - s.prefetched) q.cons
      let s := s.modQueue qi fun _ => q'
      if consume then (s.modQueue qi fun q => q.ring' stop).runQueue qi else s

/-- PREFETCH (R53, R54). -/
def execPrefetch (t queue count : Nat) (consume : Bool) (s : State) : Host.Outcome State Fault Refusal :=
  .next ((s.advance t).prefetch queue count consume)

/-! ### Entries that reach no engine -/

/-- UNKNOWN_OPCODE_ENTRY: an entry that fails step 2 (R59, R60). -/
def execUnknownOpcodeEntry (t job : Nat) (s : State) : Host.Outcome State Fault Refusal :=
  let s := s.advance t
  match s.job? job with
  | some j => .next (if j.phase == .unknown then (s.failJob job .unknownOpcode false).settle else s)
  | none => .next s

/-- NOP: SUCCESS with no output but the trailer, honouring FENCE (R74). -/
def execNop (t job : Nat) (s : State) : Host.Outcome State Fault Refusal :=
  let s := s.advance t
  match s.control? job .nop with
  | some _ => .next (s.failJob job .success true).settle
  | none => .next s

end Sys2Proof.Machine
end

