-- ==== Sys2Proof/Machine/Transport.lean ====
section
/-!
DEFINITION. RoCE connections: admission, their end, congestion, and RDMA requests and answers in both directions (13 R385 to R399; 02 R69;
14 R418, R421).
-/
namespace Sys2Proof.Machine

/-- Adds to counter `i` of a port (R408). -/
def State.countPort (s : State) (p i n : Nat) : State := s.modPort p fun x => { x with counters := x.counters.modify i fun v => satAdd 64 v n }

/-- The port's link is up. -/
def State.linkIsUp (s : State) (p : Nat) : Bool := match s.port? p with | some x => x.link == .up | none => false

/-! ### Admission (R390 to R394) -/

/-- Service identifiers (R390). -/
def dataService : Nat := 0x884001
def mailboxService : Nat := 0x8840FF

/-- Rate of a port in Mbit/s: 100 Gbit/s a lane (R374). -/
def State.portRate (s : State) (p : Nat) : Nat := match s.port? p with | some x => 100000 * groupSize x.laneMode | none => 100000

/-- The mode and port admit the service (step 2 of R392). -/
def State.admitsService (s : State) (p : Nat) (mailbox : Bool) : Bool :=
  if mailbox then s.mbAnswers && (s.power.mode != .standby || p == 0)
  else [Mode.service, .derated, .trainJoin, .debug].contains s.power.mode

/-- The path MTU is one the module takes, and fits the port (R387). -/
def State.pathMtuOk (s : State) (p mtu : Nat) : Bool :=
  (mtu == 1024 || mtu == 2048 || mtu == 4096) && (match s.port? p with | some x => mtu + 80 ≤ x.mtu | none => false)

/-- A queue, completion ring or event ring names the connection (R391). -/
def State.connNamed (s : State) (c : Nat) : Bool :=
  s.fabric.queues.any (·.conn == c) || s.fabric.rings.any (·.conn == c) || s.router.rings.any (·.conn == c)

/-- The index cannot be given to a new connection: it is in use, or still named (R391). -/
def State.connTaken (s : State) (c : Nat) : Bool := s.connNamed c || s.fabric.conns.any fun k => k.index == c && k.ready

/-- A CONN_INDEX for a new connection (step 5 of R392, R391, log entry 6). -/
def State.freeConn (s : State) : Option Nat :=
  let used := s.fabric.conns.length + s.fabric.queues.length + s.fabric.rings.length + s.router.rings.length
  let i := anyFree "connection" (s.useNo used) 65536 used s.connTaken
  if 65536 ≤ i || s.connTaken i || 65536 ≤ (s.fabric.conns.filter (·.ready)).length then none else some i

/-- Milliseconds until the bucket next holds a token, rounded up; before Service entry the spec gives no refill (R393, R394). -/
def State.retryMs (s : State) (x : Port) : Nat :=
  if s.power.serviceEntry.isNone then Config.freeNat "retry" s.clock.now
  else (x.admitSince + 1000000000 / s.admitRate - s.clock.now + ms - 1) / ms

/-- Sends a REJ: at most 100,000 a second from a port, and REQs beyond are dropped unanswered (R394). -/
def State.rejectReq (s : State) (p reason cause retry : Nat) : State :=
  match s.port? p with
  | none => s
  | some x =>
    let (n, since) := if x.rejs.1 == 0 || x.rejs.2 + 1000 * ms ≤ s.clock.now then (0, s.clock.now) else x.rejs
    if 100000 ≤ n then s.countPort p 15 1
    else
      ((s.modPort p fun x => { x with rejs := (n + 1, since) }).countPort p 14 1).emit
        (.cmRej p reason (toLe 2 1 ++ toLe 1 cause ++ zeros 1 ++ toLe 4 retry))

/-- Refuses for want of a token: RETRY_MS with a spread of 0 to 999 ms from the port's LFSR (R394, log entry 6). -/
def State.rejectToken (s : State) (p : Nat) : State :=
  match s.port? p with
  | none => s
  | some x =>
    let spread := Config.freeNat "spread" (p * 2 ^ 64 + x.lfsr) % 1000
    (s.modPort p fun x => { x with lfsr := x.lfsr + 1 }).rejectReq p 28 6 (s.retryMs x + spread)

/-- Private data of a REP (R391). -/
def State.repData (s : State) (c : Nat) (mailbox : Bool) : Bytes :=
  toLe 2 1 ++ toLe 2 c ++ toLe 4 (if mailbox then 0 else 0x80000000 + c) ++ toLe 8 (if mailbox then 0 else doorbellAddr) ++
  padTo 16 s.fuses.uniqueId ++ toLe 2 s.deviceIndex ++ toLe 2 3 ++ zeros 4

/-- Admits a REQ: a new connection, a token taken for data, and the REP (R391 to R393). -/
def State.admitReq (s : State) (p c : Nat) (req : CmReq) (mailbox : Bool) : State :=
  let k : Connection := { index := c, mailbox := mailbox, port := p, req := req, rate := s.portRate p, firstOut := s.sent.length }
  let s := { s with fabric.conns := (s.fabric.conns.filter fun (y : Connection) => y.index != c) ++ [k] }
  let s := if mailbox then s else s.modPort p fun x => { x with admitTokens := x.admitTokens - 1 }
  (s.countPort p 13 1).emit (.cmRep c (s.repData c mailbox))

/-- Tokens in the bucket. -/
def State.tokens (s : State) (p : Nat) : Nat := match s.port? p with | some x => x.admitTokens | none => 0

/-- A REQ on a port whose link is up, in a mode that answers REQs: the checks of R392 in their order. -/
def State.cmReq (s : State) (p : Nat) (req : CmReq) : State :=
  let mailbox := req.serviceId == mailboxService
  if !s.linkIsUp p || s.power.mode == .boot || s.power.mode == .tasting then s
  else
    let s := s.refill p
    if !mailbox && req.serviceId != dataService then s.rejectReq p 8 1 0
    else if !s.admitsService p mailbox then s.rejectReq p 28 2 1000
    else if mailbox && 4 ≤ (s.fabric.conns.filter fun k => k.mailbox && k.ready).length then s.rejectReq p 28 3 0
    else if !s.pathMtuOk p req.pathMtu then s.rejectReq p 5 4 0
    else match s.freeConn with
      | none => s.rejectReq p 1 5 1000
      | some c => if !mailbox && s.tokens p == 0 then s.rejectToken p else s.admitReq p c req mailbox

/-- CM_REQ (R392). -/
def execCmReq (t port : Nat) (req : CmReq) (s : State) : Host.Outcome State Fault Refusal := .next ((s.advance t).cmReq port req)

/-- CM_RTU (R390). -/
def execCmRtu (t conn : Nat) (s : State) : Host.Outcome State Fault Refusal :=
  .next ((s.advance t).modConn conn fun k => { k with established := k.established || k.ready })

/-- A DREQ is answered with DREP, and the connection leaves the ready state (R390, R395). -/
def State.cmDreq (s : State) (c : Nat) : State := if (s.conn? c).isSome then (s.emit (.cmDrep c)).failConnection c else s

/-- CM_DREQ (R395). -/
def execCmDreq (t conn : Nat) (s : State) : Host.Outcome State Fault Refusal := .next ((s.advance t).cmDreq conn).resume

/-- ADMIT_TOKEN_REFILL (R393). -/
def execAdmitTokenRefill (t port : Nat) (s : State) : Host.Outcome State Fault Refusal := .next ((s.advance t).refill port)

/-- 5 s after Service entry soft start is over (R393). -/
def State.endSoftStart (s : State) : State :=
  match s.power.serviceEntry with
  | some e =>
    if e + 5000 * ms ≤ s.clock.now && !s.power.softStartDone then
      let s := (List.range 8).foldl (fun s p => s.refill p) s
      { s with power.softStartDone := true }
    else s
  | none => s

/-- ADMIT_SOFT_START_END (R393). -/
def execAdmitSoftStartEnd (t : Nat) (s : State) : Host.Outcome State Fault Refusal := .next (s.advance t).endSoftStart

/-- CONNECTION_ERROR: whatever the cause (R395). -/
def execConnectionError (t conn : Nat) (_ : ConnCause) (s : State) : Host.Outcome State Fault Refusal :=
  .next ((s.advance t).failConnection conn).resume

/-! ### Requests of hosts (R385, R386, R397 to R399) -/

/-- CARRIAGE_MEMORY_WRITE (R398, R399). -/
def execCarriageMemoryWrite (t conn rkey addr : Nat) (data : Bytes) (s : State) : Host.Outcome State Fault Refusal :=
  .next ((s.advance t).rdmaWrite conn rkey addr data (State.placePacket conn)).resume

/-- Bytes of a region: a ring's, zeros of a doorbell window, or carriage memory (R397). -/
def State.regionBytes (s : State) (r : Region) (off len : Nat) : Bytes :=
  match r with
  | .ring q => match s.queue? q with | some x => x.ring.readBytes off len | none => zeros len
  | .window _ => zeros len
  | .memory c => match s.carriage? c with | some x => x.mem.readBytes off len | none => zeros len

/-- Reads the packets of an RDMA READ while each passes the region check: the bytes read, and whether every packet passed (R398). -/
def State.readPackets (s : State) (conn rkey : Nat) : Nat → Nat → Nat → Bytes × Bool
  | 0, _, _ => ([], true)
  | fuel + 1, addr, len =>
    if len == 0 then ([], true)
    else
      let n := min len (s.mtuOf conn)
      match (regionOf rkey).bind fun r => (s.regionOffset conn r addr n).map fun off => s.regionBytes r off n with
      | none => ([], false)
      | some b =>
        let (rest, ok) := s.readPackets conn rkey fuel (addr + n) (len - n)
        (b ++ rest, ok)

/-- An RDMA READ on a connection (R385, R386, R398). -/
def State.rdmaRead (s : State) (conn rkey addr len : Nat) : State :=
  if s.mailConn conn then s.refuseRequest conn true
  else if !s.rdmaConn conn then s
  else
    let (b, ok) := s.readPackets conn rkey (len + 1) addr len
    let s := if ok || !b.isEmpty then s.emit (.readResponse conn b) else s
    if ok then s else s.refuseRequest conn false

/-- RDMA_READ_REQUEST (R398). -/
def execRdmaReadRequest (t conn rkey addr len : Nat) (s : State) : Host.Outcome State Fault Refusal :=
  .next ((s.advance t).rdmaRead conn rkey addr len).resume

/-! ### Answers to the module's requests (R69, R388, R418) -/

/-- CONS_INDEX of a ring as read: credit for Book units, places for records that wait; one that moves backwards or beyond PROD_INDEX
is ignored and counted (R418, R421). -/
def State.consIndex (s : State) (ring v : Nat) : State :=
  match s.ering? ring with
  | none => s
  | some x =>
    let move := (v + 2 ^ 32 - x.cons) % 2 ^ 32
    let unread := (x.prod + 2 ^ 32 - x.cons) % 2 ^ 32
    if unread < move then s.modConn x.conn fun k => { k with consIgnored := satAdd 64 k.consIgnored 1 }
    else
      let s := s.modEring ring fun y => { y with cons := v }
      if s.book.exportRing == some ring then
        let s := s.creditUnits move
        s.pumpExport (exportFuel s)
      else s.drainRing 257 ring

/-- Input bytes of a job arrive (R44, R64). -/
def State.inputArrived (s : State) (id off : Nat) (data : Bytes) : State :=
  s.modJob id fun j =>
    if j.phase == .fetch then
      { j with input := j.input.take off ++ data ++ j.input.drop (off + data.length), inputMissing := j.inputMissing - data.length }
    else j

/-- What a READ was for receives its bytes. -/
def State.deliverRead (s : State) (u : ReadUse) (data : Bytes) : State :=
  match u with
  | .jobInput j off len => if data.length == len then s.inputArrived j off data else s
  | .consIndex r => s.consIndex r (le data 0 4)

/-- A response to READ number `id` of a connection: its resource serves the next READ (R388). -/
def State.readAnswered (s : State) (c id : Nat) (data : Bytes) : State :=
  match s.conn? c with
  | none => s
  | some k =>
    match k.reads.find? (·.1 == id) with
    | none => s
    | some (_, u) =>
      let s := s.modConn c fun k => { k with reads := k.reads.filter (·.1 != id), retries := 0 }
      (s.deliverRead u data).pumpReads 16 c

/-- RDMA_READ_RESPONSE (R388). -/
def execRdmaReadResponse (t conn id : Nat) (data : Bytes) (s : State) : Host.Outcome State Fault Refusal :=
  .next ((s.advance t).readAnswered conn id data).resume

/-- The oldest SEND has been accepted: what waited behind it goes out, later SENDs among it, which the host may in turn not be ready for
(R69). -/
def State.flushHeld (s : State) (c : Nat) : State :=
  match s.conn? c with
  | none => s
  | some k =>
    if k.notify.isNone then s.modConn c fun k => { k with outstanding := fromSend (k.outstanding.drop 1) }
    else
      let out := k.heldOut
      out.foldl (fun s o => s.emit o) (s.modConn c fun k => { k with notify := none, heldOut := [], outstanding := fromSend out })

/-- An ACK: the oldest SEND has been accepted (log entry 95); a NAK Remote Access Error or Invalid Request ends the connection (R69, R395). -/
def State.acked (s : State) (c : Nat) (nak : Option ConnCause) : State :=
  match nak with
  | some .nakRemoteAccess | some .nakInvalidRequest => s.failConnection c
  | some _ => s
  | none => (s.modConn c fun k => { k with retries := 0 }).flushHeld c

/-- RDMA_ACK (R385, R395). -/
def execRdmaAck (t conn : Nat) (nak : Option ConnCause) (s : State) : Host.Outcome State Fault Refusal :=
  .next ((s.advance t).acked conn nak).resume

/-- The SEND that an RNR NAK answers, with its retries so far: the one that waits, or the oldest not accepted (R69). -/
def Connection.naked (k : Connection) : Option (Bytes × Nat) :=
  match k.notify, k.outstanding with
  | some x, _ => some x
  | none, .send _ b :: _ => some (b, 0)
  | none, _ => none

/-- An RNR NAK: the oldest SEND not accepted is sent again, at most as often as the REQ's RNR retry count says, 7 without end; the host has
taken nothing after it, so all that follows waits, what was sent included (R69). -/
def State.rnrNaked (s : State) (c : Nat) : State :=
  match s.conn? c with
  | none => s
  | some k =>
    match k.naked with
    | none => s
    | some (b, n) =>
      if !k.ready then s
      else if n < k.req.rnrRetryCount || k.req.rnrRetryCount == 7 then
        (s.modConn c fun k => { k with
          notify := some (b, n + 1), heldOut := k.outstanding.drop 1 ++ k.heldOut, outstanding := [] }).emit (.send c b)
      else s.failConnection c

/-- RNR_NAK (R69). -/
def execRnrNak (t conn : Nat) (s : State) : Host.Outcome State Fault Refusal := .next ((s.advance t).rnrNaked conn).resume

/-- A local ACK timeout: a retry, or after the REQ's retry count the connection's end (R388, R395). -/
def State.ackTimeout (s : State) (c : Nat) : State :=
  match s.conn? c with
  | none => s
  | some k =>
    if !k.ready then s
    else if k.retries < k.req.retryCount then s.modConn c fun k => { k with retries := k.retries + 1 }
    else s.failConnection c

/-- TRANSPORT_RETRY_TIMER (R388). -/
def execTransportRetryTimer (t conn : Nat) (s : State) : Host.Outcome State Fault Refusal := .next ((s.advance t).ackTimeout conn).resume

/-! ### Congestion (R389) -/

/-- The spacing of CNPs and of rate steps (R389), in ns. -/
def cnpSpacing : Nat := 50000
def rateStep : Nat := 55000

/-- Nothing has happened at `last` or since for `d` ns. -/
def spaced (last : Option Nat) (d now : Nat) : Bool := match last with | some t => t + d ≤ now | none => true

/-- A CNP halves the transmit rate, at most once in 50 us (R389). -/
def State.cnpIn (s : State) (c : Nat) : State :=
  match s.conn? c with
  | none => s
  | some k =>
    if !k.ready then s
    else
      let s := s.countPort k.port 12 1
      if spaced k.lastCnp cnpSpacing s.clock.now then
        s.modConn c fun k => { k with rate := k.rate / 2, lastCnp := some s.clock.now, rateAt := s.clock.now }
      else s

/-- CNP_RECEIVED (R389). -/
def execCnpReceived (t conn : Nat) (s : State) : Host.Outcome State Fault Refusal := .next ((s.advance t).cnpIn conn)

/-- The rate rises by 5 Gbit/s, 55 us after its last change, up to the port rate (R389). -/
def State.rateUp (s : State) (c : Nat) : State :=
  match s.conn? c with
  | none => s
  | some k =>
    let top := s.portRate k.port
    if k.ready && k.rate < top && k.rateAt + rateStep ≤ s.clock.now then
      s.modConn c fun k => { k with rate := min top (k.rate + 5000), rateAt := s.clock.now }
    else s

/-- CNP_RATE_RESTORE (R389). -/
def execCnpRateRestore (t conn : Nat) (s : State) : Host.Outcome State Fault Refusal := .next ((s.advance t).rateUp conn)

end Sys2Proof.Machine
end

