-- ==== Sys2Proof/Machine/Egress.lean ====
section
/-!
DEFINITION. How what the module sends leaves its ports: pause frames and Maldin replies first, then the traffic classes under 802.1Qaz, and no
frame of a priority that the partner pauses (13 R381, R383, R384, R408; 16 R476).
-/
namespace Sys2Proof.Machine

/-- Port by which an output leaves; none for a pin, and for a connection that is gone. -/
def State.outPort (s : State) (o : Out) : Option Nat :=
  let roce (c : Nat) : Option Nat := (s.conn? c).map (·.port)
  match o with
  | .write c _ _ _ | .read c _ _ _ _ | .send c _ | .readResponse c _ | .ack c | .nak c _ | .rnrNak c | .cnp c | .cmRep c _ | .cmDrep c
  | .cmDreq c => roce c
  | .cmRej p _ _ | .udp p _ _ _ _ _ _ _ _ _ | .mgmt p _ | .pfc p _ _ | .ptp p _ _ _ | .train p _ _ _ _ => some p
  | .pps => none

/-- Bytes of data that an output carries. -/
def Out.size (o : Out) : Nat :=
  match o with
  | .write _ _ _ d | .send _ d | .readResponse _ d | .cmRep _ d | .cmRej _ _ d | .udp _ _ _ _ _ _ _ _ _ d | .mgmt _ d | .ptp _ _ _ d => d.length
  | .train _ _ _ h b => h.length + b.length
  | .read _ _ _ _ _ | .ack _ | .nak _ _ | .rnrNak _ | .cnp _ | .cmDrep _ | .cmDreq _ | .pfc _ _ _ | .pps => 0

/-- Output number `i` is discarded: its connection has left the ready state, or is gone and its number taken by a later one (R395). -/
def State.discarded (s : State) (i : Nat) (o : Out) : Bool :=
  match o with
  | .write c _ _ _ | .read c _ _ _ _ | .send c _ | .readResponse c _ =>
    (match s.conn? c with | some k => !k.ready || i < k.firstOut | none => true)
  | _ => false

/-- Frames of an output: its data in packets of the connection's path MTU (R385, R387). -/
def State.outFrames (s : State) (o : Out) : Nat :=
  match o with
  | .write c _ _ d | .send c d | .readResponse c d =>
    (match s.conn? c with | some k => max 1 ((d.length + k.req.pathMtu - 1) / k.req.pathMtu) | none => 1)
  | _ => 1

/-- Output number `i` of the module. -/
def State.outAt (s : State) (i : Nat) : Out := s.sent.getD i .pps

/-- Numbers of the outputs that wait at a port, oldest first. -/
def State.outQueue (s : State) (p : Nat) : List Nat :=
  (List.range s.sent.length).filter fun i =>
    s.egress.base ≤ i && !s.egress.left.contains i && s.outPort (s.outAt i) == some p && !s.discarded i (s.outAt i)

/-- A pause frame of the module's own, and a Maldin reply. -/
def Out.isPause (o : Out) : Bool := match o with | .pfc _ _ _ => true | _ => false
def Out.isReply (o : Out) : Bool := match o with | .udp _ _ _ _ _ _ _ _ _ _ => true | _ => false

/-- Traffic class of an output: its priority (R381). -/
def State.outClass (s : State) (o : Out) : Nat := (s.marking o).1 % 8

/-- The partner pauses a priority (R383). -/
def Port.pauses (x : Port) (pri : Nat) : Bool := x.paused.any (·.1 == pri) && !x.ignoring.any (·.1 == pri)

/-- Weight of a class, and what it has sent. -/
def Port.weight (x : Port) (k : Nat) : Nat := x.ets.getD k 0
def Port.servedOf (x : Port) (k : Nat) : Nat := x.served.getD k 0

/-- Class `a` goes before class `b`: strict before weighted, the higher of two strict ones, and of two weighted ones that which has had the
smaller part of its weight (R384; the last is a DESIGN CHOICE, log entry 110). -/
def Port.before (x : Port) (a b : Nat) : Bool :=
  if x.weight a == 0 then x.weight b != 0 || b < a
  else x.weight b != 0 && (x.servedOf a * x.weight b < x.servedOf b * x.weight a || (x.servedOf a * x.weight b == x.servedOf b * x.weight a && b < a))

/-- The class served next of those that wait. -/
def Port.nextClass (x : Port) (classes : List Nat) : Option Nat :=
  classes.foldl (fun best k => match best with | none => some k | some b => if x.before k b then some k else some b) none

/-- The output that leaves a port next: a pause frame, else a Maldin reply, else the oldest of the class served next; a paused priority waits
(R383, R384, R476). -/
def State.nextOut (s : State) (p : Nat) (x : Port) : Option Nat :=
  let q := s.outQueue p
  match q.find? fun i => (s.outAt i).isPause with
  | some i => some i
  | none =>
    let free := q.filter fun i => !x.pauses (s.outClass (s.outAt i))
    match free.find? fun i => (s.outAt i).isReply with
    | some i => some i
    | none =>
      match x.nextClass (free.map fun i => s.outClass (s.outAt i)) with
      | some k => free.find? fun i => s.outClass (s.outAt i) == k
      | none => none

/-- One output leaves a port whose link is up: counted in TX_FRAMES and TX_BYTES; what its headers take is FREE (R408, log entry 110). -/
def State.transmit (s : State) (p : Nat) : State :=
  match s.port? p with
  | none => s
  | some x =>
    if x.link != .up then s
    else match s.nextOut p x with
      | none => s
      | some i =>
        let o := s.outAt i
        let n := o.size + Config.freeNat "frame headers" i
        let s := { s with egress.left := s.egress.left ++ [i] }
        let s := (s.countPort p 1 (s.outFrames o)).countPort p 3 n
        s.modPort p fun x => { x with served := x.served.modify (s.outClass o) fun v => v + n }

end Sys2Proof.Machine
end

