-- ==== Sys2Proof/Machine/Ingress.lean ====
section
/-!
DEFINITION. What reaches a port below the transport: classified frames, management, PFC, link changes and FEC windows (13 R374 to R384,
R389, R403 to R409).
-/
namespace Sys2Proof.Machine

/-! ### The frame as received (R379, R380, R406) -/

/-- Bytes of the VLAN tag of a frame. -/
def frameTag (f : Bytes) : Nat := if be f 12 2 == 0x8100 then 4 else 0
/-- Ethertype behind the tag, and where the layer above begins. -/
def frameType (f : Bytes) : Nat := be f (12 + frameTag f) 2
def frameBody (f : Bytes) : Nat := 14 + frameTag f
/-- PCP, 0 for an untagged frame. -/
def framePcp (f : Bytes) : Nat := if frameTag f == 0 then 0 else be f 14 2 / 8192
/-- VID, 0 for an untagged frame. -/
def frameVid (f : Bytes) : Nat := if frameTag f == 0 then 0 else be f 14 2 % 4096
/-- More than one tag. -/
def frameDouble (f : Bytes) : Bool := frameTag f == 4 && (frameType f == 0x8100 || frameType f == 0x88A8)

/-- IPv6 next-header values that are extension headers (R379). -/
def ipv6Extension (h : Nat) : Bool := [0, 43, 44, 50, 51, 60, 135, 139, 140].contains h

/-- An IPv4 fragment, an IPv4 packet with options, or an IPv6 packet with extension headers (R379). -/
def frameRefused (f : Bytes) : Bool :=
  let o := frameBody f
  (frameType f == 0x0800 && (byteAt f o != 0x45 || be f (o + 6) 2 % 0x4000 != 0)) ||
  (frameType f == 0x86DD && ipv6Extension (byteAt f (o + 6)))

/-- IP protocol, and where its header begins. -/
def frameProto (f : Bytes) : Option (Nat × Nat) :=
  let o := frameBody f
  if frameType f == 0x0800 then some (byteAt f (o + 9), o + 20) else if frameType f == 0x86DD then some (byteAt f (o + 6), o + 40) else none

/-- The UDP port of Maldin frames (R406, R466). -/
def maldinPort : Nat := 6210

/-- Path of a UDP packet whose header begins at `u`; IPv4 or not (R406). -/
def udpPath (f : Bytes) (u : Nat) (v4 : Bool) : Nat :=
  let port := be f (u + 2) 2
  if port == 4791 then (if be f (u + 13) 3 == 1 then 2 else 1)
  else if port == 319 || port == 320 then 3
  else if port == maldinPort && v4 then 5
  else if (v4 && (port == 67 || port == 68)) || (!v4 && (port == 546 || port == 547)) then 6
  else 0

/-- Path that the headers of a frame point to; 0 none (R406). -/
def framePath (f : Bytes) : Nat :=
  let t := frameType f
  if t == 0x88F7 then 3 else if t == 0x88E5 then 4 else if t == 0x0806 || t == 0x88CC then 6
  else match frameProto f with
    | some (1, _) => if t == 0x0800 then 6 else 0
    | some (58, _) => if t == 0x86DD then 6 else 0
    | some (17, u) => udpPath f u (t == 0x0800)
    | _ => 0

/-- A MAC address of a listed member other than the module itself (R445). -/
def State.peerMac (s : State) (mac : Nat) : Bool := s.otherMembers.any fun m => memMac m ≤ mac && mac ≤ memMac m + 7

/-- The path's own checks accept the frame: its headers, and what the first 128 bytes do not show (R406, log entry 4). -/
def State.pathAccepts (s : State) (p v : Nat) (f : Bytes) : Bool :=
  framePath f == v && v != 0 && !frameRefused f && (v != 5 || (s.express.enabled && (p == 0 || p == 4) && s.expressOn p)) &&
  (v != 4 || (s.trainPorts.contains p && s.peerMac (be f 6 6))) &&
  Config.stdHolds .frameCheck v [f]

/-- The tag is the port's, none where its VID is 0, or the Train's (R380). -/
def State.vlanOk (s : State) (x : Port) (f : Bytes) : Bool :=
  !frameDouble f &&
  ((if x.vlan == 0 then frameTag f == 0 else frameTag f == 4 && frameVid f == x.vlan) || (frameTag f == 4 && (match s.train.roster with | some r => frameVid f == rosVlan r | none => false)))

/-! ### Classifier programs (R403 to R405) -/

/-- Runs a classifier program on a frame's window, length and port counters: the verdict, DROP for a program that goes wrong. -/
def runClassifier (prog : List (BitVec 64)) (w : Bytes) (len : Nat) (counters : List Nat) : Nat → Nat → Nat → Nat
  | 0, _, _ => 0
  | fuel + 1, pc, a =>
    match prog[pc]? with
    | none => 0
    | some i =>
      let k := insK i
      let go (a : Nat) := runClassifier prog w len counters fuel (pc + 1) a
      let load (n : Nat) := if 127 < insOff i then 0 else go (be (padTo 132 w) (insOff i) n)
      let jump (c : Bool) := runClassifier prog w len counters fuel (pc + 1 + (if c then insJt i else insJf i)) a
      match insOp i with
      | 0x01 => load 1
      | 0x02 => load 2
      | 0x03 => load 4
      | 0x04 => if insOff i < 6 || 31 < insOff i then 0 else go (counters.getD (insOff i - 6) 0 % 2 ^ 32)
      | 0x05 => go len
      | 0x10 => go (a &&& k)
      | 0x11 => go (a >>> (k % 32))
      | 0x20 => jump (a == k)
      | 0x21 => jump (k < a)
      | 0x22 => jump (a &&& k != 0)
      | 0x30 => if k % 256 ≤ 6 then k % 256 else 0
      | _ => 0

/-- Verdict of a frame: the loaded program's, or the default program's, which names the path that accepts it (R405, R407). -/
def State.verdict (s : State) (p : Nat) (x : Port) (len : Nat) (f : Bytes) : Nat :=
  let w := f.take (min 128 len)
  if x.classifier.isEmpty then (if s.pathAccepts p (framePath f) f && !frameDouble f then framePath f else 0)
  else runClassifier x.classifier w len x.counters (x.classifier.length + 1) 0 0

/-! ### The ingress buffer (R382, R383) -/

/-- Bytes of the buffer per lane: a priority's most before XOFF, its headroom, its least below which XON is sent, and the shared space (R382). -/
def pfcLimit (mask : Nat) : Nat := min 262144 (1310720 / ((List.range 8).filter (bit mask)).length - 65536)
def pfcHeadroom : Nat := 65536
def sharedLane : Nat := 262144

/-- Bytes of a port's lossless space that a priority holds. -/
def Port.held (x : Port) (pri : Nat) : Nat := match x.lossless.find? (·.1 == pri) with | some e => e.2 | none => 0

/-- Bytes of the shared space that the ports of a port's lane group hold (R382; DEDUCED, log entry 106). -/
def State.sharedUsed (s : State) (p : Nat) : Nat :=
  ((List.range 4).map fun i => match s.port? (p / 4 * 4 + i) with | some x => x.shared | none => 0).sum

/-- The module's own XON on the priorities that have fallen below their threshold (R382). -/
def State.sendXon (s : State) (p : Nat) : State :=
  match s.port? p with
  | none => s
  | some x =>
    let low (pri : Nat) : Bool := !bit x.pfcMask pri || x.held pri < (pfcLimit x.pfcMask - pfcHeadroom) * groupSize x.laneMode
    let on := x.xoff.filter fun e => low e.1
    on.foldl (fun s e => s.emit (.pfc p e.1 false)) (s.modPort p fun x => { x with xoff := x.xoff.filter fun e => !low e.1 })

/-- Frames leave the buffer for their paths: how many bytes have gone since the last look is FREE (R382, log entry 106). -/
def State.drainPort (s : State) (p : Nat) : State :=
  match s.port? p with
  | none => s
  | some x =>
    let gone (i : Nat) : Nat := Config.freeNat "ingress drained" ((x.drains * 8 + p) * 16 + i)
    let left := (x.lossless.map fun e => (e.1, e.2 - gone e.1)).filter fun e => e.2 != 0
    (s.modPort p fun x => { x with lossless := left, shared := x.shared - gone 8, drains := x.drains + 1 }).sendXon p

/-- A priority's occupancy after a frame, and the module's own XOFF where it passes the threshold (R382, R408). -/
def State.holdFrame (s : State) (p pri len : Nat) : State :=
  match s.port? p with
  | none => s
  | some x =>
    let n := x.held pri + len
    let s := s.modPort p fun x => { x with lossless := (x.lossless.filter fun e => e.1 != pri) ++ [(pri, n)] }
    if n ≤ pfcLimit x.pfcMask * groupSize x.laneMode || x.xoff.any (·.1 == pri) then s
    else ((s.modPort p fun x => { x with xoff := x.xoff ++ [(pri, s.clock.now)] }).countPort p 8 1).emit (.pfc p pri true)

/-- A frame enters the buffer: the lossless space of its priority, whose headroom holds what comes after an XOFF, or the shared space of its
lane group. Answers whether it found room; one that did not is counted in BUFFER_DROPS (R382). -/
def State.buffer (s : State) (p pri len : Nat) (management : Bool) : State × Bool :=
  let s := s.drainPort p
  match s.port? p with
  | none => (s, false)
  | some x =>
    if bit x.pfcMask pri && !management then
      if x.held pri + len ≤ (pfcLimit x.pfcMask + pfcHeadroom) * groupSize x.laneMode then (s.holdFrame p pri len, true)
      else (s.countPort p 9 1, false)
    else if s.sharedUsed p + len ≤ 4 * sharedLane then (s.modPort p fun x => { x with shared := x.shared + len }, true)
    else (s.countPort p 9 1, false)

/-- A RoCE packet marked CE: counted, and answered with a CNP at most once in 50 us for its connection (R389). -/
def State.congested (s : State) (p : Nat) (c : Option Nat) : State :=
  match c.bind s.conn? with
  | none => s
  | some k =>
    if !k.ready || k.port != p then s
    else
      let s := s.countPort p 10 1
      if spaced k.lastCnpSent cnpSpacing s.clock.now then
        ((s.modConn k.index fun k => { k with lastCnpSent := some s.clock.now }).countPort p 11 1).emit (.cnp k.index)
      else s

/-- A frame with a valid FCS: counted, buffered or dropped, classified, and counted again where its path refuses it; what it carries is another
command's, and a frame to UDP port 6,210 is judged and counted by its own (R379, R380, R382, R403, R406, R408, R468). -/
def State.ingress (s : State) (p len : Nat) (f : Bytes) (marked : Option Nat) : State :=
  match s.port? p with
  | none => s
  | some x =>
    if x.link != .up then s
    else
      let v := s.verdict p x len f
      let (s, kept) := ((s.countPort p 0 1).countPort p 2 len).buffer p (framePcp f) len (v == 6)
      if !kept then s
      else
      let s := s.countPort p (16 + v) 1
      if frameRefused f then s.countPort p 23 1
      else if v == 0 || !s.vlanOk x f then s
      else if !s.pathAccepts p v f then (if v == 5 && framePath f == 5 then s else s.countPort p 23 1)
      else if v == 1 then s.congested p marked else s

/-- INGRESS_FRAME (R403). -/
def execIngressFrame (t port len : Nat) (frame : Bytes) (marked : Option Nat) (s : State) : Host.Outcome State Fault Refusal :=
  .next ((s.advance t).ingress port len frame marked)

/-! ### Management (R379, R406) -/

/-- Modified EUI-64 identifier of a MAC address (R379, RFC 4862). -/
def eui64 (mac : Nat) : Bytes :=
  let m := toBe 6 mac
  [(m.headD 0) ^^^ 2#8] ++ slice m 1 2 ++ [0xFF#8, 0xFE#8] ++ slice m 3 3

/-- Express address of a port while it is enabled; an ADDR of 0 selects the port's own (R462). -/
def State.expressAddr (s : State) (p : Nat) : Option Nat :=
  match s.port? p with
  | none => none
  | some x =>
    if !s.expressOn p || (p != 0 && p != 4) then none
    else
      let a := if p == 0 then s.journal.addrP0 else s.journal.addrP4
      some (if a == 0 then s.ipv4Of x else a)

/-- IPv4 addresses that the module answers ARP for on a port. -/
def State.answersArp (s : State) (p : Nat) (x : Port) (a : Nat) : Bool := a != 0 && (a == s.ipv4Of x || s.expressAddr p == some a)

/-- IPv6 addresses that the module answers neighbour discovery for on a port. -/
def State.answersNd (s : State) (p : Nat) (x : Port) (a : Bytes) : Bool :=
  a == [0xFE#8, 0x80#8] ++ zeros 6 ++ eui64 (s.macOf p) || (a == x.ipv6 && !allZero x.ipv6)

/-- The tag under which a management frame answers `f`: its VID with PCP 0 (R381). -/
def replyTag (f : Bytes) : Bytes := if frameTag f == 0 then [] else toBe 2 0x8100 ++ toBe 2 (frameVid f)

/-- The reply to an ARP request (RFC 826). -/
def State.arpReply (s : State) (p : Nat) (f : Bytes) : Bytes :=
  let o := frameBody f
  let mac := toBe 6 (s.macOf p)
  slice f (o + 8) 6 ++ mac ++ replyTag f ++ toBe 2 0x0806 ++ slice f o 6 ++ toBe 2 2 ++ mac ++ slice f (o + 24) 4 ++
  slice f (o + 8) 10

/-! #### DHCPv4 (R379, RFC 2131; log entry 105) -/

/-- The value of a DHCP option (RFC 2132); `fuel` bounds their number. -/
def dhcpOption (code : Nat) : Nat → Bytes → Option Bytes
  | 0, _ => none
  | fuel + 1, b =>
    match b with
    | [] => none
    | x :: rest =>
      let n := byteAt rest 0
      if x == 0 then dhcpOption code fuel rest
      else if x.toNat == code then some (slice rest 1 n)
      else dhcpOption code fuel (rest.drop (1 + n))

/-- The transaction identifier of a client's exchange: FREE (log entry 105). -/
def Dhcp.xid (d : Dhcp) (p : Nat) : Nat := Config.freeNat "DHCP transaction" (d.count * 8 + p) % 2 ^ 32

/-- A DHCP message of the module: DISCOVER 1, REQUEST 3 (RFC 2131, log entry 4). -/
def State.dhcpSend (s : State) (p kind : Nat) : State :=
  match s.port? p with
  | none => s
  | some x =>
    let args := [toBe 6 (s.macOf p), toBe 4 (x.dhcp.xid p), toBe 4 x.dhcp.offer.1, toBe 4 x.dhcp.offer.2]
    s.emit (.mgmt p (std .dhcp kind args (Config.freeNat "DHCP bytes" kind)))

/-- A new exchange: DISCOVER. -/
def State.dhcpStart (s : State) (p : Nat) : State :=
  (s.modPort p fun x => { x with dhcp := { state := .selecting, count := x.dhcp.count + 1 } }).dhcpSend p 1

/-- Message type, address, and options of a server's message in the port's exchange. -/
def State.dhcpReply (s : State) (p : Nat) (x : Port) (f : Bytes) : Option (Nat × Nat × Bytes) :=
  let u := frameBody f + 20
  let b := u + 8
  let options := f.drop (b + 240)
  if frameType f == 0x0800 && byteAt f (frameBody f + 9) == 17 && be f (u + 2) 2 == 68 && byteAt f b == 2 && be f (b + 4) 4 == x.dhcp.xid p &&
     slice f (b + 28) 6 == toBe 6 (s.macOf p) then
    (dhcpOption 53 options.length options).map fun k => (be k 0 1, be f (b + 16) 4, options)
  else none

/-- The lease of an acknowledgement: renewed at half its time; none for a time without end. -/
def State.dhcpLease (s : State) (options : Bytes) : Option (Nat × Nat) :=
  match dhcpOption 51 options.length options with
  | some b =>
    let n := be b 0 4
    if n == 0xFFFFFFFF then none else some (s.clock.now + n * 500 * ms, s.clock.now + n * 1000 * ms)
  | none => none

/-- A server's message: an OFFER is requested, an ACK gives the address and its lease, a NAK begins again. -/
def State.dhcpTake (s : State) (p : Nat) (x : Port) (f : Bytes) : State :=
  let asks := x.dhcp.state == .requesting || x.dhcp.state == .renewing
  match s.dhcpReply p x f with
  | some (2, a, options) =>
    if x.dhcp.state != .selecting then s
    else
      let server := match dhcpOption 54 options.length options with | some b => be b 0 4 | none => 0
      (s.modPort p fun x => { x with dhcp.state := .requesting, dhcp.offer := (server, a) }).dhcpSend p 3
  | some (5, a, options) =>
    if !asks then s else s.modPort p fun x => { x with ipv4 := a, dhcp.state := .bound, dhcp.lease := s.dhcpLease options }
  | some (6, _, _) => if !asks then s else (s.modPort p fun x => { x with ipv4 := 0 }).dhcpStart p
  | _ => s

/-- A lease half over is renewed; one that has ended takes the address with it, and the exchange begins again. -/
def State.dhcpTimer (s : State) (p : Nat) : State :=
  match s.port? p with
  | none => s
  | some x =>
    match x.dhcp.lease with
    | none => s
    | some (half, last) =>
      if last ≤ s.clock.now then (s.modPort p fun x => { x with ipv4 := 0 }).dhcpStart p
      else if half ≤ s.clock.now && x.dhcp.state == .bound then (s.modPort p fun x => { x with dhcp.state := .renewing }).dhcpSend p 3
      else s

/-- What the ports do while no command waits: leases run out, buffered frames go on, and what waits to be sent leaves (R379, R382, R384; DESIGN
CHOICE, log entries 2, 105, 106 and 110). -/
def State.idlePorts (s : State) : State := (List.range 8).foldl (fun s p => ((s.dhcpTimer p).drainPort p).transmit p) s

/-- First 64-bit prefix with the autonomous flag among the options of a Router Advertisement (RFC 4861, RFC 4862). -/
def raPrefix : Nat → Bytes → Option Bytes
  | 0, _ => none
  | fuel + 1, b =>
    let n := 8 * byteAt b 1
    if n == 0 then none
    else if byteAt b 0 == 3 && byteAt b 2 == 64 && bit (byteAt b 3) 6 then some (slice b 16 8)
    else raPrefix fuel (b.drop n)

/-- ICMPv6 type of a frame. -/
def icmp6 (f : Bytes) : Option Nat :=
  let o := frameBody f
  if frameType f == 0x86DD && byteAt f (o + 6) == 58 then some (byteAt f (o + 40)) else none

/-- What the firmware does with a management frame (R379). -/
def State.manage (s : State) (p : Nat) (x : Port) (f : Bytes) : State :=
  let o := frameBody f
  if frameType f == 0x0806 then
    if be f (o + 6) 2 == 1 && s.answersArp p x (be f (o + 24) 4) then s.emit (.mgmt p (s.arpReply p f)) else s
  else match icmp6 f with
    | some 135 =>
      if s.answersNd p x (slice f (o + 48) 16) then s.emit (.mgmt p (std .frameCheck 135 [f, toBe 6 (s.macOf p)] f.length)) else s
    | some 134 =>
      match raPrefix f.length (f.drop (o + 56)) with
      | some pre => s.modPort p fun x => { x with ipv6 := pre ++ eui64 (s.macOf p) }
      | none => s
    | _ => s.dhcpTake p x f

/-- A management frame, at most 10,000 in a second on a port (R406). -/
def State.mgmtFrame (s : State) (p : Nat) (f : Bytes) : State :=
  match s.port? p with
  | none => s
  | some x =>
    if x.link != .up then s
    else
      let (n, since) := if x.mgmt.1 == 0 || x.mgmt.2 + 1000 * ms ≤ s.clock.now then (0, s.clock.now) else x.mgmt
      if 10000 ≤ n then s.countPort p 24 1 else (s.modPort p fun x => { x with mgmt := (n + 1, since) }).manage p x f

/-- MGMT_FRAME (R406). -/
def execMgmtFrame (t port : Nat) (frame : Bytes) (s : State) : Host.Outcome State Fault Refusal := .next ((s.advance t).mgmtFrame port frame)

/-! ### PFC (R382, R383) -/

/-- A PFC frame pauses or resumes a priority; pause frames are ignored after a storm (R383). -/
def State.pfc (s : State) (p pri : Nat) (pause : Bool) : State :=
  match s.port? p with
  | none => s
  | some x =>
    if x.link != .up then s
    else if !pause then s.modPort p fun x => { x with paused := x.paused.filter (·.1 != pri) }
    else
      let s := s.countPort p 7 1
      if !bit x.pfcMask pri || x.ignoring.any (·.1 == pri) || x.paused.any (·.1 == pri) then s
      else s.modPort p fun x => { x with paused := x.paused ++ [(pri, s.clock.now)] }

/-- PFC_FRAME (R383). -/
def execPfcFrame (t port priority : Nat) (pause : Bool) (s : State) : Host.Outcome State Fault Refusal :=
  .next ((s.advance t).pfc port priority pause)

/-- 200 ms of pause by the partner: detail 1, and 1 s of transmission; 200 ms of the module's own XOFF: detail 2 (R383, R409). -/
def State.pfcStorm (s : State) (p pri : Nat) (own : Bool) : State :=
  match s.port? p with
  | none => s
  | some x =>
    if x.link != .up then s
    else if own then
      if x.xoff.any fun e => e.1 == pri && e.2 + 200 * ms ≤ s.clock.now then
        (s.modPort p fun x => { x with xoff := mapIf (·.1 == pri) (fun _ => (pri, s.clock.now)) x.xoff }).raise (98 + 4 * p) [pri, 2]
      else s
    else if x.paused.any fun e => e.1 == pri && e.2 + 200 * ms ≤ s.clock.now then
      (s.modPort p fun x => { x with paused := x.paused.filter (·.1 != pri), ignoring := x.ignoring ++ [(pri, s.clock.now)] }).raise
        (98 + 4 * p) [pri, 1]
    else s

/-- PFC_STORM_TIMEOUT (R383). -/
def execPfcStormTimeout (t port priority : Nat) (own : Bool) (s : State) : Host.Outcome State Fault Refusal :=
  .next ((s.advance t).pfcStorm port priority own)

/-- PFC_STORM_IGNORE_END (R383). -/
def execPfcStormIgnoreEnd (t port priority : Nat) (s : State) : Host.Outcome State Fault Refusal :=
  let s := s.advance t
  .next (s.modPort port fun x => { x with ignoring := x.ignoring.filter fun e => !(e.1 == priority && e.2 + 1000 * ms ≤ s.clock.now) })

/-! ### Links (R375, R376, R396, R409) -/

/-- Training completes (R375); in parked Standby only P0 trains (R376). A port without an address asks for one (R379). -/
def State.linkTrained (s : State) (p : Nat) : State :=
  match s.port? p with
  | some x =>
    if x.link == .training && !s.power.bootStuck && (s.power.mode != .standby || (s.power.parked && p == 0)) then
      let s := s.setLink p .up
      if x.dhcp.state == .bound || x.dhcp.state == .renewing then s else s.dhcpStart p
    else s
  | none => s

/-- LINK_UP (R375). -/
def execLinkUp (t port : Nat) (s : State) : Host.Outcome State Fault Refusal := .next ((s.advance t).linkTrained port)

/-- Loss of link: connections keep their state, and the lanes train again (R396). -/
def State.linkLost (s : State) (p : Nat) : State :=
  match s.port? p with
  | some x => if x.link == .up then s.setLink p .training else s
  | none => s

/-- LINK_DOWN (R396). -/
def execLinkDown (t port : Nat) (s : State) : Host.Outcome State Fault Refusal := .next ((s.advance t).linkLost port)

/-- A 1 s FEC window of a lane: counters, and FEC_DEGRADED set by a bad window and cleared after 10 clean ones (R408, R409). -/
def State.fecWindow (s : State) (p lane codewords corrected received bad : Nat) : State :=
  match s.port? p with
  | none => s
  | some x =>
    if x.link != .up || lane < p || p + groupSize x.laneMode ≤ lane then s
    else
      let s := ((s.countPort p 4 codewords).countPort p 5 corrected).countPort p 6 bad
      let degraded := x.fecLanes.find? (·.1 == lane)
      if bad != 0 || received < corrected * 10000 then
        match degraded with
        | some _ => s.modPort p fun x => { x with fecLanes := mapIf (·.1 == lane) (fun _ => (lane, 0)) x.fecLanes }
        | none => (s.modPort p fun x => { x with fecLanes := x.fecLanes ++ [(lane, 0)] }).raise (97 + 4 * p) [lane, corrected, 1]
      else match degraded with
        | none => s
        | some (_, n) =>
          if 10 ≤ n + 1 then (s.modPort p fun x => { x with fecLanes := x.fecLanes.filter (·.1 != lane) }).raise (97 + 4 * p) [lane, corrected, 0]
          else s.modPort p fun x => { x with fecLanes := mapIf (·.1 == lane) (fun _ => (lane, n + 1)) x.fecLanes }

/-- FEC_WINDOW (R409). -/
def execFecWindow (t port lane codewords corrected received uncorrectable : Nat) (s : State) : Host.Outcome State Fault Refusal :=
  .next ((s.advance t).fecWindow port lane codewords corrected received uncorrectable)

end Sys2Proof.Machine
end

