-- ==== Sys2Proof/Machine/Maldin.lean ====
section
/-!
DEFINITION. Maldin frames and the Express class (16 R462 to R477).
-/
namespace Sys2Proof.Machine

/-! ### Requests and replies (R465 to R467) -/

/-- SLOT, DATA_LEN and the used part of DATA (R465). -/
def frameSlot (f : MaldinFrame) : Nat := be f.payload 8 2
def frameLen (f : MaldinFrame) : Nat := be f.payload 0x0A 2
def frameData (f : MaldinFrame) : Bytes := slice f.payload 0x10 (min (frameLen f) 492)

/-- CMD is defined (R471). -/
def cmdDefined (c : Nat) : Bool := 1 ≤ c && c ≤ 6

/-- M_STATUS of a STATUS (R473). -/
def mStatus (st : Status) (counter : Bool) : Nat :=
  match st with
  | .success => 0
  | .lengthMismatch => 1
  | .unknownOpcode => 2
  | .keyNotFound => 3
  | .keyCorked | .keyUseDenied | .keyLifecycleDenied | .unsupportedParam => 4
  | .signatureInvalid => 5
  | .malformedEncoding | .pointNotOnCurve | .flagsInvalid => 6
  | .outOfRange => if counter then 7 else 6
  | .entropyNotReady | .entropyFailed => 8
  | _ => 9

/-- The reply to an accepted frame (R466, R467). -/
def maldinReply (f : MaldinJob) : Bytes :=
  let q := f.frame.payload
  let head := slice q 0 3 ++ toBe 1 (frameCmd f.frame % 128 + 128) ++ slice q 4 2 ++ toBe 2 0x0200 ++ slice q 8 2 ++ toBe 2 f.data.length ++
    slice q 0x0C 4 ++ toBe 4 (f.tRx / 1000) ++ toBe 1 (mStatus f.status f.counterRefusal) ++ zeros 1 ++ toBe 2 (statusCode f.status) ++ zeros 8 ++
    padTo 476 f.data
  head ++ toBe 4 (crc32c head).toNat

/-! ### The drop steps (R468, R469, R474) -/

/-- The mode serves Express; frames that arrive during a shutdown are dropped with those of the modes that do not (R474, R524). -/
def State.servesExpress (s : State) : Bool :=
  s.power.shutdown.isNone &&
  (match s.power.mode with
    | .service | .derated | .trainJoin => true
    | .boot | .recovery => s.power.expressReady
    | _ => false)

/-- Frames outstanding of a source on a port (R469). -/
def State.sourceFrames (s : State) (f : MaldinFrame) : List MaldinJob :=
  s.express.frames.filter fun x => x.frame.port == f.port && x.frame.srcAddr == f.srcAddr && x.frame.srcPort == f.srcPort

/-- Step 1 of R468. -/
def State.frameAddressed (s : State) (f : MaldinFrame) : Bool :=
  (f.port == 0 || f.port == 4) && s.express.enabled && s.expressAddr f.port == some f.dstAddr

/-- Steps 2 to 7 of R468: the counter of the step that drops the frame, by its place in the port's record (R477). -/
def State.frameDrop (s : State) (f : MaldinFrame) : Option Nat :=
  if !(be f.payload 6 2 == f.udpLen - 8 && be f.payload 6 2 == 0x0200 && f.payload.length == 512) then some 2
  else if !(be f.payload 0 2 == 0x4D44 && byteAt f.payload 2 == 2) then some 3
  else if !(be f.payload 0x1FC 4 == (crc32c (f.payload.take 0x1FC)).toNat && f.checksumOk) then some 4
  else if !s.servesExpress then some 5
  else if !((s.activeSources f.port).contains (f.srcAddr, f.srcPort) || (s.activeSources f.port).length < 4096) then some 6
  else if !((s.sourceFrames f).length < 16) then some 7
  else none

/-- The record of an Express port (R477). -/
def State.expressPort (s : State) (p : Nat) : ExpressPort := if p == 0 then s.express.p0 else s.express.p4
def State.modExpress (s : State) (p : Nat) (g : ExpressPort → ExpressPort) : State :=
  if p == 0 then { s with express.p0 := g s.express.p0 } else { s with express.p4 := g s.express.p4 }

/-- Adds one to a counter of the record; it saturates (R477). -/
def State.countExpress (s : State) (p i : Nat) : State :=
  s.modExpress p fun x => { x with counters := x.counters.modify i fun v => satAdd 64 v 1 }

/-! ### Steps 8 to 10 (R468, R471, R472) -/

/-- DATA_LEN is as the command requires (R471). -/
def dataLenOk (cmd slot n : Nat) : Bool :=
  match cmd with
  | 1 => n == 32
  | 2 => n == (if slot == 0 then 161 else 96)
  | 3 => n == 65
  | 4 => 33 ≤ n && n ≤ 491
  | 5 => 33 ≤ n && n ≤ 492
  | _ => n == 32

/-- Check 3 of R275 for a job of carriage 0 in the world EXPRESS (R272, R471). -/
def expressAccess (h : SlotHeader) : Bool := h.owner == 0 && bit h.masters 1 && bit h.worlds 1

/-- Maldin slot `n` resolves (R275, R471). -/
def State.maldinSlot (s : State) (n : Nat) (kind : KeyKind) (fit : SlotHeader → Bool) : State × Except Status JobKey :=
  if n == 0 || 16384 < n then (s, .error .keyNotFound) else s.resolveIn (n - 1) kind false false false expressAccess fit

/-- An AES-128 slot with a usage bit (R472). -/
def aes128With (usage : String) (h : SlotHeader) : Bool :=
  h.keyClass == 0x0E && h.param == 1 && h.materialLen == 16 && hasUsage h.usage usage

/-- The keys of a frame's command: its own, and AK in slot-pair mode. -/
def State.maldinKeys (s : State) (f : MaldinFrame) : State × Except Status (Option JobKey × Option JobKey) :=
  let n := frameSlot f
  let one (r : State × Except Status JobKey) : State × Except Status (Option JobKey × Option JobKey) :=
    match r with
    | (s, .error st) => (s, .error st)
    | (s, .ok k) => (s, .ok (some k, none))
  match frameCmd f with
  | 1 => one (s.maldinSlot n .slot (keyFits .ecdsaSign 1 .slot))
  | 2 => if n == 0 then (s, .ok (none, none)) else one (s.maldinSlot n .slot (keyFits .ecdsaVerify 1 .slot))
  | 3 => one (s.maldinSlot n .slot (keyFits .ecdhDerive 1 .slot))
  | 6 => one (s.maldinSlot n .graft (keyFits .keyTransfer 1 .graft))
  | c =>
    if n == 0 || 16384 < n then (s, .error .keyNotFound)
    else match byteAt (frameData f) 1 with
    | 0 =>
      match s.maldinSlot n .slot (aes128With (if c == 4 then "encaps" else "decaps")) with
      | (s, .error st) => (s, .error st)
      | (s, .ok k) =>
        match s.maldinSlot (n + 1) .slot (aes128With "sign") with
        | (s, .error st) => (s, .error st)
        | (s, .ok ak) => (s, .ok (some k, some ak))
    | 1 => one (s.maldinSlot n .graft (keyFits (if c == 4 then .dlmsProtect else .dlmsUnprotect) 0 .graft))
    | _ => (s, .error .keyUseDenied)

/-! ### The commands (R471, R472) -/

/-- Outcome of a command: STATUS, DATA and whether it is a DLMS counter refusal (R473). -/
structure MaldinOut where
  status : Status
  data : Bytes := []
  counter : Bool := false
  deriving DecidableEq, Repr

/-- The job of class 0x0A or 0x0C that a command stands for: P-256 with SHA-256, deterministic (R471). -/
def ecJob (op : Op) (aux : Nat) (key : Option JobKey) (input : Bytes) : Job :=
  let ref := if key.isSome then 2 ^ 30 else 0
  { id := 0, queue := 0, entry := zeros 3 ++ toLe 1 1 ++ zeros 4 ++ toLe 4 ref ++ zeros 0x24 ++ toLe 8 aux ++ zeros 8, op := some op, seq := 0,
    tConsume := 0, nConsume := 0, phase := .running, input := input, key := key }

/-- What the result of a job says in a reply. -/
def replyOf (r : OpResult) : MaldinOut := { status := r.status, data := if r.status == .success then r.output else [] }

/-- A command that draws blinding, where the DRBG supplies it (R236, R473). -/
def State.blinded (s : State) (out : MaldinOut) : State × MaldinOut :=
  match s.drawBlinding with
  | (s, none) => (s, out)
  | (s, some st) => (s, { status := st })

/-- The record of R259 that a DLMS header and its APDU stand for: suite 0, AREA of 1,024 bytes (R472). -/
def maldinRecord (d : Bytes) : Bytes :=
  slice d 0x0C 8 ++ slice d 4 8 ++ (slice d 0x14 4).reverse ++ (slice d 0x18 4).reverse ++ (slice d 0x1C 4).reverse ++ slice d 0 1 ++
  slice d 2 1 ++ toLe 2 (d.length - 32) ++ d.drop 32

/-- PARAM of that record: SUITE 0, AREA 1 (R258). -/
def maldinSuite : Nat := 4

/-- Keys of a frame's DLMS record: grafts of the Rootstock key, or the slot pair (R260, R472). -/
def maldinDlms (key ak : Option JobKey) (d : Bytes) : DlmsKeys :=
  let m (k : Option JobKey) : Bytes := match k with | some k => k.material | none => []
  let prf := match key with | some k => k.header.graftPrf | none => 0
  let r := maldinRecord d
  if byteAt d 1 == 1 then dlmsKeys (m key) prf maldinSuite r else dlmsWith (m key) (if bit (recSc r) 4 then m ak else []) r

/-- DLMS_PROTECT (R261, R263, R472). A field of the header that must be 0 and that no rule answers for is ignored (R10). -/
def maldinProtect (key ak : Option JobKey) (d : Bytes) : MaldinOut :=
  match dlmsCheck true maldinSuite 0 (maldinRecord d) with
  | some st => { status := st }
  | none => { status := .success, data := dlmsProtect (maldinDlms key ak d) (maldinRecord d) }

/-- DLMS_UNPROTECT (R262, R263, R472, R473). -/
def maldinUnprotect (key ak : Option JobKey) (d : Bytes) : MaldinOut :=
  let r := maldinRecord d
  match dlmsCheck false maldinSuite 0 r with
  | some st => { status := st }
  | none =>
    match dlmsUnprotect (maldinDlms key ak d) r with
    | .ok out => { status := .success, data := out }
    | .error st => { status := st, counter := !dlmsCounterOk r }

/-- A graft descriptor of R248 for 16 bytes, from the one of KEY_DERIVE (R471). -/
def maldinDescriptor (d : Bytes) : Bytes :=
  slice d 0 8 ++ (slice d 8 4).reverse ++ slice d 12 1 ++ toLe 1 0x10 ++ toLe 2 (if allZero (slice d 13 3) then 0 else 1)

/-- KEY_DERIVE: KEY_TRANSFER with 16-byte grafts (R257, R471). -/
def maldinDerive (key : Option JobKey) (d : Bytes) : MaldinOut :=
  let input := maldinDescriptor (d.take 16) ++ maldinDescriptor (slice d 16 16)
  match graftCheck .keyTransfer 1 input with
  | some st => { status := st }
  | none =>
    let j := ecJob .keyTransfer 0 key input
    { status := .success, data := kwWrap (j.descGraft (input.drop 16)) (j.descGraft (input.take 16)) }

/-- Step 11 of R468 for each command. -/
def State.ecdsaSignFrame (s : State) (key _ : Option JobKey) (d : Bytes) : State × MaldinOut :=
  s.blinded (replyOf (ecdsaSignResult s (ecJob .ecdsaSign 0x010001 key d)))
def State.ecdsaVerifyFrame (s : State) (key _ : Option JobKey) (d : Bytes) : State × MaldinOut :=
  (s, replyOf (ecdsaVerifyResult s (ecJob .ecdsaVerify 0x010000 key d)))
def State.ecdhFrame (s : State) (key _ : Option JobKey) (d : Bytes) : State × MaldinOut :=
  s.blinded (replyOf (ecdhDeriveResult s (ecJob .ecdhDerive 0 key d)))
def State.protectFrame (s : State) (key ak : Option JobKey) (d : Bytes) : State × MaldinOut := (s, maldinProtect key ak d)
def State.unprotectFrame (s : State) (key ak : Option JobKey) (d : Bytes) : State × MaldinOut := (s, maldinUnprotect key ak d)
def State.deriveFrame (s : State) (key _ : Option JobKey) (d : Bytes) : State × MaldinOut := (s, maldinDerive key d)

/-! ### Acceptance (R468, R475) -/

/-- The frame passes what the conditions of R475 allow in 50 us, counting the frames accepted. -/
def State.overPace (s : State) (f : MaldinFrame) : Bool :=
  let recent (x : ExpressPort) : List (Nat × Bool) := x.arrivals.filter fun a => s.clock.now < a.1 + 50000
  5 ≤ (recent (s.expressPort f.port)).length ||
  (cooperCmd (frameCmd f) && 4 ≤ ((recent s.express.p0 ++ recent s.express.p4).filter (·.2)).length)

/-- Accepts a frame: it is counted and numbered (R469, R475, R477). -/
def State.acceptFrame (s : State) (f : MaldinFrame) (out : MaldinOut) : State × MaldinJob :=
  let s := s.ensureMark
  let excess := s.overPace f
  let x : MaldinJob := { id := s.express.nextFrame, frame := f, tRx := s.clock.train, nRx := s.clock.now, status := out.status, data := out.data,
                         counterRefusal := out.counter, readyAt := s.clock.now, engine := none, overPace := excess }
  let s := s.countExpress f.port 0
  let s := if excess then s.countExpress f.port 8 else s
  let mine := (s.clock.now, cooperCmd (frameCmd f))
  let s := s.modExpress f.port fun x => { x with arrivals := (x.arrivals.filter fun a => s.clock.now < a.1 + 50000) ++ [mine] }
  ({ s with express.nextFrame := s.express.nextFrame + 1 }, x)

/-- Keeps an accepted frame until its reply leaves. -/
def State.keepFrame (s : State) (x : MaldinJob) : State := { s with express.frames := s.express.frames ++ [x] }

/-- A frame that fails steps 8 to 10 is answered at once (R476). -/
def State.refuseFrame (s : State) (f : MaldinFrame) (st : Status) : State :=
  let (s, x) := s.acceptFrame f { status := st }
  s.keepFrame { x with readyAt := s.clock.now + stageDelay "express check" x.id 300 1000 + stageDelay "express reply" x.id 200 300 }

/-- A frame whose command goes to an engine, with the records of its keys in use until the reply (R268, R273); the draw is made at dispatch, and
none is made without an engine (R464, R476). -/
def State.runFrame (s : State) (f : MaldinFrame) (keys : List JobKey) (run : State → State × MaldinOut) : State :=
  let (s, out) := if (s.expressEngines (framePool f)).isEmpty then (s, { status := .engineUnavailable }) else run s
  let (s, x) := s.acceptFrame f out
  let x := { x with records := keys.map (·.record) }
  s.keepFrame (s.dispatchFrame (s.clock.now + stageDelay "express dispatch" x.id 400 1300) x)

/-- Steps 1 to 7: what becomes of a frame of a command, `accept` for one that passes them (R468). -/
def State.receiveFrame (s : State) (f : MaldinFrame) (mine : Bool) (accept : State → State) : State :=
  if !mine || !s.linkIsUp f.port then s
  else if !s.frameAddressed f then s.countPort f.port 23 1
  else match s.frameDrop f with
    | some i => s.countExpress f.port i
    | none => accept s

/-- Steps 9 to 11 of a defined command (R468). -/
def State.serveFrame (s : State) (f : MaldinFrame) (run : State → Option JobKey → Option JobKey → Bytes → State × MaldinOut) : State :=
  if !dataLenOk (frameCmd f) (frameSlot f) (frameLen f) then s.refuseFrame f .lengthMismatch
  else match s.maldinKeys f with
    | (s, .error st) => s.refuseFrame f st
    | (s, .ok (key, ak)) => s.runFrame f (key.toList ++ ak.toList) fun s => run s key ak (frameData f)

/-! ### The rows -/

/-- MALDIN_ECDSA_SIGN (R471). -/
def execMaldinEcdsaSign (t : Nat) (f : MaldinFrame) (s : State) : Host.Outcome State Fault Refusal :=
  .next ((s.advance t).receiveFrame f (frameCmd f == 1) fun s => s.serveFrame f State.ecdsaSignFrame)
/-- MALDIN_ECDSA_VERIFY (R471). -/
def execMaldinEcdsaVerify (t : Nat) (f : MaldinFrame) (s : State) : Host.Outcome State Fault Refusal :=
  .next ((s.advance t).receiveFrame f (frameCmd f == 2) fun s => s.serveFrame f State.ecdsaVerifyFrame)
/-- MALDIN_ECDH (R471). -/
def execMaldinEcdh (t : Nat) (f : MaldinFrame) (s : State) : Host.Outcome State Fault Refusal :=
  .next ((s.advance t).receiveFrame f (frameCmd f == 3) fun s => s.serveFrame f State.ecdhFrame)
/-- MALDIN_DLMS_PROTECT (R472). -/
def execMaldinDlmsProtect (t : Nat) (f : MaldinFrame) (s : State) : Host.Outcome State Fault Refusal :=
  .next ((s.advance t).receiveFrame f (frameCmd f == 4) fun s => s.serveFrame f State.protectFrame)
/-- MALDIN_DLMS_UNPROTECT (R472). -/
def execMaldinDlmsUnprotect (t : Nat) (f : MaldinFrame) (s : State) : Host.Outcome State Fault Refusal :=
  .next ((s.advance t).receiveFrame f (frameCmd f == 5) fun s => s.serveFrame f State.unprotectFrame)
/-- MALDIN_KEY_DERIVE (R471). -/
def execMaldinKeyDerive (t : Nat) (f : MaldinFrame) (s : State) : Host.Outcome State Fault Refusal :=
  .next ((s.advance t).receiveFrame f (frameCmd f == 6) fun s => s.serveFrame f State.deriveFrame)
/-- MALDIN_BAD_COMMAND: step 8 (R468). -/
def execMaldinBadCommand (t : Nat) (f : MaldinFrame) (s : State) : Host.Outcome State Fault Refusal :=
  .next ((s.advance t).receiveFrame f (!cmdDefined (frameCmd f)) fun s => s.refuseFrame f .unknownOpcode)

/-- The reply may leave: it is ready, every earlier frame of its source has been answered, and the port's link is up (R470). -/
def State.replyDue (s : State) (f : MaldinJob) : Bool :=
  !f.abandoned && f.readyAt ≤ s.clock.now && s.linkIsUp f.frame.port &&
  (s.sourceFrames f.frame).all fun x => f.id ≤ x.id

/-- The UDP checksum of RFC 768 over IPv4: the words' ones' complement sum, complemented, with 0 sent as all ones (R467). -/
def udpChecksum (src dst srcPort dstPort : Nat) (data : Bytes) : Nat :=
  let all := toBe 4 src ++ toBe 4 dst ++ toBe 2 17 ++ toBe 2 (data.length + 8) ++ toBe 2 srcPort ++ toBe 2 dstPort ++ toBe 2 (data.length + 8) ++ data
  let sum := ((List.range ((all.length + 1) / 2)).map fun i => byteAt all (2 * i) * 256 + byteAt all (2 * i + 1)).foldl (· + ·) 0
  let fold (n : Nat) : Nat := n % 2 ^ 16 + n / 2 ^ 16
  let c := 0xFFFF - fold (fold sum)
  if c == 0 then 0xFFFF else c

/-- The reply's datagram: from the Express address and port 6,210 back to the source, marked as the request (R381, R466, R467). -/
def maldinDatagram (f : MaldinFrame) (data : Bytes) : Out :=
  .udp f.port f.dstAddr maldinPort f.srcAddr f.srcPort (udpChecksum f.dstAddr f.srcAddr maldinPort f.srcPort data) f.vlan f.pcp f.dscp data

/-- The first byte of a reply leaves the port; the records of its command are free of it (R268, R466, R469, R470, R476, R477). -/
def State.sendReply (s : State) (f : MaldinJob) : State :=
  let p := f.frame.port
  let latency := s.clock.now - f.nRx
  let s := s.emit (maldinDatagram f.frame (maldinReply f))
  let s := (s.countExpress p 1).modExpress p fun x => { x with maxLatency := min (max x.maxLatency latency) (2 ^ 32 - 1) }
  let s := if 35000 < latency then s.countExpress p 9 else s
  ({ s with express.frames := s.express.frames.filter fun (x : MaldinJob) => x.id != f.id }).sweepRecords

/-- MALDIN_REPLY_SEND (R470). -/
def execMaldinReplySend (t frame : Nat) (s : State) : Host.Outcome State Fault Refusal :=
  let s := s.advance t
  .next (match s.express.frames.find? (·.id == frame) with
    | some f => if s.replyDue f then (s.sendReply f).resume else s
    | none => s)

end Sys2Proof.Machine
end

