-- ==== Sys2Proof/Machine/Rng.lean ====
section
/-!
DEFINITION. The RNG island: noise cells and their health tests, the conditioner, instantiation and reseeds of the DRBG, mask seeds, RNG_DATA,
and writes to registers without behaviour of their own (00 R9; 01 R14, R37; 03 R91; 10 R307 to R323; 17 R497).
-/
namespace Sys2Proof.Machine

/-! ### Noise cells (R308 to R310) -/

/-- Bits of a start-up test and of a proportion window (R308). -/
def windowBits : Nat := 1024
/-- Cut-offs of the continuous tests (R308). -/
def repetitionCut : Nat := 41
def proportionCut : Nat := 795
/-- Longest time without a bit: 100 us (R308). -/
def stallLimit : Nat := 100000
/-- Settling time of the oscillators: 1 ms (R319). -/
def settleTime : Nat := 1000000

/-- The cells run and are tested: PD3 is on, and not in Entropy Test (R308, R326). -/
def State.rngRuns (s : State) : Bool := s.domainOn 3 && s.power.mode != .entropyTest

/-- The counts of a cell after one more bit (R308). -/
def Cell.count (c : Cell) (b : Bool) (now : Nat) : Cell :=
  let fresh := c.pos == 0
  { c with
    started := min windowBits (c.started + 1)
    last := b
    run := if 0 < c.run && c.last == b then c.run + 1 else 1
    first := if fresh then b else c.first
    same := if fresh then 1 else if b == c.first then c.same + 1 else c.same
    pos := (c.pos + 1) % windowBits
    lastAt := now }

/-- The test that the counts fail: 1 repetition, 2 proportion, 4 start-up while the cell is not yet healthy (R308, R324). -/
def Cell.failedTest (c : Cell) : Option Nat :=
  let test := if repetitionCut ≤ c.run then some 1 else if proportionCut ≤ c.same then some 2 else none
  test.map fun n => if c.healthy then n else 4

/-- Cells that have not stopped: healthy, or still in their start-up test. -/
def State.liveCells (s : State) : Nat := (s.rng.cells.filter fun c => !c.stopped).length

/-- Changes a cell. -/
def State.modCell (s : State) (i : Nat) (g : Cell → Cell) : State := { s with rng.cells := s.rng.cells.modify i g }

/-- A cell stops: its bits and the block that has some of them are discarded; sources 160 and 161, and below 8 cells the fatal failure
(R309, R310, R313). -/
def State.stopCell (s : State) (i test : Nat) : State :=
  let before := s.liveCells
  let s := s.modCell i Cell.stop
  let s := if s.rng.block.any (fun x => x.1 == i) then { s with rng.block := [] } else s
  let s := s.raise 160 [i, test]
  let after := s.liveCells
  let s := if 12 ≤ before && after < 12 then s.raise 161 [after] else s
  if after < 8 then s.fatalEntropy 1 else s

/-- What the debiaser that NOISE_DEBIAS selects makes of a pair of raw samples: their exclusive-or, or with von Neumann's the first of an
unequal pair and nothing of an equal one (R307; that it is the first is PRESUMED, log entry 103). -/
def debias (fuse : Nat) (x y : Bool) : Option Bool := if fuse == 0 then some (x != y) else if x == y then none else some x

/-- The healthy cell whose turn is next at the conditioner (R311). -/
def State.turnCell (s : State) : Option Nat :=
  ((List.range 16).map fun k => (s.rng.turn + k) % 16).find? fun i => (s.rng.cells[i]?).any (·.healthy)

/-- The conditioner takes bits from the healthy cells in turn, one from each, as far as they have them (R311). `fuel` bounds their number. -/
def State.gather : Nat → State → State
  | 0, s => s
  | fuel + 1, s =>
    match s.turnCell with
    | none => s
    | some i =>
      match (s.rng.cells[i]?).bind (·.bits.head?) with
      | none => s
      | some b =>
        State.gather fuel { (s.modCell i fun c => { c with bits := c.bits.drop 1 }) with
          rng.block := s.rng.block ++ [(i, b)], rng.turn := (i + 1) % 16 }

/-- A debiased bit: the tests of its cell, and the conditioner while the cell is healthy (R308, R311). -/
def State.noiseBit (s : State) (i : Nat) (b : Bool) : State :=
  match s.rng.cells[i]? with
  | none => s
  | some c =>
    if !s.rngRuns || c.stopped then s
    else
      let c' := c.count b s.clock.now
      let s := s.modCell i fun _ => c'
      match c'.failedTest with
      | some test => s.stopCell i test
      | none =>
        if c.healthy then
          let s := s.modCell i fun c => { c with bits := c.bits ++ [b] }
          s.gather (s.rng.cells.map (·.bits.length)).sum
        else s

/-- A pair of raw samples goes through the debiaser; without a bit nothing else happens (R307). -/
def State.rawPair (s : State) (i : Nat) (x y : Bool) : State :=
  match debias s.fuses.noiseDebias x y with | some b => s.noiseBit i b | none => s

/-- NOISE_BIT (R307, R308). -/
def execNoiseBit (t cell : Nat) (raw : Bool × Bool) (s : State) : Host.Outcome State Fault Refusal :=
  .next ((s.advance t).rawPair cell raw.1 raw.2).resume

/-- A cell without a bit for 100 us, the settling time after Boot entry apart, fails its stall test (R308, R319). -/
def State.stall (s : State) (i : Nat) : State :=
  match s.rng.cells[i]? with
  | none => s
  | some c =>
    if s.rngRuns && !c.stopped && max c.lastAt (s.power.bootAt + settleTime) + stallLimit ≤ s.clock.now then s.stopCell i 3 else s

/-- CELL_STALL_TIMEOUT (R308). -/
def execCellStallTimeout (t cell : Nat) (s : State) : Host.Outcome State Fault Refusal := .next ((s.advance t).stall cell).resume

/-- A cell that has passed 1,024 bits becomes healthy (R308, R310). -/
def State.startupPass (s : State) (i : Nat) : State :=
  s.modCell i fun c => if s.rngRuns && !c.stopped && windowBits ≤ c.started then { c with healthy := true } else c

/-- CELL_STARTUP_PASS (R310). -/
def execCellStartupPass (t cell : Nat) (s : State) : Host.Outcome State Fault Refusal := .next ((s.advance t).startupPass cell)

/-! ### The conditioner (R311, R312) -/

/-- Bits of a block (R311). -/
def blockBits : Nat := 512

/-- Bits packed into bytes, first bit lowest. -/
def packBits : Nat → List Bool → Bytes
  | 0, _ => []
  | fuel + 1, l =>
    if l.isEmpty then []
    else BitVec.ofNat 8 (((l.take 8).zipIdx.map fun (b, i) => b2n b * 2 ^ i).sum) :: packBits fuel (l.drop 8)

/-- Blocks that the module keeps ready: four until the DRBG is instantiated, then two (R314). -/
def State.readyLimit (s : State) : Nat := if s.rng.state == .unseeded then 4 else 2

/-- A block fails: discarded, the conditioner reset to collect fresh bits, source 162, and the third failure in 1 s fatal (R312, R313). -/
def State.blockFails (s : State) : State :=
  let recent := (s.rng.failures.filter fun t => s.clock.now < t + 1000 * ms) ++ [s.clock.now]
  let s := ({ s with rng.failures := recent, rng.block := [], rng.cells := s.rng.cells.map (fun (c : Cell) => { c with bits := [] }) }).raise 162 [recent.length]
  if 3 ≤ recent.length then s.fatalEntropy 2 else s

/-- The draws of jobs and of the reseed that wait are served (R316, R317). -/
def State.blockReady (s : State) : State :=
  match s.rng.state with
  | .reseedDue => if 2 ≤ s.rng.ready.length then s.reseed.serveDraws else s
  | .seeded => s.serveDraws
  | .unseeded | .failed | .blocked => s

/-- A block of 512 bits is compressed twice and compared (R311, R312). -/
def State.condition (s : State) (agree : Bool) : State :=
  if !s.rngRuns || s.rng.fatal || s.rng.block.length < blockBits then s
  else
    let out := std .conditioner 0 [packBits 64 ((s.rng.block.take blockBits).map (·.2))] 16
    let same := s.rng.lastOutput == some out
    let s := { s with rng.block := s.rng.block.drop blockBits, rng.lastOutput := some out }
    if !agree || same then s.blockFails
    else
      let all := s.rng.ready ++ [out]
      ({ s with rng.ready := all.drop (all.length - s.readyLimit) }).blockReady

/-- CONDITIONED_BLOCK (R311). -/
def execConditionedBlock (t : Nat) (agree : Bool) (s : State) : Host.Outcome State Fault Refusal := .next ((s.advance t).condition agree).resume

/-! ### The DRBG (R314, R316, R319) -/

/-- Longest refill time of RNG_DATA, whole nanoseconds (R323). -/
def refillTime : Nat := 22

/-- Refills RNG_DATA with a word of the DRBG (R323). -/
def State.refillData (s : State) : State :=
  if s.rng.valid || s.rng.state != .seeded then s
  else let (s, n) := s.serveDraw false 1; { s with rng.data := BitVec.ofNat 64 (leNat (drawBytes n 8)), rng.valid := true }

/-- Instantiation, and the per-boot GDDR7 key (R14, R314, R319). -/
def State.instantiate (s : State) : State :=
  let s := { s with
    rng.state := .seeded
    rng.seed := std .drbg 0 (s.rng.ready.take 4 ++ [s.fuses.uniqueId, toLe 8 s.journal.bootCount]) 48
    rng.ready := s.rng.ready.drop 4, rng.calls := 0, rng.reseedAt := s.clock.now }
  let (s, n) := s.serveDraw false 1
  ({ s with rng.gddrKey := drawBytes n 64 }).refillData.serveDraws

/-- DRBG_INSTANTIATE: in Boot, with four blocks ready; a failed known-answer test is fatal (R313, R314, R316). -/
def State.drbgStart (s : State) (katOk : Bool) : State :=
  if s.power.mode != .boot || !s.rngRuns || s.rng.state != .unseeded || s.rng.ready.length < 4 then s
  else if katOk then s.instantiate else s.fatalEntropy 3

/-- DRBG_INSTANTIATE (R316). -/
def execDrbgInstantiate (t : Nat) (katOk : Bool) (s : State) : Host.Outcome State Fault Refusal := .next ((s.advance t).drbgStart katOk).resume

/-- A reseed is due: FAILED after a fatal failure (a refill of RNG_DATA that has fallen due in SEEDED is made first, R323), RESEED_DUE with fewer than two blocks, a fatal failure when the test fails (R316). -/
def State.reseedDue (s : State) (katOk : Bool) : State :=
  match s.rng.state with
  | .seeded =>
    if s.rng.fatal then s.drbgFailed
    else if !katOk then s.fatalEntropy 3
    else if 2 ≤ s.rng.ready.length then s.reseed.serveDraws
    else
      let s := if s.rng.readAt + refillTime ≤ s.clock.now then s.refillData else s
      ({ s with rng.state := .reseedDue, rng.dueSince := s.clock.now }).raise 165 [s.rng.ready.length]
  | .reseedDue => if katOk then s else s.fatalEntropy 3
  | .unseeded | .failed | .blocked => s

/-- RESEED_TIMER: 100 ms after the last reseed (R314); in RESEED_DUE it stands for the test before the reseed that is due. -/
def execReseedTimer (t : Nat) (katOk : Bool) (s : State) : Host.Outcome State Fault Refusal :=
  let s := s.advance t
  .next (if s.rng.reseedAt + 100 * ms ≤ s.clock.now then s.reseedDue katOk else s).resume

/-- RESEED_CALL_COUNT: 2^20 generate calls after the last reseed (R314). -/
def execReseedCallCount (t : Nat) (katOk : Bool) (s : State) : Host.Outcome State Fault Refusal :=
  let s := s.advance t
  .next (if 2 ^ 20 ≤ s.rng.calls then s.reseedDue katOk else s).resume

/-- RESEED_DUE_TIMEOUT: 10 ms in RESEED_DUE (R313). -/
def execReseedDueTimeout (t : Nat) (s : State) : Host.Outcome State Fault Refusal :=
  let s := s.advance t
  .next (if s.rng.state == .reseedDue && s.rng.dueSince + 10 * ms ≤ s.clock.now then s.fatalEntropy 4 else s).resume

/-! ### Mask seeds and RNG_DATA (R91, R323) -/

/-- Seeds that a tile's pool holds (R91). -/
def seedPool : Nat := 4

/-- One more mask seed for a powered tile, where the DRBG serves it (R91, R317). -/
def State.seedRefill (s : State) (tile : Nat) : State :=
  match s.engines.tiles[tile]? with
  | none => s
  | some e =>
    if seedPool ≤ e.seeds.length || !s.domainOn (engineDomain .press tile) || s.drawFate false != .served then s
    else
      let (s, n) := s.serveDraw false 1
      s.modEngine .press tile fun e => { e with seeds := e.seeds ++ [n] }

/-- MASK_SEED_REFILL (R91). -/
def execMaskSeedRefill (t tile : Nat) (s : State) : Host.Outcome State Fault Refusal := .next ((s.advance t).seedRefill tile).resume

/-- A read of RNG_DATA: the word, or 0 with EMPTY_READ and, at most once per 1 ms, source 166 (R323). -/
def State.readData (s : State) : State :=
  if !s.domainOn 3 then s
  else
    let s := if s.rng.readAt + refillTime ≤ s.clock.now then s.refillData else s
    if s.rng.valid then { s with rng.lastWord := s.rng.data, rng.data := 0, rng.valid := false, rng.readAt := s.clock.now }
    else
      let n := s.rng.emptyEvent.1 + 1
      let last := s.rng.emptyEvent.2
      let s := { s with rng.lastWord := 0, rng.emptyRead := true, rng.emptyEvent := (n, last) }
      if due1ms last s.clock.now then ({ s with rng.emptyEvent := (0, some s.clock.now) }).raise 166 [n] else s

/-- RNG_DATA_READ (R323). -/
def execRngDataRead (t : Nat) (s : State) : Host.Outcome State Fault Refusal := .next (s.advance t).readData.resume

/-! ### Register writes (R9, R322, R497) -/

/-- A write: W1C and RW fields change, RO and HW fields do not (R9, R37, R322, R497). -/
def State.writeRegister (s : State) (r : WritableReg) (v : BitVec 64) : State :=
  match r with
  | .bdExpect n => s.bdDo fun u => { u with expect := u.expect.set n v }
  | .bdSnoop => s.bdDo fun u => { u with snoop := v.getLsbD 3 }
  | .bdStatus => s.bdDo fun u => { u with refused := u.refused && !v.getLsbD 2 }
  | .rngStatus => if s.domainOn 3 then { s with rng.emptyRead := s.rng.emptyRead && !v.getLsbD 1 } else s
  | .rngData | .vintage _ | .fuseMirror => s

/-- REGISTER_WRITE (R9). -/
def execRegisterWrite (t : Nat) (reg : WritableReg) (value : BitVec 64) (s : State) : Host.Outcome State Fault Refusal :=
  .next ((s.advance t).writeRegister reg value)

end Sys2Proof.Machine
end

