-- ==== Sys2Proof/Machine/TastingRows.lean ====
section
/-!
DEFINITION. The commands of Tasting, and the short self-test of Boot (18 R526, R527, R529).
-/
namespace Sys2Proof.Machine

/-- A fault lies in the memory that a step tests (R525). -/
def stepFinds (b : Bytes) (f : MemFault) : Bool :=
  memIsland f.memId == memIsland (stepMem b) && (memInstance (stepMem b) == 0x3FF || f.memId == stepMem b)

/-- Islands of the short self-test of Boot (R529). -/
def selfTestIsland (f : MemFault) : Bool := 55 ≤ memIsland f.memId && memIsland f.memId ≤ 57

/-- A step ends with the faults it found; in Boot it is the short self-test, whose faults are repaired at once (R526, R527, R529). -/
def State.stepDone (s : State) (faults : List MemFault) : State :=
  match s.power.mode with
  | .tasting =>
    let s := (faults.filter (stepFinds s.stepNow)).foldl (fun s f => s.recordFault f) s
    (s.passStep .ran).nextStep (s.tasting.stepCount + 1)
  | .boot =>
    if s.power.bootStuck || s.tasting.criticalDone then s
    else ((faults.filter selfTestIsland).foldl (fun s f => s.recordFault f) s).repairMemories
  | _ => s

/-- TASTING_STEP_DONE (R526, R529). -/
def execTastingStepDone (t : Nat) (faults : List MemFault) (s : State) : Host.Outcome State Fault Refusal := .next ((s.advance t).stepDone faults)

/-- A step that has reached its budget is cut (R526). -/
def State.stepCut (s : State) : State :=
  if s.power.mode == .tasting && s.tasting.stepAt + s.stepBudgetNs s.stepNow ≤ s.clock.now then
    (s.passStep .cut).nextStep (s.tasting.stepCount + 1)
  else s

/-- TASTING_STEP_BUDGET (R526). -/
def execTastingStepBudget (t : Nat) (s : State) : Host.Outcome State Fault Refusal := .next (s.advance t).stepCut

end Sys2Proof.Machine
end

