-- ==== Sys2Proof/Machine/TimeRows.lean ====
section
/-!
DEFINITION. Train time and its states, PTP and PPS, the time mark, polling of CONS_INDEX and Book checkpoints (13 R401, R402; 14 R418,
R426 to R429; 15 R459; 19 R554, R555; 09 R298).
-/
namespace Sys2Proof.Machine

/-! ### Time states (R428, R429) -/

/-- Steps Train time forward to the master's, with a new mark at once; source 218 (R427, R428). -/
def State.stepTime (s : State) (master : Nat) : State :=
  let d := master - s.clock.train
  let s := ({ s with clock.train := s.clock.train + d, clock.frac := 0 }).ensureMark
  (s.raise 218 [d]).lockTime

/-- AHEAD: source 219 with the lead (R428). -/
def State.aheadTime (s : State) (master : Nat) : State := (s.raise 219 [s.clock.train - master]).setTime .ahead

/-- The offset beyond which a Sync counts as ahead or behind (R428), in ns. -/
def syncBound : Nat := 1000

/-- Counts a Sync by the sign of its offset; a Sync of another sign ends the other counts, except that in LOCKED every Sync beyond the
bound goes on counting, on the side of the newest (R428: "Offset beyond ±1 µs for 4 consecutive Syncs"; DEDUCED, log entry 60). -/
def Clock.countSync (c : Clock) (master : Nat) : Clock :=
  let other (n : Nat) : Nat := if c.timeState == .locked then n else 0
  if c.train + syncBound < master then
    { c with syncsAhead := c.syncsAhead + other c.syncsBehind + 1, syncsBehind := 0, syncsWithin := 0 }
  else if master + syncBound < c.train then
    { c with syncsAhead := 0, syncsBehind := c.syncsBehind + other c.syncsAhead + 1, syncsWithin := 0 }
  else { c with syncsAhead := 0, syncsBehind := 0, syncsWithin := c.syncsWithin + 1 }

/-- A Sync accepted from clock `id` says that the master's time is `master` now: the table of R428. -/
def State.syncAt (s : State) (id master : Nat) : State :=
  let c := s.clock.countSync master
  let s := { s with clock := { c with lastSync := some (s.clock.now, master), lastMaster := id } }
  match s.clock.timeState with
  | .ahead => if s.clock.train ≤ master then s.lockTime else s
  | .locked =>
    if 4 ≤ s.clock.syncsAhead then s.stepTime master else if 4 ≤ s.clock.syncsBehind then s.aheadTime master else s
  | .unsynced | .holdover =>
    if 4 ≤ s.clock.syncsAhead then s.stepTime master
    else if 4 ≤ s.clock.syncsBehind then s.aheadTime master
    else if 16 ≤ s.clock.syncsWithin then s.lockTime
    else s

/-! ### PTP (R401, R402, R459) -/

/-- GM_INDEX of the roster in force, 0xFFFF without one (R443). -/
def State.gmIndex (s : State) : Nat := match s.train.roster with | some r => rosGm r | none => 0xFFFF

/-- The module is grandmaster from PPS_IN (R459). -/
def State.isGm (s : State) : Bool := s.listed && s.gmIndex == s.deviceIndex

/-- The port runs PTP: its link is up, and in a Train it is a Train port (R401, R459). -/
def State.ptpRuns (s : State) (p : Nat) : Bool := s.clock.running && s.linkIsUp p && (!s.listed || s.trainPorts.contains p)

/-- A message comes from where the module accepts its master's messages: the grandmaster member's association, or unprotected from the
external master on the active port (R459). -/
def State.fromMaster (s : State) (p id : Nat) (member : Option Nat) : Bool :=
  if s.isGm then false
  else if s.gmIndex == 0xFFFF then member.isNone && s.clock.master == some id && s.clock.ptpPort == some p
  else match member with
    | some i => i == s.gmIndex && (match s.peer? i with | some x => x.keyed | none => false)
    | none => false

/-- Stamps that a port holds (R402). -/
def stampLimit : Nat := 64

/-- A PTP event message of a type whose stamp cannot be kept is discarded: counted, with the port's time-stamp-fault event (R402). -/
def State.stamped (s : State) (p type : Nat) : State × Bool :=
  match s.port? p with
  | none => (s, false)
  | some x => if x.stamps < stampLimit then (s, true) else ((s.countPort p 25 1).raise (99 + 4 * p) [type], false)

/-- The PTP master changes: source 217 (R415). -/
def State.setMaster (s : State) (p id : Nat) : State :=
  let old := s.clock.master
  let s := { s with clock.master := some id, clock.ptpPort := some p }
  if old == some id then s else s.raise 217 [id % 2 ^ 32]

/-- A Delay_Req to the master, inside its association or unprotected, as each Sync has been taken (R401, R459; when, is a DESIGN CHOICE, log
entry 60). -/
def State.sendDelayReq (s : State) (p : Nat) (member : Option Nat) : State :=
  let body := std .ptp 1 [] 44
  match member with
  | some i => (s.sendPeer i 0x30 0 body).1
  | none => s.emit (.ptp p none 1 body)

/-- The grandmaster's Sync and Follow_Up to every member, each inside its association (R459; when, is a DESIGN CHOICE, log entry 60). -/
def State.sendSyncs (s : State) : State :=
  let both (s : State) (i : Nat) : State := ((s.sendPeer i 0x30 0 (std .ptp 0 [] 44)).1.sendPeer i 0x30 0 (std .ptp 8 [toLe 8 s.clock.train] 44)).1
  ((s.train.peers.filter (·.keyed)).map (·.index)).foldl both s

/-- A Sync with its Follow_Up: the master's time now is its time stamp and the measured link delay (R401, R428). -/
def State.ptpSync (s : State) (p id masterTime : Nat) (member : Option Nat) : State :=
  if !s.ptpRuns p || !s.fromMaster p id member then s
  else match s.stamped p 0 with
    | (s, false) => s
    | (s, true) => ((s.setMaster p id).syncAt id (masterTime + s.clock.linkDelay)).sendDelayReq p member

/-- PTP_SYNC (R428). -/
def execPtpSync (t port master masterTime : Nat) (member : Option Nat) (s : State) : Host.Outcome State Fault Refusal :=
  .next ((s.advance t).ptpSync port master masterTime member)

/-- PTP_DELAY_RESP: the delay measured with it (R401). -/
def execPtpDelayResp (t port master delay : Nat) (member : Option Nat) (s : State) : Host.Outcome State Fault Refusal :=
  let s := s.advance t
  .next (if s.ptpRuns port && s.fromMaster port master member then { s with clock.linkDelay := delay } else s)

/-- A Delay_Req of a member to the grandmaster: answered with Delay_Resp inside the association (R401, R459). -/
def State.ptpDelayReq (s : State) (p requester : Nat) (member : Option Nat) : State :=
  match member with
  | none => s
  | some i =>
    if !s.isGm || !s.ptpRuns p || !(match s.peer? i with | some x => x.keyed | none => false) then s
    else match s.stamped p 1 with
      | (s, false) => s
      | (s, true) =>
        let body := std .ptp 9 [toLe 8 s.clock.train, toLe 8 requester] 54
        (s.sendPeer i 0x30 0 body).1

/-- PTP_DELAY_REQ (R401). -/
def execPtpDelayReq (t port requester : Nat) (member : Option Nat) (s : State) : Host.Outcome State Fault Refusal :=
  .next ((s.advance t).ptpDelayReq port requester member)

/-- An Announce of an external master: it becomes the module's master when it ranks better, or when the master has gone silent (R401,
R459). -/
def State.ptpAnnounce (s : State) (p id rank : Nat) : State :=
  let better := match s.clock.masterRank with | some r => rank < r | none => true
  if !s.ptpRuns p || s.gmIndex != 0xFFFF then s
  else if better || s.clock.master == some id then ({ s with clock.masterRank := some rank }).setMaster p id
  else s

/-- PTP_ANNOUNCE (R401). -/
def execPtpAnnounce (t port master rank : Nat) (s : State) : Host.Outcome State Fault Refusal :=
  .next ((s.advance t).ptpAnnounce port master rank)

/-- 3 s without a Sync: HOLDOVER, with the reduced rate kept after AHEAD (R428). -/
def State.syncTimeout (s : State) : State :=
  match s.clock.lastSync with
  | none => s
  | some (at', _) =>
    if s.clock.now < at' + 3000 * ms then s
    else match s.clock.timeState with
      | .locked => ({ s with clock.masterRank := none }).setTime .holdover
      | .ahead => ({ s with clock.masterRank := none, clock.reduced := true }).setTime .holdover
      | _ => s

/-- SYNC_TIMEOUT (R428). -/
def execSyncTimeout (t : Nat) (s : State) : Host.Outcome State Fault Refusal := .next (s.advance t).syncTimeout

/-- The lead kept in HOLDOVER is absorbed: the master's time at its last Sync, advanced, is reached (R428). -/
def State.reducedEnd (s : State) : State :=
  if s.clock.timeState == .holdover && s.clock.reduced && s.clock.reached then { s with clock.reduced := false } else s

/-- HOLDOVER_REDUCED_RATE_END (R428). -/
def execHoldoverReducedRateEnd (t : Nat) (s : State) : Host.Outcome State Fault Refusal := .next (s.advance t).reducedEnd

/-! ### PPS (R554, R555) -/

/-- A second of Train time. -/
def second : Nat := 1000000000

/-- The nearest whole second of Train time. -/
def nearestSecond (train : Nat) : Nat := (train + second / 2) / second * second

/-- The module's own clock identity (log entry 7). -/
def ownClock : Nat := beNat (romValue "clock identity" 8)

/-- An edge on PPS_IN, which acts only on the grandmaster member: the nearest second is the master's time, and the members get it (R459,
R554). -/
def State.ppsIn (s : State) : State :=
  if s.isGm && s.clock.running then (s.syncAt ownClock (nearestSecond s.clock.train)).sendSyncs else s

/-- PPS_IN_EDGE (R554). -/
def execPpsInEdge (t : Nat) (s : State) : Host.Outcome State Fault Refusal := .next (s.advance t).ppsIn

/-- PPS_OUT rises within 5 ns of each whole second of Train time (R555). -/
def State.ppsOut (s : State) : State :=
  let r := s.clock.train % second
  if s.clock.running && (r ≤ 5 || second ≤ r + 5) then s.emit .pps else s

/-- PPS_OUT_TICK (R555). -/
def execPpsOutTick (t : Nat) (s : State) : Host.Outcome State Fault Refusal := .next (s.advance t).ppsOut

/-! ### The mark (R427) -/

/-- The mark of every 10 ms is written: Train time plus 20 ms. -/
def State.markTimer (s : State) : State :=
  if s.clock.running then { s with clock.markPending := some (s.clock.train + markLead) } else s

/-- TIME_MARK_TIMER (R427). -/
def execTimeMarkTimer (t : Nat) (s : State) : Host.Outcome State Fault Refusal := .next (s.advance t).markTimer

/-- A mark being written is durable. -/
def State.markDurable (s : State) : State :=
  match s.clock.markPending with
  | some m => { s with journal.timeMark := max s.journal.timeMark m, clock.markPending := none }
  | none => s

/-- TIME_MARK_DURABLE (R427). -/
def execTimeMarkDurable (t : Nat) (s : State) : Host.Outcome State Fault Refusal := .next (s.advance t).markDurable

/-! ### CONS_INDEX (R418, R421) -/

/-- A READ of the ring's CONS_INDEX is outstanding. -/
def State.polling (s : State) (x : EventRing) : Bool :=
  match s.conn? x.conn with
  | some k => (k.reads.any fun r => r.2 == .consIndex x.index) || k.readQueue.any fun r => r.2.2.2.2 == .consIndex x.index
  | none => true

/-- Reads a ring's CONS_INDEX when fewer than size / 4 places are free, once per 10 us at most, and once per 1 ms while the export ring
holds uncredited units (R418). -/
def State.pollRing (s : State) (ring : Nat) : State :=
  match s.ering? ring with
  | none => s
  | some x =>
    let low := x.room < x.size / 4 && spaced x.lastPoll 10000 s.clock.now
    let book := s.book.exportRing == some ring && !s.book.placed.isEmpty && spaced x.lastPoll ms s.clock.now
    if x.dead || s.polling x || !(low || book) then s
    else
      (s.modEring ring fun y => { y with lastPoll := some s.clock.now }).issueRead x.conn x.rkey
        (x.base + x.size * s.ringUnit ring + 8) 4 (.consIndex ring)

/-- CONS_INDEX_POLL (R418). -/
def execConsIndexPoll (t ring : Nat) (s : State) : Host.Outcome State Fault Refusal := .next ((s.advance t).pollRing ring)

/-- An outstanding READ of a ring's CONS_INDEX is answered with a value (R418). -/
def State.consRead (s : State) (ring value : Nat) : State :=
  match (s.ering? ring).bind fun x => s.conn? x.conn with
  | none => s
  | some k =>
    match k.reads.find? fun r => r.2 == .consIndex ring with
    | none => s
    | some (id, _) => s.readAnswered k.index id (toLe 4 value)

/-- CONS_INDEX_READ_DONE (R418, R421). -/
def execConsIndexReadDone (t ring value : Nat) (s : State) : Host.Outcome State Fault Refusal := .next ((s.advance t).consRead ring value).resume

/-! ### Checkpoints (R298) -/

/-- RECOVERY, the first entry after every reset, is still to come: Boot and Recovery, in Hold too (R295, R438; DEDUCED, log entry 90). -/
def State.beforeRecovery (s : State) : Bool :=
  let early (m : Mode) : Bool := m == .boot || m == .recovery
  early s.power.mode || (s.power.mode == .hold && s.power.held.any early)

/-- A checkpoint is due and one may be appended: checkpoints wait for the RECOVERY entry (R295, R298). -/
def State.dueCheckpoint (s : State) : State := if s.beforeRecovery then s else s.checkpoint

/-- A checkpoint 1 s after the last, with entries appended since (R298). -/
def State.checkpointTimer (s : State) : State :=
  if s.clock.running && 1 ≤ s.book.sinceCheckpoint && s.book.checkpointAt + 1000 * ms ≤ s.clock.now then s.dueCheckpoint else s

/-- CHECKPOINT_TIMER (R298). -/
def execCheckpointTimer (t : Nat) (s : State) : Host.Outcome State Fault Refusal := .next (s.advance t).checkpointTimer

/-- CHECKPOINT_COUNT: 4,096 entries since the last (R298). -/
def execCheckpointCount (t : Nat) (s : State) : Host.Outcome State Fault Refusal :=
  let s := s.advance t
  .next (if s.clock.running && 4096 ≤ s.book.sinceCheckpoint then s.dueCheckpoint else s)

/-- Signing of the oldest checkpoint that waits ends: the anchor; or source 180, and it is signed again (R298, R301). -/
def State.checkpointSigned (s : State) (ok : Bool) : State :=
  match s.book.signing with
  | [] => s
  | e :: _ => if ok then s.checkpointDone else s.raise 180 [entrySeq e]

/-- CHECKPOINT_SIGNED (R298). -/
def execCheckpointSigned (t : Nat) (ok : Bool) (s : State) : Host.Outcome State Fault Refusal := .next ((s.advance t).checkpointSigned ok)

end Sys2Proof.Machine
end

