-- ==== Sys2Proof/Machine/TrainRows.lean ====
section
/-!
DEFINITION. The Train's messages and timers: keying, liveness, digests, pushes and the join (15 R445 to R457, R460; 01 R31).
-/
namespace Sys2Proof.Machine

/-! ### Messages received (R445, R447) -/

/-- Header fields of a message. -/
def msgType (m : TrainMsg) : Nat := le m.header 0 1
def msgSrc (m : TrainMsg) : Nat := le m.header 2 2 % 1024
def msgDst (m : TrainMsg) : Nat := le m.header 4 2 % 1024
def msgLen (m : TrainMsg) : Nat := le m.header 6 2
def msgSeq (m : TrainMsg) : Nat := le m.header 8 8
def msgAck (m : TrainMsg) : Nat := le m.header 0x18 8

/-- Most bytes of a body (R447). -/
def trainBodyMost : Nat := 6000

/-- A message of a type from a listed member to this module, on a Train port, from the addresses of a listed member, with a good tag (R445,
R447). -/
def State.trainMsgOk (s : State) (m : TrainMsg) (type : Nat) : Bool :=
  m.tagOk && m.header.length == 32 && msgType m == type && msgDst m == s.deviceIndex && msgSrc m != s.deviceIndex &&
  msgLen m == m.body.length && msgLen m ≤ trainBodyMost && s.keys && s.trainPorts.contains m.port &&
  (s.member? (msgSrc m)).isSome && s.peerMac m.srcMac

/-- The port heard the peer (R449). -/
def Peer.hears (p : Peer) (port now : Nat) : Peer := { p with heard := p.heard.filter (·.1 != port) ++ [(port, now)], lastRx := now }

/-! ### Keying (R448 to R450) -/

/-- Fields of a HELLO or HELLO_REPLY body. -/
def helloLen : Nat := 4345
def helloEk (b : Bytes) : Bytes := slice b 88 1568
def helloIdentity (b : Bytes) : Bytes := slice b 1656 2689

/-- The link and identity keys of a HELLO match the sender's member entry (R448). -/
def State.helloKeysOk (s : State) (i : Nat) (b : Bytes) : Bool :=
  match s.member? i with
  | some m => sha3 (helloEk b) == memLink m && sha3 (helloIdentity b) == memIdentity m
  | none => false

/-- SK, and FIN over TH and c_LO (R448). -/
def trainSk (k th : Bytes) : Bytes := kmac k th 88 "ZMTRAIN-SA"
def trainFin (k th c : Bytes) : Bytes := kmac k (th ++ c) 32 "ZMTRAIN-FIN"

/-- Installs the next association of a pair: source 209 at its first keying and 212 at a later one; unacknowledged pushes are sent again
under it (R449, R450, R455). -/
def State.installPair (s : State) (i port : Nat) (sk : Bytes) : State :=
  match s.peer? i with
  | none => s
  | some p =>
    let now := s.clock.now
    let fresh (p : Peer) : Peer :=
      { p with keyed := true, assoc := p.assoc + 1, oldAssoc := if p.keyed then some (p.assoc, now) else none, sk := sk, keyedAt := now,
               hello := [], reply := [], k1 := [], lastTx := now, down := false, txSeq := 0, rxSeq := 0, txPn := 0, rxPn := 0, pushes := [] }
    let s := s.modPeer i fun p => (fresh p).hears port now
    let s := { s with train.heldPushes := s.train.heldPushes.filter fun (h : Nat × Push) => h.1 != i }
    let s := s.raise (if p.keyed then 212 else 209) []
    let s := p.pushes.foldl (fun s x => s.pushTo i x) s
    s.startDigest i

/-- HELLO at the higher index: it answers with HELLO_REPLY, and the same HELLO on another port with the same reply (R448). -/
def State.hello (s : State) (m : TrainMsg) : State :=
  let i := msgSrc m
  if !s.trainMsgOk m 1 || s.deviceIndex ≤ i || m.body.length != helloLen || !s.helloKeysOk i m.body then s
  else match s.peer? i with
    | none => s
    | some p =>
      if p.hello == m.body && !p.reply.isEmpty then s.sendBoot m.port i 2 p.reply
      else match s.drawNow 64 with
        | (s, none) => s
        | (s, some r) =>
          let ek := helloEk m.body
          let reply := s.helloBody (r.take 32) ++ kemEncC 3 ek (r.drop 32)
          let k1 := kemEncK 3 ek (r.drop 32)
          let s := s.modPeer i fun p => { p with hello := m.body, reply := reply, k1 := k1, identity := helloIdentity m.body }
          s.sendBoot m.port i 2 reply

/-- TRAIN_HELLO (R448). -/
def execTrainHello (t : Nat) (m : TrainMsg) (s : State) : Host.Outcome State Fault Refusal := .next ((s.advance t).hello m)

/-- HELLO_REPLY at the lower index, which confirms and installs the associations (R448). -/
def State.helloReply (s : State) (m : TrainMsg) : State :=
  let i := msgSrc m
  if !s.trainMsgOk m 2 || i ≤ s.deviceIndex || m.body.length != helloLen + 1568 || !s.helloKeysOk i m.body then s
  else match s.peer? i with
    | none => s
    | some p =>
      if p.hello.isEmpty then s
      else match s.drawNow 32 with
        | (s, none) => s
        | (s, some r) =>
          let ek := helloEk m.body
          let c := kemEncC 3 ek r
          let k := kemDecK 3 s.linkSeed (m.body.drop helloLen) ++ kemEncK 3 ek r
          let th := sha3 (p.hello ++ m.body)
          let s := s.sendBoot m.port i 3 (c ++ trainFin k th c)
          let s := s.modPeer i fun p => { p with identity := helloIdentity m.body }
          s.installPair i m.port (trainSk k th)

/-- TRAIN_HELLO_REPLY (R448). -/
def execTrainHelloReply (t : Nat) (m : TrainMsg) (s : State) : Host.Outcome State Fault Refusal := .next ((s.advance t).helloReply m).resume

/-- HELLO_CONFIRM at the higher index: FIN is checked and the associations installed (R448). -/
def State.helloConfirm (s : State) (m : TrainMsg) : State :=
  let i := msgSrc m
  if !s.trainMsgOk m 3 || s.deviceIndex ≤ i || m.body.length != 1600 then s
  else match s.peer? i with
    | none => s
    | some p =>
      if p.reply.isEmpty then s
      else
        let c := m.body.take 1568
        let k := p.k1 ++ kemDecK 3 s.linkSeed c
        let th := sha3 (p.hello ++ p.reply)
        if m.body.drop 1568 == trainFin k th c then s.installPair i m.port (trainSk k th) else s

/-- TRAIN_HELLO_CONFIRM (R448). -/
def execTrainHelloConfirm (t : Nat) (m : TrainMsg) (s : State) : Host.Outcome State Fault Refusal := .next ((s.advance t).helloConfirm m).resume

/-- Instant `since` lies at least `d` ns back. -/
def State.elapsed (s : State) (since d : Nat) : Bool := since + d ≤ s.clock.now

/-- The lower index sends its next HELLO, 100 ms after the last, to a member without an association or with an exchange unfinished
(R448). -/
def State.helloTimer (s : State) (i : Nat) : State :=
  match s.peer? i with
  | none => s
  | some p =>
    let due := match p.lastHello with | some t => s.elapsed t (100 * ms) | none => true
    if due && (!p.keyed || !p.hello.isEmpty) then s.startKeying i else s

/-- TRAIN_HELLO_TIMER (R448). -/
def execTrainHelloTimer (t peer : Nat) (s : State) : Host.Outcome State Fault Refusal := .next ((s.advance t).helloTimer peer)

/-- The lower index keys a pair again 24 h after the last keying, or when a number reaches 2^62 (R450). -/
def State.rekeyTimer (s : State) (i : Nat) : State :=
  match s.peer? i with
  | none => s
  | some p => if p.keyed && (s.elapsed p.keyedAt (86400000 * ms) || 2 ^ 62 ≤ p.txPn || 2 ^ 62 ≤ p.rxPn) then s.startKeying i else s

/-- TRAIN_REKEY_TIMER (R450). -/
def execTrainRekeyTimer (t peer : Nat) (s : State) : Host.Outcome State Fault Refusal := .next ((s.advance t).rekeyTimer peer)

/-- The previous association is deleted 100 ms after the new one (R450). -/
def State.oldSaExpiry (s : State) (i : Nat) : State :=
  let drop (p : Peer) : Peer :=
    match p.oldAssoc with
    | some (_, at') => if s.elapsed at' (100 * ms) then { p with oldAssoc := none } else p
    | none => p
  s.modPeer i drop

/-- OLD_SA_EXPIRY (R450). -/
def execOldSaExpiry (t peer : Nat) (s : State) : Host.Outcome State Fault Refusal := .next ((s.advance t).oldSaExpiry peer)

/-! ### Messages inside an association (R447, R450, R451) -/

/-- The association of a message is the pair's, or the previous one for 100 ms (R450). -/
def State.assocOk (s : State) (p : Peer) (m : TrainMsg) : Bool :=
  p.keyed && (m.assocNo == p.assoc || (match p.oldAssoc with | some (a, at') => m.assocNo == a && !s.elapsed at' (100 * ms) | none => false))

/-- A message from a keyed peer arrives: it is heard, its acknowledgement taken, its number counted when it is the next in order. -/
def Peer.receive (p : Peer) (m : TrainMsg) (now : Nat) : Peer :=
  let p := p.hears m.port now
  if m.assocNo != p.assoc then p
  else { p with pushes := p.pushes.filter fun x => msgAck m < x.seq, rxPn := max p.rxPn m.pn, rxSeq := if msgSeq m == p.rxSeq + 1 then msgSeq m else p.rxSeq }

/-- Receives a message of a type from a keyed peer: the peer as it was, and the state after; none when it is not accepted. -/
def State.receive (s : State) (m : TrainMsg) (type : Nat) : Option (Peer × State) :=
  match s.peer? (msgSrc m) with
  | none => none
  | some p =>
    if s.trainMsgOk m type && s.assocOk p m then some (p, s.modPeer p.index fun p => p.receive m s.clock.now) else none

/-- A DOWN peer that is heard again is up, and digests are exchanged (R451, R455). -/
def State.peerBack (s : State) (i : Nat) : State :=
  match s.peer? i with
  | some p => if p.down then (s.modPeer i fun p => { p with down := false }).startDigest i else s
  | none => s

/-- A LIVE, or another message that only shows that the peer is there. -/
def State.live (s : State) (m : TrainMsg) (type : Nat) : State :=
  match s.receive m type with
  | some (p, s) => s.peerBack p.index
  | none => s

/-- TRAIN_LIVE (R451). -/
def execTrainLive (t : Nat) (m : TrainMsg) (s : State) : Host.Outcome State Fault Refusal := .next ((s.advance t).live m 0x10).resume

/-- TRAIN_PTP: what the message says is the PTP commands' (R460). -/
def execTrainPtp (t : Nat) (m : TrainMsg) (s : State) : Host.Outcome State Fault Refusal := .next ((s.advance t).live m 0x30)

/-- LEAVE: the peer is DOWN, cause 4 (R451). -/
def State.leaveMsg (s : State) (m : TrainMsg) : State :=
  match s.receive m 0x11 with
  | some (p, s) => s.peerDown p.index 4
  | none => s

/-- TRAIN_LEAVE_MSG (R451). -/
def execTrainLeaveMsg (t : Nat) (m : TrainMsg) (s : State) : Host.Outcome State Fault Refusal := .next ((s.advance t).leaveMsg m)

/-- LIVE after 100 ms without a message (R451). -/
def State.liveTimer (s : State) (i : Nat) : State :=
  match s.peer? i with
  | some p => if p.keyed && s.elapsed p.lastTx (100 * ms) then s.ackPeer i else s
  | none => s

/-- TRAIN_LIVE_TIMER (R451). -/
def execTrainLiveTimer (t peer : Nat) (s : State) : Host.Outcome State Fault Refusal := .next ((s.advance t).liveTimer peer)

/-- 300 ms of silence: the peer is DOWN, cause 1 (R451). -/
def State.silence (s : State) (i : Nat) : State :=
  match s.peer? i with
  | some p => if p.keyed && s.elapsed p.lastRx (300 * ms) then s.peerDown i 1 else s
  | none => s

/-- PEER_SILENCE_TIMEOUT (R451). -/
def execPeerSilenceTimeout (t peer : Nat) (s : State) : Host.Outcome State Fault Refusal := .next ((s.advance t).silence peer)

/-! ### Digests and pushes (R452, R454, R455) -/

/-- A DIGEST: after the last, the module answers with its own where it has not sent it, and pushes what the peer lacks (R452). -/
def State.digest (s : State) (m : TrainMsg) : State :=
  match s.receive m 0x21 with
  | none => s
  | some (p, s) =>
    let s := s.peerBack p.index
    if m.assocNo == p.assoc && msgSeq m ≤ p.rxSeq then s
    else
      let again (x : Peer) : Peer := if x.digestRecv then { x with digestRecv := false, digestSent := false, digest := [] } else x
      let es := digestOf m.body
      let s := s.modPeer p.index fun x => { again x with digest := (again x).digest ++ es }
      if digestLimit ≤ es.length then s
      else
        let s := (s.modPeer p.index fun x => { x with digestRecv := true }).startDigest p.index
        s.catchUp p.index

/-- TRAIN_DIGEST (R452). -/
def execTrainDigest (t : Nat) (m : TrainMsg) (s : State) : Host.Outcome State Fault Refusal := .next ((s.advance t).digest m).resume

/-- The push of a message (log entry 24). -/
def pushOfBody (b : Bytes) (seq : Nat) : Push :=
  let object := le b 0 4
  let h := if object < 2 ^ 30 then 96 else 72
  { object := object, version := (le b 4 8, le b 12 2 % 1024), destroy := bit (byteAt b 14) 0, header := slice b 16 h,
    material := b.drop (16 + h), seq := seq }

/-- A PUSH: applied, ignored or refused, and acknowledged; or held, behind those already held from the peer (R292, R454, R455). -/
def State.push (s : State) (m : TrainMsg) : State :=
  match s.receive m 0x20 with
  | none => s
  | some (p, s) =>
    let i := p.index
    let s := s.peerBack i
    if m.assocNo != p.assoc || msgSeq m != p.rxSeq + 1 then s.ackPeer i
    else
      let x := pushOfBody m.body (msgSeq m)
      let hold (s : State) : State := { s with train.heldPushes := s.train.heldPushes ++ [(i, x)] }
      if s.train.heldPushes.any (·.1 == i) then hold s
      else match s.takePush x with
        | (s, true) => s.ackPeer i
        | (s, false) => hold s

/-- TRAIN_PUSH (R454, R455). -/
def execTrainPush (t : Nat) (m : TrainMsg) (s : State) : Host.Outcome State Fault Refusal := .next ((s.advance t).push m).resume

/-- Unacknowledged pushes are sent again, in their order and under their numbers (R455). -/
def State.resend (s : State) (i : Nat) : State :=
  match s.peer? i with
  | none => s
  | some p =>
    if !p.keyed || p.down || (s.peerPort p).isNone then s
    else
      let send (s : State) (x : Push) : State :=
        let s := s.ensureMark
        let body := pushBody x
        s.postPair i (trainHeader 0x20 1 s.deviceIndex i body.length x.seq s.clock.train (s.ackSeq p)) body
      p.pushes.foldl send s

/-- PUSH_RESEND (R455). -/
def execPushResend (t peer : Nat) (s : State) : Host.Outcome State Fault Refusal := .next ((s.advance t).resend peer)

/-! ### The join (R451, R452) -/

/-- JOINING ends: Service or Derated, source 211 with the peers caught up and absent (R452). -/
def State.endJoining (s : State) : State :=
  let done := (s.train.peers.filter (·.caughtUp)).length
  let absent := s.train.peers.length - done
  (({ s with train.state := .member }).returnToService).raise 211 [done, absent]

/-- JOINING, and in Train Join. -/
def State.joining (s : State) : Bool := s.train.state == .joining && s.power.mode == .trainJoin

/-- JOIN_TIMEOUT: 2 s since entry (R452). -/
def execJoinTimeout (t : Nat) (s : State) : Host.Outcome State Fault Refusal :=
  let s := s.advance t
  .next (if s.joining && s.elapsed s.train.joinSince (2000 * ms) then s.endJoining.resume else s)

/-- JOIN_CATCH_UP_DONE: every listed member caught up (R452). -/
def execJoinCatchUpDone (t : Nat) (s : State) : Host.Outcome State Fault Refusal :=
  let s := s.advance t
  .next (if s.joining && s.train.peers.all (·.caughtUp) then s.endJoining.resume else s)

/-- Keying has failed for 1.5 s in JOINING: the peer is DOWN, cause 3 (R451). -/
def State.keyingTimeout (s : State) (i : Nat) : State :=
  match s.peer? i with
  | some p => if s.train.state == .joining && !p.keyed && s.elapsed s.train.joinSince (1500 * ms) then s.peerDown i 3 else s
  | none => s

/-- PEER_KEYING_TIMEOUT (R451). -/
def execPeerKeyingTimeout (t peer : Nat) (s : State) : Host.Outcome State Fault Refusal := .next ((s.advance t).keyingTimeout peer)

end Sys2Proof.Machine
end

