-- ==== Sys2Proof/Machine/Dispatch.lean ====
section
/-!
DEFINITION. One arm per command: the command's meaning, applied to everything but the queue.
-/
namespace Sys2Proof.Machine

/-- The effect of a command on the state. -/
def exec (i : Instr) (s : State) : Host.Outcome State Fault Refusal :=
  match i with
  | .ringEntryWrite t conn rkey addr data => Sys2Proof.Machine.execRingEntryWrite t conn rkey addr data s
  | .doorbell t conn offset data => Sys2Proof.Machine.execDoorbell t conn offset data s
  | .creditWord t conn offset data => Sys2Proof.Machine.execCreditWord t conn offset data s
  | .prefetch t queue count consume => Sys2Proof.Machine.execPrefetch t queue count consume s
  | .unknownOpcodeEntry t job => Sys2Proof.Machine.execUnknownOpcodeEntry t job s
  | .nop t job => Sys2Proof.Machine.execNop t job s
  | .mlKemKeygen t job => Sys2Proof.Machine.execMlKemKeygen t job s
  | .mlKemEncaps t job => Sys2Proof.Machine.execMlKemEncaps t job s
  | .mlKemDecaps t job => Sys2Proof.Machine.execMlKemDecaps t job s
  | .mlKemEkCheck t job => Sys2Proof.Machine.execMlKemEkCheck t job s
  | .mlKemKeygenInternal t job => Sys2Proof.Machine.execMlKemKeygenInternal t job s
  | .mlKemEncapsInternal t job => Sys2Proof.Machine.execMlKemEncapsInternal t job s
  | .mlDsaKeygen t job => Sys2Proof.Machine.execMlDsaKeygen t job s
  | .mlDsaSign t job => Sys2Proof.Machine.execMlDsaSign t job s
  | .mlDsaSignPrehash t job => Sys2Proof.Machine.execMlDsaSignPrehash t job s
  | .mlDsaSignMu t job => Sys2Proof.Machine.execMlDsaSignMu t job s
  | .mlDsaVerify t job => Sys2Proof.Machine.execMlDsaVerify t job s
  | .mlDsaVerifyPrehash t job => Sys2Proof.Machine.execMlDsaVerifyPrehash t job s
  | .mlDsaVerifyMu t job => Sys2Proof.Machine.execMlDsaVerifyMu t job s
  | .mlDsaKeygenInternal t job => Sys2Proof.Machine.execMlDsaKeygenInternal t job s
  | .hybridInitKeygen t job => Sys2Proof.Machine.execHybridInitKeygen t job s
  | .hybridRespond t job => Sys2Proof.Machine.execHybridRespond t job s
  | .hybridInitFinish t job => Sys2Proof.Machine.execHybridInitFinish t job s
  | .hqcKeygen t job => Sys2Proof.Machine.execHqcKeygen t job s
  | .hqcEncaps t job => Sys2Proof.Machine.execHqcEncaps t job s
  | .hqcDecaps t job => Sys2Proof.Machine.execHqcDecaps t job s
  | .hqcKeygenInternal t job => Sys2Proof.Machine.execHqcKeygenInternal t job s
  | .hqcEncapsInternal t job => Sys2Proof.Machine.execHqcEncapsInternal t job s
  | .mcelieceKeygen t job => Sys2Proof.Machine.execMcelieceKeygen t job s
  | .mcelieceEncaps t job => Sys2Proof.Machine.execMcelieceEncaps t job s
  | .mcelieceDecaps t job => Sys2Proof.Machine.execMcelieceDecaps t job s
  | .mceliecePkCache t job => Sys2Proof.Machine.execMceliecePkCache t job s
  | .mcelieceKeygenInternal t job => Sys2Proof.Machine.execMcelieceKeygenInternal t job s
  | .mcelieceEncapsInternal t job => Sys2Proof.Machine.execMcelieceEncapsInternal t job s
  | .slhDsaKeygen t job => Sys2Proof.Machine.execSlhDsaKeygen t job s
  | .slhDsaSign t job => Sys2Proof.Machine.execSlhDsaSign t job s
  | .slhDsaSignPrehash t job => Sys2Proof.Machine.execSlhDsaSignPrehash t job s
  | .slhDsaVerify t job => Sys2Proof.Machine.execSlhDsaVerify t job s
  | .slhDsaVerifyPrehash t job => Sys2Proof.Machine.execSlhDsaVerifyPrehash t job s
  | .slhDsaKeygenInternal t job => Sys2Proof.Machine.execSlhDsaKeygenInternal t job s
  | .lmsKeygen t job => Sys2Proof.Machine.execLmsKeygen t job s
  | .lmsSign t job => Sys2Proof.Machine.execLmsSign t job s
  | .lmsVerify t job => Sys2Proof.Machine.execLmsVerify t job s
  | .lmsStateGet t job => Sys2Proof.Machine.execLmsStateGet t job s
  | .xmssKeygen t job => Sys2Proof.Machine.execXmssKeygen t job s
  | .xmssSign t job => Sys2Proof.Machine.execXmssSign t job s
  | .xmssVerify t job => Sys2Proof.Machine.execXmssVerify t job s
  | .xmssStateGet t job => Sys2Proof.Machine.execXmssStateGet t job s
  | .hashDigest t job => Sys2Proof.Machine.execHashDigest t job s
  | .hashVerify t job => Sys2Proof.Machine.execHashVerify t job s
  | .hashOpen t job => Sys2Proof.Machine.execHashOpen t job s
  | .hashUpdate t job => Sys2Proof.Machine.execHashUpdate t job s
  | .hashFinal t job => Sys2Proof.Machine.execHashFinal t job s
  | .hashFinalVerify t job => Sys2Proof.Machine.execHashFinalVerify t job s
  | .hashAbort t job => Sys2Proof.Machine.execHashAbort t job s
  | .ecdsaKeygen t job => Sys2Proof.Machine.execEcdsaKeygen t job s
  | .ecdsaSign t job => Sys2Proof.Machine.execEcdsaSign t job s
  | .ecdsaVerify t job => Sys2Proof.Machine.execEcdsaVerify t job s
  | .eddsaKeygen t job => Sys2Proof.Machine.execEddsaKeygen t job s
  | .eddsaSign t job => Sys2Proof.Machine.execEddsaSign t job s
  | .eddsaVerify t job => Sys2Proof.Machine.execEddsaVerify t job s
  | .ecdhKeygen t job => Sys2Proof.Machine.execEcdhKeygen t job s
  | .ecdhDerive t job => Sys2Proof.Machine.execEcdhDerive t job s
  | .rsaKeygen t job => Sys2Proof.Machine.execRsaKeygen t job s
  | .rsaSignPkcs1 t job => Sys2Proof.Machine.execRsaSignPkcs1 t job s
  | .rsaSignPss t job => Sys2Proof.Machine.execRsaSignPss t job s
  | .rsaVerifyPkcs1 t job => Sys2Proof.Machine.execRsaVerifyPkcs1 t job s
  | .rsaVerifyPss t job => Sys2Proof.Machine.execRsaVerifyPss t job s
  | .rsaDecryptOaep t job => Sys2Proof.Machine.execRsaDecryptOaep t job s
  | .rsaEncryptOaep t job => Sys2Proof.Machine.execRsaEncryptOaep t job s
  | .gcmEncrypt t job => Sys2Proof.Machine.execGcmEncrypt t job s
  | .gcmDecrypt t job => Sys2Proof.Machine.execGcmDecrypt t job s
  | .ccmEncrypt t job => Sys2Proof.Machine.execCcmEncrypt t job s
  | .ccmDecrypt t job => Sys2Proof.Machine.execCcmDecrypt t job s
  | .ctr t job => Sys2Proof.Machine.execCtr t job s
  | .xtsEncrypt t job => Sys2Proof.Machine.execXtsEncrypt t job s
  | .xtsDecrypt t job => Sys2Proof.Machine.execXtsDecrypt t job s
  | .cmacGenerate t job => Sys2Proof.Machine.execCmacGenerate t job s
  | .cmacVerify t job => Sys2Proof.Machine.execCmacVerify t job s
  | .gmacGenerate t job => Sys2Proof.Machine.execGmacGenerate t job s
  | .gmacVerify t job => Sys2Proof.Machine.execGmacVerify t job s
  | .kwWrap t job => Sys2Proof.Machine.execKwWrap t job s
  | .kwUnwrap t job => Sys2Proof.Machine.execKwUnwrap t job s
  | .kwpWrap t job => Sys2Proof.Machine.execKwpWrap t job s
  | .kwpUnwrap t job => Sys2Proof.Machine.execKwpUnwrap t job s
  | .chachaEncrypt t job => Sys2Proof.Machine.execChachaEncrypt t job s
  | .chachaDecrypt t job => Sys2Proof.Machine.execChachaDecrypt t job s
  | .dlmsProtect t job => Sys2Proof.Machine.execDlmsProtect t job s
  | .dlmsUnprotect t job => Sys2Proof.Machine.execDlmsUnprotect t job s
  | .keyTransfer t job => Sys2Proof.Machine.execKeyTransfer t job s
  | .exportWrapped t job => Sys2Proof.Machine.execExportWrapped t job s
  | .checkValue t job => Sys2Proof.Machine.execCheckValue t job s
  | .kmGenerate t job => Sys2Proof.Machine.execKmGenerate t job s
  | .kmImport t job => Sys2Proof.Machine.execKmImport t job s
  | .kmExport t job => Sys2Proof.Machine.execKmExport t job s
  | .kmDestroy t job => Sys2Proof.Machine.execKmDestroy t job s
  | .kmPublicGet t job => Sys2Proof.Machine.execKmPublicGet t job s
  | .kmRewrap t job => Sys2Proof.Machine.execKmRewrap t job s
  | .kmRestore t job => Sys2Proof.Machine.execKmRestore t job s
  | .kmInfo t job => Sys2Proof.Machine.execKmInfo t job s
  | .rngGenerate t job => Sys2Proof.Machine.execRngGenerate t job s
  | .quote t job => Sys2Proof.Machine.execQuote t job s
  | .inputFetchDone t job => Sys2Proof.Machine.execInputFetchDone t job s
  | .keyExpansionDone t job => Sys2Proof.Machine.execKeyExpansionDone t job s
  | .journalWriteDurable t slot => Sys2Proof.Machine.execJournalWriteDurable t slot s
  | .jobDispatch t job part => Sys2Proof.Machine.execJobDispatch t job part s
  | .schedulingEpoch t => Sys2Proof.Machine.execSchedulingEpoch t s
  | .engineWaitTimeout t job => Sys2Proof.Machine.execEngineWaitTimeout t job s
  | .bookPlaceTimeout t job => Sys2Proof.Machine.execBookPlaceTimeout t job s
  | .recordWaitTimeout t who => Sys2Proof.Machine.execRecordWaitTimeout t who s
  | .keyChangePlaceTimeout t => Sys2Proof.Machine.execKeyChangePlaceTimeout t s
  | .entropyWaitTimeout t job => Sys2Proof.Machine.execEntropyWaitTimeout t job s
  | .chunkWaitTimeout t job => Sys2Proof.Machine.execChunkWaitTimeout t job s
  | .sessionIdleTimeout t session => Sys2Proof.Machine.execSessionIdleTimeout t session s
  | .jobCommit t job part => Sys2Proof.Machine.execJobCommit t job part s
  | .bankWipeDone t tile bank => Sys2Proof.Machine.execBankWipeDone t tile bank s
  | .operandWipeDone t engine => Sys2Proof.Machine.execOperandWipeDone t engine s
  | .jobRelease t job => Sys2Proof.Machine.execJobRelease t job s
  | .stagingSpaceFreed t job part => Sys2Proof.Machine.execStagingSpaceFreed t job part s
  | .tileFault t tile kind => Sys2Proof.Machine.execTileFault t tile kind s
  | .cooperFault t engine kind => Sys2Proof.Machine.execCooperFault t engine kind s
  | .hashCoreFault t core signatureCheck => Sys2Proof.Machine.execHashCoreFault t core signatureCheck s
  | .drayFault t dray kind => Sys2Proof.Machine.execDrayFault t dray kind s
  | .patchKatDone t kind engine pass => Sys2Proof.Machine.execPatchKatDone t kind engine pass s
  | .treeBuildDone t slot level index => Sys2Proof.Machine.execTreeBuildDone t slot level index s
  | .wqDrainDone t queue => Sys2Proof.Machine.execWqDrainDone t queue s
  | .generationDrained t carriage generation => Sys2Proof.Machine.execGenerationDrained t carriage generation s
  | .gddr7Uncorrectable t component row region target => Sys2Proof.Machine.execGddr7Uncorrectable t component row region target s
  | .gddr7CorrectedRate t component count => Sys2Proof.Machine.execGddr7CorrectedRate t component count s
  | .helloChallenge t conn msg => Sys2Proof.Machine.execHelloChallenge t conn msg s
  | .helloProve t conn msg => Sys2Proof.Machine.execHelloProve t conn msg s
  | .helloKeypairExpiry t conn => Sys2Proof.Machine.execHelloKeypairExpiry t conn s
  | .mbUnknownCommand t conn msg => Sys2Proof.Machine.execMbUnknownCommand t conn msg s
  | .vintageGet t conn msg => Sys2Proof.Machine.execVintageGet t conn msg s
  | .moduleInfo t conn msg => Sys2Proof.Machine.execModuleInfo t conn msg s
  | .sessionClose t conn msg => Sys2Proof.Machine.execSessionClose t conn msg s
  | .quoteGet t conn msg => Sys2Proof.Machine.execQuoteGet t conn msg s
  | .rngInfo t conn msg => Sys2Proof.Machine.execRngInfo t conn msg s
  | .wqCreate t conn msg => Sys2Proof.Machine.execWqCreate t conn msg s
  | .wqDestroy t conn msg => Sys2Proof.Machine.execWqDestroy t conn msg s
  | .crCreate t conn msg => Sys2Proof.Machine.execCrCreate t conn msg s
  | .crDestroy t conn msg => Sys2Proof.Machine.execCrDestroy t conn msg s
  | .wqInfo t conn msg => Sys2Proof.Machine.execWqInfo t conn msg s
  | .connInfo t conn msg => Sys2Proof.Machine.execConnInfo t conn msg s
  | .carriageCreate t conn msg => Sys2Proof.Machine.execCarriageCreate t conn msg s
  | .carriageResize t conn msg => Sys2Proof.Machine.execCarriageResize t conn msg s
  | .carriageDisable t conn msg => Sys2Proof.Machine.execCarriageDisable t conn msg s
  | .carriageReset t conn msg => Sys2Proof.Machine.execCarriageReset t conn msg s
  | .carriageDestroy t conn msg => Sys2Proof.Machine.execCarriageDestroy t conn msg s
  | .pmapSet t conn msg => Sys2Proof.Machine.execPmapSet t conn msg s
  | .windowSet t conn msg => Sys2Proof.Machine.execWindowSet t conn msg s
  | .carriageInfo t conn msg => Sys2Proof.Machine.execCarriageInfo t conn msg s
  | .cellarStatus t conn msg => Sys2Proof.Machine.execCellarStatus t conn msg s
  | .slotShare t conn msg => Sys2Proof.Machine.execSlotShare t conn msg s
  | .slotUnshare t conn msg => Sys2Proof.Machine.execSlotUnshare t conn msg s
  | .slotDestroy t conn msg => Sys2Proof.Machine.execSlotDestroy t conn msg s
  | .slotInfo t conn msg => Sys2Proof.Machine.execSlotInfo t conn msg s
  | .lowThresholdSet t conn msg => Sys2Proof.Machine.execLowThresholdSet t conn msg s
  | .wrapkeyRoll t conn msg => Sys2Proof.Machine.execWrapkeyRoll t conn msg s
  | .bookExportSet t conn msg => Sys2Proof.Machine.execBookExportSet t conn msg s
  | .bookRead t conn msg => Sys2Proof.Machine.execBookRead t conn msg s
  | .leafRelease t conn msg => Sys2Proof.Machine.execLeafRelease t conn msg s
  | .leafReleaseGet t conn msg => Sys2Proof.Machine.execLeafReleaseGet t conn msg s
  | .leafAccept t conn msg => Sys2Proof.Machine.execLeafAccept t conn msg s
  | .identityCertGet t conn msg => Sys2Proof.Machine.execIdentityCertGet t conn msg s
  | .provisionImport t conn msg => Sys2Proof.Machine.execProvisionImport t conn msg s
  | .trainStatus t conn msg => Sys2Proof.Machine.execTrainStatus t conn msg s
  | .rosterSet t conn msg => Sys2Proof.Machine.execRosterSet t conn msg s
  | .trainJoin t conn msg => Sys2Proof.Machine.execTrainJoin t conn msg s
  | .trainLeave t conn msg => Sys2Proof.Machine.execTrainLeave t conn msg s
  | .rosterGet t conn msg => Sys2Proof.Machine.execRosterGet t conn msg s
  | .vinWarnSet t conn msg => Sys2Proof.Machine.execVinWarnSet t conn msg s
  | .deratedClear t conn msg => Sys2Proof.Machine.execDeratedClear t conn msg s
  | .shutdownWakeStandby t conn msg => Sys2Proof.Machine.execShutdownWakeStandby t conn msg s
  | .shutdownWakeReset t conn msg => Sys2Proof.Machine.execShutdownWakeReset t conn msg s
  | .shutdownWakeWake t conn msg => Sys2Proof.Machine.execShutdownWakeWake t conn msg s
  | .shutdownDrainDone t => Sys2Proof.Machine.execShutdownDrainDone t s
  | .pressShareSet t conn msg => Sys2Proof.Machine.execPressShareSet t conn msg s
  | .powerStatus t conn msg inputMw lidMc => Sys2Proof.Machine.execPowerStatus t conn msg inputMw lidMc s
  | .entropyTestEnter t conn msg => Sys2Proof.Machine.execEntropyTestEnter t conn msg s
  | .entropyTestRead t conn msg samples failRep failProp => Sys2Proof.Machine.execEntropyTestRead t conn msg samples failRep failProp s
  | .provisioningEnter t conn msg => Sys2Proof.Machine.execProvisioningEnter t conn msg s
  | .provisioningExit t conn msg => Sys2Proof.Machine.execProvisioningExit t conn msg s
  | .lcTransition t conn msg => Sys2Proof.Machine.execLcTransition t conn msg s
  | .lcTransitionReset t => Sys2Proof.Machine.execLcTransitionReset t s
  | .debugChallenge t conn msg => Sys2Proof.Machine.execDebugChallenge t conn msg s
  | .debugChallengeExpiry t => Sys2Proof.Machine.execDebugChallengeExpiry t s
  | .debugAuth t conn msg => Sys2Proof.Machine.execDebugAuth t conn msg s
  | .debugRightsLapse t => Sys2Proof.Machine.execDebugRightsLapse t s
  | .fwStage t conn msg => Sys2Proof.Machine.execFwStage t conn msg s
  | .fwCommit t conn msg => Sys2Proof.Machine.execFwCommit t conn msg s
  | .fwConfirm t conn msg => Sys2Proof.Machine.execFwConfirm t conn msg s
  | .patchLoad t conn msg => Sys2Proof.Machine.execPatchLoad t conn msg s
  | .fwStatus t conn msg => Sys2Proof.Machine.execFwStatus t conn msg s
  | .eringCreate t conn msg => Sys2Proof.Machine.execEringCreate t conn msg s
  | .eringDestroy t conn msg => Sys2Proof.Machine.execEringDestroy t conn msg s
  | .efilterLoad t conn msg => Sys2Proof.Machine.execEfilterLoad t conn msg s
  | .expressEnable t conn msg => Sys2Proof.Machine.execExpressEnable t conn msg s
  | .expressDisable t conn msg => Sys2Proof.Machine.execExpressDisable t conn msg s
  | .expressStatus t conn msg => Sys2Proof.Machine.execExpressStatus t conn msg s
  | .portConfig t conn msg => Sys2Proof.Machine.execPortConfig t conn msg s
  | .classifierLoad t conn msg => Sys2Proof.Machine.execClassifierLoad t conn msg s
  | .portStatus t conn msg => Sys2Proof.Machine.execPortStatus t conn msg s
  | .tastingSet t conn msg => Sys2Proof.Machine.execTastingSet t conn msg s
  | .tastingLoad t conn msg => Sys2Proof.Machine.execTastingLoad t conn msg s
  | .tastingResults t conn msg => Sys2Proof.Machine.execTastingResults t conn msg s
  | .fuseRepair t conn msg => Sys2Proof.Machine.execFuseRepair t conn msg s
  | .cmReq t port req => Sys2Proof.Machine.execCmReq t port req s
  | .cmRtu t conn => Sys2Proof.Machine.execCmRtu t conn s
  | .cmDreq t conn => Sys2Proof.Machine.execCmDreq t conn s
  | .admitTokenRefill t port => Sys2Proof.Machine.execAdmitTokenRefill t port s
  | .admitSoftStartEnd t => Sys2Proof.Machine.execAdmitSoftStartEnd t s
  | .connectionError t conn cause => Sys2Proof.Machine.execConnectionError t conn cause s
  | .carriageMemoryWrite t conn rkey addr data => Sys2Proof.Machine.execCarriageMemoryWrite t conn rkey addr data s
  | .rdmaReadRequest t conn rkey addr len => Sys2Proof.Machine.execRdmaReadRequest t conn rkey addr len s
  | .rdmaReadResponse t conn id data => Sys2Proof.Machine.execRdmaReadResponse t conn id data s
  | .rdmaAck t conn nak => Sys2Proof.Machine.execRdmaAck t conn nak s
  | .rnrNak t conn => Sys2Proof.Machine.execRnrNak t conn s
  | .transportRetryTimer t conn => Sys2Proof.Machine.execTransportRetryTimer t conn s
  | .cnpReceived t conn => Sys2Proof.Machine.execCnpReceived t conn s
  | .cnpRateRestore t conn => Sys2Proof.Machine.execCnpRateRestore t conn s
  | .ingressFrame t port len frame marked => Sys2Proof.Machine.execIngressFrame t port len frame marked s
  | .mgmtFrame t port frame => Sys2Proof.Machine.execMgmtFrame t port frame s
  | .pfcFrame t port priority pause => Sys2Proof.Machine.execPfcFrame t port priority pause s
  | .pfcStormTimeout t port priority own => Sys2Proof.Machine.execPfcStormTimeout t port priority own s
  | .linkUp t port => Sys2Proof.Machine.execLinkUp t port s
  | .linkDown t port => Sys2Proof.Machine.execLinkDown t port s
  | .fecWindow t port lane codewords corrected received uncorrectable => Sys2Proof.Machine.execFecWindow t port lane codewords corrected received uncorrectable s
  | .ptpSync t port master masterTime member => Sys2Proof.Machine.execPtpSync t port master masterTime member s
  | .ptpDelayResp t port master delay member => Sys2Proof.Machine.execPtpDelayResp t port master delay member s
  | .ptpDelayReq t port requester member => Sys2Proof.Machine.execPtpDelayReq t port requester member s
  | .ptpAnnounce t port master rank => Sys2Proof.Machine.execPtpAnnounce t port master rank s
  | .syncTimeout t => Sys2Proof.Machine.execSyncTimeout t s
  | .ppsInEdge t => Sys2Proof.Machine.execPpsInEdge t s
  | .ppsOutTick t => Sys2Proof.Machine.execPpsOutTick t s
  | .timeMarkTimer t => Sys2Proof.Machine.execTimeMarkTimer t s
  | .timeMarkDurable t => Sys2Proof.Machine.execTimeMarkDurable t s
  | .consIndexPoll t ring => Sys2Proof.Machine.execConsIndexPoll t ring s
  | .consIndexReadDone t ring value => Sys2Proof.Machine.execConsIndexReadDone t ring value s
  | .checkpointTimer t => Sys2Proof.Machine.execCheckpointTimer t s
  | .checkpointCount t => Sys2Proof.Machine.execCheckpointCount t s
  | .checkpointSigned t ok => Sys2Proof.Machine.execCheckpointSigned t ok s
  | .noiseBit t cell raw => Sys2Proof.Machine.execNoiseBit t cell raw s
  | .cellStallTimeout t cell => Sys2Proof.Machine.execCellStallTimeout t cell s
  | .cellStartupPass t cell => Sys2Proof.Machine.execCellStartupPass t cell s
  | .conditionedBlock t agree => Sys2Proof.Machine.execConditionedBlock t agree s
  | .drbgInstantiate t katOk => Sys2Proof.Machine.execDrbgInstantiate t katOk s
  | .reseedTimer t katOk => Sys2Proof.Machine.execReseedTimer t katOk s
  | .reseedCallCount t katOk => Sys2Proof.Machine.execReseedCallCount t katOk s
  | .reseedDueTimeout t => Sys2Proof.Machine.execReseedDueTimeout t s
  | .maskSeedRefill t tile => Sys2Proof.Machine.execMaskSeedRefill t tile s
  | .rngDataRead t => Sys2Proof.Machine.execRngDataRead t s
  | .bdStart t owner => Sys2Proof.Machine.execBdStart t owner s
  | .bdFinish t owner => Sys2Proof.Machine.execBdFinish t owner s
  | .bdAbort t owner => Sys2Proof.Machine.execBdAbort t owner s
  | .bdDataWrite t owner data => Sys2Proof.Machine.execBdDataWrite t owner data s
  | .norReadSnooped t bank offset len => Sys2Proof.Machine.execNorReadSnooped t bank offset len s
  | .registerWrite t reg value => Sys2Proof.Machine.execRegisterWrite t reg value s
  | .vinStart t vin => Sys2Proof.Machine.execVinStart t vin s
  | .pllLock t => Sys2Proof.Machine.execPllLock t s
  | .pllLossOfLock t kept => Sys2Proof.Machine.execPllLossOfLock t kept s
  | .bootEnd t => Sys2Proof.Machine.execBootEnd t s
  | .expressReady t => Sys2Proof.Machine.execExpressReady t s
  | .recoveryEnd t => Sys2Proof.Machine.execRecoveryEnd t s
  | .vinWarnCrossing t vin => Sys2Proof.Machine.execVinWarnCrossing t vin s
  | .holdExit t vin => Sys2Proof.Machine.execHoldExit t vin s
  | .vinReset t vin => Sys2Proof.Machine.execVinReset t vin s
  | .nresetAssert t => Sys2Proof.Machine.execNresetAssert t s
  | .nwake t => Sys2Proof.Machine.execNwake t s
  | .vinLowDerate t vin => Sys2Proof.Machine.execVinLowDerate t vin s
  | .deratedExitTimer t vin => Sys2Proof.Machine.execDeratedExitTimer t vin s
  | .ladderStepUp t vin => Sys2Proof.Machine.execLadderStepUp t vin s
  | .inputPowerOver t currentMa vin => Sys2Proof.Machine.execInputPowerOver t currentMa vin s
  | .currentLimit t rail currentMa vin => Sys2Proof.Machine.execCurrentLimit t rail currentMa vin s
  | .thermalLimit t sensor temp => Sys2Proof.Machine.execThermalLimit t sensor temp s
  | .thermalStepTimer t temp => Sys2Proof.Machine.execThermalStepTimer t temp s
  | .junctionOvertemp t => Sys2Proof.Machine.execJunctionOvertemp t s
  | .lidTempWarn t temp => Sys2Proof.Machine.execLidTempWarn t temp s
  | .railFault t domain overCurrent => Sys2Proof.Machine.execRailFault t domain overCurrent s
  | .watchdogExpiry t => Sys2Proof.Machine.execWatchdogExpiry t s
  | .internalFault t => Sys2Proof.Machine.execInternalFault t s
  | .tamperMesh t => Sys2Proof.Machine.execTamperMesh t s
  | .tamperIn t n => Sys2Proof.Machine.execTamperIn t n s
  | .nzeroiseAssert t => Sys2Proof.Machine.execNzeroiseAssert t s
  | .vbatLow t => Sys2Proof.Machine.execVbatLow t s
  | .zeroiseReset t => Sys2Proof.Machine.execZeroiseReset t s
  | .tastingStepDone t faults => Sys2Proof.Machine.execTastingStepDone t faults s
  | .tastingStepBudget t => Sys2Proof.Machine.execTastingStepBudget t s
  | .trainHelloTimer t peer => Sys2Proof.Machine.execTrainHelloTimer t peer s
  | .trainHello t m => Sys2Proof.Machine.execTrainHello t m s
  | .trainHelloReply t m => Sys2Proof.Machine.execTrainHelloReply t m s
  | .trainHelloConfirm t m => Sys2Proof.Machine.execTrainHelloConfirm t m s
  | .trainLiveTimer t peer => Sys2Proof.Machine.execTrainLiveTimer t peer s
  | .trainLive t m => Sys2Proof.Machine.execTrainLive t m s
  | .trainLeaveMsg t m => Sys2Proof.Machine.execTrainLeaveMsg t m s
  | .trainPush t m => Sys2Proof.Machine.execTrainPush t m s
  | .trainDigest t m => Sys2Proof.Machine.execTrainDigest t m s
  | .trainPtp t m => Sys2Proof.Machine.execTrainPtp t m s
  | .pushResend t peer => Sys2Proof.Machine.execPushResend t peer s
  | .peerSilenceTimeout t peer => Sys2Proof.Machine.execPeerSilenceTimeout t peer s
  | .trainRekeyTimer t peer => Sys2Proof.Machine.execTrainRekeyTimer t peer s
  | .oldSaExpiry t peer => Sys2Proof.Machine.execOldSaExpiry t peer s
  | .joinTimeout t => Sys2Proof.Machine.execJoinTimeout t s
  | .joinCatchUpDone t => Sys2Proof.Machine.execJoinCatchUpDone t s
  | .maldinEcdsaSign t f => Sys2Proof.Machine.execMaldinEcdsaSign t f s
  | .maldinEcdsaVerify t f => Sys2Proof.Machine.execMaldinEcdsaVerify t f s
  | .maldinEcdh t f => Sys2Proof.Machine.execMaldinEcdh t f s
  | .maldinDlmsProtect t f => Sys2Proof.Machine.execMaldinDlmsProtect t f s
  | .maldinDlmsUnprotect t f => Sys2Proof.Machine.execMaldinDlmsUnprotect t f s
  | .maldinKeyDerive t f => Sys2Proof.Machine.execMaldinKeyDerive t f s
  | .maldinBadCommand t f => Sys2Proof.Machine.execMaldinBadCommand t f s
  | .maldinReplySend t frame => Sys2Proof.Machine.execMaldinReplySend t frame s
  | .nresetDeassert t vin => Sys2Proof.Machine.execNresetDeassert t vin s
  | .pfcStormIgnoreEnd t port priority => Sys2Proof.Machine.execPfcStormIgnoreEnd t port priority s
  | .holdoverReducedRateEnd t => Sys2Proof.Machine.execHoldoverReducedRateEnd t s
  | .peerKeyingTimeout t peer => Sys2Proof.Machine.execPeerKeyingTimeout t peer s
  | .keygenAttemptsExhausted t job => Sys2Proof.Machine.execKeygenAttemptsExhausted t job s
  | .currentStepTimer t currentMa => Sys2Proof.Machine.execCurrentStepTimer t currentMa s

end Sys2Proof.Machine
end

