-- ==== Sys2Proof/Machine/Step.lean ====
section
/-!
DEFINITION. One step of the block: the command at the front of the queue takes effect; with an empty queue the
microcode of the tiles and the ports run on.
-/
namespace Sys2Proof.Machine

/-- Takes the command at the front of the queue and answers its outcome; with an empty queue each tile that runs a routine executes one
microword, and the ports' buffers drain, leases run and one output leaves each port, and a command that blows
fuses goes on (R92, R379, R382, R384, R487, R495; DESIGN CHOICE, log entries 2, 93, 105, 106, 110 and 111). -/
def step (s : State) : Host.Outcome State Fault Refusal :=
  match s.pending with
  | [] => .next s.tick.idlePorts.idleFuses
  | c :: rest => exec c { s with pending := rest }

/-- The state with the command that a word spells put in front of the queue; unchanged where it spells none. -/
def State.withFetchWord (s : State) (nbits w : Nat) : State :=
  match decodeTableWord nbits w with
  | none => s
  | some c => { s with pending := c :: s.pending }

end Sys2Proof.Machine
end

