-- ==== Sys2Proof/Safety.lean ====
section
/-!
DEFINITION. The terms in which the statements speak of the module: a routine that runs and its result, a quiet module, a command that the
mailbox answers, and what no step may undo.
-/
namespace Sys2Proof.Machine

/-- The command completes, and the state after it satisfies `P`. -/
def Answers (o : Host.Outcome State Fault Refusal) (P : State → Prop) : Prop := ∃ s', o = .next s' ∧ P s'

/-- The command completes with exactly this state. -/
def Gives (o : Host.Outcome State Fault Refusal) (s' : State) : Prop := o = .next s'

/-- The command has the effect `P`, after which the jobs that waited for what it freed go on. -/
def Settles (o : Host.Outcome State Fault Refusal) (P : State → Prop) : Prop := ∃ x, o = .next x.settle ∧ P x

/-- The command has the effect `P`, after which the jobs, Train pushes and mailbox commands that waited for what it freed go on. -/
def Resumes (o : Host.Outcome State Fault Refusal) (P : State → Prop) : Prop := ∃ x, o = .next x.resume ∧ P x

/-- From `u` to `x` only events have been raised: records placed or held, their numbers, a time mark, and what connections and the module
have sent. -/
def EventFrame (u x : State) : Prop :=
  x = { u with
    journal.timeMark := x.journal.timeMark, journal.eventBlock := x.journal.eventBlock, router := x.router
    fabric.conns := x.fabric.conns, sent := x.sent }

/-! ### Routines on engines (02 R61 to R64; 03 R96) -/

/-- Job `id` runs operation `op`: every part of it has its engine, and none has its result; Entropy Test does not bar it (R132, R325). -/
structure Running (u : State) (id : Nat) (op : Op) (j : Job) : Prop where
  found : u.job? id = some j
  isOp : j.op = some op
  phase : j.phase = .running
  parts : ∀ q ∈ j.parts, q.engine.isSome = true ∧ q.computed = false
  mode : u.power.mode ≠ .hold ∧ u.randomBarred j = false

/-- From `u` to `s'` the routine of job `id` has ended with a status and an output, and nothing else has changed: no other job, no memory,
no register, no slot. -/
structure Computed (u : State) (id : Nat) (j : Job) (st : Status) (out : Bytes) (s' : State) : Prop where
  job : ∃ ps, s'.job? id = some { j with phase := .computed, status := st, output := out, trailer := entTs j.entry, parts := ps } ∧
    ps.length = j.parts.length ∧ ∀ q ∈ ps, q.computed = true
  others : ∀ k, k ≠ id → s'.job? k = u.job? k
  rest : s' = { u with fabric := { u.fabric with jobs := s'.fabric.jobs } }

/-- The routine succeeds with an output. -/
def Yields (o : Host.Outcome State Fault Refusal) (u : State) (id : Nat) (j : Job) (out : Bytes) : Prop :=
  Answers o (Computed u id j .success out)

/-- The routine ends with a failing status and no output. -/
def EndsWith (o : Host.Outcome State Fault Refusal) (u : State) (id : Nat) (j : Job) (st : Status) : Prop :=
  Answers o (Computed u id j st [])

/-- Job `id` has its result, a failing status and no output. -/
def Failed (id : Nat) (st : Status) (s' : State) : Prop :=
  ∃ j, s'.job? id = some j ∧ j.phase = .computed ∧ j.status = st ∧ j.output = []

/-- The job with its end: a status, no output, and the trailer where the rule places one (R60, R70). -/
def Job.ended (j : Job) (st : Status) (trailer : Bool) : Job :=
  { j with status := st, output := [], trailer := trailer && entTs j.entry, phase := .computed }

/-- The queue of a job reports now: it is not BROKEN, its connection is ready with no NOTIFY SEND outstanding, and the job is a plain one with
no entry for the Book. -/
structure Reports (u : State) (j : Job) (q : WorkQueue) (r : CompletionRing) (k : Connection) : Prop where
  found : u.job? j.id = some j
  whole : j.parent = none ∧ j.array = false ∧ j.results = [] ∧ j.bookPlaces = 0
  fresh : u.stale j = false
  queue : u.queue? j.queue = some q ∧ q.state ≠ .broken
  ring : u.cring? q.cr = some r ∧ r.conn = q.conn
  conn : u.conn? q.conn = some k ∧ k.ready = true ∧ k.notify = none

/-- What a released job sends, in order: output and trailer to the host area, the completion entry, the NOTIFY SEND; a job whose area in
module memory cannot be written places nothing there (R59, R63, R65 to R70). -/
def reportOut (u : State) (job : Job) (q : WorkQueue) (r : CompletionRing) : List Out :=
  let j := job.placing
  let e := j.entry
  let a := addrOffset (entOutAddr e)
  let tr := if j.trailer then trailerBytes j.tConsume (j.tDispatch u.clock.train) else []
  let written := if j.status == .bufferTooSmall then j.required else j.output.length + tr.length
  let c := completionBytes (entTag e) j.status (phaseBit r.count r.size) (cflags j.retried false u.holdover) written j.seq u.clock.train
    (tSpan u.clock.train j.tConsume) j.queue u.deviceIndex
  let place (off : Nat) (b : Bytes) : List Out := if addrHost (entOutAddr e) && !b.isEmpty then [.write q.conn (entOutKey e) (a + off) b] else []
  place 0 j.output ++ place (entOutLen e - 16) tr ++ [.write r.conn r.rkey (r.base + r.count % r.size * 32) c] ++
    (if entNotify e then [.send r.conn c] else [])

/-- From `u` to `x` the job has been released: it is gone, its report has been sent, and its completion slot is used. -/
structure Reported (u : State) (j : Job) (q : WorkQueue) (r : CompletionRing) (x : State) : Prop where
  gone : x.job? j.id = none
  sent : x.sent = u.sent ++ reportOut u j q r
  ring : x.cring? q.cr = some { r with count := (r.count + 1) % 2 ^ 32, reserved := r.reserved - 1 }
  queues : x.fabric.queues = u.fabric.queues
  book : x.book = u.book

/-! ### The control mailbox (12 R349 to R357) -/

/-- The command's own run leaves a state that satisfies `P`, and the commands that wait behind it run after it. -/
def Runs (o : Host.Outcome State Fault Refusal) (P : State → Prop) : Prop := ∃ x n, o = .next (x.mbPump n) ∧ P x

/-- Nothing waits: no job for a record, a Book place, an expansion or a completion slot, no Train push, no mailbox command. -/
structure Quiet (u : State) : Prop where
  records : u.cellar.recordQueue = []
  book : ∀ j ∈ u.fabric.jobs, j.phase ≠ .waitBook
  expand : ∀ j ∈ u.fabric.jobs, j.phase ≠ .expand
  queues : ∀ q ∈ u.fabric.queues, q.target = none ∧ q.state ≠ .crWait
  pushes : u.train.heldPushes = []
  mailbox : u.mailbox.running = none ∧ u.mailbox.waiting = []

/-- A command of session `x` arrives: in form, with its MAC and its CMD_SEQ, in a mode that accepts it (R349, R350, R358). -/
structure Comes (u : State) (code conn : Nat) (msg : Bytes) (x : Session) : Prop where
  quiet : Quiet u
  answers : u.mbAnswers = true ∧ u.mailConn conn = true ∧ u.rdmaConn conn = false
  session : u.sessionOn conn = some x ∧ u.mbSession? x.id = some x
  isCode : le msg 0 2 = code
  form : 128 ≤ msg.length ∧ MbCommand.formOk { conn := conn, msg := msg } = true
  mac : slice msg 0x70 16 = mbMac x.key msg "ZMCMD"
  seq : le msg 4 4 = x.nextSeq
  mode : u.mbModeOk code = true ∧ u.power.mode ≠ .hold ∧ (u.power.mode = .recovery → code / 256 = 0)
  life : u.lc ≠ some .scrapped

/-- The state once the session has taken the command: it expects the next CMD_SEQ (R350). -/
def State.taken (u : State) (x : Session) : State :=
  let next (y : Session) : Session := { y with nextSeq := (y.nextSeq + 1) % 2 ^ 32 }
  { u with mailbox.sessions := mapIf (·.id == x.id) next u.mailbox.sessions }

/-- The command as the mailbox runs it. -/
def mbCommand (conn : Nat) (msg : Bytes) (extra : List Nat) (x : Session) : MbCommand :=
  { conn := conn, msg := msg, extra := extra, session := x.id }

/-- The command leaves `w` and answers `o`. -/
def Replies (e : Host.Outcome State Fault Refusal) (c : MbCommand) (w : State) (o : MbOut) : Prop := Runs e (· = w.mbAnswer c o)

/-- The command is refused with a status and has no effect. -/
def Refuses (e : Host.Outcome State Fault Refusal) (c : MbCommand) (v : State) (st : Status) : Prop := Replies e c v { status := st }

/-! ### What no step undoes -/

/-- The three life-cycle copies agree on the code of a state (R478, R480). -/
def FusesAgree (s : State) : Prop :=
  s.fuses.lcA = s.fuses.lcB ∧ s.fuses.lcB = s.fuses.lcC ∧ (lcOfCode s.fuses.lcA).isSome = true

/-- Every bit of `a` is set in `b`. -/
def bitsKept (a b : Nat) : Prop := a &&& b = a

/-- From `a` to `b` fuses have only been blown: the life-cycle code gains bits, FW_SVN never falls, repair entries and PERSO_VALID bits stay,
the values of the die stay, DEVICE_SECRET is written in WAFER only, and a valid personalisation field stays (R480 to R482, R490, R495, R530). -/
structure Burns (a b : Fuses) : Prop where
  code : bitsKept a.lcA b.lcA
  svn : a.fwSvn ≤ b.fwSvn
  repair : ∃ es, b.repair = a.repair ++ es
  die : b.uniqueId = a.uniqueId ∧ b.trims = a.trims ∧ b.macBase = a.macBase ∧ b.noiseDebias = a.noiseDebias
  secret : a.lcA ≠ 1 → b.deviceSecret = a.deviceSecret
  valid : bitsKept a.persoValid b.persoValid
  oemId : bit a.persoValid 0 = true → b.oemId = a.oemId
  ctrlKeyHash : bit a.persoValid 1 = true → b.ctrlKeyHash = a.ctrlKeyHash
  codeKeyHash : bit a.persoValid 2 = true → b.oemCodeKeyHash = a.oemCodeKeyHash
  options : bit a.persoValid 3 = true → b.dbgAuthMode = a.dbgAuthMode ∧ b.vbatSealEn = a.vbatSealEn ∧ b.portMode = a.portMode

/-- From `s` to `s'` the fuses stay in agreement, and have only been blown. -/
def Burned (s s' : State) : Prop := FusesAgree s → FusesAgree s' ∧ Burns s.fuses s'.fuses

/-- VIN in mV, of a command that says one. -/
def vinOf (i : Instr) : Option Nat :=
  match i with
  | .vinStart _ v | .nresetDeassert _ v | .vinReset _ v | .vinWarnCrossing _ v | .vinLowDerate _ v | .deratedExitTimer _ v
  | .ladderStepUp _ v | .inputPowerOver _ _ v | .currentLimit _ _ _ v | .holdExit _ v => some v
  | _ => none

end Sys2Proof.Machine
end

