-- ==== Sys2Proof/Certificates/Slice0/Obligations.lean ====
section
/-!
DEFINITION. The statements for the provers.
-/
open Sys2Proof Sys2Proof.Machine

/-! ### The block as a whole -/

/-- A step runs the command at the front of the queue with the queue's rest; with an empty queue the block idles; the
idle step runs what a clock drives: one microword on each tile that runs, the ports' drains, leases and sending, and a command that blows
fuses (DESIGN CHOICE, log entries 2, 93, 105, 106, 110, 111). -/
def Obligations.StepRunsFront : Prop :=
  (∀ (c : Instr) (rest : List Instr) (s : State), step { s with pending := c :: rest } = exec c { s with pending := rest }) ∧
  (∀ s : State, s.pending = [] → step s = .next s.tick.idlePorts.idleFuses)

/-- What reset leaves (R316, R353, R391, R428, R437, R508): Off, nothing running, no connection, queue, ring, session or job, Train time
unsynchronised, the DRBG unseeded, no roster, every port counter 0. -/
def Obligations.ResetValues : Prop :=
  let s := State.reset
  s.pending = [] ∧ s.power.mode = .off ∧ s.power.domains = [] ∧ s.power.pwrgd = false ∧ s.clock.timeState = .unsynced ∧ s.clock.running = false ∧
  s.rng.state = .unseeded ∧ s.rng.ready = [] ∧ s.fabric.conns = [] ∧ s.fabric.queues = [] ∧ s.fabric.rings = [] ∧ s.fabric.jobs = [] ∧
  s.fabric.pmap = [] ∧ s.mailbox.sessions = [] ∧ s.mailbox.waiting = [] ∧ s.router.rings = [] ∧ s.train.roster = none ∧
  s.express.enabled = false ∧ s.dbg.grants = [] ∧ s.cellar.dir = [] ∧ s.book.tail = [] ∧ s.engines.trees = [] ∧
  s.ports.length = 8 ∧ ∀ p ∈ s.ports, ∀ n ∈ p.counters, n = 0

/-- Only a supply above 60 V stops the module (R536): a command that says such a VIN faults, and every other command in every state
answers a next state; no command is refused. -/
def Obligations.OnlyVinStops : Prop :=
  ∀ (i : Instr) (s : State),
    ((∃ v, vinOf i = some v ∧ 60000 < v) → exec i s = .fault .vinAbove60V) ∧
    ((∀ v, vinOf i = some v → v ≤ 60000) → ∃ s', exec i s = .next s')

/-- Fuses are only ever blown (R480; also R478, R481, R482, R490, R495, R530): each life-cycle code holds every bit of the codes before it, and from
every state whose copies agree on a state's code, every step keeps them agreeing, only adds bits to the code, and takes back no version, repair
entry, valid field or value of the die. -/
def Obligations.FusesOnlyBurn : Prop :=
  (∀ a b, (lcOfCode a).isSome = true → (lcOfCode b).isSome = true → a ≤ b → bitsKept a b) ∧
  ∀ s s' : State, step s = .next s' → Burned s s'

/-- The life-cycle copies agree at reset, on the code of WAFER (log entry 11). -/
def Obligations.FusesAgreeAtReset : Prop := FusesAgree State.reset ∧ State.reset.lc = some .wafer

/-- Rings and carriage memory hold bytes (R46, R343, R398): what is written reads back, other addresses read as before, memories in canonical
form that read alike are equal, and pages that a memory loses read 0 from then on. -/
def Obligations.MemoryReadsBack : Prop :=
  (∀ (m : Mem) (a : Nat) (b : Bytes) (k : Nat), m.wf = true →
    (m.writeBytes a b).read k = if a ≤ k ∧ k < a + b.length then b.getD (k - a) 0 else m.read k) ∧
  (∀ (m : Mem) (a : Nat) (b : Bytes), m.wf = true → (m.writeBytes a b).readBytes a b.length = b) ∧
  (∀ m n : Mem, m.wf = true → n.wf = true → (∀ k, m.read k = n.read k) → m = n) ∧
  (∀ (m : Mem) (n k : Nat), m.wf = true → (m.clip n).read k = if k < n then m.read k else 0)

/-- CRC32C of Maldin frames is CRC-32C (R467): its value over the ASCII string 123456789 is 0xE3069283, and appending a byte continues from the
register value that the bytes before it left. -/
def Obligations.CrcOfFrames : Prop :=
  crc32c (ascii "123456789") = 0xE3069283#32 ∧
  ∀ (b : Bytes) (x : Byte), crc32c (b ++ [x]) = crcByte (crc32c b ^^^ 0xFFFFFFFF#32) x ^^^ 0xFFFFFFFF#32

/-! ### Routines of the engines -/

/-- Class 0x01 (R115, R118, R119, R120): KEYGEN places ek and the wrapped seed with usage decaps; ENCAPS and its internal form refuse an input ek that
fails the modulus check, a key's own ek is not checked; every ciphertext decapsulates; EK_CHECK is that check alone. Class 0x03 (R131, R133): the
client share is the ML-KEM-768 ek and the X25519 value; RESPOND checks the ek, then refuses a shared value of all zeros with OUT_OF_RANGE; the secret
is the ML-KEM secret followed by the X25519 one. -/
def Obligations.KemResults : Prop :=
  (∀ (s u : State) (t id : Nat) (j : Job), u = s.advance t →
      (Running u id .mlKemKeygen j → Yields (exec (.mlKemKeygen t id) s) u id j (kemEk j.param j.own ++ u.keyObject j 8 formSeed j.own)) ∧
      (Running u id .mlKemEncaps j →
        (j.kind = .none → ekOk j.input = false → EndsWith (exec (.mlKemEncaps t id) s) u id j .malformedEncoding) ∧
        (j.kind = .none → ekOk j.input = true → Yields (exec (.mlKemEncaps t id) s) u id j
          (u.placedSecret j (kemEncK j.param j.input j.own) ++ kemEncC j.param j.input j.own)) ∧
        (j.kind ≠ .none → Yields (exec (.mlKemEncaps t id) s) u id j
          (u.placedSecret j (kemEncK j.param (kemEk j.param j.material) j.own) ++ kemEncC j.param (kemEk j.param j.material) j.own))) ∧
      (Running u id .mlKemDecaps j →
        Yields (exec (.mlKemDecaps t id) s) u id j (u.placedSecret j (kemDecK j.param j.material j.input))) ∧
      (Running u id .mlKemEkCheck j →
        (ekOk j.input = true → Yields (exec (.mlKemEkCheck t id) s) u id j []) ∧
        (ekOk j.input = false → EndsWith (exec (.mlKemEkCheck t id) s) u id j .malformedEncoding)) ∧
      (Running u id .mlKemKeygenInternal j →
        Yields (exec (.mlKemKeygenInternal t id) s) u id j (kemEk j.param j.input ++ kemDk j.param j.input)) ∧
      (Running u id .mlKemEncapsInternal j →
        (ekOk (j.input.take (mlKemEk j.param)) = false → EndsWith (exec (.mlKemEncapsInternal t id) s) u id j .malformedEncoding) ∧
        (ekOk (j.input.take (mlKemEk j.param)) = true → Yields (exec (.mlKemEncapsInternal t id) s) u id j
          (kemEncK j.param (j.input.take (mlKemEk j.param)) (j.input.drop (mlKemEk j.param)) ++
            kemEncC j.param (j.input.take (mlKemEk j.param)) (j.input.drop (mlKemEk j.param)))))) ∧
  (∀ (s u : State) (t id : Nat) (j : Job), u = s.advance t →
      (Running u id .hybridInitKeygen j → Yields (exec (.hybridInitKeygen t id) s) u id j
        (kemEk 2 (j.own.take 64) ++ x25519Pub (slice j.own 64 32) ++ u.keyObject j 0x18 formSeed j.own)) ∧
      (Running u id .hybridRespond j →
        let ek := j.input.take 1184
        let z := x25519Shared (slice j.own 32 32) (j.input.drop 1184)
        (ekOk ek = false → EndsWith (exec (.hybridRespond t id) s) u id j .malformedEncoding) ∧
        (ekOk ek = true → allZero z = true → EndsWith (exec (.hybridRespond t id) s) u id j .outOfRange) ∧
        (ekOk ek = true → allZero z = false → Yields (exec (.hybridRespond t id) s) u id j
          (u.placedSecret j (kemEncK 2 ek (j.own.take 32) ++ z) ++ kemEncC 2 ek (j.own.take 32) ++ x25519Pub (slice j.own 32 32)))) ∧
      (Running u id .hybridInitFinish j →
        let z := x25519Shared (slice j.material 64 32) (j.input.drop 1088)
        (allZero z = true → EndsWith (exec (.hybridInitFinish t id) s) u id j .outOfRange) ∧
        (allZero z = false → Yields (exec (.hybridInitFinish t id) s) u id j
          (u.placedSecret j (kemDecK 2 (j.material.take 64) (j.input.take 1088) ++ z)))))

/-- Class 0x02 keys and signatures (R100, R102, R121, R123, R124, R127, R129): SIGN takes ctx and M, SIGN_PREHASH ctx and PH(M), SIGN_MU mu itself;
rnd is zeros in the deterministic variant; the signature is that of the first round with a valid candidate and of the lowest counter valid in it, and a
signature that 256 rounds do not give ends with FAULT_UNRECOVERED. Class 0x02 verification (R121, R123,
R128): pk is the input's first bytes with kind none and the key's otherwise; the signature, ctx and message follow it, or mu and the signature; a
signature that does not verify ends with SIGNATURE_INVALID. -/
def Obligations.MlDsaResults : Prop :=
  (∀ (s u : State) (t id : Nat) (j : Job), u = s.advance t →
      let c := auxCtxLen j.aux
      let mu (pre : Bool) (alg : Nat) : Bytes :=
        dsaMu (dsaPkOf j.param j.material) (formatted pre alg (j.input.take c) (j.input.drop c))
      let rnd := if j.aux.getLsbD 0 then zeros 32 else j.own
      let signs (i : Instr) (m : Bytes) : Prop :=
        let valid (k : Nat) : Bool := Config.stdHolds .dsaSig j.param [j.material, m, rnd, toLe 4 (k * mlDsaEll j.param)]
        (∀ k, k < 1024 → valid k = true → (∀ i, i < k → valid i = false) →
          Yields (exec i s) u id j (std .dsaSig j.param [j.material, m, rnd, toLe 4 (k * mlDsaEll j.param)] (mlDsaSig j.param))) ∧
        ((∀ k, k < 1024 → valid k = false) → Answers (exec i s) (Failed id .faultUnrecovered))
      (Running u id .mlDsaKeygen j → Yields (exec (.mlDsaKeygen t id) s) u id j (dsaPkOf j.param j.own ++ u.keyObject j 1 formSeed j.own)) ∧
      (Running u id .mlDsaSign j → signs (.mlDsaSign t id) (mu false 0)) ∧
      (Running u id .mlDsaSignPrehash j → signs (.mlDsaSignPrehash t id) (mu true (auxPhAlg j.aux))) ∧
      (Running u id .mlDsaSignMu j → signs (.mlDsaSignMu t id) j.input) ∧
      (Running u id .mlDsaKeygenInternal j → Yields (exec (.mlDsaKeygenInternal t id) s) u id j
        (dsaPkOf j.param j.input ++ std .dsaSk j.param [j.input] (mlDsaSk j.param)))) ∧
  (∀ (s u : State) (t id : Nat) (j : Job) (pk b : Bytes), u = s.advance t →
      (j.kind = .none → pk = j.input.take (mlDsaPk j.param) ∧ b = j.input.drop (mlDsaPk j.param)) →
      (j.kind ≠ .none → pk = dsaPkOf j.param j.material ∧ b = j.input) →
      let c := auxCtxLen j.aux
      let m := b.drop (mlDsaSig j.param)
      let checks (i : Instr) (mu sig : Bytes) : Prop :=
        (Config.stdHolds .dsaVerify j.param [pk, mu, sig] = true → Yields (exec i s) u id j []) ∧
        (Config.stdHolds .dsaVerify j.param [pk, mu, sig] = false → EndsWith (exec i s) u id j .signatureInvalid)
      (Running u id .mlDsaVerify j →
        checks (.mlDsaVerify t id) (dsaMu pk (formatted false 0 (m.take c) (m.drop c))) (b.take (mlDsaSig j.param))) ∧
      (Running u id .mlDsaVerifyPrehash j →
        checks (.mlDsaVerifyPrehash t id) (dsaMu pk (formatted true (auxPhAlg j.aux) (m.take c) (m.drop c))) (b.take (mlDsaSig j.param))) ∧
      (Running u id .mlDsaVerifyMu j → checks (.mlDsaVerifyMu t id) (b.take 64) (b.drop 64)))

/-- Class 0x04 (R142 to R146): as class 0x01, with the check that the bits beyond n in the last byte of a public key, whether input or of a key, are 0. Class 0x05 on tiles (R147,
R150, R151, R156, R157): KEYGEN ends when one of 16 attempts succeeds; KEYGEN_INTERNAL fails after 64; ENCAPS checks a key of the input, and its
internal form also that e has weight t. -/
def Obligations.CodeBasedResults : Prop :=
  (∀ (s u : State) (t id : Nat) (j : Job), u = s.advance t →
      (Running u id .hqcKeygen j → Yields (exec (.hqcKeygen t id) s) u id j (hqcPkOf j.param j.own ++ u.keyObject j 8 formSeed j.own)) ∧
      (Running u id .hqcEncaps j →
        let pk := if j.kind = .none then j.input else hqcPkOf j.param j.material
        (hqcPkOk j.param pk = false → EndsWith (exec (.hqcEncaps t id) s) u id j .malformedEncoding) ∧
        (hqcPkOk j.param pk = true → Yields (exec (.hqcEncaps t id) s) u id j
          (u.placedSecret j (hqcEncK j.param pk j.own) ++ hqcEncC j.param pk j.own))) ∧
      (Running u id .hqcDecaps j → Yields (exec (.hqcDecaps t id) s) u id j (u.placedSecret j (std .hqcDecK j.param [j.material, j.input] 64))) ∧
      (Running u id .hqcKeygenInternal j → Yields (exec (.hqcKeygenInternal t id) s) u id j
        (hqcPkOf j.param j.input ++ std .hqcSk j.param [j.input] (hqcSk j.param))) ∧
      (Running u id .hqcEncapsInternal j →
        let pk := j.input.take (hqcPk j.param)
        let ms := j.input.drop (hqcPk j.param)
        (hqcPkOk j.param pk = false → EndsWith (exec (.hqcEncapsInternal t id) s) u id j .malformedEncoding) ∧
        (hqcPkOk j.param pk = true → Yields (exec (.hqcEncapsInternal t id) s) u id j (hqcEncK j.param pk ms ++ hqcEncC j.param pk ms)))) ∧
  (∀ (s u : State) (t id : Nat) (j : Job), u = s.advance t →
      (Running u id .mcelieceKeygen j → mceAttempts j.param j.own ≤ 16 → Yields (exec (.mcelieceKeygen t id) s) u id j
        (mcePkOf j.param (mceDelta j.param j.own) ++ u.keyObject j 8 formSeed (mceDelta j.param j.own))) ∧
      (Running u id .mcelieceEncaps j → j.handle = none →
        let pk := if j.kind = .none then j.input else j.material.drop 32
        let e := mceSample j.param j.own
        (j.kind = .none → mcePkOk j.param pk = false → EndsWith (exec (.mcelieceEncaps t id) s) u id j .malformedEncoding) ∧
        (j.kind ≠ .none ∨ mcePkOk j.param pk = true → Yields (exec (.mcelieceEncaps t id) s) u id j
          (u.placedSecret j (mceEncK j.param pk e) ++ mceEncC j.param pk e))) ∧
      (Running u id .mcelieceDecaps j → Yields (exec (.mcelieceDecaps t id) s) u id j
        (u.placedSecret j (std .mceDecK j.param [j.material.take 32, j.input] 32))) ∧
      (Running u id .mcelieceKeygenInternal j →
        let d := mceDelta j.param j.input
        (64 < mceAttempts j.param j.input → EndsWith (exec (.mcelieceKeygenInternal t id) s) u id j .faultUnrecovered) ∧
        (mceAttempts j.param j.input ≤ 64 → Yields (exec (.mcelieceKeygenInternal t id) s) u id j
          (mcePkOf j.param d ++ std .mceSk j.param [d] (mceSk j.param)))) ∧
      (Running u id .mcelieceEncapsInternal j →
        let pk := j.input.take (mcePk j.param)
        let e := j.input.drop (mcePk j.param)
        (mcePkOk j.param pk = false ∨ weight e ≠ mceT j.param → EndsWith (exec (.mcelieceEncapsInternal t id) s) u id j .malformedEncoding) ∧
        (mcePkOk j.param pk = true → weight e = mceT j.param → Yields (exec (.mcelieceEncapsInternal t id) s) u id j
          (mceEncK j.param pk e ++ mceEncC j.param pk e))))

/-- Class 0x06 (R172, R173, R176, R177, R276): the signed message is formatted from ctx, the pre-hash function and the rest of the input; opt_rand is
PK.seed in the deterministic variant; a key's public half is its last two parts. Stateful signatures (R183, R184, R187, R191): SIGN signs with the
leaf that step 10 assigned and marks its trees used; VERIFY accepts a signature of the length its types ask for that the standard's check accepts. -/
def Obligations.HashBasedResults : Prop :=
  (∀ (s u : State) (t id : Nat) (j : Job), u = s.advance t →
      let c := auxCtxLen j.aux
      let msg (pre : Bool) (b : Bytes) : Bytes := formatted pre (auxPhAlg j.aux) (b.take c) (b.drop c)
      let optRand := if j.aux.getLsbD 0 then slice j.material (2 * slhN j.param) (slhN j.param) else j.own
      let signs (i : Instr) (pre : Bool) : Prop :=
        Yields (exec i s) u id j (std .slhSig j.param [j.material, msg pre j.input, optRand] (slhSig j.param))
      let pk := if j.kind = .none then j.input.take (slhPk j.param) else j.material.drop (2 * slhN j.param)
      let b := if j.kind = .none then j.input.drop (slhPk j.param) else j.input
      let verdict (pre : Bool) : Bool :=
        Config.stdHolds .slhVerify j.param [pk, msg pre (b.drop (slhSig j.param)), b.take (slhSig j.param)]
      let checks (i : Instr) (pre : Bool) : Prop :=
        (verdict pre = true → Yields (exec i s) u id j []) ∧ (verdict pre = false → EndsWith (exec i s) u id j .signatureInvalid)
      (Running u id .slhDsaKeygen j → Yields (exec (.slhDsaKeygen t id) s) u id j
        ((slhSkOf j.param j.own).drop (2 * slhN j.param) ++ u.keyObject j 1 formSeed (slhSkOf j.param j.own))) ∧
      (Running u id .slhDsaSign j → signs (.slhDsaSign t id) false) ∧
      (Running u id .slhDsaSignPrehash j → signs (.slhDsaSignPrehash t id) true) ∧
      (Running u id .slhDsaVerify j → checks (.slhDsaVerify t id) false) ∧
      (Running u id .slhDsaVerifyPrehash j → checks (.slhDsaVerifyPrehash t id) true) ∧
      (Running u id .slhDsaKeygenInternal j → Yields (exec (.slhDsaKeygenInternal t id) s) u id j
        ((slhSkOf j.param j.input).drop (2 * slhN j.param) ++ slhSkOf j.param j.input))) ∧
  (∀ (s u : State) (t id : Nat) (j : Job) (ls : List TreeLevel), u = s.advance t → j.levels = some ls →
      let signs (i : Instr) (xmss : Bool) : Prop := ∀ q, j.leaf = some q →
        Yields (exec i s) (u.useTrees (refIndex j.keyRef) ls q) id j
          (statefulSig xmss j.param ls j.material q j.input (u.cachedSig (refIndex j.keyRef)))
      let checks (i : Instr) (xmss : Bool) : Prop :=
        let n := bitsOf j.aux 0 32
        let pk := if j.kind = .none then j.input.take (statefulPkLen xmss j.param ls) else statefulPk xmss j.param j.material
        let b := if j.kind = .none then j.input.drop pk.length else j.input
        let good := statefulSigLen xmss j.param (verifyLevels xmss j.param ls (b.take n)) = n ∧
          statefulFits xmss j.param (verifyLevels xmss j.param ls (b.take n)) (b.take n) = true ∧
          Config.stdHolds .treeVerify (if xmss then 8 else 7) [pk, b.take n, b.drop n] = true
        (good → Yields (exec i s) u id j []) ∧ (¬ good → EndsWith (exec i s) u id j .signatureInvalid)
      (Running u id .lmsSign j → signs (.lmsSign t id) false) ∧ (Running u id .xmssSign j → signs (.xmssSign t id) true) ∧
      (Running u id .lmsVerify j → checks (.lmsVerify t id) false) ∧ (Running u id .xmssVerify j → checks (.xmssVerify t id) true))

/-- Classes 0x0A and 0x0C (R220, R222, R223, R228, R235): d is c mod (n - 1) + 1 of L + 8 random bytes; SIGN and VERIFY are over the leftmost bits of
the digest, up to the bit length of n, with the function of PH_ALG; a point is checked before anything else, then r and s from 1 to n - 1, then the
equation; a Montgomery u is taken with its top bit masked (X25519) and modulo the field prime, and a Z of zeros is refused. Class 0x0B (R224, R225,
R227, R235): the key is the seed; the variant and ctx enter the signature; an encoded A is checked first, an A of small order is refused, then the
cofactored equation decides. -/
def Obligations.EllipticCurveResults : Prop :=
  (∀ (s u : State) (t id : Nat) (j : Job), u = s.advance t →
      let p := j.param
      let d := ecScalar p j.own
      let montgomery := p = 0x10 ∨ p = 0x11
      (Running u id .ecdsaKeygen j → Yields (exec (.ecdsaKeygen t id) s) u id j (ecPubOf p d ++ u.keyObject j 1 formPrivate d)) ∧
      (Running u id .ecdsaSign j → Yields (exec (.ecdsaSign t id) s) u id j
        (std .ecSig p [toLe 1 (auxPhAlg j.aux), j.material, toBe (ecL p) (beNat j.input / 2 ^ (8 * j.input.length - bitLen (curveOrder p))), j.own]
          (2 * ecL p))) ∧
      (Running u id .ecdsaVerify j →
        let q := if j.kind = .none then j.input.take (ecPub p) else ecPubOf p j.material
        let b := if j.kind = .none then j.input.drop (ecPub p) else j.input
        let sig := b.take (2 * ecL p)
        let point : Option Status := if j.kind = .none then pointFault p q else none
        let good := ecSigRange p sig = true ∧ Config.stdHolds .ecVerify p [q, sig, ecDigest p (b.drop (2 * ecL p))] = true
        (∀ st, point = some st → EndsWith (exec (.ecdsaVerify t id) s) u id j st) ∧
        (point = none → good → Yields (exec (.ecdsaVerify t id) s) u id j []) ∧
        (point = none → ¬ good → EndsWith (exec (.ecdsaVerify t id) s) u id j .signatureInvalid)) ∧
      (Running u id .ecdhKeygen j →
        (montgomery → Yields (exec (.ecdhKeygen t id) s) u id j (ecPubOf p (j.own.take (ecL p)) ++ u.keyObject j 0x10 formPrivate (j.own.take (ecL p)))) ∧
        (¬ montgomery → Yields (exec (.ecdhKeygen t id) s) u id j (ecPubOf p d ++ u.keyObject j 0x10 formPrivate d))) ∧
      (Running u id .ecdhDerive j →
        let peer := toLe (ecL p) (if p = 0x10 then leNat j.input % 2 ^ 255 % (2 ^ 255 - 19) else leNat j.input % (2 ^ 448 - 2 ^ 224 - 1))
        (montgomery → allZero (std .xShared p [j.material, peer] (ecL p)) = true →
          EndsWith (exec (.ecdhDerive t id) s) u id j .outOfRange) ∧
        (montgomery → allZero (std .xShared p [j.material, peer] (ecL p)) = false →
          Yields (exec (.ecdhDerive t id) s) u id j (u.placedSecret j (std .xShared p [j.material, peer] (ecL p)))) ∧
        (¬ montgomery → ∀ st, pointFault p j.input = some st → EndsWith (exec (.ecdhDerive t id) s) u id j st) ∧
        (¬ montgomery → pointFault p j.input = none →
          Yields (exec (.ecdhDerive t id) s) u id j (u.placedSecret j (std .ecShared p [j.material, j.input] (ecL p)))))) ∧
  (∀ (s u : State) (t id : Nat) (j : Job), u = s.advance t →
      let p := j.param
      let c := auxCtxLen j.aux
      (Running u id .eddsaKeygen j → Yields (exec (.eddsaKeygen t id) s) u id j (edPubOf p j.own ++ u.keyObject j 1 formSeed j.own)) ∧
      (Running u id .eddsaSign j → Yields (exec (.eddsaSign t id) s) u id j
        (std .edSig p [toLe 1 (auxVariant j.aux), j.material, j.input.take c, j.input.drop c] (edSig p))) ∧
      (Running u id .eddsaVerify j →
        let a := if j.kind = .none then j.input.take (edPub p) else edPubOf p j.material
        let b := if j.kind = .none then j.input.drop (edPub p) else j.input
        let m := b.drop (edSig p)
        let point : Option Status := if j.kind = .none then edKeyFault p a else none
        let good := Config.stdHolds .edSmall p [a] = false ∧
          Config.stdHolds .edVerify p [toLe 1 (auxVariant j.aux), a, b.take (edSig p), m.take c, m.drop c] = true
        (∀ st, point = some st → EndsWith (exec (.eddsaVerify t id) s) u id j st) ∧
        (point = none → good → Yields (exec (.eddsaVerify t id) s) u id j []) ∧
        (point = none → ¬ good → EndsWith (exec (.eddsaVerify t id) s) u id j .signatureInvalid)))

/-- Class 0x0D private operations (R229, R230, R233, R234, R235): n is the product of the primes; KEYGEN places n, e = 65,537 and the wrapped primes when its search ends; DECRYPT_OAEP
refuses c = 0 and a bad encoding with MALFORMED_ENCODING and c at or above n with OUT_OF_RANGE. Class 0x0D public operations (R231, R232, R235): a key
given in the input is checked first: n of full length and odd, e odd and at least 3, else MALFORMED_ENCODING; e within its class, else OUT_OF_RANGE; a
stored key is not checked; then the signature lies from 1 to n - 1 and verifies. -/
def Obligations.RsaResults : Prop :=
  (∀ (s u : State) (t id : Nat) (j : Job), u = s.advance t →
      let p := j.param
      let alg := toLe 1 (auxPhAlg j.aux)
      (Running u id .rsaKeygen j → Config.stdHolds .rsaSearchEnds p [j.own] = true →
        let m := rsaPrimes p j.own
        Settles (exec (.rsaKeygen t id) s) (Computed u id j .success (rsaModulus p m ++ [1, 0, 1] ++ u.keyObject j 9 formPrivate m))) ∧
      (Running u id .rsaSignPkcs1 j → Yields (exec (.rsaSignPkcs1 t id) s) u id j
        (std .rsaPrivate p [alg, [0], j.material, j.input, j.own] (rsaK p))) ∧
      (Running u id .rsaSignPss j → Yields (exec (.rsaSignPss t id) s) u id j
        (std .rsaPrivate p [alg, [1], j.material, j.input, j.own] (rsaK p))) ∧
      (Running u id .rsaDecryptOaep j →
        let l := auxSaltLabel j.aux
        let c := j.input.drop l
        let args := [alg, j.material, j.input.take l, c]
        let n := beNat (toBe (rsaK p) (beNat (j.material.take (rsaK p / 2)) * beNat (j.material.drop (rsaK p / 2))))
        let good := Config.stdHolds .rsaOaepOk p args
        (beNat c = 0 ∨ (beNat c < n ∧ good = false) → EndsWith (exec (.rsaDecryptOaep t id) s) u id j .malformedEncoding) ∧
        (beNat c ≠ 0 → n ≤ beNat c → EndsWith (exec (.rsaDecryptOaep t id) s) u id j .outOfRange) ∧
        (beNat c ≠ 0 → beNat c < n → good = true → Yields (exec (.rsaDecryptOaep t id) s) u id j
          (u.placedSecret j (std .rsaOaepMsg p args
            (min (Config.stdNat .rsaOaepLen p args) (rsaK p - 2 * preHashLen (auxPhAlg j.aux) - 2))))))) ∧
  (∀ (s u : State) (t id : Nat) (j : Job), u = s.advance t →
      let p := j.param
      let cls := auxExpClass j.aux
      let alg := toLe 1 (auxPhAlg j.aux)
      let n := if j.kind = .none then j.input.take (rsaK p) else rsaModulus p j.material
      let e := if j.kind = .none then slice j.input (rsaK p) (expBytes cls) else match j.key with | some k => k.header.e | none => []
      let b := if j.kind = .none then j.input.drop (rsaK p + expBytes cls) else j.input
      let shape := j.kind ≠ .none ∨ (128 ≤ byteAt n 0 ∧ beNat n % 2 = 1 ∧ beNat e % 2 = 1 ∧ 3 ≤ beNat e)
      let small := j.kind ≠ .none ∨ beNat e < 2 ^ expBits cls
      let checks (i : Instr) (f : StdFn) : Prop :=
        let sig := b.take (rsaK p)
        let good := 0 < beNat sig ∧ beNat sig < beNat n ∧
          Config.stdHolds f p [alg, toLe 1 (auxSaltLabel j.aux), n, e, sig, b.drop (rsaK p)] = true
        (¬ shape → EndsWith (exec i s) u id j .malformedEncoding) ∧ (shape → ¬ small → EndsWith (exec i s) u id j .outOfRange) ∧
        (shape → small → good → Yields (exec i s) u id j []) ∧ (shape → small → ¬ good → EndsWith (exec i s) u id j .signatureInvalid)
      (Running u id .rsaVerifyPkcs1 j → checks (.rsaVerifyPkcs1 t id) .rsaPkcs1Ok) ∧
      (Running u id .rsaVerifyPss j → checks (.rsaVerifyPss t id) .rsaPssOk) ∧
      (Running u id .rsaEncryptOaep j →
        let l := auxSaltLabel j.aux
        (¬ shape → EndsWith (exec (.rsaEncryptOaep t id) s) u id j .malformedEncoding) ∧
        (shape → ¬ small → EndsWith (exec (.rsaEncryptOaep t id) s) u id j .outOfRange) ∧
        (shape → small → Yields (exec (.rsaEncryptOaep t id) s) u id j
          (std .rsaPublic p [alg, n, e, b.take l, b.drop l, j.own] (rsaK p)))))

/-- Class 0x0E authenticated encryption (R250, R252, R255): IV from the input or drawn, AAD, then plaintext or ciphertext and tag; a graft job takes
its key from the descriptor that opens the input; no plaintext leaves when the tag does not match. Class 0x0E, the other modes (R250, R252, R255): the
counter block then data; tweak then data; tags over the message or over A, with the tag first of a check; key wrapping, where a blob that does not
unwrap ends with MALFORMED_ENCODING. -/
def Obligations.CipherResults : Prop :=
  (∀ (s u : State) (t id : Nat) (j : Job), u = s.advance t →
      let d := j.input.take 16
      let key := if j.kind = .graft then graft j.material j.prf (d.take 8) (byteAt d 12) (le d 8 4) (byteAt d 13) else j.material
      let b := if j.kind = .graft then j.input.drop 16 else j.input
      let a := auxAadLen j.aux
      let tl := auxTagLen j.aux
      let seals (i : Instr) (n : Nat) (crypt : Bytes → Bytes → Bytes) (tag : Bytes → Bytes → Bytes → Bytes → Bytes) : Prop :=
        let drawn := auxIvGen j.aux
        let iv := if drawn then j.own else b.take n
        let r := if drawn then b else b.drop n
        let c := crypt iv (r.drop a)
        Yields (exec i s) u id j ((if drawn then iv else []) ++ c ++ tag iv (r.take a) (r.drop a) c)
      let opens (i : Instr) (n : Nat) (crypt : Bytes → Bytes → Bytes) (tag : Bytes → Bytes → Bytes → Bytes → Bytes) : Prop :=
        let iv := b.take n
        let r := b.drop n
        let body := (r.drop a).take ((r.drop a).length - tl)
        let plain := crypt iv body
        let good := (r.drop a).drop ((r.drop a).length - tl) = tag iv (r.take a) plain body
        (good → Yields (exec i s) u id j plain) ∧ (¬ good → EndsWith (exec i s) u id j .signatureInvalid)
      (Running u id .gcmEncrypt j → seals (.gcmEncrypt t id) 12 (gcmCrypt key) fun iv x _ c => gcmTag key iv x c tl) ∧
      (Running u id .ccmEncrypt j → seals (.ccmEncrypt t id) (auxNonceLen j.aux) (ccmCrypt key) fun iv x p _ => ccmTag key iv x p tl) ∧
      (Running u id .chachaEncrypt j → seals (.chachaEncrypt t id) 12 (chachaCrypt key) fun iv x _ c => chachaTag key iv x c tl) ∧
      (Running u id .gcmDecrypt j → opens (.gcmDecrypt t id) 12 (gcmCrypt key) fun iv x _ c => gcmTag key iv x c tl) ∧
      (Running u id .ccmDecrypt j → opens (.ccmDecrypt t id) (auxNonceLen j.aux) (ccmCrypt key) fun iv x p _ => ccmTag key iv x p tl) ∧
      (Running u id .chachaDecrypt j → opens (.chachaDecrypt t id) 12 (chachaCrypt key) fun iv x _ c => chachaTag key iv x c tl)) ∧
  (∀ (s u : State) (t id : Nat) (j : Job), u = s.advance t →
      let d := j.input.take 16
      let key := if j.kind = .graft then graft j.material j.prf (d.take 8) (byteAt d 12) (le d 8 4) (byteAt d 13) else j.material
      let b := if j.kind = .graft then j.input.drop 16 else j.input
      let n := auxTagLen j.aux
      let checks (i : Instr) (good : Prop) (st : Status) (out : Bytes) : Prop :=
        (good → Yields (exec i s) u id j out) ∧ (¬ good → EndsWith (exec i s) u id j st)
      (Running u id .ctr j → Yields (exec (.ctr t id) s) u id j (aesCtr key (b.take 16) (b.drop 16))) ∧
      (Running u id .xtsEncrypt j → Yields (exec (.xtsEncrypt t id) s) u id j
        (std .xtsEnc j.param [j.material, j.input.take 16, j.input.drop 16] (j.input.length - 16))) ∧
      (Running u id .xtsDecrypt j → Yields (exec (.xtsDecrypt t id) s) u id j
        (std .xtsDec j.param [j.material, j.input.take 16, j.input.drop 16] (j.input.length - 16))) ∧
      (Running u id .cmacGenerate j → Yields (exec (.cmacGenerate t id) s) u id j (std .cmac key.length [key, b] n)) ∧
      (Running u id .cmacVerify j →
        checks (.cmacVerify t id) (b.take n = std .cmac key.length [key, b.drop n] n) .signatureInvalid []) ∧
      (Running u id .gmacGenerate j → Yields (exec (.gmacGenerate t id) s) u id j (gcmTag key (b.take 12) (b.drop 12) [] n)) ∧
      (Running u id .gmacVerify j →
        checks (.gmacVerify t id) (slice b 12 n = gcmTag key (b.take 12) (b.drop (12 + n)) [] n) .signatureInvalid []) ∧
      (Running u id .kwWrap j → Yields (exec (.kwWrap t id) s) u id j (std .kwWrap key.length [key, b] (b.length + 8))) ∧
      (Running u id .kwUnwrap j → checks (.kwUnwrap t id) (Config.stdHolds .kwOk key.length [key, b] = true) .malformedEncoding
        (std .kwUnwrap key.length [key, b] (b.length - 8))) ∧
      (Running u id .kwpWrap j → Yields (exec (.kwpWrap t id) s) u id j
        (std .kwpWrap key.length [key, b] ((b.length + 7) / 8 * 8 + 8))) ∧
      (Running u id .kwpUnwrap j → checks (.kwpUnwrap t id) (Config.stdHolds .kwpOk key.length [key, b] = true) .malformedEncoding
        (std .kwpUnwrap key.length [key, b] (kwpLen key b))))

/-- Class 0x0F (R259 to R263): the IV is IV_TITLE and IC, the AAD is SC and AK, with the APDU when nothing is encrypted; PROTECT places SC, IC, the
APDU and the tag; UNPROTECT needs IC above LAST_IC or FIRST, then the tag of 12 bytes where SC[4] is set. Class 0x10 (R249, R256, R257): KEY_TRANSFER
wraps the first descriptor's graft under the second's with AES-KW; EXPORT_WRAPPED wraps it under the transport key with AES-KWP; CHECK_VALUE is the
first 4 bytes of AES of a zero block. -/
def Obligations.MeteringResults : Prop :=
  (∀ (s u : State) (t id : Nat) (j : Job), u = s.advance t →
      let r := j.input
      let sc := byteAt r 0x1C
      let len := if j.param % 4 = 2 then 32 else 16
      let g (kind : Nat) : Bytes := graft j.material j.prf (r.take 8) kind (le r 0x10 4) len
      let ek := g (if bit sc 6 then 2 else 1)
      let ak := g 3
      let iv := slice r 8 8 ++ toBe 4 (le r 0x14 4)
      let apdu := slice r 0x20 (le r 0x1E 2)
      let aad (x : Bytes) : Bytes := if bit sc 5 then toLe 1 sc ++ ak else toLe 1 sc ++ ak ++ x
      (Running u id .dlmsProtect j →
        let c := if bit sc 5 then gcmCrypt ek iv apdu else []
        let tag := if bit sc 4 then gcmTag ek iv (aad apdu) c 12 else []
        Yields (exec (.dlmsProtect t id) s) u id j (toLe 1 sc ++ toBe 4 (le r 0x14 4) ++ (if bit sc 5 then c else apdu) ++ tag)) ∧
      (Running u id .dlmsUnprotect j →
        let body := apdu.take (if bit sc 4 then apdu.length - 12 else apdu.length)
        let fresh := le r 0x18 4 < le r 0x14 4 ∨ bit (byteAt r 0x1D) 0 = true
        let tagOk := bit sc 4 = true → apdu.drop (apdu.length - 12) = gcmTag ek iv (aad body) (if bit sc 5 then body else []) 12
        (¬ fresh → EndsWith (exec (.dlmsUnprotect t id) s) u id j .outOfRange) ∧
        (fresh → ¬ tagOk → EndsWith (exec (.dlmsUnprotect t id) s) u id j .signatureInvalid) ∧
        (fresh → tagOk → Yields (exec (.dlmsUnprotect t id) s) u id j (if bit sc 5 then gcmCrypt ek iv body else body)))) ∧
  (∀ (s u : State) (t id : Nat) (j : Job), u = s.advance t →
      let g (d : Bytes) : Bytes := graft j.material j.prf (d.take 8) (byteAt d 12) (le d 8 4) (byteAt d 13)
      let first := g (j.input.take 16)
      (Running u id .keyTransfer j → Yields (exec (.keyTransfer t id) s) u id j (kwWrap (g (slice j.input 16 16)) first)) ∧
      (∀ k, j.transport = some k → Running u id .exportWrapped j → Yields (exec (.exportWrapped t id) s) u id j (kwpWrap k.material first)) ∧
      (Running u id .checkValue j → Yields (exec (.checkValue t id) s) u id j (std .aes first.length [first, zeros 16] 4)))

/-- Class 0x09 digests and checks (R200, R201, R205): the function over N, S and data of the key, at the output length that AUX gives. Reads of class
0x11 and the draws of classes 0x12 and 0x13 (R282, R304, R305, R321, R561): EXPORT places the slot's key as a wrapped object, PUBLIC_GET its public
key, INFO its header; GENERATE places the bytes drawn; QUOTE takes its claims with its first part, then places the message that signs them. -/
def Obligations.DigestsReadsAndDraws : Prop :=
  (∀ (s u : State) (t id : Nat) (j : Job), u = s.advance t →
    let n := auxNLen j.aux
    let c := auxSLen j.aux
    let len := hashOutLen j.param j.aux
    let f (b : Bytes) : Bytes := hashOf j.param j.material (b.take n) (slice b n c) len (b.drop (n + c))
    (Running u id .hashDigest j → Yields (exec (.hashDigest t id) s) u id j (f j.input)) ∧
    (Running u id .hashVerify j →
      (f (j.input.drop len) = j.input.take len → Yields (exec (.hashVerify t id) s) u id j []) ∧
      (f (j.input.drop len) ≠ j.input.take len → EndsWith (exec (.hashVerify t id) s) u id j .signatureInvalid))) ∧
  (∀ (s u : State) (t id : Nat) (j : Job), u = s.advance t →
    (∀ k, j.key = some k →
      (Running u id .kmExport j → Yields (exec (.kmExport t id) s) u id j (u.jobWrap j k.header.object j.cek k.material)) ∧
      (Running u id .kmPublicGet j → Yields (exec (.kmPublicGet t id) s) u id j
        (classPublic k.header.keyClass k.header.param k.material (toBe (expBytes k.header.expClass) k.header.exponent))) ∧
      (Running u id .kmInfo j → Yields (exec (.kmInfo t id) s) u id j k.header.bytes)) ∧
    (Running u id .rngGenerate j → Yields (exec (.rngGenerate t id) s) u id j j.own) ∧
    (∀ q, u.runs? id .quote = some j → j.parts[0]? = some q →
      (q.running = true → Answers (exec (.quote t id) s) fun x => ∃ k, x.job? id = some k ∧ k.claims = u.quoteClaims j.input) ∧
      (q.computed = true → (∀ q ∈ j.parts, q.engine.isSome = true) → (u.quoteRounds j.claims j.own).isSome = true →
        Answers (exec (.quote t id) s) fun x => ∃ k, x.job? id = some k ∧ k.phase = .computed ∧ k.status = .success ∧
          k.output = u.quoteOver j.claims j.own)))

/-! ### Transport -/

/-- Admission and the end of connections (R390 to R395): the checks of a REQ in their order, what an admitted REQ leaves and the REP carries, the
tokens of a port, RTU, DREQ and errors. -/
def Obligations.ConnectionManagement : Prop :=
  ∀ (s u w : State) (t p : Nat) (x y : Port) (req : CmReq), u = s.advance t → u.port? p = some x → x.link = .up →
    u.power.mode ≠ .boot → u.power.mode ≠ .tasting → w = u.refill p → w.port? p = some y →
    let mail := req.serviceId == 0x8840FF
    let known := mail = true ∨ req.serviceId = 0x884001
    let admitted := w.admitsService p mail = true
    let room := mail = false ∨ (w.fabric.conns.filter fun k => k.mailbox && k.ready).length < 4
    let sized := w.pathMtuOk p req.pathMtu = true
    (¬ known → Gives (exec (.cmReq t p req) s) (w.rejectReq p 8 1 0)) ∧
    (known → ¬ admitted → Gives (exec (.cmReq t p req) s) (w.rejectReq p 28 2 1000)) ∧
    (known → admitted → ¬ room → Gives (exec (.cmReq t p req) s) (w.rejectReq p 28 3 0)) ∧
    (known → admitted → room → ¬ sized → Gives (exec (.cmReq t p req) s) (w.rejectReq p 5 4 0)) ∧
    (known → admitted → room → sized → w.freeConn = none → Gives (exec (.cmReq t p req) s) (w.rejectReq p 1 5 1000)) ∧
    (known → admitted → room → sized → (w.freeConn).isSome = true → mail = false → y.admitTokens = 0 →
      ∃ spread < 1000, Gives (exec (.cmReq t p req) s)
        ((w.modPort p fun z => { z with lfsr := z.lfsr + 1 }).rejectReq p 28 6 (w.retryMs y + spread))) ∧
    (∀ c, known → admitted → room → sized → w.freeConn = some c → mail = true ∨ 0 < y.admitTokens →
      c < 65536 ∧ w.connTaken c = false ∧
      Answers (exec (.cmReq t p req) s) fun v =>
        v.conn? c = some { index := c, mailbox := mail, port := p, req := req, rate := 100000 * groupSize y.laneMode, firstOut := u.sent.length } ∧
        (∀ d, d ≠ c → v.conn? d = w.conn? d) ∧
        v.port? p = some { y with admitTokens := y.admitTokens - b2n (!mail), counters := y.counters.modify 13 fun n => satAdd 64 n 1 } ∧
        v.sent = u.sent ++ [.cmRep c (toLe 2 1 ++ toLe 2 c ++ toLe 4 (if mail then 0 else 0x80000000 + c) ++
          toLe 8 (if mail then 0 else 0x20000000000) ++ padTo 16 u.fuses.uniqueId ++ toLe 2 u.deviceIndex ++ toLe 2 3 ++ zeros 4)]) ∧
    (∀ reason cause retry, y.rejs.1 < 100000 → y.rejs.1 ≠ 0 → u.clock.now < y.rejs.2 + 1000000000 →
      w.rejectReq p reason cause retry =
        { w with
          ports := w.ports.modify p fun z => { z with
            rejs := (y.rejs.1 + 1, y.rejs.2), counters := z.counters.modify 14 fun n => satAdd 64 n 1 }
          sent := w.sent ++ [.cmRej p reason (toLe 2 1 ++ toLe 1 cause ++ zeros 1 ++ toLe 4 retry)] }) ∧
    (∀ reason cause retry, 100000 ≤ y.rejs.1 → u.clock.now < y.rejs.2 + 1000000000 →
      w.rejectReq p reason cause retry = { w with ports := w.ports.modify p fun z => { z with
        counters := z.counters.modify 15 fun n => satAdd 64 n 1 } }) ∧
    Gives (exec (.admitTokenRefill t p) s) w ∧
    (∀ e, u.power.serviceEntry = some e →
      let rate := if u.power.softStartDone then 20000 else 2000
      let depth := if u.power.softStartDone then 2000 else 200
      let n := (u.clock.now - x.admitSince) * rate / 1000000000
      y = (if depth ≤ x.admitTokens + n then { x with admitTokens := depth, admitSince := u.clock.now }
        else { x with admitTokens := x.admitTokens + n, admitSince := x.admitSince + n * 1000000000 / rate }) ∧
      (e + 5000000000 ≤ u.clock.now → Answers (exec (.admitSoftStartEnd t) s) fun v => v.power = { u.power with softStartDone := true }) ∧
      (u.clock.now < e + 5000000000 → Gives (exec (.admitSoftStartEnd t) s) u)) ∧
    ∀ c k, u.conn? c = some k →
      (k.ready = true → Answers (exec (.cmRtu t c) s) fun v => v.conn? c = some { k with established := true } ∧ ∀ d, d ≠ c → v.conn? d = u.conn? d) ∧
      Resumes (exec (.cmDreq t c) s) (· = (u.emit (.cmDrep c)).failConnection c) ∧
      (∀ cause, Resumes (exec (.connectionError t c cause) s) (· = u.failConnection c)) ∧
      (k.ready = true → (∀ q ∈ u.fabric.queues, q.conn ≠ c) → k.mailbox = false →
        u.failConnection c = { u with
          fabric.conns := mapIf (·.index == c) (fun z => { z with
            ready := false, discarded := z.discarded + (k.heldOut.length + b2n k.notify.isSome), heldOut := [], notify := none
            outstanding := [], reads := [], readQueue := [] }) u.fabric.conns
          router.rings := mapIf (·.conn == c) (fun r => { r with dead := true, waiting := [] }) u.router.rings }) ∧
      (∀ (v : State) (i : Nat) (q : WorkQueue), v.queue? i = some q → q.state ≠ .broken → q.state ≠ .draining →
        v.breakQueue i = (v.modQueue i fun z => { z with state := .broken, target := none, cache := [] }).raise 228 [i, v.queueJobs i])

/-- RDMA requests and what answers them (R52, R69, R385 to R389, R395, R398, R418): carriage memory is written and read packet by packet; a
response serves the next READ; an ACK frees what waits behind a SEND; an RNR NAK sends the oldest SEND again, and what was sent after it waits
with the rest; lost ACKs and CNPs. -/
def Obligations.RdmaTraffic : Prop :=
  ∀ (s u : State) (t c : Nat) (k : Connection), u = s.advance t → u.conn? c = some k → k.ready = true →
    (k.mailbox = true → ∀ rkey addr len data,
      Resumes (exec (.carriageMemoryWrite t c rkey addr data) s) (· = u.refuseRequest c true) ∧
      Resumes (exec (.rdmaReadRequest t c rkey addr len) s) (· = u.refuseRequest c true)) ∧
    (k.mailbox = false → ∀ g x addr data, g < 4096 → u.carriage? g = some x → u.boundTo c g = true → 0 < data.length → data.length ≤ u.mtuOf c →
      let inside := addr + data.length ≤ x.params.memSize * 4096
      (inside → Resumes (exec (.carriageMemoryWrite t c (0xC0000000 + g) addr data) s)
        (· = (u.modCarriage g fun z => { z with mem := z.mem.writeBytes addr data }).emit (.ack c))) ∧
      (inside → Resumes (exec (.rdmaReadRequest t c (0xC0000000 + g) addr data.length) s)
        (· = u.emit (.readResponse c (x.mem.readBytes addr data.length)))) ∧
      (¬ inside → Resumes (exec (.carriageMemoryWrite t c (0xC0000000 + g) addr data) s) (· = u.refuseRequest c false) ∧
        Resumes (exec (.rdmaReadRequest t c (0xC0000000 + g) addr data.length) s) (· = u.refuseRequest c false))) ∧
    (k.mailbox = false → ∀ g addr data len, u.boundTo c g = false → g < 4096 → 0 < data.length → 0 < len →
      Resumes (exec (.carriageMemoryWrite t c (0xC0000000 + g) addr data) s) (· = u.refuseRequest c false) ∧
      Resumes (exec (.rdmaReadRequest t c (0xC0000000 + g) addr len) s) (· = u.refuseRequest c false)) ∧
    (∀ id use data, k.reads.find? (·.1 == id) = some (id, use) → 
      let v := u.modConn c fun z => { z with reads := z.reads.filter (·.1 != id), retries := 0 }
      Resumes (exec (.rdmaReadResponse t c id data) s) (· = (v.deliverRead use data).pumpReads 16 c)) ∧
    (∀ v : State, ∀ j q off data, v.job? j = some q → q.phase = .fetch →
      (v.deliverRead (.jobInput j off data.length) data).job? j = some { q with
        input := q.input.take off ++ data ++ q.input.drop (off + data.length), inputMissing := q.inputMissing - data.length }) ∧
    Resumes (exec (.rdmaAck t c none) s)
      (fun v => v.sent = u.sent ++ (if k.notify = none then [] else k.heldOut) ∧
        v.conn? c = some (if k.notify = none then { k with retries := 0, outstanding := fromSend (k.outstanding.drop 1) }
          else { k with retries := 0, notify := none, heldOut := [], outstanding := fromSend k.heldOut }) ∧
        ∀ d, d ≠ c → v.conn? d = u.conn? d) ∧
    (∀ nak, nak = .nakRemoteAccess ∨ nak = .nakInvalidRequest →
      Resumes (exec (.rdmaAck t c (some nak)) s) (· = u.failConnection c)) ∧
    (∀ b n rest, k.notify = some (b, n) ∨ (k.notify = none ∧ n = 0 ∧ k.outstanding = .send c b :: rest) →
      (n < k.req.rnrRetryCount ∨ k.req.rnrRetryCount = 7 → Resumes (exec (.rnrNak t c) s)
        (· = (u.modConn c fun z => { z with
          notify := some (b, n + 1), heldOut := z.outstanding.drop 1 ++ z.heldOut, outstanding := [] }).emit (.send c b))) ∧
      (k.req.rnrRetryCount ≤ n → k.req.rnrRetryCount ≠ 7 → Resumes (exec (.rnrNak t c) s) (· = u.failConnection c))) ∧
    (k.retries < k.req.retryCount → Resumes (exec (.transportRetryTimer t c) s)
      (· = u.modConn c fun z => { z with retries := z.retries + 1 })) ∧
    (k.req.retryCount ≤ k.retries → Resumes (exec (.transportRetryTimer t c) s) (· = u.failConnection c)) ∧
    (let v := u.countPort k.port 12 1
     (k.lastCnp = none ∨ (∃ l, k.lastCnp = some l ∧ l + 50000 ≤ u.clock.now) → Gives (exec (.cnpReceived t c) s)
       (v.modConn c fun z => { z with rate := z.rate / 2, lastCnp := some u.clock.now, rateAt := u.clock.now })) ∧
     (∀ l, k.lastCnp = some l → u.clock.now < l + 50000 → Gives (exec (.cnpReceived t c) s) v)) ∧
    (k.rate < u.portRate k.port → k.rateAt + 55000 ≤ u.clock.now → Gives (exec (.cnpRateRestore t c) s)
      (u.modConn c fun z => { z with rate := min (u.portRate k.port) (z.rate + 5000), rateAt := u.clock.now })) ∧
    (u.portRate k.port ≤ k.rate ∨ u.clock.now < k.rateAt + 55000 → Gives (exec (.cnpRateRestore t c) s) u)

/-! ### Ports -/

/-- Frames, pause and links (R375, R376, R379, R380, R382 to R384, R389, R396, R403, R405 to R409): what a port counts of a frame, which it drops, how its
buffer divides into lossless priorities, each with its threshold and headroom, and shared space, its own XOFF and XON, ARP answers and the 10,000
management frames a second, pause and its storms, training, FEC windows, and what leaves a port next: pause frames, then Maldin replies, then the
classes under 802.1Qaz, and nothing of a paused priority. When a port sends its next frame is the model's choice (log entry 110). -/
def Obligations.PortsAndFrames : Prop :=
  ∀ (s u : State) (t p : Nat) (x : Port), u = s.advance t → u.port? p = some x →
    (x.link = .training → u.power.bootStuck = false → u.power.mode ≠ .standby ∨ (u.power.parked = true ∧ p = 0) →
      (x.dhcp.state = .bound ∨ x.dhcp.state = .renewing → Gives (exec (.linkUp t p) s) (u.setLink p .up)) ∧
      (x.dhcp.state ≠ .bound → x.dhcp.state ≠ .renewing → Gives (exec (.linkUp t p) s) ((u.setLink p .up).dhcpStart p))) ∧
    (x.link = .training → u.power.bootStuck = true ∨ (u.power.mode = .standby ∧ (u.power.parked = false ∨ p ≠ 0)) →
      Gives (exec (.linkUp t p) s) u) ∧
    (∀ (v : State) (y : Port), v.port? p = some y →
      (y.link ≠ .up ∨ v.nextOut p y = none → v.transmit p = v) ∧ (v.outQueue p = [] → v.nextOut p y = none) ∧
      ∀ i, v.nextOut p y = some i →
        let o := v.outAt i
        let c := v.outClass o
        let n := o.size + Config.freeNat "frame headers" i
        (y.link = .up → v.transmit p = ((({ v with egress.left := v.egress.left ++ [i] } : State).countPort p 1 (v.outFrames o)).countPort p 3 n).modPort p
          fun z => { z with served := z.served.modify c fun b => b + n }) ∧
        i ∈ v.outQueue p ∧
        (o.isPause = false → y.pauses c = false ∧ ∀ j ∈ v.outQueue p, (v.outAt j).isPause = false) ∧
        (o.isPause = false → o.isReply = false → ∀ j ∈ v.outQueue p,
          let k := v.outClass (v.outAt j)
          y.pauses k = false → (v.outAt j).isReply = false ∧ (y.weight k = 0 → y.weight c = 0 ∧ k ≤ c) ∧ (k = c → i ≤ j))) ∧
    (∀ (v : State) (y : Port) (pri len : Nat), (v.drainPort p).port? p = some y →
      let w := v.drainPort p
      let most := min 262144 (1310720 / ((List.range 8).filter (bit y.pfcMask)).length - 65536) * groupSize y.laneMode
      let n := y.held pri + len
      let kept := w.modPort p fun z => { z with lossless := (z.lossless.filter fun e => e.1 != pri) ++ [(pri, n)] }
      let told := (y.xoff.any (·.1 == pri)) = true
      (bit y.pfcMask pri = true →
        (n ≤ most ∨ (n ≤ most + 65536 * groupSize y.laneMode ∧ told) → v.buffer p pri len false = (kept, true)) ∧
        (most < n → n ≤ most + 65536 * groupSize y.laneMode → ¬ told → v.buffer p pri len false =
          (((kept.modPort p fun z => { z with xoff := z.xoff ++ [(pri, v.clock.now)] }).countPort p 8 1).emit (.pfc p pri true), true)) ∧
        (most + 65536 * groupSize y.laneMode < n → v.buffer p pri len false = (w.countPort p 9 1, false))) ∧
      (∀ m, bit y.pfcMask pri = false ∨ m = true →
        (w.sharedUsed p + len ≤ 1048576 → v.buffer p pri len m = (w.modPort p fun z => { z with shared := z.shared + len }, true)) ∧
        (1048576 < w.sharedUsed p + len → v.buffer p pri len m = (w.countPort p 9 1, false)))) ∧
    (∀ (v : State) (y : Port) (e : Nat × Nat), v.port? p = some y → e ∈ y.xoff →
      let below := bit y.pfcMask e.1 = false ∨
        y.held e.1 < (min 262144 (1310720 / ((List.range 8).filter (bit y.pfcMask)).length - 65536) - 65536) * groupSize y.laneMode
      (below → .pfc p e.1 false ∈ (v.sendXon p).sent ∧ ∀ z, (v.sendXon p).port? p = some z → e ∉ z.xoff) ∧
      (¬ below → ∀ z, (v.sendXon p).port? p = some z → e ∈ z.xoff)) ∧
    (x.link = .up →
    (∀ len f marked v b, v = u.verdict p x len f → ((u.countPort p 0 1).countPort p 2 len).buffer p (framePcp f) len (v == 6) = (b, false) →
      Gives (exec (.ingressFrame t p len f marked) s) b) ∧
    (∀ len f marked v b w, v = u.verdict p x len f → ((u.countPort p 0 1).countPort p 2 len).buffer p (framePcp f) len (v == 6) = (b, true) →
      w = b.countPort p (16 + v) 1 →
      let accepts := u.vlanOk x f = true ∧ w.pathAccepts p v f = true
      let e := exec (.ingressFrame t p len f marked) s
      (frameRefused f = true → Gives e (w.countPort p 23 1)) ∧
      (frameRefused f = false → v = 0 ∨ u.vlanOk x f = false → Gives e w) ∧
      (frameRefused f = false → v ≠ 0 → u.vlanOk x f = true → w.pathAccepts p v f = false → v ≠ 5 ∨ framePath f ≠ 5 → Gives e (w.countPort p 23 1)) ∧
      (frameRefused f = false → v ≠ 0 → accepts → v ≠ 1 ∨ marked = none → Gives e w) ∧
      (∀ c k, frameRefused f = false → v = 1 → accepts → marked = some c → w.conn? c = some k → k.ready = true → k.port = p →
        let seen := w.countPort p 10 1
        (k.lastCnpSent = none → Gives e (((seen.modConn c fun z => { z with lastCnpSent := some u.clock.now }).countPort p 11 1).emit (.cnp c))) ∧
        (∀ l, k.lastCnpSent = some l → u.clock.now < l + 50000 → Gives e seen)) ∧
      (∀ i, x.classifier[0]? = some i → (insOp i = 0x30 → v = if insK i % 256 ≤ 6 then insK i % 256 else 0))) ∧
    (∀ f, x.mgmt.1 ≠ 0 → u.clock.now < x.mgmt.2 + 1000000000 →
      let w := u.modPort p fun z => { z with mgmt := (x.mgmt.1 + 1, x.mgmt.2) }
      (10000 ≤ x.mgmt.1 → Gives (exec (.mgmtFrame t p f) s) (u.countPort p 24 1)) ∧
      (x.mgmt.1 < 10000 → frameTag f = 0 → frameType f = 0x0806 → be f 20 2 = 1 → u.ipv4Of x ≠ 0 → be f 38 4 = u.ipv4Of x →
        Gives (exec (.mgmtFrame t p f) s) (w.emit (.mgmt p (slice f 22 6 ++ toBe 6 (w.fuses.macBase + w.groupPort p) ++ toBe 2 0x0806 ++
          slice f 14 6 ++ toBe 2 2 ++ toBe 6 (w.fuses.macBase + w.groupPort p) ++ slice f 38 4 ++ slice f 22 10))))) ∧
    (∀ pri,
      let ours := (bit x.pfcMask pri && !(x.ignoring.any (·.1 == pri)) && !(x.paused.any (·.1 == pri))) = true
      let w := u.countPort p 7 1
      Gives (exec (.pfcFrame t p pri false) s) (u.modPort p fun z => { z with paused := z.paused.filter (·.1 != pri) }) ∧
      (ours → Gives (exec (.pfcFrame t p pri true) s) (w.modPort p fun z => { z with paused := z.paused ++ [(pri, u.clock.now)] })) ∧
      (¬ ours → Gives (exec (.pfcFrame t p pri true) s) w) ∧
      (∀ since, (pri, since) ∈ x.xoff → since + 200000000 ≤ u.clock.now → Gives (exec (.pfcStormTimeout t p pri true) s)
        ((u.modPort p fun z => { z with xoff := mapIf (·.1 == pri) (fun _ => (pri, u.clock.now)) z.xoff }).raise (98 + 4 * p) [pri, 2])) ∧
      ((∀ since, (pri, since) ∈ x.xoff → u.clock.now < since + 200000000) → Gives (exec (.pfcStormTimeout t p pri true) s) u) ∧
      (∀ since, (pri, since) ∈ x.paused → since + 200000000 ≤ u.clock.now → Gives (exec (.pfcStormTimeout t p pri false) s)
        ((u.modPort p fun z => { z with
          paused := z.paused.filter (·.1 != pri), ignoring := z.ignoring ++ [(pri, u.clock.now)] }).raise (98 + 4 * p) [pri, 1])) ∧
      Gives (exec (.pfcStormIgnoreEnd t p pri) s)
        (u.modPort p fun z => { z with ignoring := z.ignoring.filter fun e => !(e.1 == pri && decide (e.2 + 1000000000 ≤ u.clock.now)) })) ∧
    Gives (exec (.linkDown t p) s) (u.setLink p .training) ∧
    Gives (exec (.linkUp t p) s) u ∧
    (∀ lane codewords corrected received bad, p ≤ lane → lane < p + groupSize x.laneMode →
      let w := ((u.countPort p 4 codewords).countPort p 5 corrected).countPort p 6 bad
      let poor := bad ≠ 0 ∨ received < corrected * 10000
      let e := exec (.fecWindow t p lane codewords corrected received bad) s
      (poor → (∀ n, (lane, n) ∉ x.fecLanes) →
        Gives e ((w.modPort p fun z => { z with fecLanes := z.fecLanes ++ [(lane, 0)] }).raise (97 + 4 * p) [lane, corrected, 1])) ∧
      (¬ poor → (∀ n, (lane, n) ∉ x.fecLanes) → Gives e w) ∧
      (∀ n, x.fecLanes = [(lane, n)] →
        (poor → Gives e (w.modPort p fun z => { z with fecLanes := [(lane, 0)] })) ∧
        (¬ poor → n < 9 → Gives e (w.modPort p fun z => { z with fecLanes := [(lane, n + 1)] })) ∧
        (¬ poor → 9 ≤ n → Gives e ((w.modPort p fun z => { z with fecLanes := [] }).raise (97 + 4 * p) [lane, corrected, 0])))))

/-! ### Time -/

/-- Train time (R401, R402, R428, R429, R459, R554, R555): a Sync moves the time state by the table of R428, and steps Train time only forward; what a
module does not accept changes nothing; masters, Delay_Resp, silence, the lead kept in HOLDOVER, both PPS pins, and the rate of 0.999 until a lead is absorbed. That
Delay_Req follows each Sync taken, and Syncs go out at each edge of PPS_IN, is the model's choice (log entry 60). -/
def Obligations.TrainTime : Prop :=
  ∀ (s u : State) (t : Nat), u = s.advance t →
    let sync (e : Host.Outcome State Fault Refusal) (post : State → State) (id m : Nat) : Prop :=
      let c := u.clock.countSync m
      let d : Clock := { c with lastSync := some (u.clock.now, m), lastMaster := id }
      let fresh : Clock := { d with syncsAhead := 0, syncsBehind := 0, syncsWithin := 0 }
      let posts (v : State) : Prop := Answers e fun y => ∃ x, y = post x ∧ EventFrame v x
      let keeps := Gives e (post { u with clock := d })
      let steps := posts { u with clock := { fresh with train := m, frac := 0, reduced := false, timeState := .locked } }
      let leads := posts { u with clock := { fresh with timeState := .ahead } }
      let locks := posts { u with clock := { fresh with reduced := false, timeState := .locked } }
      (u.clock.timeState = .ahead → m < u.clock.train → keeps) ∧
      (u.clock.timeState = .ahead → u.clock.train ≤ m → locks) ∧
      (u.clock.timeState ≠ .ahead → 4 ≤ c.syncsAhead → steps) ∧
      (u.clock.timeState ≠ .ahead → 4 ≤ c.syncsBehind → leads) ∧
      (u.clock.timeState = .locked → c.syncsAhead < 4 → c.syncsBehind < 4 → keeps) ∧
      (u.clock.timeState = .unsynced ∨ u.clock.timeState = .holdover → c.syncsAhead < 4 → c.syncsBehind < 4 →
        if 16 ≤ c.syncsWithin then locks else keeps)
    (∀ p x id time member, u.port? p = some x → u.ptpRuns p = true → u.fromMaster p id member = true →
      (x.stamps < 64 → u.clock.master = some id → u.clock.ptpPort = some p →
        sync (exec (.ptpSync t p id time member) s) (fun x => x.sendDelayReq p member) id (time + u.clock.linkDelay)) ∧
      (64 ≤ x.stamps → Gives (exec (.ptpSync t p id time member) s) ((u.countPort p 25 1).raise (99 + 4 * p) [0]))) ∧
    (∀ p id time delay member, u.ptpRuns p = false ∨ u.fromMaster p id member = false →
      Gives (exec (.ptpSync t p id time member) s) u ∧ Gives (exec (.ptpDelayResp t p id delay member) s) u) ∧
    (∀ p id delay member, u.ptpRuns p = true → u.fromMaster p id member = true →
      Gives (exec (.ptpDelayResp t p id delay member) s) { u with clock.linkDelay := delay }) ∧
    (∀ p x y who i, u.port? p = some x → u.ptpRuns p = true → u.isGm = true → u.peer? i = some y → y.keyed = true →
      (x.stamps < 64 → Gives (exec (.ptpDelayReq t p who (some i)) s)
        (u.sendPeer i 0x30 0 (std .ptp 9 [toLe 8 u.clock.train, toLe 8 who] 54)).1) ∧
      (64 ≤ x.stamps → Gives (exec (.ptpDelayReq t p who (some i)) s) ((u.countPort p 25 1).raise (99 + 4 * p) [1]))) ∧
    (∀ p id rank, u.ptpRuns p = true → u.gmIndex = 0xFFFF →
      let better := u.clock.masterRank = none ∨ (∃ r, u.clock.masterRank = some r ∧ rank < r)
      let w : State := { u with clock.masterRank := some rank, clock.master := some id, clock.ptpPort := some p }
      (u.clock.master = some id → Gives (exec (.ptpAnnounce t p id rank) s) w) ∧
      (better → u.clock.master ≠ some id → Gives (exec (.ptpAnnounce t p id rank) s) (w.raise 217 [id % 2 ^ 32])) ∧
      (¬ better → u.clock.master ≠ some id → Gives (exec (.ptpAnnounce t p id rank) s) u)) ∧
    (∀ last m, u.clock.lastSync = some (last, m) →
      (u.clock.now < last + 3000000000 → Gives (exec (.syncTimeout t) s) u) ∧
      (last + 3000000000 ≤ u.clock.now → u.clock.timeState = .locked ∨ u.clock.timeState = .ahead →
        Answers (exec (.syncTimeout t) s) (EventFrame { u with clock := { u.clock with
          masterRank := none, timeState := .holdover, reduced := u.clock.reduced || u.clock.timeState == .ahead
          syncsAhead := 0, syncsBehind := 0, syncsWithin := 0 } })) ∧
      (u.clock.timeState = .holdover → u.clock.reduced = true → Gives (exec (.holdoverReducedRateEnd t) s)
        (if u.clock.train ≤ m + (u.clock.now - last) then { u with clock.reduced := false } else u))) ∧
    (u.isGm = true → u.clock.running = true →
      sync (exec (.ppsInEdge t) s) State.sendSyncs ownClock ((u.clock.train + 500000000) / 1000000000 * 1000000000)) ∧
    (u.isGm = false ∨ u.clock.running = false → Gives (exec (.ppsInEdge t) s) u) ∧
    Gives (exec (.ppsOutTick t) s)
      (let r := u.clock.train % 1000000000
       if u.clock.running = true ∧ (r ≤ 5 ∨ 999999995 ≤ r) then { u with sent := u.sent ++ [.pps] } else u) ∧
    (s.clock.running = true → s.clock.timeState = .ahead →
      (u.clock.timeState = .ahead ∨ u.clock.timeState = .locked) ∧
      (u.clock.timeState = .ahead → ∀ last lm, u.clock.lastSync = some (last, lm) → lm + (u.clock.now - last) < u.clock.train)) ∧
    (∀ (c : Clock) (dt : Nat), c.running = true →
      let ns := (c.pass dt).train * 1000 + (c.pass dt).frac
      (c.timeState ≠ .ahead → c.reduced = false → ns = c.train * 1000 + c.frac + dt * 1000) ∧
      (c.timeState = .ahead ∨ c.reduced = true → ∀ last lm, c.lastSync = some (last, lm) →
        let lead := c.train * 1000 + c.frac - (lm + (c.now - last)) * 1000
        ns = c.train * 1000 + c.frac + dt * 999 + (dt - lead))) ∧
    ∀ (c : Clock) (m : Nat),
      let n := c.countSync m
      let far := c.syncsAhead + c.syncsBehind
      (c.train + 1000 < m →
        (n.syncsAhead, n.syncsBehind, n.syncsWithin) = ((if c.timeState = .locked then far else c.syncsAhead) + 1, 0, 0)) ∧
      (m + 1000 < c.train →
        (n.syncsAhead, n.syncsBehind, n.syncsWithin) = (0, (if c.timeState = .locked then far else c.syncsBehind) + 1, 0)) ∧
      (c.train ≤ m + 1000 → m ≤ c.train + 1000 → (n.syncsAhead, n.syncsBehind, n.syncsWithin) = (0, 0, c.syncsWithin + 1))

/-- The mark, the Book and its ring (R298, R301, R418, R421, R427): marks are written ahead and then durable; CONS_INDEX is read, and credit that
moves backwards or beyond PROD_INDEX is ignored; checkpoints by time and count, one at most held for a place, signed oldest first and anchored. -/
def Obligations.MarksAndCheckpoints : Prop :=
  ∀ (s u : State) (t : Nat), u = s.advance t →
    (u.clock.running = true → Gives (exec (.timeMarkTimer t) s) { u with clock.markPending := some (u.clock.train + 20000000) }) ∧
    (∀ m, u.clock.markPending = some m →
      Gives (exec (.timeMarkDurable t) s) { u with journal.timeMark := max u.journal.timeMark m, clock.markPending := none }) ∧
    (∀ i x k, u.ering? i = some x → x.dead = false → u.conn? x.conn = some k →
      (∀ r ∈ k.reads, r.2 ≠ .consIndex x.index) → (∀ r ∈ k.readQueue, r.2.2.2.2 ≠ .consIndex x.index) →
      let w := (u.modEring i fun y => { y with lastPoll := some u.clock.now }).issueRead x.conn x.rkey (x.base + x.size * u.ringUnit i + 8) 4
        (.consIndex i)
      (x.room < x.size / 4 → x.lastPoll = none ∨ (∃ l, x.lastPoll = some l ∧ l + 10000 ≤ u.clock.now) → Gives (exec (.consIndexPoll t i) s) w) ∧
      (x.size / 4 ≤ x.room → u.book.exportRing ≠ some i ∨ u.book.placed = [] → Gives (exec (.consIndexPoll t i) s) u)) ∧
    (∀ i x k id value, u.ering? i = some x → u.conn? x.conn = some k → (k.reads.find? fun r => r.2 == .consIndex i) = some (id, .consIndex i) →
      (∀ r ∈ k.reads, r.1 = id → r = (id, .consIndex i)) → value < 2 ^ 32 →
      let w := u.modConn x.conn fun z => { z with reads := z.reads.filter (·.1 != id), retries := 0 }
      Resumes (exec (.consIndexReadDone t i value) s) (· = (w.consIndex i value).pumpReads 16 x.conn)) ∧
    (∀ w : State, ∀ i x value, w.ering? i = some x →
      let moved := (value + 2 ^ 32 - x.cons) % 2 ^ 32
      let unread := (x.prod + 2 ^ 32 - x.cons) % 2 ^ 32
      let y := w.modEring i fun z => { z with cons := value }
      (unread < moved → w.consIndex i value = w.modConn x.conn fun z => { z with consIgnored := satAdd 64 z.consIgnored 1 }) ∧
      (moved ≤ unread → w.book.exportRing ≠ some i → w.consIndex i value = y.drainRing 257 i) ∧
      (moved ≤ unread → w.book.exportRing = some i →
        let z := y.creditUnits moved
        w.consIndex i value = z.pumpExport (exportFuel z))) ∧
    (let due := u.clock.running = true ∧ 1 ≤ u.book.sinceCheckpoint ∧ u.book.checkpointAt + 1000000000 ≤ u.clock.now
     let full := u.clock.running = true ∧ 4096 ≤ u.book.sinceCheckpoint
     let early : Mode → Prop := fun m => m = .boot ∨ m = .recovery
     let takes := (∀ b ∈ u.book.held, entryKind b ≠ 4) ∧ u.bookOpen = true ∧ ¬ early u.power.mode ∧
       (u.power.mode = .hold → ∀ m, u.power.held = some m → ¬ early m)
     (due → takes → Gives (exec (.checkpointTimer t) s) (u.appendBook { kind := 4 })) ∧
     (¬ due ∨ ¬ takes → Gives (exec (.checkpointTimer t) s) u) ∧
     (full → takes → Gives (exec (.checkpointCount t) s) (u.appendBook { kind := 4 })) ∧
     (¬ full ∨ ¬ takes → Gives (exec (.checkpointCount t) s) u)) ∧
    (u.book.signing = [] → ∀ ok, Gives (exec (.checkpointSigned t ok) s) u) ∧
    ∀ e rest, u.book.signing = e :: rest →
      let w : State := { u with
        book.signing := rest, book.anchor := toLe 8 (entrySeq e) ++ sha3 e
        book.signatures := u.book.signatures ++ [(entrySeq e, u.identitySign e (zeros 32) [])] }
      Gives (exec (.checkpointSigned t true) s) (w.pumpExport (exportFuel w)) ∧
      Gives (exec (.checkpointSigned t false) s) (u.raise 180 [entrySeq e])

/-! ### Power -/

/-- The passages between the modes (R25 to R27, R319, R432, R435 to R440, R463, R474, R508, R511, R533, R535, R545, R551): start, nRESET, PLLs, the end of
Boot and of Recovery, nWAKE, internal resets, tamper and zeroisation; what a reset keeps and loses. -/
def Obligations.PowerPassages : Prop :=
  ∀ (s u : State) (t : Nat), u = s.advance t →
    let m := u.power.mode
    let passage (x : State) : State :=
      { x with power.mode := .standby, power.parked := false, power.domains := [0, 1, 2, 44], power.pwrgd := true }
    let resets (cause : Nat) (x : State) : State := passage ({ x with journal.cause := cause } : State).afterReset
    let off (x : State) : State := { x.afterReset with power.mode := .off, power.pwrgd := false, power.domains := [] }
    let beyond := m ≠ .off ∧ m ≠ .standby
    (∀ vin, vin ≤ 60000 →
      (vin < 6000 → Gives (exec (.vinStart t vin) s) u) ∧
      (6000 ≤ vin → m = .off → u.power.nResetLow = false → Gives (exec (.vinStart t vin) s) (passage (u.noteVin vin))) ∧
      (6000 ≤ vin → m = .off → u.power.nResetLow = true → Gives (exec (.vinStart t vin) s) (u.noteVin vin)) ∧
      (6000 ≤ vin → m = .standby → Gives (exec (.vinStart t vin) s) (u.noteVin vin)) ∧
      (let v : State := { u with power.nResetLow := false }
       (6000 ≤ vin → m = .off → Gives (exec (.nresetDeassert t vin) s) (passage (v.noteVin vin))) ∧
       (vin < 6000 ∨ m ≠ .off → Gives (exec (.nresetDeassert t vin) s) v)) ∧
      (4800 ≤ vin → Gives (exec (.vinReset t vin) s) u) ∧
      (vin < 4800 → m ≠ .off → Gives (exec (.vinReset t vin) s) { off u with power.vin := vin, power.vinGoodSince := none })) ∧
    (let v : State := { u with power.nResetLow := true }
     (m = .off → Gives (exec (.nresetAssert t) s) v) ∧
     (m ≠ .off → Gives (exec (.nresetAssert t) s) (off { v with journal.cause := 2 }))) ∧
    (let locks := m = .standby ∧ u.power.parked = false ∧ u.power.zeroising = false ∧ u.power.hot = false ∧ u.power.vinWait = false ∧
      5700 ≤ u.power.vin
     (locks → Gives (exec (.pllLock t) s) u.enterBoot) ∧ (¬ locks → Gives (exec (.pllLock t) s) u) ∧
     (locks → u.lc = none → Answers (exec (.pllLock t) s) fun y =>
       y.power.mode = .boot ∧ y.power.bootStuck = true ∧ 2 ∈ y.power.alarm ∧ y.journal.bootCount = u.journal.bootCount + 1 ∧
       y.clock.train = u.journal.timeMark ∧ y.power.domains = [0, 1, 2, 3, 44])) ∧
    (∀ kept,
      (beyond → Gives (exec (.pllLossOfLock t kept) s) (resets 3 { u with journal.orderly := false })) ∧
      (m = .off ∨ (m = .standby ∧ (u.power.parked = false ∨ kept = false)) → Gives (exec (.pllLossOfLock t kept) s) u) ∧
      (m = .standby → u.power.parked = true → kept = true → Gives (exec (.pllLossOfLock t true) s)
        (u.mailbox.sessions.foldl (fun x y => x.raise 243 [y.id, 3]) (passage u.afterReset)))) ∧
    (let ready := m = .boot ∧ u.power.bootStuck = false ∧ u.rng.state = .seeded
     let v := u.makeCarriage0
     (ready → v.journal.orderly = true → Settles (exec (.bootEnd t) s)
       (· = { v.recoveryEntry.recoverCarriages.leafEvents.clearJournal.handOver with journal.orderly := false })) ∧
     (ready → v.journal.orderly = false → Settles (exec (.bootEnd t) s) (· = { v.clearJournal with power.mode := .recovery })) ∧
     (¬ ready → Settles (exec (.bootEnd t) s) (· = u))) ∧
    (m = .recovery → Resumes (exec (.recoveryEnd t) s) (· = u.recover.handOver)) ∧
    (m ≠ .recovery → Resumes (exec (.recoveryEnd t) s) (· = u)) ∧
    (m = .standby → u.power.parked = true → Gives (exec (.nwake t) s)
      (u.mailbox.sessions.foldl (fun x y => x.raise 243 [y.id, 4]) (passage u.afterReset).enterBoot)) ∧
    (m ≠ .standby ∨ u.power.parked = false → Gives (exec (.nwake t) s) u) ∧
    (let may := (m = .boot ∨ m = .recovery ∨ m = .service ∨ m = .derated ∨ m = .trainJoin) ∧ u.power.bootStuck = false ∧ u.journal.expressMask ≠ 0
     (may → Settles (exec (.expressReady t) s)
       (· = ({ u with power.expressReady := true, express.enabled := true, express.closing := false } : State).reserveExpress)) ∧
     (¬ may → Settles (exec (.expressReady t) s) (· = u))) ∧
    (beyond → Gives (exec (.watchdogExpiry t) s) (resets 4 u) ∧ Gives (exec (.internalFault t) s) (resets 6 u) ∧
      Gives (exec (.junctionOvertemp t) s) (resets 6 { u with power.hot := true })) ∧
    (¬ beyond → Gives (exec (.watchdogExpiry t) s) u ∧ Gives (exec (.internalFault t) s) u) ∧
    (m = .standby → Gives (exec (.junctionOvertemp t) s) { u with power.hot := true }) ∧
    (let cleared : State := { u with power.sealShare := false, power.sealLost := true }
     let wiped (e : Host.Outcome State Fault Refusal) : Prop := Answers e fun y =>
       y.cellar.dir = [] ∧ y.cellar.records = [] ∧ y.cellar.ledgers = [] ∧ y.fabric.carriages = [] ∧ y.fabric.jobs = [] ∧ y.train.roster = none ∧
       y.mailbox.sessions = [] ∧ y.power.mode = .standby ∧ y.power.zeroising = true ∧ y.power.sealShare = false ∧ 4 ∈ y.power.alarm ∧
       y.journal.zeroisePending = true ∧ y.journal.cause = 5 ∧ y.fuses = u.fuses ∧ y.book.seq = u.book.seq ∧ y.cellar.identity = u.cellar.identity
     (m = .off → u.sealEnabled = true → Gives (exec (.tamperMesh t) s) cleared ∧ ∀ n < 4, Gives (exec (.tamperIn t n) s) cleared) ∧
     (m ≠ .off → u.power.zeroising = false →
       wiped (exec (.tamperMesh t) s) ∧ (∀ n < 4, wiped (exec (.tamperIn t n) s)) ∧ wiped (exec (.nzeroiseAssert t) s) ∧
       Gives (exec (.tamperMesh t) s) (u.tamper 193 [1]) ∧ (∀ n < 4, Gives (exec (.tamperIn t n) s) (u.tamper 194 [n])) ∧
       Gives (exec (.nzeroiseAssert t) s) (u.tamper 195 [])) ∧
     (m = .off → Gives (exec (.nzeroiseAssert t) s) u) ∧
     (u.sealEnabled = true → Gives (exec (.vbatLow t) s) cleared) ∧ (u.sealEnabled = false → Gives (exec (.vbatLow t) s) u)) ∧
    (u.power.zeroising = true → Gives (exec (.zeroiseReset t) s) (passage ({ u with journal.zeroisePending := false } : State).afterReset)) ∧
    ∀ x : State,
      let y := x.afterReset
      y.fuses = x.fuses ∧ y.journal = x.journal ∧ y.cellar.dir = x.cellar.dir ∧ y.cellar.records = x.cellar.records ∧
      y.book.seq = x.book.seq ∧ y.book.head = x.book.head ∧ y.book.tail = x.book.tail ∧ y.train.roster = x.train.roster ∧
      (∀ c ∈ x.fabric.carriages, ∃ d ∈ y.fabric.carriages, d.number = c.number ∧ d.gen = c.gen ∧ d.key = c.key) ∧
      (∀ l ∈ x.cellar.ledgers, ∃ n ∈ y.cellar.ledgers, n.highWater = l.highWater ∧ l.highWater ≤ n.next) ∧
      y.fabric.jobs = [] ∧ y.fabric.queues = [] ∧ y.fabric.rings = [] ∧ y.fabric.conns = [] ∧ y.fabric.pmap = [] ∧ y.mailbox.sessions = [] ∧
      y.rng.state = .unseeded ∧ y.power.serviceEntry = none ∧ y.router.nextSeq = x.journal.eventBlock

/-- Supply, Derated, currents, rails and temperatures (R508, R516 to R523, R526, R537, R538, R542, R544): a crossing of VIN_WARN and the exit from
Hold, conditions, the ladder one unit at a time, limits and warnings. -/
def Obligations.PowerConditions : Prop :=
  ∀ (s u : State) (t : Nat), u = s.advance t →
    let m := u.power.mode
    let atVin (vin : Nat) (e : Host.Outcome State Fault Refusal) (y : State) : Prop := vin ≤ 60000 → Settles e (· = y)
    (∀ vin,
      let e := exec (.vinWarnCrossing t vin) s
      let low (x : State) : State := { x with power.vin := vin, power.vinGoodSince := none }
      (u.power.vinWarn ≤ vin → atVin vin e u) ∧
      (vin < u.power.vinWarn →
        (holdable m = true → atVin vin e (u.enterHold vin)) ∧
        (m = .boot → atVin vin e { low u.internalReset with power.vinWait := true }) ∧
        (m = .tasting → atVin vin e (low (u.endTasting 3))) ∧
        (m = .standby → u.power.parked = false → atVin vin e { low u with power.vinWait := true }) ∧
        (m = .off ∨ m = .hold ∨ (m = .standby ∧ u.power.parked = true) → atVin vin e u))) ∧
    (∀ vin, vin ≤ 60000 →
      let e := exec (.holdExit t vin) s
      let third := 3 ≤ u.power.holdBegins.length
      (m ≠ .hold ∨ vin < u.power.vinWarn + 250 → Resumes e (· = u)) ∧
      (m = .hold → u.power.vinWarn + 250 ≤ vin → u.power.held = some .service → 11600 ≤ vin → u.power.thermal = false → u.power.dipLatch = false →
        let v := u.noteVin vin
        let pushed (x : State) : State := x.flushPushes x.train.heldPushes.length
        let w : State := { v with journal.holdEntered := none, power.held := none, power.dipLatch := decide third, power.mode := .service }
        (¬ third → Resumes e (· = pushed ((w.setLadder w.ladderLimit).restartFrames.raise 146 []).returnToService.conditions)) ∧
        (third → Resumes e (· = pushed (((w.setLadder 1).restartFrames.raise 146 []).raise 149 []).returnToService.conditions)))) ∧
    (∀ vin,
      let v := u.noteVin vin
      (vin < 11400 → m ≠ .off → atVin vin (exec (.vinLowDerate t vin) s) v.conditions) ∧
      (11400 ≤ vin ∨ m = .off → vin ≤ 60000 → Gives (exec (.vinLowDerate t vin) s) u) ∧
      (v.deratedNow = true → atVin vin (exec (.deratedExitTimer t vin) s) v.conditions) ∧
      (v.deratedNow = false → u.power.vinLow = false → u.power.clearSince.isSome = true →
        atVin vin (exec (.deratedExitTimer t vin) s) v.leaveDerated) ∧
      (let w := v.conditions
       let may := w.power.mode ≠ .derated ∨ w.deratedNow = true ∨ w.clearLong = true
       (ladderMode w.power.mode = false → atVin vin (exec (.ladderStepUp t vin) s) w) ∧
       (ladderMode w.power.mode = true → may → w.power.ladder < w.ladderLimit →
         atVin vin (exec (.ladderStepUp t vin) s) (w.setLadder (w.power.ladder + 1)).leaveDerated) ∧
       (ladderMode w.power.mode = true → ¬ may ∨ w.ladderLimit ≤ w.power.ladder → atVin vin (exec (.ladderStepUp t vin) s) w.leaveDerated) ∧
       ∀ current,
         let excess := w.deratedNow = true ∧ ladderMode w.power.mode = true ∧ 20000 < current
         (excess → 1 < w.power.ladder →
           atVin vin (exec (.inputPowerOver t current vin) s) ((w.setLadder (w.power.ladder - 1)).raise 152 [current, vin])) ∧
         (excess → w.power.ladder ≤ 1 → atVin vin (exec (.inputPowerOver t current vin) s) (w.raise 152 [current, vin])) ∧
         (¬ excess → atVin vin (exec (.inputPowerOver t current vin) s) w) ∧
         (w.power.mode ≠ .off →
           atVin vin (exec (.currentLimit t none current vin) s) { w.raise 152 [current, vin] with power.currentLimited := true } ∧
           ∀ d, atVin vin (exec (.currentLimit t (some d) current vin) s) ((w.raise 152 [current, vin]).railFault d 1)))) ∧
    (∀ x : State, x.deratedNow = true → x.power.mode = .service →
      let w : State := { x with power.clearSince := none, power.mode := .derated }
      x.conditions = (w.raise 147 []).fitLadder) ∧
    (∀ x : State, x.power.mode = .derated → x.clearLong = true → x.ladderLimit ≤ x.power.ladder →
      x.leaveDerated = ({ x with power.mode := .service } : State).raise 148 []) ∧
    (∀ current,
      let e := exec (.currentStepTimer t current) s
      let acts := u.power.currentLimited = true ∧ ladderMode m = true
      (¬ acts → Settles e (· = u)) ∧
      (acts → 21000 ≤ current → 1 < u.power.ladder →
        Settles e (· = (({ u with power.ladderCap := u.power.ladder - 1 } : State).fitLadder).raise 152 [current, u.power.vin])) ∧
      (acts → 21000 ≤ current → u.power.ladder ≤ 1 → Settles e (· = u)) ∧
      (acts → current < 21000 → u.power.ladderCap < 32 →
        let v : State := { u with power.ladderCap := u.power.ladderCap + 1 }
        Settles e (· = if v.power.ladder < v.ladderLimit then v.setLadder (v.power.ladder + 1) else v))) ∧
    (∀ d excess,
      let e := exec (.railFault t d excess) s
      let v := u.raise 153 [if excess then 3 else 1, d]
      (u.domainOn d = false → Settles e (· = u)) ∧
      (u.domainOn d = true → 4 ≤ d → d < 44 → Settles e
        (· = (({ v with power.domainFaults := v.power.domainFaults ++ [d] } : State).domainOff d false).reserveExpress)) ∧
      (u.domainOn d = true → d = 45 →
        let y := [4, 5, 6, 7].foldl (fun s p => s.setLink p .fault) v
        let z : State := { y with
          power.domainFaults := y.power.domainFaults ++ [45], power.domains := y.power.domains.filter (· != 45) }
        Settles e (· = (z.fabric.conns.filter fun c => 4 ≤ c.port).foldl (fun s c => s.failConnection c.index) z)) ∧
      (u.domainOn d = true → d < 4 ∨ d = 44 ∨ 46 ≤ d → Settles e (· = v.faultReset 6))) ∧
    (∀ sensor temp,
      let e := exec (.thermalLimit t sensor temp) s
      (temp < 100000 ∨ m = .off → Settles e (· = u)) ∧
      (100000 ≤ temp → m ≠ .off → u.power.thermal = true → temp < 105000 → Settles e (· = { u with power.junction := temp })) ∧
      (100000 ≤ temp → m = .service → u.power.thermal = false → temp < 105000 → Settles e
        (· = (({ u with
          power.junction := temp, power.thermal := true
          power.ladderCap := min u.power.ladderCap (max 1 u.power.ladder) } : State).raise 151 [sensor, temp]).conditions)) ∧
      (105000 ≤ temp → m ≠ .off → u.power.thermal = true → Settles e
        (· = ({ u with power.junction := temp, power.ladderCap := min u.power.ladderCap 2 } : State).fitLadder))) ∧
    (∀ temp,
      let e := exec (.thermalStepTimer t temp) s
      let v : State := { u with power.junction := temp, power.hot := u.power.hot && decide (95000 ≤ temp) }
      (u.power.thermal = false → Settles e (· = v)) ∧
      (u.power.thermal = true →
        (105000 ≤ temp → Settles e (· = ({ v with power.ladderCap := min v.power.ladderCap 2 } : State).fitLadder)) ∧
        (100000 ≤ temp → temp < 105000 → Settles e (· = ({ v with power.ladderCap := max 1 (v.power.ladder - 1) } : State).fitLadder)) ∧
        (95000 ≤ temp → temp < 100000 → Settles e (· = v)) ∧
        (temp < 95000 →
          let w : State := { v with power.ladderCap := 33 }
          let back := w.ladderLimit ≤ v.power.ladder ∨ ladderMode m = false
          (back → Settles e (· = ({ w with power.thermal := false } : State).conditions)) ∧
          (¬ back →
            let x : State := { v with power.ladderCap := min 33 (v.power.ladder + 1) }
            Settles e (· = if x.power.ladder < x.ladderLimit then x.setLadder (x.power.ladder + 1) else x))))) ∧
    ∀ temp,
      let e := exec (.lidTempWarn t temp) s
      let v : State := { u with power.lid := temp }
      (temp < 75000 → Gives e { v with power.lidWarned := false }) ∧
      (80000 ≤ temp → u.power.lidWarned = false → m ≠ .off → Gives e (({ v with power.lidWarned := true } : State).raise 150 [temp])) ∧
      (75000 ≤ temp → temp < 80000 ∨ u.power.lidWarned = true ∨ m = .off → Gives e v)

/-! ### Tasting -/

/-- Steps of Tasting (R39, R525 to R527, R529): a step that ends without faults or is cut moves the cursor, the next starts when its budget
fits, and the pass ends after its last step or at TOTAL_MS; in Boot the short self-test. -/
def Obligations.TastingSteps : Prop :=
  ∀ (s u : State) (t : Nat) (faults : List MemFault) (r : TastingRun), u = s.advance t → u.tasting.run = some r →
    let step := u.tasting.sequence.getD u.tasting.cursor []
    let budget (x : State) (b : Bytes) : Nat := 1000 * (if le b 0x0C 4 = 0 then x.tasting.sliceUs else le b 0x0C 4)
    let behind (x : State) (ran : Bool) : State := { x with
      tasting.run := some { r with
        passed := r.passed + 1, critical := r.critical - b2n (ran && bit (byteAt step 3) 0)
        cut := if ran = false ∧ r.cut = none then some u.tasting.cursor else r.cut }
      tasting.cursor := if u.tasting.stepCount ≤ u.tasting.cursor + 1 then 0 else u.tasting.cursor + 1
      tasting.stepsRun := u.tasting.stepsRun + b2n ran }
    let next (x : State) : State := x.nextStep (x.tasting.stepCount + 1)
    (u.power.mode = .tasting → (∀ f ∈ faults, stepFinds step f = false) → Gives (exec (.tastingStepDone t faults) s) (next (behind u true))) ∧
    (u.power.mode = .tasting → u.tasting.stepAt + budget u step ≤ u.clock.now → Gives (exec (.tastingStepBudget t) s) (next (behind u false))) ∧
    (u.power.mode ≠ .tasting ∨ u.clock.now < u.tasting.stepAt + budget u step → Gives (exec (.tastingStepBudget t) s) u) ∧
    (u.power.mode = .boot → u.power.bootStuck = false → u.tasting.criticalDone = false → (∀ f ∈ faults, selfTestIsland f = false) →
      Gives (exec (.tastingStepDone t faults) s) u.repairMemories) ∧
    (u.power.mode = .boot → u.tasting.criticalDone = true → Gives (exec (.tastingStepDone t faults) s) u) ∧
    (u.power.mode ≠ .boot → u.power.mode ≠ .tasting → Gives (exec (.tastingStepDone t faults) s) u) ∧
    (∀ (x : State) (q : TastingRun), x.tasting.run = some q →
      let b := x.tasting.sequence.getD x.tasting.cursor []
      let excess := x.tasting.totalMs * 1000000 < (x.clock.now - q.since) + budget x b
      (x.tasting.stepCount ≤ q.passed → next x = x.endTasting 1) ∧
      (q.passed < x.tasting.stepCount → (q.action ≠ 0 ∨ memIsland (le b 0 2) ≠ 55) →
        (excess → next x = x.endTasting 2) ∧
        (¬ excess → next x = { x with tasting.stepAt := x.clock.now, power.domains := [0, 1] ++ stepDomains b })) ∧
      ∀ outcome, ∃ y : State, y = { x with
          tasting.run := none, tasting.lastOutcome := outcome, tasting.cursor := q.cut.getD x.tasting.cursor
          tasting.stepsUntested := x.tasting.stepCount - x.tasting.stepsRun, tasting.criticalDone := q.critical == 0 } ∧
        x.endTasting outcome = (if q.action = 0 then y.park else y.internalReset))

/-! ### The Train -/

/-- Keying and liveness of a pair (R440, R448 to R452, R460): the three messages of an exchange, the timers that start one, the end of an old
association, what a message in an association shows, silence, and the end of JOINING. The packet numbers and associations of the bootstrap
are the model's choice (log entry 108). -/
def Obligations.TrainAssociations : Prop :=
  ∀ (s u : State) (t i : Nat) (p : Peer), u = s.advance t → u.peer? i = some p →
    let long (since d : Nat) : Prop := since + d ≤ u.clock.now
    (∀ m, msgSrc m = i → u.trainMsgOk m 1 = true → i < u.deviceIndex → m.body.length = 4345 → u.helloKeysOk i m.body = true →
      let e := exec (.trainHello t m) s
      let known := p.hello = m.body ∧ p.reply ≠ []
      (known → Gives e (u.sendBoot m.port i 2 p.reply)) ∧
      (∀ v, ¬ known → u.drawNow 64 = (v, none) → Gives e v) ∧
      (∀ v r, ¬ known → u.drawNow 64 = (v, some r) →
        let ek := slice m.body 88 1568
        let reply := v.helloBody (r.take 32) ++ kemEncC 3 ek (r.drop 32)
        Gives e ((v.modPeer i fun x => { x with
          hello := m.body, reply := reply, k1 := kemEncK 3 ek (r.drop 32), identity := slice m.body 1656 2689 }).sendBoot m.port i 2 reply))) ∧
    (∀ m, msgSrc m = i → u.trainMsgOk m 2 = true → u.deviceIndex < i → m.body.length = 5913 → u.helloKeysOk i m.body = true →
      let e := exec (.trainHelloReply t m) s
      (p.hello = [] → Resumes e (· = u)) ∧
      (∀ v r, p.hello ≠ [] → u.drawNow 32 = (v, some r) →
        let ek := slice m.body 88 1568
        let c := kemEncC 3 ek r
        let k := kemDecK 3 v.linkSeed (m.body.drop 4345) ++ kemEncK 3 ek r
        let th := sha3 (p.hello ++ m.body)
        let w := v.sendBoot m.port i 3 (c ++ kmac k (th ++ c) 32 "ZMTRAIN-FIN")
        Resumes e (· = (w.modPeer i fun x => { x with identity := slice m.body 1656 2689 }).installPair i m.port (kmac k th 88 "ZMTRAIN-SA")))) ∧
    (∀ m, msgSrc m = i → u.trainMsgOk m 3 = true → i < u.deviceIndex → m.body.length = 1600 → p.reply ≠ [] →
      let c := m.body.take 1568
      let k := p.k1 ++ kemDecK 3 u.linkSeed c
      let th := sha3 (p.hello ++ p.reply)
      Resumes (exec (.trainHelloConfirm t m) s)
        (· = if m.body.drop 1568 = kmac k (th ++ c) 32 "ZMTRAIN-FIN" then u.installPair i m.port (kmac k th 88 "ZMTRAIN-SA") else u)) ∧
    (∀ port type body, ∃ salt, u.sendBoot port i type body =
      ({ u.ensureMark with train.bootPn := u.train.bootPn + 1 } : State).emit (.train port i
        { sci := u.macOf port * 65536 + (port + 1), ssci := u.deviceIndex + 1, assocNo := 0, pn := u.train.bootPn + 1, encrypted := false
          sak := kmac (match u.train.trainId with | some x => x | none => []) [] 32 "ZMTRAIN-BOOT", salt := salt }
        (trainHeader type 0 u.deviceIndex i body.length 0 u.clock.train 0) body)) ∧
    (∀ m, u.trainMsgOk m 1 = false ∨ u.deviceIndex ≤ msgSrc m → Gives (exec (.trainHello t m) s) u) ∧
    (∀ m, u.trainMsgOk m 2 = false ∨ msgSrc m ≤ u.deviceIndex → Resumes (exec (.trainHelloReply t m) s) (· = u)) ∧
    (∀ m, u.trainMsgOk m 3 = false ∨ u.deviceIndex ≤ msgSrc m → Resumes (exec (.trainHelloConfirm t m) s) (· = u)) ∧
    (let due := p.lastHello = none ∨ ∃ l, p.lastHello = some l ∧ long l 100000000
     let open' := p.keyed = false ∨ p.hello ≠ []
     (due → open' → Gives (exec (.trainHelloTimer t i) s) (u.startKeying i)) ∧
     (¬ due ∨ ¬ open' → Gives (exec (.trainHelloTimer t i) s) u)) ∧
    (let due := long p.keyedAt 86400000000000 ∨ 2 ^ 62 ≤ p.txPn ∨ 2 ^ 62 ≤ p.rxPn
     (p.keyed = true → due → Gives (exec (.trainRekeyTimer t i) s) (u.startKeying i)) ∧
     (p.keyed = false ∨ ¬ due → Gives (exec (.trainRekeyTimer t i) s) u)) ∧
    (∀ a since, p.oldAssoc = some (a, since) → Answers (exec (.oldSaExpiry t i) s) fun y =>
      y.peer? i = some (if since + 100000000 ≤ u.clock.now then { p with oldAssoc := none } else p) ∧ ∀ k, k ≠ i → y.peer? k = u.peer? k) ∧
    (∀ m, msgSrc m = i → u.assocOk p m = true →
      let v := u.modPeer i fun x => x.receive m u.clock.now
      let back := (v.modPeer i fun x => { x with down := false }).startDigest i
      (u.trainMsgOk m 0x10 = true → Resumes (exec (.trainLive t m) s) (· = if p.down then back else v)) ∧
      (u.trainMsgOk m 0x30 = true → Gives (exec (.trainPtp t m) s) (if p.down then back else v)) ∧
      (u.trainMsgOk m 0x11 = true → Gives (exec (.trainLeaveMsg t m) s) (v.peerDown i 4))) ∧
    (∀ m, m.assocNo = p.assoc →
      let q := p.receive m u.clock.now
      q.lastRx = u.clock.now ∧ (m.port, u.clock.now) ∈ q.heard ∧ q.pushes = p.pushes.filter (fun x => msgAck m < x.seq) ∧
      q.rxSeq = (if msgSeq m = p.rxSeq + 1 then msgSeq m else p.rxSeq)) ∧
    (p.keyed = true → long p.lastTx 100000000 → Gives (exec (.trainLiveTimer t i) s) (u.sendPeer i 0x10 0 []).1) ∧
    (p.keyed = false ∨ ¬ long p.lastTx 100000000 → Gives (exec (.trainLiveTimer t i) s) u) ∧
    (p.keyed = true → long p.lastRx 300000000 → Gives (exec (.peerSilenceTimeout t i) s) (u.peerDown i 1)) ∧
    (p.keyed = false ∨ ¬ long p.lastRx 300000000 → Gives (exec (.peerSilenceTimeout t i) s) u) ∧
    (let due := u.train.state = .joining ∧ p.keyed = false ∧ long u.train.joinSince 1500000000
     (due → Gives (exec (.peerKeyingTimeout t i) s) (u.peerDown i 3)) ∧ (¬ due → Gives (exec (.peerKeyingTimeout t i) s) u)) ∧
    let joining := u.train.state = .joining ∧ u.power.mode = .trainJoin
    let done := (u.train.peers.filter (·.caughtUp)).length
    let ends := (({ u with train.state := .member } : State).returnToService).raise 211 [done, u.train.peers.length - done]
    (joining → long u.train.joinSince 2000000000 → Resumes (exec (.joinTimeout t) s) (· = ends)) ∧
    (¬ joining ∨ ¬ long u.train.joinSince 2000000000 → Gives (exec (.joinTimeout t) s) u) ∧
    (joining → (∀ x ∈ u.train.peers, x.caughtUp = true) → Resumes (exec (.joinCatchUpDone t) s) (· = ends)) ∧
    (¬ joining ∨ (∃ x ∈ u.train.peers, x.caughtUp = false) → Gives (exec (.joinCatchUpDone t) s) u)

/-- Replication (R292, R447, R452 to R455, R563): a DIGEST is collected and answered with what it lacks; the next push in order is applied, ignored,
refused or held by its version and object; another is acknowledged again; unacknowledged ones are sent again under their numbers. -/
def Obligations.TrainReplication : Prop :=
  ∀ (s u : State) (t i : Nat) (p : Peer), u = s.advance t → u.peer? i = some p → p.down = false →
    (∀ m, msgSrc m = i → u.trainMsgOk m 0x21 = true → u.assocOk p m = true →
      let v := u.modPeer i fun x => x.receive m u.clock.now
      let e := exec (.trainDigest t m) s
      let old := m.assocNo = p.assoc ∧ msgSeq m ≤ p.rxSeq
      let es := digestOf m.body
      let got := v.modPeer i fun x =>
        let y := if x.digestRecv then { x with digestRecv := false, digestSent := false, digest := [] } else x
        { y with digest := y.digest ++ es }
      (old → Resumes e (· = v)) ∧
      (¬ old → 370 ≤ es.length → Resumes e (· = got)) ∧
      (¬ old → es.length < 370 → Resumes e (· = ((got.modPeer i fun x => { x with digestRecv := true }).startDigest i).catchUp i))) ∧
    (∀ m, msgSrc m = i → u.trainMsgOk m 0x20 = true → u.assocOk p m = true →
      let v := u.modPeer i fun x => x.receive m u.clock.now
      let e := exec (.trainPush t m) s
      let next := m.assocNo = p.assoc ∧ msgSeq m = p.rxSeq + 1
      let x := pushOfBody m.body (msgSeq m)
      let held : State := { v with train.heldPushes := v.train.heldPushes ++ [(i, x)] }
      (¬ next → Resumes e (· = v.ackPeer i)) ∧
      (next → (∃ h ∈ u.train.heldPushes, h.1 = i) → Resumes e (· = held)) ∧
      (next → (∀ h ∈ u.train.heldPushes, h.1 ≠ i) →
        (v.pushFate x = .hold → Resumes e (· = held)) ∧
        (v.pushFate x = .ignore → Resumes e (· = v.ackPeer i)) ∧
        (∀ cause, v.pushFate x = .refuse cause → Resumes e (· = (v.raise 213 [x.object, cause]).ackPeer i)) ∧
        (v.pushFate x = .apply → x.object < 2 ^ 14 → Resumes e (· = (v.applySlotPush x.object x).ackPeer i)) ∧
        (v.pushFate x = .apply → 2 ^ 30 ≤ x.object → Resumes e (· = (v.applyKeyPush (x.object - 2 ^ 30) x).ackPeer i)))) ∧
    (∀ (v : State) (x : Push), v.power.mode ≠ .hold →
      let above := versionAbove x.version (v.slotVersion x.object) = true
      (x.object < 2 ^ 14 → ¬ above → v.pushFate x = .ignore) ∧
      (∀ r, x.object < 2 ^ 14 → above → v.slotRecord? x.object = some r →
        (r.header.state = .corked → v.pushFate x = .refuse 2) ∧
        (r.header.state ≠ .corked → bit r.header.masters 3 = false → v.pushFate x = .refuse 1) ∧
        (r.header.state ≠ .corked → bit r.header.masters 3 = true → x.destroy = true →
          v.pushFate x = if v.placeFree then .apply else .hold) ∧
        (r.header.state ≠ .corked → bit r.header.masters 3 = true → x.destroy = false → sameAttributes r.header (headerOf x.header) = false →
          v.pushFate x = .refuse 3)) ∧
      (x.object < 2 ^ 14 → above → v.slotRecord? x.object = none → x.destroy = true → v.pushFate x = .apply) ∧
      (∀ c, c < 4096 → x.object = 2 ^ 30 + c →
        (v.carriage? c = none → v.pushFate x = .refuse 4) ∧
        (∀ k, v.carriage? c = some k → versionAbove x.version k.keyVersion = false → v.pushFate x = .ignore) ∧
        (∀ k, v.carriage? c = some k → versionAbove x.version k.keyVersion = true → v.pushFate x = if v.placeFree then .apply else .hold))) ∧
    (p.keyed = true → u.peerPort p ≠ none →
      let send (x : State) (y : Push) : State :=
        x.ensureMark.postPair i (trainHeader 0x20 1 u.deviceIndex i (pushBody y).length y.seq u.clock.train (u.ackSeq p)) (pushBody y)
      Gives (exec (.pushResend t i) s) (p.pushes.foldl send u)) ∧
    (p.keyed = false ∨ u.peerPort p = none → Gives (exec (.pushResend t i) s) u) ∧
    (∀ (v : State) (q : Peer) (port type flags : Nat) (body : Bytes), v.peer? i = some q → v.peerPort q = some port →
      let hi := b2n (i < v.deviceIndex)
      v.sendPeer i type flags body =
        (((v.ensureMark).modPeer i fun x => { x with txSeq := q.txSeq + 1, txPn := x.txPn + 1, lastTx := v.clock.now }).emit (.train port i
          { sci := v.macOf port * 65536 + (port + 1), ssci := v.deviceIndex + 1, assocNo := q.assoc % 4, pn := q.txPn + 1, encrypted := true
            sak := slice q.sk (32 * hi) 32, salt := slice q.sk (64 + 12 * hi) 12 }
          (trainHeader type flags v.deviceIndex i body.length (q.txSeq + 1) v.clock.train (v.ackSeq q)) body), q.txSeq + 1))

/-! ### Maldin -/

/-- Maldin frames (R464 to R477): the drop steps with their counters, the refusals, what each command's reply will say, and the reply as it leaves. -/
def Obligations.MaldinFrames : Prop :=
  ∀ (s u : State) (t : Nat) (f : MaldinFrame), u = s.advance t → u.linkIsUp f.port = true →
    let cmd := frameCmd f
    let row : Instr := match cmd with
      | 1 => .maldinEcdsaSign t f | 2 => .maldinEcdsaVerify t f | 3 => .maldinEcdh t f | 4 => .maldinDlmsProtect t f
      | 5 => .maldinDlmsUnprotect t f | 6 => .maldinKeyDerive t f | _ => .maldinBadCommand t f
    let e := exec row s
    let passes := u.frameAddressed f = true ∧ u.frameDrop f = none
    let takes (w : State) (out : MaldinOut) (engine : Bool) : Prop := Answers e fun y => ∃ x : MaldinJob,
      y.express.frames = w.express.frames ++ [x] ∧ x.id = w.express.nextFrame ∧ y.express.nextFrame = w.express.nextFrame + 1 ∧
      x.frame = f ∧ x.tRx = w.clock.train ∧ x.nRx = w.clock.now ∧ x.status = out.status ∧ x.data = out.data ∧ x.counterRefusal = out.counter ∧
      x.engine.isSome = engine ∧ w.clock.now < x.readyAt ∧ y.ports = w.ports ∧ y.fabric = w.fabric ∧ y.cellar = w.cellar ∧ y.sent = w.sent
    let lenOk := dataLenOk cmd (frameSlot f) (frameLen f) = true
    let d := frameData f
    (u.frameAddressed f = false → Gives e (u.countPort f.port 23 1)) ∧
    (∀ n, u.frameAddressed f = true → u.frameDrop f = some n → Gives e (u.countExpress f.port n)) ∧
    (be f.payload 6 2 ≠ 512 → u.frameDrop f = some 2) ∧
    (be f.payload 6 2 = 512 → f.udpLen = 520 → f.payload.length = 512 →
      let magic := be f.payload 0 2 = 0x4D44 ∧ byteAt f.payload 2 = 2
      let sound := be f.payload 508 4 = (crc32c (f.payload.take 508)).toNat ∧ f.checksumOk = true
      (¬ magic → u.frameDrop f = some 3) ∧ (magic → ¬ sound → u.frameDrop f = some 4) ∧
      (magic → sound → u.servesExpress = false → u.frameDrop f = some 5)) ∧
    (passes → cmd = 0 ∨ 6 < cmd → takes u { status := .unknownOpcode } false ∧
      Answers (exec (.maldinBadCommand t f) s) fun y => ∃ x, y.express.frames = u.express.frames ++ [x] ∧ x.frame = f ∧
        x.status = .unknownOpcode ∧ x.data = [] ∧ x.engine = none) ∧
    (passes → 1 ≤ cmd → cmd ≤ 6 → ¬ lenOk → takes u { status := .lengthMismatch } false) ∧
    (∀ v st, passes → 1 ≤ cmd → cmd ≤ 6 → lenOk → u.maldinKeys f = (v, .error st) → takes v { status := st } false) ∧
    (∀ v key ak, passes → 1 ≤ cmd → cmd ≤ 6 → lenOk → u.maldinKeys f = (v, .ok (key, ak)) →
      let drawn := (v.serveDraw false 1).1
      let signed := replyOf (ecdsaSignResult v (ecJob .ecdsaSign 0x010001 key d))
      let agreed := replyOf (ecdhDeriveResult v (ecJob .ecdhDerive 0 key d))
      (v.expressEngines (framePool f) = [] → takes v { status := .engineUnavailable } false) ∧
      (v.expressEngines (framePool f) ≠ [] →
        (v.drawFate false = .served → (cmd = 1 → takes drawn signed true) ∧ (cmd = 3 → takes drawn agreed true)) ∧
        (v.drawFate false = .waits → cmd = 1 ∨ cmd = 3 → takes v { status := .entropyNotReady } true) ∧
        (v.drawFate false = .failed → cmd = 1 ∨ cmd = 3 → takes v { status := .entropyFailed } true) ∧
        (cmd = 2 → takes v (replyOf (ecdsaVerifyResult v (ecJob .ecdsaVerify 0x010000 key d))) true) ∧
        (∀ st, cmd = 4 → dlmsCheck true 4 0 (maldinRecord d) = some st → takes v { status := st } true) ∧
        (cmd = 4 → dlmsCheck true 4 0 (maldinRecord d) = none →
          takes v { status := .success, data := dlmsProtect (maldinDlms key ak d) (maldinRecord d) } true) ∧
        (∀ st, cmd = 5 → dlmsCheck false 4 0 (maldinRecord d) = some st → takes v { status := st } true) ∧
        (∀ out, cmd = 5 → dlmsCheck false 4 0 (maldinRecord d) = none →
          dlmsUnprotect (maldinDlms key ak d) (maldinRecord d) = .ok out → takes v { status := .success, data := out } true) ∧
        (∀ st, cmd = 5 → dlmsCheck false 4 0 (maldinRecord d) = none →
          dlmsUnprotect (maldinDlms key ak d) (maldinRecord d) = .error st →
          takes v { status := st, counter := !dlmsCounterOk (maldinRecord d) } true) ∧
        (cmd = 6 → takes v (maldinDerive key d) true))) ∧
    (∀ (w : State) (n : Nat) (j : MaldinJob), w = s.advance t → w.express.frames.find? (·.id == n) = some j →
      let p := j.frame.port
      let latency := w.clock.now - j.nRx
      let due := j.abandoned = false ∧ j.readyAt ≤ w.clock.now ∧ w.linkIsUp p = true ∧ ∀ x ∈ w.sourceFrames j.frame, j.id ≤ x.id
      (¬ due → Gives (exec (.maldinReplySend t n) s) w) ∧
      (due → Resumes (exec (.maldinReplySend t n) s) fun y =>
        y.sent = w.sent ++ [.udp p j.frame.dstAddr 6210 j.frame.srcAddr j.frame.srcPort
            (udpChecksum j.frame.dstAddr j.frame.srcAddr 6210 j.frame.srcPort (maldinReply j)) j.frame.vlan j.frame.pcp j.frame.dscp (maldinReply j)] ∧
        y.express.frames = w.express.frames.filter (fun x => x.id != n) ∧
        (y.expressPort p).maxLatency = min (max (w.expressPort p).maxLatency latency) (2 ^ 32 - 1) ∧
        (y.expressPort p).counters =
          (let c := (w.expressPort p).counters.modify 1 fun n => satAdd 64 n 1
           if 35000 < latency then c.modify 9 fun n => satAdd 64 n 1 else c))) ∧
    ∀ j : MaldinJob, j.frame.payload.length = 512 → j.data.length ≤ 476 →
      let r := maldinReply j
      r.length = 512 ∧ r.take 3 = j.frame.payload.take 3 ∧ byteAt r 3 = frameCmd j.frame % 128 + 128 ∧ slice r 0x0C 4 = slice j.frame.payload 0x0C 4 ∧
      slice r 0x20 j.data.length = j.data ∧ be r 508 4 = (crc32c (r.take 508)).toNat

/-- M_STATUS of a reply (R473): the table from STATUS; ECDSA_SIGN and ECDH answer RNG_FAIL when the DRBG cannot supply their draw; the other commands
draw nothing, leave the DRBG as it is and run whatever state it is in. -/
def Obligations.MaldinStatusCodes : Prop :=
  (∀ b, mStatus .success b = 0 ∧ mStatus .lengthMismatch b = 1 ∧ mStatus .unknownOpcode b = 2 ∧ mStatus .keyNotFound b = 3 ∧
    (∀ st ∈ [Status.keyCorked, .keyUseDenied, .keyLifecycleDenied, .unsupportedParam], mStatus st b = 4) ∧ mStatus .signatureInvalid b = 5 ∧
    (∀ st ∈ [Status.malformedEncoding, .pointNotOnCurve, .flagsInvalid], mStatus st b = 6) ∧
    mStatus .outOfRange b = (if b then 7 else 6) ∧ (∀ st ∈ [Status.entropyNotReady, .entropyFailed], mStatus st b = 8) ∧
    ∀ st ∈ [Status.faultUnrecovered, .engineUnavailable], mStatus st b = 9) ∧
  (∀ j : MaldinJob, j.frame.payload.length = 512 → j.data.length ≤ 476 → byteAt (maldinReply j) 0x14 = mStatus j.status j.counterRefusal) ∧
  ∀ (s u v : State) (t : Nat) (f : MaldinFrame) (key ak : Option JobKey), u = s.advance t → u.linkIsUp f.port = true →
    u.frameAddressed f = true → u.frameDrop f = none → dataLenOk (frameCmd f) (frameSlot f) (frameLen f) = true →
    u.maldinKeys f = (v, .ok (key, ak)) → v.expressEngines (framePool f) ≠ [] →
    let adds (e : Host.Outcome State Fault Refusal) (P : State → MaldinJob → Prop) : Prop :=
      Answers e fun y => ∃ x, y.express.frames = v.express.frames ++ [x] ∧ x.frame = f ∧ P y x
    let noDraw (y : State) (x : MaldinJob) : Prop := y.rng = v.rng ∧ x.engine.isSome = true ∧ mStatus x.status x.counterRefusal ≠ 8 ∧
      (x.counterRefusal = true → frameCmd f = 5 ∧ dlmsCounterOk (maldinRecord (frameData f)) = false)
    let rngFail (_ : State) (x : MaldinJob) : Prop := mStatus x.status x.counterRefusal = 8
    (frameCmd f = 1 → v.drawFate false ≠ .served → adds (exec (.maldinEcdsaSign t f) s) rngFail) ∧
    (frameCmd f = 3 → v.drawFate false ≠ .served → adds (exec (.maldinEcdh t f) s) rngFail) ∧
    (frameCmd f = 2 → adds (exec (.maldinEcdsaVerify t f) s) noDraw) ∧
    (frameCmd f = 4 → adds (exec (.maldinDlmsProtect t f) s) noDraw) ∧
    (frameCmd f = 5 → adds (exec (.maldinDlmsUnprotect t f) s) noDraw) ∧
    (frameCmd f = 6 → adds (exec (.maldinKeyDerive t f) s) noDraw)

/-! ### Entries, jobs and their release -/

/-- A released job (R20, R65 to R70, R103): the module sends output and trailer, then the completion entry into the next slot of the ring, then the
NOTIFY SEND; the slot's reservation is used, and the job is gone. -/
def Obligations.JobRelease : Prop :=
  ∀ (s u : State) (t : Nat) (j : Job) (q : WorkQueue) (r : CompletionRing) (k : Connection), u = s.advance t → Reports u j q r k →
    u.releasable j = true → Resumes (exec (.jobRelease t j.id) s) (Reported u j q r)

/-- Entries that reach no engine and waits that end (R59, R60, R61, R64, R74, R202, R203, R268, R297, R317, R563): NOP succeeds, an unknown OPCODE and
a limit that has passed end the job with their status; each is reported at once. The mailbox command that waits 10 ms for a record or a place
answers QUOTA_EXCEEDED; a session object idle for 60 s is closed. -/
def Obligations.WaitsThatEnd : Prop :=
  (∀ (s u : State) (t : Nat) (j : Job) (q : WorkQueue) (r : CompletionRing) (k : Connection), u = s.advance t → Reports u j q r k →
    let ends (i : Instr) (st : Status) (trailer : Bool) : Prop := Settles (exec i s) (Reported u (j.ended st trailer) q r)
    let now := u.clock.now
    (j.phase = .unknown → ends (.unknownOpcodeEntry t j.id) .unknownOpcode false) ∧
    (j.op = some .nop → j.phase = .ready → u.dispatching = true → u.fenceOk j = true → u.holdOrderOk j = true →
      ends (.nop t j.id) .success true) ∧
    (j.waitsEngine = true → 50000000 ≤ j.noEngineNs → ends (.engineWaitTimeout t j.id) .engineUnavailable true) ∧
    (j.phase = .waitBook → j.waitSince + 10000000 ≤ now → ends (.bookPlaceTimeout t j.id) .bookFull false) ∧
    (j.parts.any (·.waits) = true → u.rng.state = .unseeded → 50000000 ≤ j.entropyNs → ends (.entropyWaitTimeout t j.id) .entropyNotReady false) ∧
    (j.phase = .waitChunk → j.waitSince + 10000000 ≤ now → ends (.chunkWaitTimeout t j.id) .outOfRange true) ∧
    (j.phase = .waitRecord → j.waitSince + 10000000 ≤ now →
      Resumes (exec (.recordWaitTimeout t (.job j.id)) s) (Reported u (j.ended .quotaExceeded false) q r))) ∧
  (∀ (s u : State) (t : Nat), u = s.advance t →
    (∀ c, u.mailbox.running = some c → u.power.mode ≠ .hold → c.since + 10000000 ≤ u.clock.now →
      (c.wait = .record →
        let w : State := { u with
          mailbox.running := none, cellar.recordQueue := u.cellar.recordQueue.filter fun x => x != RecordWaiter.mailbox }
        Resumes (exec (.recordWaitTimeout t .mailbox) s) (· = w.mbAnswer c { status := .quotaExceeded })) ∧
      (c.wait = .place →
        Resumes (exec (.keyChangePlaceTimeout t) s) (· = ({ u with mailbox.running := none } : State).mbSend c { status := .quotaExceeded }))) ∧
    (∀ n x, (u.fabric.sessions.find? fun y => y.index == n) = some x → x.lastUse + 60000000000 ≤ u.clock.now →
      Settles (exec (.sessionIdleTimeout t n) s) (· = u.closeSession n)))

/-- RDMA writes into rings, doorbells and credit words (R46, R50, R52, R67, R397, R398, R399): bytes go to the ring of the queue that the rkey
names; a doorbell on the queue's connection sets its run; a credit word frees completion slots; a write outside a region is refused with NAK
Remote Access Error. PREFETCH (R53, R54) reads ahead at most 8 posted entries of a queue and changes nothing but the copies, unless it consumes
them. -/
def Obligations.QueueInput : Prop :=
  (∀ (s u : State) (t conn : Nat) (data : Bytes), u = s.advance t → u.rdmaConn conn = true → data ≠ [] → data.length ≤ u.mtuOf conn →
    (∀ rkey addr n off, regionOf rkey = some (.ring n) → u.regionOffset conn (.ring n) addr data.length = some off →
      Gives (exec (.ringEntryWrite t conn rkey addr data) s)
        ((u.modQueue n fun q => { q with ring := q.ring.writeBytes off data }).emit (.ack conn))) ∧
    (∀ rkey addr, (∀ r, regionOf rkey = some r → u.regionOffset conn r addr data.length = none) →
      Gives (exec (.ringEntryWrite t conn rkey addr data) s) (u.refuseRequest conn false)) ∧
    (∀ n, conn < 65536 → n < 65536 → data.length = 8 →
      (∀ q, u.queue? n = some q → q.conn = conn → q.state ≠ .draining → bit (le data 2 2) 0 = false →
        Gives (exec (.doorbell t conn (8 * n) data) s)
          (((u.modQueue n fun q => q.ring' (le data 0 2)).runQueue n).emit (.ack conn))) ∧
      (∀ q, u.queue? n = some q → q.conn ≠ conn ∨ q.state = .draining →
        Gives (exec (.doorbell t conn (8 * n) data) s) ((u.dropDoorbell conn n).emit (.ack conn))) ∧
      (∀ r, u.cring? n = some r → r.conn = conn →
        let moved := (le data 0 2 + 65536 - r.crCons) % 65536
        let unread := (r.count + 65536 - r.crCons) % 65536
        (moved ≤ unread → Gives (exec (.creditWord t conn (0x80000 + 8 * n) data) s)
          ((u.modCring n fun r => { r with crCons := le data 0 2 }).settle.emit (.ack conn))) ∧
        (unread < moved → Gives (exec (.creditWord t conn (0x80000 + 8 * n) data) s)
          ((u.modConn conn fun k => { k with creditsIgnored := satAdd 64 k.creditsIgnored 1 }).emit (.ack conn))))) ∧
    (∀ (prod : Nat) (w : WorkQueue), w.ring' prod =
      let d := (prod + 65536 - w.cons) % 65536
      let old := match w.target with | some t => (t + 65536 - w.cons) % 65536 | none => 0
      if 1 ≤ d ∧ d ≤ w.size then
        { w with
          target := if old < d then some prod else w.target
          state := if w.state = .idle then .active else w.state }
      else w)) ∧
  (∀ (s u : State) (t n count : Nat) (q : WorkQueue), u = s.advance t → u.queue? n = some q → q.state ≠ .broken → q.state ≠ .draining →
    ∃ q' stop, q.readAhead (min count 8) (32768 - u.prefetched) q.cons = (q', stop) ∧
      q' = { q with cache := q'.cache } ∧ q.cache <+: q'.cache ∧
      (∀ e ∈ q'.cache, e ∈ q.cache ∨ e.2 = q.ring.readBytes (e.1 % q.size * 64) 64) ∧
      q'.cache.length ≤ max q.cache.length 8 ∧
      Gives (exec (.prefetch t n count false) s) (u.modQueue n fun _ => q') ∧
      Gives (exec (.prefetch t n count true) s) (((u.modQueue n fun _ => q').modQueue n fun q => q.ring' stop).runQueue n))

/-- From the input to the staged result (R22, R31, R64, R75, R84, R96, R103, R111, R183, R188, R189): each event moves the job on to what it needs
next; a dispatched part has its engine and its instant, a committed part goes to staging while staging has room, a bank is free once wiped. -/
def Obligations.JobPipeline : Prop :=
  ∀ (s u : State) (t : Nat), u = s.advance t →
    (∀ j, u.job? j.id = some j → j.phase = .fetch → j.inputMissing = 0 →
      Settles (exec (.inputFetchDone t j.id) s) (· = if j.array then u.splitRecords j else u.afterInput j.id)) ∧
    (∀ j, u.job? j.id = some j → j.phase = .expand → u.expanding j.id = true →
      ∃ w, w = (u.freeExpansion j.id).cacheExpanded j ∧ w.keyCached j = true ∧
        (∀ e ∈ w.engines.tiles, Bank.expanding j.id ∉ e.banks) ∧
        Settles (exec (.keyExpansionDone t j.id) s) (· =
          (w.fabric.jobs.filter fun y => y.phase == .expand && y.cacheKey == j.cacheKey).foldl (fun s y => s.makeReady y.id) w)) ∧
    (∀ slot, slot ∈ u.cellar.journalWrites →
      let w := ({ u with cellar.journalWrites := u.cellar.journalWrites.filter (· != slot) } : State).modLedger slot Ledger.reserve
      let waits (j : Job) : Bool := j.phase == .waitJournal && (match j.key with | some k => k.index == slot | none => false)
      Settles (exec (.journalWriteDurable t slot) s) (· = (w.fabric.jobs.filter waits).foldl (fun s j => s.assignLeaf j.id) w)) ∧
    (∀ slot level index l ls, u.slotLevels slot = l :: ls → level ≤ ls.length →
      index < 2 ^ (((l :: ls).take level).map (·.height)).sum → u.poolUp (if groupShake l.group then .keccak else .sha2) true = true →
      u.treeWanted slot level index = true ∨ u.treeAhead slot level index (l :: ls) (if groupShake l.group then .keccak else .sha2) = true →
      let w := u.cacheTree slot level index
      Gives (exec (.treeBuildDone t slot level index) s)
        ((w.fabric.jobs.filter fun j => j.phase == .waitTree && w.treesReady j).foldl (fun s j => s.makeReady j.id) w)) ∧
    (∀ j op q part unit, u.kats.job? j.id = some j → j.op = some op → j.parts[part]? = some q → u.kats.dispatchable j part = true →
      u.kats.shareOk j q.pool = true → u.kats.turnOk j q.pool = true → q.pool ≠ .noEngine → q.pool = .cooper ∨ u.kats.unready j = false →
      (u.kats.runUnit q.pool j).or ((u.kats.unitFor q.pool (opTeam op)).or (u.kats.pieceUnit q.pool j)) = some unit →
      let seeded := ((u.kats.engines.tiles[unit.headD 0]?).bind (·.seeds.head?)).isSome
      let seed := if j.masked q.pool && !seeded then u.kats.drawFate false else .served
      let drawn := j.draws op part q.pool && q.draw.isNone
      let own := if drawn then u.kats.drawFate (opFresh op j.aux) else .served
      let tested := !(opFresh op j.aux && drawn) || u.kats.freshKat
      let (cls, kp) := j.keyKind
      (seed = .failed ∨ own = .failed → Settles (exec (.jobDispatch t j.id part) s) (· = u.kats.failAny j.id .entropyFailed false)) ∧
      (seed ≠ .failed → own ≠ .failed → seed = .waits ∨ own = .waits → Settles (exec (.jobDispatch t j.id part) s)
        (· = ({ u.kats with rng.waiting := u.kats.rng.waiting ++ [(j.id, part)] } : State).modJob j.id fun y =>
          { y with parts := y.parts.modify part fun z => { z with waits := true } })) ∧
      (seed = .served → own = .served → tested = false →
        Settles (exec (.jobDispatch t j.id part) s) (· = (u.kats.fatalEntropy 3).failAny j.id .entropyFailed false)) ∧
      (seed = .served → own = .served → tested = true →
        Settles (exec (.jobDispatch t j.id part) s) fun x => x = u.kats.start j op part q unit ∧
          ∃ y, x.job? j.id = some y ∧ y.phase = .running ∧ y.parts[part]? = some {
            pool := q.pool, engine := some (unit.headD 0), tDispatch := u.clock.train, nDispatch := u.clock.now,
            slot := if q.pool = .cooper then slotBits op cls kp else 0,
            region := if q.pool = .cooper ∧ largeMode cls kp = true then j.load none else [] })) ∧
    (∀ j part q, u.job? j.id = some j → j.parts[part]? = some q → q.computed = true → q.committed = false →
      let a := if j.op = some .mcelieceDecaps ∧ j.hit = false then u.cacheExpanded j else u
      let w := a.modJob j.id fun y => { y with parts := y.parts.modify part fun z => { z with committed := true, shares := [] } }
      Gives (exec (.jobCommit t j.id part) s) (if j.bigResult || w.stagingUsed < 16384 then w.stagePart j.id part q.pool else w)) ∧
    (∀ j part q, u.job? j.id = some j → j.parts[part]? = some q → q.committed = true → q.staged = false → u.stagingUsed < 16384 →
      Gives (exec (.stagingSpaceFreed t j.id part) s) (u.stagePart j.id part q.pool)) ∧
    let wipe (bank : Nat) (e : Engine) : Engine :=
      if e.banks[bank]? = some .wiping then
        { e with banks := e.banks.set bank .free, contents := e.contents.filter fun x => x.1 != bank }
      else e
    (∀ tile bank, Gives (exec (.bankWipeDone t tile bank) s) (u.modEngine .press tile (wipe bank))) ∧
    (∀ engine, Gives (exec (.operandWipeDone t engine) s) (u.modEngine .cooper engine (wipe 0)))

/-! ### The control mailbox -/

/-- A command in sequence is answered (R348, R349, R357): a response of 128 bytes and its bulk goes to the sender with CODE, STATUS and
CMD_SEQ of the command, T_APPLIED where it had an effect, and the session's MAC. -/
def Obligations.MailboxResponse : Prop :=
  ∀ (w : State) (c : MbCommand) (o : MbOut) (x : Session) (k : Connection),
    w.mbSession? c.session = some x → o.key = none → c.want = none → o.ends = none → mbKeyChange c.code = false →
    w.conn? c.conn = some k → k.ready = true → k.notify = none →
    let applied := if o.effect && o.status == .success then w.clock.train else 0
    let head := toLe 2 c.code ++ toLe 2 (statusCode o.status) ++ toLe 4 c.seq ++ padTo 88 o.result ++ toLe 8 applied ++
      toLe 4 o.bulk.length ++ zeros 4
    (head.length = 112) ∧
    w.mbAnswer c o = { w with sent := w.sent ++ [.send c.conn (head ++ kmac x.key (head ++ o.bulk) 16 "ZMRSP" ++ o.bulk)] }

/-- Numbers of commands (R350): the session that HELLO_PROVE opens expects CMD_SEQ 1; a command with the number expected makes it expect one more; any
other has no effect, the number expected stays, and the response carries MB_SEQUENCE with that number under the session's MAC. -/
def Obligations.CommandNumbers : Prop :=
  ∀ (s u : State) (t conn : Nat) (msg : Bytes), u = s.advance t → Quiet u → u.mbAnswers = true → u.mailConn conn = true → u.rdmaConn conn = false →
    128 ≤ msg.length → MbCommand.formOk { conn := conn, msg := msg } = true → u.power.mode ≠ .hold → u.lc ≠ some .scrapped →
    (∀ (h : Hello), u.sessionOn conn = none → le msg 0 2 = 1 → u.mbModeOk 1 = true → (u.mailbox.hellos.find? fun y => y.conn == conn) = some h →
      u.mailbox.sessions.length < 4 →
      let b := msg.drop 128
      let keys := slice b 1088 1952 ++ slice b 3040 97
      let th := sha3 (h.masterNonce ++ h.moduleNonce ++ u.fuses.uniqueId ++ kemEk 2 h.seed ++ b.take 1088)
      b.length = 6542 → dsaHolds 2 (slice b 1088 1952) th (slice b 3137 3309) = true → ecdsaHolds (slice b 3040 97) th (slice b 6446 96) = true →
      sha384 keys = u.controlHash → Runs (exec (.helloProve t conn msg) s) fun x => ∃ y, x.sessionOn conn = some y ∧ y.nextSeq = 1) ∧
    (∀ (x : Session) (i : Instr) (code : Nat) (extra : List Nat), u.sessionOn conn = some x → u.mbSession? x.id = some x → x.id ≠ 0 →
      2 ≤ code → le msg 0 2 = code → slice msg 0x70 16 = mbMac x.key msg "ZMCMD" → (u.power.mode = .recovery → code / 256 = 0) →
      exec i s = .next (u.mbRow code conn msg extra).resume →
      (le msg 4 4 = x.nextSeq → ∃ w c, u.mbArrival conn msg extra = (w, c) ∧ w = u.taken x ∧ c.want = none) ∧
      (∀ k, u.conn? conn = some k → k.notify = none → le msg 4 4 ≠ x.nextSeq →
        let head := toLe 2 code ++ toLe 2 (statusCode .mbSequence) ++ toLe 4 x.nextSeq ++ zeros 104
        Runs (exec i s) (· = { u with sent := u.sent ++ [.send conn (head ++ kmac x.key head 16 "ZMRSP")] })))

/-- The SEND of a session that is refused (R349, R353, R360): a wrong MAC or form closes the session with cause 2 and answers nothing; a CODE of no
table is answered with MB_UNKNOWN_COMMAND. -/
def Obligations.MailboxArrival : Prop :=
  ∀ (u : State) (conn : Nat) (msg : Bytes) (extra : List Nat) (x : Session),
    u.sessionOn conn = some x → u.mbSession? x.id = some x → x.id ≠ 0 → 128 ≤ msg.length → u.lc ≠ some .scrapped →
    let c := mbCommand conn msg extra x
    let arrival := u.mbArrival conn msg extra
    let ok := c.formOk = true ∧ slice msg 0x70 16 = mbMac x.key msg "ZMCMD"
    2 ≤ le msg 0 2 →
      (¬ ok → arrival = (u, c) ∧ u.mbAdmit c = (u.endSession x.id 2, false)) ∧
      (ok → mbDefined (le msg 0 2) = false → u.mbAdmit c = (u.mbSend c { status := .mbUnknownCommand }, false))

/-- The commands that only read (R38, R345, R361 to R373, R408, R477, R527): each is answered with the fields of its table at their offsets,
and nothing but the session's CMD_SEQ changes. -/
def Obligations.MailboxReads : Prop :=
  ∀ (s u v : State) (t conn : Nat) (msg : Bytes) (x : Session), u = s.advance t → v = u.taken x →
    let c := mbCommand conn msg [] x
    let p (off n : Nat) : Nat := le msg off n
    let word (i : Instr) (b : Bytes) : Prop := Replies (exec i s) c v { result := b }
    let bulk (i : Instr) (b : Bytes) : Prop := Replies (exec i s) c v { bulk := b }
    let fields (i : Instr) (fs : List (Nat × Bytes)) : Prop := Replies (exec i s) c v { result := mbFields fs }
    (Comes u 0x0002 conn msg x → word (.vintageGet t conn msg) (toLe 8 v.engines.press.word ++ toLe 8 v.engines.cooper.word ++ toLe 8 v.engines.dray.word ++ toLe 8 v.engines.fw.word)) ∧
    (Comes u 0x0003 conn msg x → fields (.moduleInfo t conn msg)
      [(0x08, v.fuses.uniqueId), (0x18, v.oemId), (0x28, toLe 1 v.fuses.lcA), (0x29, toLe 1 (modeCode v.power.mode)),
       (0x2A, toLe 1 v.mailbox.sessions.length), (0x2B, toLe 1 (b2n v.holdover)), (0x2C, toLe 2 v.train.lastIndex),
       (0x30, toLe 8 v.clock.train), (0x38, toLe 4 v.fuses.fwSvn)]) ∧
    (Comes u 0x0010 conn msg x → word (.rngInfo t conn msg) (toLe 8 v.rngStatus)) ∧
    (Comes u 0x0104 conn msg x → ∀ q, v.queue? (p 8 2) = some q → fields (.wqInfo t conn msg)
      [(0x08, toLe 1 (queueStateCode q.state)), (0x0A, toLe 2 q.cons), (0x0C, toLe 4 q.submitSeq), (0x10, toLe 8 q.droppedWrites),
       (0x18, toLe 8 q.invIgnored)]) ∧
    (Comes u 0x0105 conn msg x → ∀ k, v.conn? (p 8 2) = some k → fields (.connInfo t conn msg)
      [(0x08, toLe 1 (b2n k.mailbox)), (0x09, toLe 1 (b2n k.ready)), (0x0A, toLe 1 k.port), (0x10, toLe 8 k.windowDropped),
       (0x18, toLe 8 k.creditsIgnored), (0x20, toLe 8 k.consIgnored)]) ∧
    (Comes u 0x0207 conn msg x → p 8 2 < 4096 → word (.carriageInfo t conn msg) (v.statusRecord (p 8 2))) ∧
    (Comes u 0x0300 conn msg x →
      let count (y : SlotState) : Nat := (v.cellar.dir.filter fun d => v.slotState d.slot == y).length
      let next := match v.book.tail with | e :: _ => entrySeq e | [] => v.book.seq + 1
      fields (.cellarStatus t conn msg)
        [(0x08, toLe 2 (16384 - (count .prepared + count .live + count .corked))), (0x0A, toLe 2 (count .prepared)),
         (0x0C, toLe 2 (count .live)), (0x0E, toLe 2 (count .corked)), (0x10, toLe 4 v.freeGranules),
         (0x14, toLe 2 (recordCount - v.cellar.records.length)), (0x18, toLe 8 v.book.seq), (0x20, toLe 8 next)]) ∧
    (Comes u 0x0304 conn msg x → ∀ r, v.slotRecord? (p 8 2 % 16384) = some r → bulk (.slotInfo t conn msg) (r.header.bytes)) ∧
    (Comes u 0x0400 conn msg x → fields (.trainStatus t conn msg)
      [(0x08, toLe 1 (trainStateCode v.train.state)), (0x0A, toLe 2 v.train.lastIndex),
       (0x0C, toLe 2 (v.train.peers.filter fun p => p.keyed && !p.down).length), (0x10, toLe 8 v.train.serial), (0x18, v.rosterDigest)]) ∧
    (Comes u 0x0404 conn msg x → bulk (.rosterGet t conn msg) (v.train.roster.getD [])) ∧
    (∀ mw mc, Comes u 0x0504 conn msg x → 
      let fs := [(0x08, toLe 4 v.power.vin), (0x0C, toLe 4 mw), (0x10, toLe 1 (modeCode v.power.mode)), (0x11, toLe 1 v.derateCause),
        (0x12, toLe 1 v.dips), (0x14, toLe 4 mc)]
      Replies (exec (.powerStatus t conn msg mw mc) s) (mbCommand conn msg [mw, mc] x) v { result := mbFields fs }) ∧
    (Comes u 0x0704 conn msg x → fields (.fwStatus t conn msg)
      [(0x08, toLe 1 v.firmware.running), (0x0C, toLe 4 v.firmware.stagedLen), (0x10, toLe 4 v.firmware.serialA),
       (0x14, toLe 4 v.firmware.serialB), (0x18, toLe 4 v.firmware.svn), (0x1C, toLe 4 v.fusedSvn)]) ∧
    (Comes u 0x0902 conn msg x → bulk (.expressStatus t conn msg) (v.expressRecord 0 v.express.p0 ++ v.expressRecord 4 v.express.p4)) ∧
    (Comes u 0x0A02 conn msg x → ∀ y, (v.refill (p 8 1)).port? (p 8 1) = some y →
      Replies (exec (.portStatus t conn msg) s) c (v.refill (p 8 1)) { bulk := (v.refill (p 8 1)).portRecord (p 8 1) y }) ∧
    (Comes u 0x0B02 conn msg x → bulk (.tastingResults t conn msg) (v.tastingBlock ++ (((v.tasting.records.drop (p 8 4)).take 8192).map FaultRec.bytes).flatten))

/-- Reads of Book entries, certificates, release objects, quotes and entropy samples (R195, R303, R306, R326, R361, R364, R482). -/
def Obligations.MailboxEvidence : Prop :=
  ∀ (s u v : State) (t conn : Nat) (msg : Bytes) (x : Session), u = s.advance t → v = u.taken x →
    let c := mbCommand conn msg [] x
    let p (off n : Nat) : Nat := le msg off n
    let oldest := match v.book.ring.getLast? with | some e => entrySeq e | none => v.book.seq + 1
    (Comes u 0x0308 conn msg x → 1 ≤ p 0x10 1 → p 0x10 1 ≤ 64 →
      (v.book.seq < p 8 8 ∨ v.book.ring = [] →
        Replies (exec (.bookRead t conn msg) s) c v { result := mbFields [(0x08, toLe 8 (p 8 8))] }) ∧
      (p 8 8 ≤ v.book.seq → v.book.ring ≠ [] →
        let first := max (p 8 8) oldest
        let es := (v.book.ring.filter fun e => first ≤ entrySeq e && entrySeq e < first + p 0x10 1).reverse
        Replies (exec (.bookRead t conn msg) s) c v
          { result := mbFields [(0x08, toLe 8 first), (0x10, toLe 1 es.length)], bulk := es.flatten })) ∧
    (Comes u 0x030C conn msg x → p 8 1 = 1 ∨ p 8 1 = 2 →
      let cert := if v.lc = some .moduleTest then v.selfCert else if p 8 1 = 1 then v.cellar.certMldsa else v.cellar.certEcdsa
      (cert = [] → Refuses (exec (.identityCertGet t conn msg) s) c v .keyNotFound) ∧
      (cert ≠ [] → Replies (exec (.identityCertGet t conn msg) s) c v { bulk := cert })) ∧
    (Comes u 0x030A conn msg x → ∀ r l b, v.slotRecord? (p 8 2 % 16384) = some r → r.header.controlMaster = true →
      v.ledger? (p 8 2 % 16384) = some l → (l.releases.find? fun b => le b 8 8 == p 0x10 8) = some b → v.quotes = true →
      Replies (exec (.leafReleaseGet t conn msg) s) c v { bulk := b ++ v.identitySign b (zeros 32) [] }) ∧
    (Comes u 0x0005 conn msg x → v.power.mode ≠ .standby → 8 ≤ (msg.drop 128).length → (msg.drop 128).length ≤ 64 → v.quotes = true →
      v.drawFate false = .served →
      let w := (v.serveDraw false 2).1
      let payload := w.quoteClaims (msg.drop 128)
      let rand := drawBytes (v.serveDraw false 2).2 64
      ((w.quoteRounds payload rand).isSome = true → Replies (exec (.quoteGet t conn msg) s) c w { bulk := w.quoteOver payload rand }) ∧
      (w.quoteRounds payload rand = none → Refuses (exec (.quoteGet t conn msg) s) c w .mbStateConflict)) ∧
    (∀ samples rep prop, Comes u 0x0521 conn msg x → v.power.mode = .entropyTest → p 8 1 ≤ 15 → p 9 1 ≤ 2 →
      let stopped := p 9 1 ≠ 2 ∧ ∀ y, v.rng.cells[p 8 1]? = some y → y.stopped = true
      let e := exec (.entropyTestRead t conn msg samples rep prop) s
      let c := mbCommand conn msg (rep :: prop :: samples.map (·.toNat)) x
      (stopped → Replies e c v
        { result := mbFields [(0x08, toLe 4 0xFFFFFFFF), (0x0C, toLe 4 0xFFFFFFFF)], bulk := zeros tapBytes }) ∧
      (¬ stopped → Replies e c v { result := mbFields [(0x08, toLe 4 rep), (0x0C, toLe 4 prop)], bulk := padTo tapBytes samples }))

/-- Sessions (R351, R352, R361): HELLO_CHALLENGE draws a key pair and a nonce and answers with them; HELLO_PROVE opens a session when both
signatures verify and their keys have the control-key hash, and raises source 242; SESSION_CLOSE ends the sender's or another session. -/
def Obligations.MailboxSessions : Prop :=
  ∀ (s u : State) (t conn : Nat) (msg : Bytes), u = s.advance t →
    (∀ (x : Session), Comes u 0x0004 conn msg x →
      let c := mbCommand conn msg [] x
      let v := u.taken x
      let n := le msg 8 2
      (n = 0xFFFF ∨ n = x.id → Replies (exec (.sessionClose t conn msg) s) c v { effect := true, ends := some x.id }) ∧
      (n ≠ 0xFFFF → n ≠ x.id → (v.mbSession? n).isSome = true → Replies (exec (.sessionClose t conn msg) s) c (v.endSession n 1) { effect := true }) ∧
      (n ≠ 0xFFFF → n ≠ x.id → v.mbSession? n = none → Refuses (exec (.sessionClose t conn msg) s) c v .keyNotFound)) ∧
    (Quiet u → u.mbAnswers = true → u.mailConn conn = true → u.rdmaConn conn = false → u.sessionOn conn = none →
      u.power.mode ≠ .hold → 128 ≤ msg.length → MbCommand.formOk { conn := conn, msg := msg } = true →
      let c : MbCommand := { conn := conn, msg := msg }
      (le msg 0 2 = 0 → u.mbModeOk 0 = true → u.drawFate false = .served →
        let w := (u.serveDraw false 1).1
        let b := drawBytes (u.serveDraw false 1).2 96
        let hello : Hello :=
          { conn := conn, masterNonce := slice msg 8 32, moduleNonce := b.drop 64, seed := b.take 64, since := w.clock.now }
        let w' := { w with mailbox.hellos := (w.mailbox.hellos.filter fun (y : Hello) => y.conn != conn) ++ [hello] }
        let fs := [(0x08, w.fuses.uniqueId), (0x18, toLe 2 3), (0x1A, toLe 1 w.fuses.lcA), (0x1B, toLe 1 (modeCode w.power.mode)),
          (0x1C, toLe 1 w.mailbox.sessions.length), (0x20, b.drop 64)]
        Replies (exec (.helloChallenge t conn msg) s) c w' { result := mbFields fs, bulk := kemEk 2 (b.take 64), effect := true }) ∧
      (∀ h, le msg 0 2 = 1 → u.mbModeOk 1 = true → (u.mailbox.hellos.find? fun y => y.conn == conn) = some h →
        let w := { u with mailbox.hellos := u.mailbox.hellos.filter fun (y : Hello) => y.conn != conn }
        let b := msg.drop 128
        let keys := slice b 1088 1952 ++ slice b 3040 97
        let th := sha3 (h.masterNonce ++ h.moduleNonce ++ u.fuses.uniqueId ++ kemEk 2 h.seed ++ b.take 1088)
        let good := dsaHolds 2 (slice b 1088 1952) th (slice b 3137 3309) = true ∧ ecdsaHolds (slice b 3040 97) th (slice b 6446 96) = true ∧
          sha384 keys = u.controlHash
        let e := exec (.helloProve t conn msg) s
        (b.length ≠ 6542 → Refuses e c w .lengthMismatch) ∧
        (b.length = 6542 → ¬ good → Refuses e c w .signatureInvalid) ∧
        (b.length = 6542 → good → 4 ≤ u.mailbox.sessions.length → Refuses e c w .quotaExceeded) ∧
        (b.length = 6542 → good → u.mailbox.sessions.length < 4 → u.lc ≠ some .scrapped →
          let id := w.freeSessionId
          let key := kmac (kemDecK 2 h.seed (b.take 1088)) th 32 "ZMMBOX3"
          let new : Session := { id := id, conn := conn, key := key, control := keys }
          let fs := [(0x08, toLe 2 id), (0x0A, toLe 2 (u.mailbox.sessions.length + 1))]
          Replies e c (({ w with mailbox.sessions := w.mailbox.sessions ++ [new] } : State).raise 242 [id])
            { result := mbFields fs, effect := true, key := some key })) ∧
      (mbDefined (le msg 0 2) = false → u.lc ≠ some .scrapped → u.power.mode ≠ .recovery → u.mbSession? 0 = none →
        Runs (exec (.mbUnknownCommand t conn msg) s) (· = u.mbSend c { status := .mbNoSession }))) ∧
    (Gives (exec (.helloKeypairExpiry t conn) s)
      { u with mailbox.hellos := u.mailbox.hellos.filter fun (h : Hello) => h.conn != conn || u.clock.now < h.since + 1000000000 })

/-- Queues, completion rings and event rings (R41, R42, R81, R362, R372, R417, R420, R424): creation under a free number on a ready data
connection, destruction, filter programs; a destroyed queue drains without the mailbox and then answers with its last CONS and SUBMIT_SEQ. -/
def Obligations.MailboxRings : Prop :=
  ∀ (s u v : State) (t conn : Nat) (msg : Bytes) (x : Session), u = s.advance t → v = u.taken x →
    let c := mbCommand conn msg [] x
    let p (off n : Nat) : Nat := le msg off n
    let log := p 0x0C 1
    let done (i : Instr) (w : State) : Prop := Replies (exec i s) c w { effect := true }
    (Comes u 0x0100 conn msg x → 6 ≤ log → log ≤ 16 → v.queue? (p 8 2) = none → v.ringConn (p 0x0A 2) = true →
      ∀ r, v.cring? (p 0x0E 2) = some r → r.conn = p 0x0A 2 →
      let q : WorkQueue := { index := p 8 2, conn := p 0x0A 2, cr := p 0x0E 2, size := 2 ^ log }
      let fs := [(0x08, toLe 4 (0x40000000 + p 8 2)), (0x10, toLe 8 (0x10000000000 + p 8 2 * 0x400000))]
      Replies (exec (.wqCreate t conn msg) s) c { v with fabric.queues := v.fabric.queues ++ [q] } { result := mbFields fs, effect := true }) ∧
    (Comes u 0x0102 conn msg x → 6 ≤ log → log ≤ 16 → v.cring? (p 8 2) = none → v.ringConn (p 0x0A 2) = true →
      let r : CompletionRing := { index := p 8 2, conn := p 0x0A 2, base := p 0x10 8, rkey := p 0x18 4, size := 2 ^ log }
      done (.crCreate t conn msg) { v with fabric.rings := v.fabric.rings ++ [r] }) ∧
    (Comes u 0x0103 conn msg x → (v.cring? (p 8 2)).isSome = true →
      ((∃ q ∈ v.fabric.queues, q.cr = p 8 2) → Refuses (exec (.crDestroy t conn msg) s) c v .mbStateConflict) ∧
      ((∀ q ∈ v.fabric.queues, q.cr ≠ p 8 2) →
        done (.crDestroy t conn msg) { v with fabric.rings := v.fabric.rings.filter fun (r : CompletionRing) => r.index != p 8 2 })) ∧
    (Comes u 0x0101 conn msg x → ∀ q, v.queue? (p 8 2) = some q → q.state ≠ .draining →
      let w := v.modQueue (p 8 2) fun q => { q with state := .draining, target := none, cache := [] }
      Runs (exec (.wqDestroy t conn msg) s) (· = ((w.withdraw .notExecuted fun j => j.queue == p 8 2).settle).mbHold c .drain)) ∧
    (Comes u 0x0800 conn msg x → p 8 2 ≤ 4097 → 6 ≤ log → log ≤ 16 → v.ering? (p 8 2) = none → v.ringConn (p 0x0A 2) = true →
      (2 ≤ p 8 2 → (v.carriage? (p 8 2 - 2)).isSome = true) →
      let r : EventRing := { index := p 8 2, conn := p 0x0A 2, base := p 0x10 8, rkey := p 0x18 4, size := 2 ^ log }
      let w := { v with router.rings := v.router.rings ++ [r] }
      done (.eringCreate t conn msg) (if p 8 2 < 2 then w.deliverEarly (p 8 2) else w)) ∧
    (Comes u 0x0801 conn msg x → p 8 2 ≤ 4097 → (v.ering? (p 8 2)).isSome = true → v.book.exportRing ≠ some (p 8 2) →
      done (.eringDestroy t conn msg) { v with router.rings := v.router.rings.filter fun (r : EventRing) => r.index != p 8 2 }) ∧
    (Comes u 0x0802 conn msg x → p 8 2 ≤ 4097 → (v.ering? (p 8 2)).isSome = true → 1 ≤ p 0x0A 1 → p 0x0A 1 ≤ 32 →
      (msg.drop 128).length = 8 * p 0x0A 1 →
      let prog := programOf (msg.drop 128) (p 0x0A 1)
      (filterOk prog = false → Refuses (exec (.efilterLoad t conn msg) s) c v .malformedEncoding) ∧
      (filterOk prog = true → done (.efilterLoad t conn msg)
        (v.modEring (p 8 2) fun r => { r with program := prog, buckets := fullBuckets prog v.clock.now }))) ∧
    (∀ n q, u.queue? n = some q → q.state = .draining → u.queueJobs n = 0 → u.completionHeld q.cr = false → u.power.mode ≠ .hold →
      let fs := [(0x08, toLe 2 q.cons), (0x0C, toLe 4 ((q.submitSeq + 2 ^ 32 - 1) % 2 ^ 32))]
      let w := match u.mailbox.drains.find? (·.1 == n) with
        | some (_, c) => u.mbSend c { result := mbFields fs, effect := true }
        | none => u
      Gives (exec (.wqDrainDone t n) s)
        { w with
          mailbox.drains := w.mailbox.drains.filter fun (d : Nat × MbCommand) => d.1 != n
          fabric.queues := w.fabric.queues.filter fun (q : WorkQueue) => q.index != n })

/-- Carriages (R327 to R345, R363): creation with generation 1 and a drawn K_C; RESIZE waits for the epoch; DISABLE, RESET and DESTROY pass to
the next generation; Process Map entries are written with the carriage's generation; a window is set or, with ACCESS 0, removed. -/
def Obligations.MailboxCarriages : Prop :=
  ∀ (s u v : State) (t conn : Nat) (msg : Bytes) (x : Session), u = s.advance t → v = u.taken x →
    let c := mbCommand conn msg [] x
    let p (off n : Nat) : Nat := le msg off n
    let b := msg.drop 128
    let n := p 8 2
    let gen (w : State) (k : Nat) : Nat := match w.carriage? k with | some y => y.gen | none => 0
    let after (i : Instr) (w : State) : Prop := Replies (exec i s) c w { result := mbFields [(0x08, toLe 4 (gen w n))], effect := true }
    (Comes u 0x0200 conn msg x → b.length = 112 → le b 0 2 < 4096 → v.carriage? (le b 0 2) = none →
      (paramsOf b).inRange (le b 0 2) = true →
      (v.poolsOk (paramsOf b) (le b 0 2) = false → Refuses (exec (.carriageCreate t conn msg) s) c v .quotaExceeded) ∧
      (v.poolsOk (paramsOf b) (le b 0 2) = true → v.drawFate false = .served →
        let w := (v.serveDraw false 1).1
        let new : Carriage := { number := le b 0 2, params := paramsOf b, key := (1, drawBytes (v.serveDraw false 1).2 32),
                                keyVersion := (w.clock.train, w.deviceIndex), budgets := (paramsOf b).ceilings.map budgetCap }
        Replies (exec (.carriageCreate t conn msg) s) c (({ w with fabric.carriages := w.fabric.carriages ++ [new] } : State).pushKey (le b 0 2))
          { result := mbFields [(0x08, toLe 4 1)], effect := true })) ∧
    (Comes u 0x0201 conn msg x → v.resizeFault b = none → Runs (exec (.carriageResize t conn msg) s) (· = v.mbHold c .epoch)) ∧
    (Comes u 0x0202 conn msg x → n < 4096 → v.carState n = .active →
      after (.carriageDisable t conn msg) ((v.bumpGeneration n 1).modCarriage n fun y => { y with state := .disabled }).settle) ∧
    (Comes u 0x0203 conn msg x → n < 4096 → v.liveCarriage n = true →
      let w := v.modCarriage n fun y => { y with dropped := 0, quotaRefusals := 0, translationFaults := 0, state := .active }
      after (.carriageReset t conn msg) (w.bumpGeneration n 2).settle) ∧
    (Comes u 0x0204 conn msg x → n < 4096 → v.liveCarriage n = true →
      (n = 0 ∨ v.ownsSlots n = true → Refuses (exec (.carriageDestroy t conn msg) s) c v .mbStateConflict) ∧
      (n ≠ 0 → v.ownsSlots n = false →
        let w := (v.bumpGeneration n 3).modCarriage n fun y => { y with state := .destroying }
        after (.carriageDestroy t conn msg)
          ({ w with fabric.pmap := w.fabric.pmap.filter fun (e : PMapEntry) => e.carriage != n } : State).settle)) ∧
    (Comes u 0x0205 conn msg x → 1 ≤ p 8 1 → p 8 1 ≤ 6 → b.length = 16 * p 8 1 →
      let es := (List.range (p 8 1)).map fun i => slice b (16 * i) 16
      (∀ e ∈ es, le e 8 2 < 4096 ∧ v.liveCarriage (le e 8 2) = true) →
      (es.foldl State.pmapWrite v).fabric.pmap.length ≤ 1048576 →
      Replies (exec (.pmapSet t conn msg) s) c (es.foldl State.pmapWrite v) { effect := true }) ∧
    (Comes u 0x0206 conn msg x → ∀ y, v.carriage? n = some y → y.state ≠ .destroying →
      let w : Window := { rkey := p 0x10 4, conn := p 0x14 2, access := p 0x16 1 % 4, base := p 0x18 8 % 2 ^ 63, length := p 0x20 8 }
      let others := y.windows.filter fun (z : Window) => !(z.rkey == w.rkey && z.conn == w.conn)
      (w.access = 0 → Replies (exec (.windowSet t conn msg) s) c (v.modCarriage n fun y => { y with windows := others }) { effect := true }) ∧
      (w.access ≠ 0 → 1 ≤ w.length → w.length ≤ 2 ^ 40 → others.length < y.params.windowLimit →
        Replies (exec (.windowSet t conn msg) s) c (v.modCarriage n fun y => { y with windows := others ++ [w] }) { effect := true }))

/-- The epoch and the drained generations (R333, R334, R341, R342, R343): at the boundary every carriage has no shares used and its budgets
refilled to at most their cap, the new CODE_TILE_LIMIT is in force, and the command that waited is answered; when the last job of a generation is
released source 225 is raised, and a DESTROYING carriage without an older generation becomes ABSENT. -/
def Obligations.EpochAndGenerations : Prop :=
  ∀ (s u : State) (t : Nat), u = s.advance t →
    (u.power.mode ≠ .hold → u.engines.epochAt + 100000 ≤ u.clock.now →
      let limit := u.engines.nextLimit.getD u.engines.codeTileLimit
      let w : State := { u with
        engines := { u.engines with epochAt := u.clock.now, codeTileLimit := limit, nextLimit := none }
        fabric.carriages := u.fabric.carriages.map Carriage.epoch }
      Resumes (exec (.schedulingEpoch t) s) (· = w.mbEpoch.returnExpress)) ∧
    (∀ y : Carriage, y.epoch.shares = [0, 0, 0, 0, 0, 0] ∧ ∀ i, i < 19 →
      let limit := y.params.ceilings.getD i 0
      y.epoch.budgets.getD i 0 = if limit = 0 then 0 else min (max (2 * limit) 10000) (y.budgets.getD i 0 + limit)) ∧
    (∀ n g y, u.carriage? n = some y → g ∈ y.draining → u.genJobs n g = 0 →
      let left := y.draining.filter (· != g)
      let w := (u.raiseFor 225 [n, g, y.dropped] n).modCarriage n fun y => { y with draining := left }
      Gives (exec (.generationDrained t n g) s)
        (if y.state == .destroying && left.isEmpty then { w with fabric.carriages := w.fabric.carriages.filter fun (y : Carriage) => y.number != n }
         else w))

/-- Headers, slots and wrapping keys (R268, R281, R289, R291, R293, R560): SHARE, UNSHARE and LOW_THRESHOLD_SET put the slot's material with a
changed header into a fresh record; a slot that a master may not touch is refused with KEY_USE_DENIED; DESTROY empties the slot; a roll keeps the
previous key and draws the next. -/
def Obligations.MailboxSlots : Prop :=
  ∀ (s u v : State) (t conn : Nat) (msg : Bytes) (x : Session), u = s.advance t → v = u.taken x → u.placeFree = true →
    let c := mbCommand conn msg [] x
    let p (off n : Nat) : Nat := le msg off n
    let slot := p 8 2 % 16384
    let car := p 0x0A 2
    let named (w : State) : MbOut :=
      { slot := some slot, carriage := w.slotOwner slot, record := (w.slotRecord? slot).map (·.index) }
    let refuses (i : Instr) (st : Status) : Prop := Replies (exec i s) c v { named v with status := st }
    let changes (i : Instr) (r : SlotRecord) (g : SlotHeader → SlotHeader) (low : Ledger → Ledger) : Prop := ∀ k, v.freeRecord? = some k →
      granules r.material.length ≤ v.freeGranules →
      let excess := (v.cellar.oversized.filter fun (y : Nat × Bytes) => y.1 == r.index).map fun y => (k, y.2)
      let w := (({ v with cellar.oversized := v.cellar.oversized ++ excess } : State).install r.header.slot k (g r.header) r.material).pushSlot
        r.header.slot
      Replies (exec i s) c (w.modLedger slot low) { named w with effect := true }
    (∀ r, v.slotRecord? slot = some r → r.header.slot = slot →
      (Comes u 0x0301 conn msg x →
        (r.header.state = .corked → refuses (.slotShare t conn msg) .mbStateConflict) ∧
        (r.header.state ≠ .corked → r.header.controlMaster = false → refuses (.slotShare t conn msg) .keyUseDenied) ∧
        (r.header.state ≠ .corked → r.header.controlMaster = true → car < 4096 → car ∉ r.header.shareList →
          (8 ≤ r.header.shareList.length → refuses (.slotShare t conn msg) .quotaExceeded) ∧
          (r.header.shareList.length < 8 → changes (.slotShare t conn msg) r (fun h => { h with shareList := h.shareList ++ [car] }) id))) ∧
      (Comes u 0x0302 conn msg x → r.header.state ≠ .corked → r.header.controlMaster = true → car < 4096 → car ∈ r.header.shareList →
        changes (.slotUnshare t conn msg) r (fun h => { h with shareList := h.shareList.filter (· != car) }) id) ∧
      (Comes u 0x0305 conn msg x → r.header.state ≠ .corked → r.header.controlMaster = true →
        (hasUsage r.header.usage "stateful" = false → refuses (.lowThresholdSet t conn msg) .keyUseDenied) ∧
        (hasUsage r.header.usage "stateful" = true →
          let low := if p 0x0C 4 = 0 then 65536 else p 0x0C 4
          changes (.lowThresholdSet t conn msg) r (fun h => { h with lowThreshold := low }) fun l => { l with low := decide (l.left ≤ low) })) ∧
      (Comes u 0x0303 conn msg x →
        (bit r.header.masters 4 = true → refuses (.slotDestroy t conn msg) .keyUseDenied) ∧
        (bit r.header.masters 4 = false → Replies (exec (.slotDestroy t conn msg) s) c (v.destroySlot slot).settle
          { effect := true, slot := some slot, carriage := r.header.owner }))) ∧
    (Comes u 0x0303 conn msg x → v.slotRecord? slot = none → refuses (.slotDestroy t conn msg) .keyNotFound) ∧
    (Comes u 0x0306 conn msg x → p 8 2 < 4096 → ∀ y, v.carriage? (p 8 2) = some y → v.drawFate false = .served →
      let w := (v.serveDraw false 1).1
      let w' := w.modCarriage (p 8 2) fun z => { z with
        key := (y.key.1 + 1, drawBytes (v.serveDraw false 1).2 32), prevKey := some z.key, keyVersion := (w.clock.train, w.deviceIndex) }
      Replies (exec (.wrapkeyRoll t conn msg) s) c (w'.pushKey (p 8 2))
        { result := mbFields [(0x08, toLe 4 (y.key.1 + 1))], effect := true, carriage := p 8 2 })

/-- Leaves, the Book's export and provisioning (R195, R196, R285, R299, R364, R421): LEAF_RELEASE cuts [x, END) from a range and answers with the
signed object; LEAF_ACCEPT takes a range whose object verifies, whose serial is new and which overlaps none; the export ring is set, or left with
0xFFFF; PROVISION_IMPORT fills a slot from material that the session encrypts. -/
def Obligations.MailboxLeavesAndBook : Prop :=
  ∀ (s u v : State) (t conn : Nat) (msg : Bytes) (x : Session), u = s.advance t → v = u.taken x → u.placeFree = true →
    let c := mbCommand conn msg [] x
    let p (off n : Nat) : Nat := le msg off n
    let b := msg.drop 128
    let slot := p 8 2 % 16384
    let named (w : State) : MbOut :=
      { slot := some slot, carriage := w.slotOwner slot, record := (w.slotRecord? slot).map (·.index) }
    (Comes u 0x0309 conn msg x → ∀ r l m y, v.slotRecord? slot = some r → r.header.controlMaster = true → v.ledger? slot = some l →
      v.quotes = true → v.member? (p 0x0A 2) = some m → (l.ranges.find? fun y => y.1 ≤ p 0x10 8 && p 0x10 8 < y.2.2) = some y →
      let q := p 0x10 8
      let bad := q < l.highWater ∨ q < y.2.1 ∨ q % leafUnit r.header r.material ≠ 0
      let refuses (st : Status) : Prop :=
        Replies (exec (.leafRelease t conn msg) s) c v { named v with status := st, result := mbFields [(0x08, toLe 8 l.highWater)] }
      (bad → refuses .outOfRange) ∧ (¬ bad → 64 ≤ l.releases.length → refuses .quotaExceeded) ∧
      (¬ bad → l.releases.length < 64 →
        let body := releaseBody v.deviceIndex (memIndex m) (l.serial + 1) l.keyId q y.2.2 v.fuses.uniqueId (memUid m) v.clock.train
        let cut := l.ranges.flatMap fun z => if z == y then (if y.1 < q then [(y.1, y.2.1, q)] else []) else [z]
        let w := v.modLedger slot fun z => { z with ranges := cut, releases := z.releases ++ [body], serial := l.serial + 1 }
        let w := w.leafEvent slot r.header.lowThreshold r.header.owner
        Replies (exec (.leafRelease t conn msg) s) c w.compareRanges
          { named w with bulk := body ++ w.identitySign body (zeros 32) [], effect := true })) ∧
    (Comes u 0x030B conn msg x → b.length = 4851 → le b 0 2 = 1 →
      ∀ m q l r, v.member? (le b 2 2) = some m → memUid m = slice b 0x40 16 → v.peer? (le b 2 2) = some q → q.identity ≠ [] →
      bothHold 3 (q.identity.take 2592) (slice q.identity 2592 97) (b.take 128) (slice b 0x80 4627) (slice b 0x1293 96) = true →
      slice b 0x50 16 = v.fuses.uniqueId → (v.cellar.ledgers.find? fun l => l.keyId == slice b 0x10 32) = some l →
      v.slotRecord? l.slot = some r →
      let first := le b 0x30 8
      let last := le b 0x38 8
      let n := leafUnit r.header r.material
      let bad := le b 8 8 ≤ l.lastAccepted (slice b 0x40 16) ∨ first % n ≠ 0 ∨ last % n ≠ 0 ∨ last ≤ first ∨
        (∃ y ∈ l.ranges, first < y.2.2 ∧ y.1 < last) ∨ ∃ d ∈ l.releases, first < le d 0x38 8 ∧ le d 0x30 8 < last
      let o : MbOut := { carriage := v.slotOwner l.slot, record := some r.index }
      (bad → Replies (exec (.leafAccept t conn msg) s) c v { o with status := .outOfRange }) ∧
      (¬ bad → 16 ≤ l.ranges.length → Replies (exec (.leafAccept t conn msg) s) c v { o with status := .quotaExceeded }) ∧
      (¬ bad → l.ranges.length < 16 →
        let below := l.ranges.filter fun (y : Nat × Nat × Nat) => y.1 < first
        let above := l.ranges.filter fun (y : Nat × Nat × Nat) => first < y.1
        let taken := (l.accepted.filter fun (y : Bytes × Nat) => y.1 != slice b 0x40 16) ++ [(slice b 0x40 16, le b 8 8)]
        let w := v.modLedger l.slot fun l => { l with ranges := below ++ [(first, first, last)] ++ above, accepted := taken }
        let w := w.leafEvent l.slot r.header.lowThreshold r.header.owner
        Replies (exec (.leafAccept t conn msg) s) c w.compareRanges { o with effect := true })) ∧
    (Comes u 0x0307 conn msg x → v.book.exportRing = none →
      (p 8 2 = 0xFFFF → Replies (exec (.bookExportSet t conn msg) s) c (v.restartExport none) { effect := true }) ∧
      (p 8 2 < 2 → v.ering? (p 8 2) = none → Refuses (exec (.bookExportSet t conn msg) s) c v .mbStateConflict) ∧
      (p 8 2 < 2 → (v.ering? (p 8 2)).isSome = true →
        let w := v.modEring (p 8 2) fun y => { y with prod := 0, cons := 0, waiting := [] }
        Replies (exec (.bookExportSet t conn msg) s) c (w.restartExport (some (p 8 2))) { effect := true })) ∧
    (Comes u 0x030D conn msg x →
      let a := attrsOf b
      let m := aesCtr (kmac x.key [] 32 "ZMMBOX-ENC") (toLe 4 (p 4 4) ++ zeros 12) (b.drop 16)
      (v.power.mode ≠ .provisioning → Replies (exec (.provisionImport t conn msg) s) c v { named v with status := .mbNotInMode }) ∧
      (∀ k, v.power.mode = .provisioning → 17 ≤ b.length → b.length ≤ 4112 → v.slotRecord? slot = none → bit (p 0x0A 1) 0 = false →
        a.ok true = true → (hasUsage a.usage "stateful" = true → v.statefulSlots < 256) →
        importOk a.keyClass a.param m = true → pairwiseClass a.keyClass = false → v.freeRecord? = some k →
        granules (heapPart a.keyClass m).length ≤ v.freeGranules →
        let e := if a.keyClass = 0x0D then rsaExpOf m else 0
        let h := v.newHeader a .live (formOf a.keyClass a.param m) slot 0 e (heapPart a.keyClass m) (overPart a.keyClass m)
        let part := if overPart a.keyClass m = [] then none else some (v.wrapFor h.owner h.object (partCek (v.useNo k)) (overPart a.keyClass m))
        let w := v.fillSlot slot k h (heapPart a.keyClass m) part
        Replies (exec (.provisionImport t conn msg) s) c w { named w with effect := true }))

/-- Train commands (R365, R443, R444, R452): a signed roster with a higher serial and the right form is in force, its failures named in order;
TRAIN_JOIN leaves LISTED for JOINING; TRAIN_LEAVE discards the roster. -/
def Obligations.MailboxTrain : Prop :=
  ∀ (s u v : State) (t conn : Nat) (msg : Bytes) (x : Session), u = s.advance t → v = u.taken x →
    let c := mbCommand conn msg [] x
    let b := msg.drop 128
    (Comes u 0x0401 conn msg x → ∀ y, v.mbSession? x.id = some y →
      let signed := rosterSigned y.control b = true
      let fresh := v.train.serial < rosSerial b
      let form := rosterForm b = true ∧ v.rosterAgrees b = true
      let e := exec (.rosterSet t conn msg) s
      (¬ signed → Refuses e c v .signatureInvalid) ∧ (signed → ¬ fresh → Refuses e c v .outOfRange) ∧
      (signed → fresh → ¬ form → Refuses e c v .malformedEncoding) ∧
      (signed → fresh → form →
        Replies e c (v.acceptRoster b) { result := mbFields [(0x08, toLe 8 (rosSerial b))], effect := true })) ∧
    (Comes u 0x0402 conn msg x → v.power.mode = .service ∨ v.power.mode = .derated →
      (v.train.state ≠ .listed → Refuses (exec (.trainJoin t conn msg) s) c v .mbStateConflict) ∧
      (v.train.state = .listed → Replies (exec (.trainJoin t conn msg) s) c v.enterJoining { effect := true })) ∧
    (Comes u 0x0403 conn msg x →
      (v.train.state ≠ .joining → v.train.state ≠ .member → Refuses (exec (.trainLeave t conn msg) s) c v .mbStateConflict) ∧
      (v.train.state = .joining ∨ v.train.state = .member →
        let w := v.leaveTrain 1 .noRoster
        Replies (exec (.trainLeave t conn msg) s) c { w with train.roster := none } { effect := true }))

/-- Power and entropy commands (R158, R325, R366, R515, R518, R520, R524): each condition has its status; a shutdown withdraws every job no engine
has and ends when the drain does, with the ORDERLY mark written; a wake follows its response. -/
def Obligations.MailboxPower : Prop :=
  ∀ (s u v : State) (t conn : Nat) (msg : Bytes) (x : Session), u = s.advance t → v = u.taken x →
    let c := mbCommand conn msg [] x
    let p (off n : Nat) : Nat := le msg off n
    let m := v.power.mode
    (Comes u 0x0500 conn msg x →
      let w := p 8 4
      let ok := 5700 ≤ w ∧ w ≤ 50000 ∧ w % 10 = 0 ∧ w + 1000 ≤ v.power.vin
      (¬ ok → Refuses (exec (.vinWarnSet t conn msg) s) c v .mbRange) ∧
      (ok → Replies (exec (.vinWarnSet t conn msg) s) c { v with power.vinWarn := w } { effect := true })) ∧
    (Comes u 0x0501 conn msg x →
      (v.power.vin < vinFull → Refuses (exec (.deratedClear t conn msg) s) c v .mbVinLow) ∧
      (vinFull ≤ v.power.vin → v.power.thermal = true → Refuses (exec (.deratedClear t conn msg) s) c v .mbStateConflict) ∧
      (vinFull ≤ v.power.vin → v.power.thermal = false →
        Replies (exec (.deratedClear t conn msg) s) c ({ v with power.dipLatch := false } : State).conditions { effect := true })) ∧
    (Comes u 0x0502 conn msg x → p 9 1 ≤ 1 →
      let starts (action : Nat) : State :=
        (({ v with power.shutdown := some (action, p 9 1) } : State).withdraw .notExecuted fun _ => true).mbHold c .drain
      (p 8 1 = 0 → m = .service ∨ m = .derated ∨ m = .trainJoin ∨ m = .provisioning →
        Runs (exec (.shutdownWakeStandby t conn msg) s) (· = starts 0)) ∧
      (p 8 1 = 1 → m = .service ∨ m = .derated ∨ m = .trainJoin ∨ m = .provisioning ∨ m = .debug ∨ m = .entropyTest →
        Runs (exec (.shutdownWakeReset t conn msg) s) (· = starts 1)) ∧
      (p 8 1 = 0 → m = .debug ∨ m = .entropyTest → Refuses (exec (.shutdownWakeStandby t conn msg) s) c v .mbNotInMode) ∧
      (p 8 1 = 2 → m = .standby → v.power.parked = true →
        Runs (exec (.shutdownWakeWake t conn msg) s) (· = (v.mbAnswer c { effect := true }).wake))) ∧
    (∀ action taste y, u.power.shutdown = some (action, taste) → u.fabric.jobs = [] → u.express.frames = [] → u.power.mode ≠ .hold →
      u.mailbox.running = some y →
      let a : State := { u with journal.orderly := true, power.shutdown := none, mailbox.running := none }
      let w : State := { (a.mbSend y { effect := true }).endSession y.session 4 with tasting.criticalDone := false }
      Resumes (exec (.shutdownDrainDone t) s)
        (· = if taste = 1 then w.startTasting action else if action = 0 then w.park else w.internalReset)) ∧
    (Comes u 0x0503 conn msg x → 1 ≤ p 8 1 → p 8 1 ≤ 32 →
      Runs (exec (.pressShareSet t conn msg) s) (· = ({ v with engines.nextLimit := some (p 8 1) } : State).mbHold c .epoch)) ∧
    (Comes u 0x0520 conn msg x →
      (m ≠ .service → m ≠ .derated → m ≠ .provisioning → Refuses (exec (.entropyTestEnter t conn msg) s) c v .mbNotInMode) ∧
      (m = .service ∨ m = .derated ∨ m = .provisioning →
        v.lc = some .zawardProvisioned ∨ v.lc = some .oemField ∨ v.lc = some .returned → v.hasRight rRawEntropy = false →
        Refuses (exec (.entropyTestEnter t conn msg) s) c v .mbRightsDenied) ∧
      (m = .service ∨ m = .derated ∨ m = .provisioning → v.lc = some .wafer ∨ v.lc = some .moduleTest →
        Replies (exec (.entropyTestEnter t conn msg) s) c v.enterEntropyTest { effect := true } ∧ v.enterEntropyTest.power.mode = .entropyTest))

/-- Life cycle and debug (R367, R483 to R490, R502 to R506): a transition needs M8, VIN held for 1 s, a signed and fitting token, in that order; it
then goes on stage by stage, its fuses take the new code and a reset follows by 10 ms; a reset before the fuse window repeats its wipes at
Boot; rights come from a signed certificate or from the answer to a challenge, which serves once. At which steps a stage goes on is the
model's choice (log entry 111). -/
def Obligations.MailboxLifeCycle : Prop :=
  ∀ (s u v : State) (t conn : Nat) (msg : Bytes) (x : Session), u = s.advance t → v = u.taken x →
    let c := mbCommand conn msg [] x
    let b := msg.drop 128
    let m := v.power.mode
    (Comes u 0x0600 conn msg x →
      (m = .service ∨ m = .derated → Replies (exec (.provisioningEnter t conn msg) s) c
        { v with power.mode := .provisioning, power.crossedInM8 := false } { effect := true }) ∧
      (m ≠ .service → m ≠ .derated → Refuses (exec (.provisioningEnter t conn msg) s) c v .mbNotInMode)) ∧
    (Comes u 0x0601 conn msg x → m = .provisioning →
      Replies (exec (.provisioningExit t conn msg) s) c (if entersDebug v.rights then v.enterDebug else v.returnToService) { effect := true }) ∧
    (Comes u 0x0602 conn msg x →
      let target := le msg 8 1
      let e := exec (.lcTransition t conn msg) s
      (m ≠ .provisioning → Refuses e c v .mbNotInMode) ∧
      (m = .provisioning → v.vinSteady = false → Refuses e c v .mbVinLow) ∧
      (m = .provisioning → v.vinSteady = true → v.tokenSigned b = false → Refuses e c v .signatureInvalid) ∧
      (m = .provisioning → v.vinSteady = true → v.tokenSigned b = true →
        (v.tokenMatches b target = false → Refuses e c v .mbLifecycleDenied) ∧
        let starts (w : State) (secret : Bytes) : Prop := Runs e (· = { w with
          journal.lcPending := some (v.lcCode, target), mailbox.running := some { c with wait := .fuses 0 secret, since := w.clock.now } })
        (v.tokenMatches b target = true → tokenDraws b target = false → starts v []) ∧
        (v.tokenMatches b target = true → tokenDraws b target = true → v.drawFate false = .served →
          starts (v.serveDraw false 1).1 (drawBytes (v.serveDraw false 1).2 32)))) ∧
    (∀ (w : State) (y : MbCommand) (stage : Nat) (secret : Bytes),
      w.mailbox.running = some y → y.wait = .fuses stage secret → y.code = 0x0602 → w.mbAnswers = true → w.power.mode ≠ .hold →
      let tok := y.bulk
      let target := y.par 8 1
      w.tokenMatches tok target = true →
        let goes (z : State) (k : Nat) : Prop := w.idleFuses = { z with
          mailbox.running := some { y with wait := .fuses k [], since := if y.wait = .fuses k [] then y.since else w.clock.now } }
        (stage = 0 → goes (w.prepare tok target secret) 1) ∧
        (stage = 1 → target = 0x0F →
          (∀ z, w.persoBit tok = some z → goes z 1) ∧ (w.persoBit tok = none → goes (w.persoDone tok) 2)) ∧
        (stage = 1 → target = 0x07 → goes { w with cellar.certMldsa := tokMldsaCert tok, cellar.certEcdsa := tokEcdsaCert tok } 2) ∧
        (stage = 1 → target ≠ 0x0F → target ≠ 0x07 → goes w 2) ∧
        (2 ≤ stage → ∃ n, w.idleFuses =
          ((({ w with mailbox.running := none } : State).closeWindow target).mbAnswer y { effect := true }).mbPump n)) ∧
    (∀ (w : State) (target : Nat),
      let z := w.closeWindow target
      z.fuses.lcA = target ∧ z.fuses.lcB = target ∧ z.fuses.lcC = target ∧ z.journal.lcPending = none ∧
      z.dbg.resetAt = some (z.clock.now + 10000000)) ∧
    (∀ (w : State) (f target : Nat), w.journal.lcPending = some (f, target) → w.lcCode ≠ target →
      let z := w.bootTransition
      z.journal.lcPending = none ∧ z.fuses = w.fuses ∧
      (target ≠ 0x03 → z.cellar.dir = [] ∧ z.cellar.records = [] ∧ z.fabric.carriages = [] ∧ z.book.tail = []) ∧
      (z.cellar.identity = true → z.cellar.certMldsa ≠ [] ∨ z.cellar.certEcdsa ≠ [])) ∧
    (∀ at', u.dbg.resetAt = some at' → at' ≤ u.clock.now → Gives (exec (.lcTransitionReset t) s) u.internalReset) ∧
    (Comes u 0x0603 conn msg x →
      (v.dbgAuthMode = 0 → Refuses (exec (.debugChallenge t conn msg) s) c v .mbStateConflict) ∧
      (v.dbgAuthMode ≠ 0 → v.drawFate false = .served →
        let w := (v.serveDraw false 1).1
        let n := drawBytes (v.serveDraw false 1).2 32
        Replies (exec (.debugChallenge t conn msg) s) c { w with dbg.challenge := some (n, w.clock.now) }
          { result := mbFields [(0x08, n), (0x28, w.fuses.uniqueId)], effect := true })) ∧
    (∀ n since, u.dbg.challenge = some (n, since) → since + 600000000000 ≤ u.clock.now →
      Gives (exec (.debugChallengeExpiry t) s) { u with dbg.challenge := none }) ∧
    (Comes u 0x0604 conn msg x →
      let spent : State := { v with dbg.challenge := none }
      let e := exec (.debugAuth t conn msg) s
      (∀ st, (if v.dbgAuthMode = 0 then v.certificateFault b else v.responseFault b) = some st → Refuses e c (spent.raise 198 []) st) ∧
      (v.dbgAuthMode = 0 → v.certificateFault b = none →
        let w := spent.grant { rights := byteAt b 2, notAfter := some (le b 0x18 8) } (byteAt b 3) (le b 0x20 8)
        Replies e c w { result := mbFields [(0x08, toLe 1 w.rights)], effect := true }) ∧
      (v.dbgAuthMode ≠ 0 → v.responseFault b = none →
        let w := spent.grant { rights := byteAt b 2, notAfter := none } 1 0
        Replies e c w { result := mbFields [(0x08, toLe 1 w.rights)], effect := true })) ∧
    (Gives (exec (.debugRightsLapse t) s) { u with dbg.grants := u.dbg.grants.filter fun (g : Grant) => g.holds u.clock.train })

/-- Firmware and patches (R104, R105, R108, R369 to R371, R495): staging goes on where it stopped; COMMIT checks signer, signatures, form, digests
and FW_SVN in that order and then writes the bank header; CONFIRM blows FW_SVN bit by bit (at which steps, log entry 111); a signed patch of the right base stands in the shadow stores. -/
def Obligations.MailboxFirmware : Prop :=
  ∀ (s u v : State) (t conn : Nat) (msg : Bytes) (x : Session), u = s.advance t → v = u.taken x →
    let c := mbCommand conn msg [] x
    let p (off n : Nat) : Nat := le msg off n
    let b := msg.drop 128
    let other := 1 - v.firmware.running
    (Comes u 0x0700 conn msg x → b ≠ [] →
      let first := p 0x0C 1
      let off := p 8 4
      let want := if first = 1 then 0 else v.firmware.stagedLen
      let ok := first ≤ 1 ∧ off = want ∧ off + b.length ≤ bankSize
      let e := exec (.fwStage t conn msg) s
      (¬ ok → Replies e c v { status := .mbRange, result := mbFields [(0x08, toLe 4 v.firmware.stagedLen)] }) ∧
      (ok →
        let w := if first = 1 then v.stageFirst else v
        let bytes := w.bank w.otherBank
        let w' := w.setBank w.otherBank (bytes.take off ++ b ++ bytes.drop (off + b.length)) (w.bankSerial w.otherBank)
        Replies e c { w' with firmware.stagedLen := off + b.length }
          { result := mbFields [(0x08, toLe 4 (off + b.length))], effect := true })) ∧
    (Comes u 0x0701 conn msg x →
      let img := (v.bank other).take v.firmware.stagedLen
      let e := exec (.fwCommit t conn msg) s
      let len := p 8 4 = v.firmware.stagedLen
      let signed := v.signerPermitted (manSigner img) = true ∧ v.manifestSigned img = true
      (¬ len → Refuses e c v .mbStateConflict) ∧ (len → ¬ signed → Refuses e c v .signatureInvalid) ∧
      (len → signed → manifestForm img = false → Refuses e c v .malformedEncoding) ∧
      (len → signed → manifestForm img = true → ∀ w, v.compareAll img (components img) = (w, some true) →
        (manSvn img < w.fusedSvn → Refuses e c w .mbRollback) ∧
        (w.fusedSvn ≤ manSvn img →
          let serial := (w.bankSerial w.firmware.running + 1) % 2 ^ 32
          Replies e c (w.setBank w.otherBank (w.bank w.otherBank) serial)
            { result := mbFields [(0x08, toLe 4 serial)], effect := true }))) ∧
    (Comes u 0x0702 conn msg x →
      let e := exec (.fwConfirm t conn msg) s
      (v.power.vin < vinFull → Refuses e c v .mbVinLow) ∧
      (vinFull ≤ v.power.vin → v.firmware.svn ≤ v.fusedSvn → Refuses e c v .mbStateConflict) ∧
      (vinFull ≤ v.power.vin → v.fusedSvn + 1 = v.firmware.svn →
        Replies e c (({ v with fuses.fwSvn := v.firmware.svn } : State).raise 201 [])
          { result := mbFields [(0x08, toLe 4 v.firmware.svn)], effect := true }) ∧
      (vinFull ≤ v.power.vin → v.fusedSvn + 1 < v.firmware.svn → Runs e (· = { v with
        fuses.fwSvn := v.fusedSvn + 1, mailbox.running := some { c with wait := .fuses 0 [], since := v.clock.now } }))) ∧
    (∀ (w : State) (y : MbCommand), w.mailbox.running = some y → y.wait = .fuses 0 [] → y.code = 0x0702 → w.mbAnswers = true →
      w.power.mode ≠ .hold →
      (w.fusedSvn + 1 < w.firmware.svn → w.idleFuses = { w with fuses.fwSvn := w.fusedSvn + 1 }) ∧
      (w.fusedSvn + 1 = w.firmware.svn → ∃ n, w.idleFuses =
        ((({ w with mailbox.running := none, fuses.fwSvn := w.firmware.svn } : State).raise 201 []).mbAnswer y
          { result := mbFields [(0x08, toLe 4 w.firmware.svn)], effect := true }).mbPump n)) ∧
    (Comes u 0x0703 conn msg x →
      let e := exec (.patchLoad t conn msg) s
      (∀ k, microKind (p 8 1) = some k →
        (patchSigned (p 8 1) b = false → Refuses e c v .signatureInvalid) ∧
        (patchSigned (p 8 1) b = true → patchBase b ≠ (v.vintage k).base ∨ (v.vintage k).patchState = .loaded →
          Refuses e c v .mbStateConflict) ∧
        (patchSigned (p 8 1) b = true → patchBase b = (v.vintage k).base → (v.vintage k).patchState ≠ .loaded → patchFits k b = true →
          Replies e c (v.loadPatch k b) { effect := true })))

/-- Ports, Express, Tasting and repair (R158, R373 to R384, R405, R462, R463, R525, R530): settings in range take effect, a program of the stated
length is loaded, a repair list is blown after its preconditions in order, and EXPRESS_DISABLE is answered at the next epoch. -/
def Obligations.MailboxPorts : Prop :=
  ∀ (s u v : State) (t conn : Nat) (msg : Bytes) (x : Session), u = s.advance t → v = u.taken x →
    let c := mbCommand conn msg [] x
    let p (off n : Nat) : Nat := le msg off n
    let b := msg.drop 128
    let n := p 8 2
    let done (i : Instr) (w : State) : Prop := Replies (exec i s) c w { effect := true }
    (Comes u 0x0900 conn msg x → 1 ≤ p 8 1 → p 8 1 ≤ 3 →
      let w := { v with
        journal.expressMask := p 8 1, journal.addrP0 := p 0x0C 4, journal.addrP4 := p 0x10 4
        express.enabled := true, express.closing := false, power.expressReady := true }
      done (.expressEnable t conn msg) w.reserveExpress) ∧
    (Comes u 0x0901 conn msg x →
      let w : State := { v with
        express.closing := v.express.enabled || v.express.closing, express.enabled := false, journal.expressMask := 0 }
      Runs (exec (.expressDisable t conn msg) s) (· = w.mbHold c .epoch)) ∧
    (Comes u 0x0A00 conn msg x →
      let ets := (List.range 8).map fun i => p (0x10 + i) 1
      let ok := p 8 1 ≤ 7 ∧ laneModeOk (p 8 1) (p 9 1) = true ∧ v.memberUnder Port.heldMode (p 8 1) = false ∧ 1500 ≤ p 0x0A 2 ∧
        p 0x0A 2 ≤ 9216 ∧ p 0x0C 2 % 4096 ≤ 4094 ∧ etsOk ets = true
      (¬ ok → Refuses (exec (.portConfig t conn msg) s) c v .mbRange) ∧
      (ok → ∀ y, v.port? (p 8 1) = some y →
        let vlan := p 0x0C 2 % 4096
        (v.domainOn (portDomain (p 8 1)) = true →
          let w := if y.laneMode = p 9 1 then v else v.setLanes (p 8 1) (p 9 1)
          done (.portConfig t conn msg) ((w.modPort (p 8 1) fun y =>
            { y with mtu := p 0x0A 2, vlan := vlan, pfcMask := p 0x0E 1, ets := ets, shadow := none }).tooSmall (p 8 1) (p 0x0A 2))) ∧
        (v.domainOn (portDomain (p 8 1)) = false → groupSize (p 9 1) = 1 →
          let held : PortSettings := { laneMode := p 9 1, mtu := p 0x0A 2, vlan := vlan, pfcMask := p 0x0E 1, ets := ets }
          done (.portConfig t conn msg) (v.modPort (p 8 1) fun y => { y with shadow := some held })))) ∧
    (Comes u 0x0A01 conn msg x → p 8 1 ≤ 7 →
      (p 9 1 = 0 ∨ 64 < p 9 1 ∨ b.length ≠ 8 * p 9 1 → Refuses (exec (.classifierLoad t conn msg) s) c v .lengthMismatch) ∧
      (1 ≤ p 9 1 → p 9 1 ≤ 64 → b.length = 8 * p 9 1 →
        (v.domainOn (portDomain (p 8 1)) = true →
          done (.classifierLoad t conn msg) (v.modPort (p 8 1) fun y => { y with classifier := programOf b (p 9 1) })) ∧
        (v.domainOn (portDomain (p 8 1)) = false →
          done (.classifierLoad t conn msg) (v.modPort (p 8 1) fun y => { y with shadowProgram := some (programOf b (p 9 1)) })))) ∧
    (Comes u 0x0B00 conn msg x →
      let ok := 500 ≤ p 8 4 ∧ p 8 4 ≤ 10000 ∧ 1000 ≤ p 0x0C 4 ∧ p 0x0C 4 ≤ 100000
      (¬ ok → Refuses (exec (.tastingSet t conn msg) s) c v .mbRange) ∧
      (ok → done (.tastingSet t conn msg) { v with tasting.totalMs := p 8 4, tasting.sliceUs := p 0x0C 4 })) ∧
    (Comes u 0x0B01 conn msg x → 1 ≤ n → n ≤ 1024 → b.length = 16 * n →
      ((chunks 16 n b).all stepOk = false → Refuses (exec (.tastingLoad t conn msg) s) c v .malformedEncoding) ∧
      ((chunks 16 n b).all stepOk = true → done (.tastingLoad t conn msg) (v.loadSteps (chunks 16 n b)))) ∧
    (Comes u 0x0B03 conn msg x →
      let es := (List.range n).map fun i => le b (4 * i) 4
      let e := exec (.fuseRepair t conn msg) s
      (v.power.mode ≠ .provisioning → Refuses e c v .mbNotInMode) ∧
      (v.power.mode = .provisioning → v.power.vin < vinFull → Refuses e c v .mbVinLow) ∧
      (v.power.mode = .provisioning → vinFull ≤ v.power.vin → v.inTest = false → v.hasRight rFuseRepair = false →
        Refuses e c v .mbRightsDenied) ∧
      (v.power.mode = .provisioning → vinFull ≤ v.power.vin → v.inTest = true ∨ v.hasRight rFuseRepair = true → b.length = 4 * n →
        es.all repairOk = true → spareTaken v.fuses.repair es = false →
        (64 < v.fuses.repair.length + n → Refuses e c v .quotaExceeded) ∧
        (v.fuses.repair.length + n ≤ 64 →
          done (.fuseRepair t conn msg) (({ v with fuses.repair := v.fuses.repair ++ es } : State).raise 200 []))))

/-! ### The Boot Digest unit and the registers -/

/-- The Boot Digest unit (R497 to R500): START takes an idle unit for its writer and only sets REFUSED on a busy one; FINISH ends the message,
whole in blocks of 128 bytes; ABORT acts for the owner alone; bytes go on with the message. A write of START, FINISH or ABORT has SNOOP 0 (DEDUCED, log
entry 46). -/
def Obligations.BootDigestUnit : Prop :=
  ∀ (s u : State) (t : Nat) (owner : BdOwner), u = s.advance t → u.bdUp = true →
    (u.bd.busy = false → Gives (exec (.bdStart t owner) s)
      { u with bd := { u.bd with absorbed := [], done := false, whole := false, busy := true, owner := owner, snoop := false } }) ∧
    (u.bd.busy = true → Gives (exec (.bdStart t owner) s) { u with bd := { u.bd with refused := true, snoop := false } }) ∧
    (u.bd.busy = true → Gives (exec (.bdFinish t owner) s)
      { u with bd := { u.bd with busy := false, done := true, whole := u.bd.absorbed.length % 128 == 0, snoop := false } }) ∧
    (u.bd.owner = owner → Gives (exec (.bdAbort t owner) s)
      { u with bd := { u.bd with absorbed := [], busy := false, done := false, whole := false, snoop := false } }) ∧
    (u.bd.owner ≠ owner → Gives (exec (.bdAbort t owner) s) { u with bd := { u.bd with snoop := false } }) ∧
    (∀ data : Bytes, data.length = 8 → u.bd.done = false → u.bd.busy = true →
      Gives (exec (.bdDataWrite t owner data) s) { u with bd := { u.bd with absorbed := u.bd.absorbed ++ data } }) ∧
    (∀ bank off len, bank < 2 → off + len ≤ bankSize →
      let read := (List.range len).map fun k => u.norByte bank (off + k)
      (u.bd.snoop = true → u.bd.done = false → u.bd.busy = true →
        Gives (exec (.norReadSnooped t bank off len) s) { u with bd := { u.bd with absorbed := u.bd.absorbed ++ read } }) ∧
      (u.bd.snoop = false → Gives (exec (.norReadSnooped t bank off len) s) u)) ∧
    (∀ d : BootDigest, (d.eq = true → d.eqN = false) ∧ (d.eqN = true → d.eq = false) ∧ (d.done = false → d.eq = false ∧ d.eqN = false))

/-- A byte after the end (R500): with DONE at 1, bytes written to BD_DATA by either writer, or snooped, start a new message. DONE, EQ and EQ_N are 0
again, the context holds these bytes alone, BUSY is 1, OWNER stays, and no flag records it. -/
def Obligations.DigestRestarts : Prop :=
  ∀ (s u : State) (t : Nat), u = s.advance t → u.bdUp = true → u.bd.done = true →
    (∀ owner (data : Bytes), data.length = 8 → Gives (exec (.bdDataWrite t owner data) s)
      { u with bd := { u.bd with absorbed := data, done := false, whole := false, busy := true } }) ∧
    (∀ bank off len, bank < 2 → off + len ≤ bankSize → 0 < len → u.bd.snoop = true →
      Gives (exec (.norReadSnooped t bank off len) s)
        { u with bd := { u.bd with
          absorbed := (List.range len).map fun k => u.norByte bank (off + k), done := false, whole := false, busy := true } }) ∧
    ∀ d : BootDigest, d.done = false → d.eq = false ∧ d.eqN = false

/-- Register writes (R9, R37, R322, R323, R497): RW fields take the value, a 1 clears a W1C flag and nothing sets it, read-only registers keep
theirs; nothing else changes. -/
def Obligations.RegisterWrites : Prop :=
  ∀ (s u : State) (t : Nat) (v : BitVec 64), u = s.advance t →
    let e (r : WritableReg) := exec (.registerWrite t r v) s
    (u.bdUp = true →
      (∀ n, Gives (e (.bdExpect n)) { u with bd := { u.bd with expect := u.bd.expect.set n v } }) ∧
      Gives (e .bdSnoop) { u with bd := { u.bd with snoop := v.getLsbD 3 } } ∧
      Gives (e .bdStatus) { u with bd := { u.bd with refused := u.bd.refused && !v.getLsbD 2 } }) ∧
    (u.domainOn 3 = true → Gives (e .rngStatus) { u with rng := { u.rng with emptyRead := u.rng.emptyRead && !v.getLsbD 1 } }) ∧
    Gives (e .rngData) u ∧ (∀ n, Gives (e (.vintage n)) u) ∧ Gives (e .fuseMirror) u

/-! ### Random numbers -/

/-- Debiaser, cells and conditioner (R307 to R313): NOISE_DEBIAS makes a bit of two samples; a bit that passes the tests counts, and that of a
healthy cell waits until the conditioner takes it in turn; one that fails stops its cell; a stalled cell stops; a cell is healthy once 1,024 bits have passed; a block whose two results agree and differ from the last becomes ready, any
other fails. -/
def Obligations.NoiseAndConditioner : Prop :=
  ∀ (s u : State) (t i : Nat) (x : Cell), u = s.advance t → u.rng.cells[i]? = some x → x.stopped = false → u.rngRuns = true →
    (∀ p q : Bool,
      let e := exec (.noiseBit t i (p, q)) s
      (debias u.fuses.noiseDebias p q = none → Resumes e (· = u)) ∧
      ∀ b, debias u.fuses.noiseDebias p q = some b →
        let y := x.count b u.clock.now
        let w := u.modCell i fun _ => y
        let held := w.modCell i fun c => { c with bits := c.bits ++ [b] }
        (y.failedTest = none → x.healthy = false → Resumes e (· = w)) ∧
        (y.failedTest = none → x.healthy = true → Resumes e (· = held.gather (held.rng.cells.map (·.bits.length)).sum)) ∧
        (∀ n, y.failedTest = some n → Resumes e (· = w.stopCell i n)) ∧
        (y.failedTest = none ↔ y.run < 41 ∧ y.same < 795)) ∧
    (∀ p q : Bool, debias 0 p q = some (p != q) ∧ (debias 1 p q = none ↔ p = q)) ∧
    (∀ (v : State) (n k : Nat) (b : Bool) (c : Cell) (rest : List Bool), v.turnCell = some k → v.rng.cells[k]? = some c → c.bits = b :: rest →
      v.gather (n + 1) = ({ (v.modCell k fun c => { c with bits := rest }) with
        rng.block := v.rng.block ++ [(k, b)], rng.turn := (k + 1) % 16 } : State).gather n) ∧
    (max x.lastAt (u.power.bootAt + 1000000) + 100000 ≤ u.clock.now → Resumes (exec (.cellStallTimeout t i) s) (· = u.stopCell i 3)) ∧
    (1024 ≤ x.started → Gives (exec (.cellStartupPass t i) s) (u.modCell i fun c =>
      if !c.stopped && 1024 ≤ c.started then { c with healthy := true } else c)) ∧
    (∀ agree : Bool, u.rng.fatal = false → 512 ≤ u.rng.block.length →
      let out := std .conditioner 0 [packBits 64 ((u.rng.block.take 512).map (·.2))] 16
      let w : State := { u with rng := { u.rng with block := u.rng.block.drop 512, lastOutput := some out } }
      let all := u.rng.ready ++ [out]
      (agree = false ∨ u.rng.lastOutput = some out → Resumes (exec (.conditionedBlock t agree) s) (· = w.blockFails)) ∧
      (agree = true → u.rng.lastOutput ≠ some out → Resumes (exec (.conditionedBlock t agree) s)
        (· = ({ w with rng := { w.rng with ready := all.drop (all.length - u.readyLimit) } } : State).blockReady)))

/-- The DRBG (R14, R91, R313, R314, R316, R317, R319, R323): instantiated in Boot from four blocks; reseeded from two after 100 ms or 2^20 calls, in
RESEED_DUE without them and fatally failed after 10 ms there; a failed known-answer test is fatal; a tile's seed pool takes a seed; a read of
RNG_DATA hands its word out once, or sets EMPTY_READ. -/
def Obligations.DrbgRules : Prop :=
  ∀ (s u : State) (t : Nat), u = s.advance t →
    let now := u.clock.now
    (u.power.mode = .boot → u.rngRuns = true → u.rng.state = .unseeded → 4 ≤ u.rng.ready.length →
      Resumes (exec (.drbgInstantiate t true) s) (· = u.instantiate) ∧
      Resumes (exec (.drbgInstantiate t false) s) (· = u.fatalEntropy 3)) ∧
    (∀ ok : Bool,
      let due (e : Host.Outcome State Fault Refusal) : Prop :=
        (u.rng.state = .seeded → u.rng.fatal = true → Resumes e (· = u.drbgFailed)) ∧
        (u.rng.state = .seeded → u.rng.fatal = false → ok = false → Resumes e (· = u.fatalEntropy 3)) ∧
        (u.rng.state = .seeded → u.rng.fatal = false → ok = true → 2 ≤ u.rng.ready.length → Resumes e (· = u.reseed.serveDraws)) ∧
        (u.rng.state = .seeded → u.rng.fatal = false → ok = true → u.rng.ready.length < 2 →
          let r := if u.rng.readAt + 22 ≤ now then u.refillData else u
          Resumes e (· = ({ r with rng := { r.rng with state := .reseedDue, dueSince := now } } : State).raise 165 [u.rng.ready.length])) ∧
        (u.rng.state = .reseedDue → Resumes e (· = if ok = true then u else u.fatalEntropy 3))
      (u.rng.reseedAt + 100000000 ≤ now → due (exec (.reseedTimer t ok) s)) ∧
      (2 ^ 20 ≤ u.rng.calls → due (exec (.reseedCallCount t ok) s))) ∧
    (u.rng.state = .reseedDue → u.rng.dueSince + 10000000 ≤ now → Resumes (exec (.reseedDueTimeout t) s) (· = u.fatalEntropy 4)) ∧
    (∀ tile y, u.engines.tiles[tile]? = some y → y.seeds.length < 4 → u.domainOn (engineDomain .press tile) = true → u.rng.state = .seeded →
      let w := (u.serveDraw false 1).1
      Resumes (exec (.maskSeedRefill t tile) s)
        (· = w.modEngine .press tile fun y => { y with seeds := y.seeds ++ [(u.serveDraw false 1).2] })) ∧
    (u.domainOn 3 = true →
      (u.rng.valid = true → Resumes (exec (.rngDataRead t) s)
        (· = { u with rng := { u.rng with readAt := now, lastWord := u.rng.data, data := 0, valid := false } })) ∧
      (u.rng.valid = false → u.rng.readAt + 22 ≤ now → u.rng.state = .seeded →
        let w := (u.serveDraw false 1).1
        let word := BitVec.ofNat 64 (leNat (drawBytes (u.serveDraw false 1).2 8))
        Resumes (exec (.rngDataRead t) s) (· = { w with rng := { w.rng with readAt := now, lastWord := word, data := 0, valid := false } })) ∧
      (u.rng.valid = false → now < u.rng.readAt + 22 ∨ u.rng.state ≠ .seeded → Resumes (exec (.rngDataRead t) s) fun x =>
        x.rng.lastWord = 0 ∧ x.rng.emptyRead = true ∧ x.rng.valid = false ∧ x.rng.readAt = u.rng.readAt))

/-! ### Operations that change more than their job -/

/-- Declared totals (R204): an UPDATE that would carry the absorbed count past DECL_LEN, and a FINAL or FINAL_VERIFY whose last chunk leaves it unequal,
end with LENGTH_MISMATCH and no output; the session is closed with nothing of the chunk absorbed, whatever its bytes. -/
def Obligations.DeclaredTotals : Prop :=
  ∀ (s u : State) (t id : Nat) (j : Job) (x : HashSession) (d : Nat), u = s.advance t → u.handleSession j = some x → x.declLen = some d →
    auxChunkNo j.aux = x.nextChunk →
    let ends (i : Instr) : Prop := Settles (exec i s) (· = (u.closeSession x.index).finishNow id { status := .lengthMismatch, output := [], rel := [none] })
    (Running u id .hashUpdate j → d < x.absorbed.length + j.input.length → ends (.hashUpdate t id)) ∧
    (Running u id .hashFinal j → x.absorbed.length + j.input.length ≠ d → ends (.hashFinal t id)) ∧
    (Running u id .hashFinalVerify j → x.outLen ≤ j.input.length → j.input.length - x.outLen ≤ 16777216 →
      x.absorbed.length + (j.input.length - x.outLen) ≠ d → ends (.hashFinalVerify t id)) ∧
    ∀ y ∈ (u.closeSession x.index).fabric.sessions, y.index ≠ x.index

/-- Hash sessions (R202, R203, R205): OPEN takes a free object under a drawn CHECK; UPDATE takes the next chunk in turn, another number is
OUT_OF_RANGE; FINAL and FINAL_VERIFY close the session and answer over all chunks; ABORT closes it. -/
def Obligations.HashSessions : Prop :=
  ∀ (s u : State) (t id : Nat) (j : Job), u = s.advance t →
    (Running u id .hashOpen j → u.fabric.sessions.length < 1048576 →
      let n := u.fabric.sessions.length
      let i := anyFree "session object" (u.useNo n) 1048576 n fun i => u.fabric.sessions.any fun x => x.index == i
      let check := 1 + leNat j.own % 255
      let nl := auxNLen j.aux
      let decl := le j.input 0 8
      let x : HashSession := {
        index := i, check := check, carriage := j.carriage, gen := j.gen, param := j.param, key := j.material, usage := j.usage,
        custN := slice j.input 8 nl, custS := slice j.input (8 + nl) (auxSLen j.aux), outLen := hashOutLen j.param j.aux,
        declLen := if decl = 2 ^ 64 - 1 then none else some decl, lastUse := u.clock.now }
      let w := { u with fabric.sessions := u.fabric.sessions ++ [x] }
      Gives (exec (.hashOpen t id) s) (w.finishNow id { output := toLe 4 (i + check * 2 ^ 24) })) ∧
    (∀ x, u.handleSession j = some x →
      let late := auxChunkNo j.aux ≠ x.nextChunk
      let total (last : Bytes) : Nat := x.absorbed.length + last.length
      let closed := u.closeSession x.index
      let answer (last : Bytes) : Bytes := hashOf x.param x.key x.custN x.custS x.outLen (x.absorbed ++ last)
      (Running u id .hashUpdate j →
        (late → Settles (exec (.hashUpdate t id) s) (· = u.finishNow id (.failed .outOfRange [none]))) ∧
        (¬ late → (∀ d, x.declLen = some d → total j.input ≤ d) →
          let grow (y : HashSession) : HashSession :=
            { y with absorbed := y.absorbed ++ j.input, nextChunk := y.nextChunk + 1, lastUse := u.clock.now }
          let w := { u with fabric.sessions := mapIf (·.index == x.index) grow u.fabric.sessions }
          Settles (exec (.hashUpdate t id) s) (· = (w.wakeChunks x.index).finishNow id {}))) ∧
      (Running u id .hashFinal j → ¬ late →
        (∀ d, x.declLen = some d → d = total j.input) →
        Settles (exec (.hashFinal t id) s) (· = closed.finishNow id { output := answer j.input })) ∧
      (Running u id .hashFinalVerify j → ¬ late → x.outLen ≤ j.input.length →
        let last := j.input.drop x.outLen
        last.length ≤ 16777216 → (∀ d, x.declLen = some d → d = total last) →
        (answer last = j.input.take x.outLen → Settles (exec (.hashFinalVerify t id) s) (· = closed.finishNow id {})) ∧
        (answer last ≠ j.input.take x.outLen →
          Settles (exec (.hashFinalVerify t id) s) (· = closed.finishNow id (.failed .signatureInvalid [none])))) ∧
      (Running u id .hashAbort j → Settles (exec (.hashAbort t id) s) (· = closed.finishNow id {})))

/-- Stateful keys (R182, R187, R190): KEYGEN on a PREPARED slot puts the key in force with the whole index space, its top trees cached, and places
pk; STATE_GET answers NEXT_INDEX, the leaves left, HIGH_WATER, the number of ranges and TREE_STATE. -/
def Obligations.StatefulKeys : Prop :=
  ∀ (s u : State) (t id : Nat) (j : Job), u = s.advance t →
    let keygen (xmss : Bool) (e : Host.Outcome State Fault Refusal) : Prop := ∀ k r ls, j.key = some k → j.shadow = some r →
      statefulLevels xmss j.param j.input = some ls →
      (u.slotState k.index ≠ .prepared → Settles e
        (· = (u.modJob id fun j => { j with shadow := none }).closeNow id (.failed .keyUseDenied [none]))) ∧
      (u.slotState k.index = .prepared →
        let m := statefulMaterial xmss j.param ls j.input j.own
        let pk := statefulPk xmss j.param m
        let h : SlotHeader := { k.header with
          state := .live, form := formStateful, materialLen := m.length, versionTime := u.clock.train, versionDevice := u.deviceIndex,
          materialHash := sha3 m }
        let l : Ledger :=
          { slot := k.index, keyId := sha3 pk, next := 0, highWater := 0, ranges := [(0, 0, 2 ^ (ls.map (·.height)).sum)],
            low := 2 ^ (ls.map (·.height)).sum ≤ h.lowThreshold }
        let a := u.install k.index r h m
        let b := { a with cellar.ledgers := (a.cellar.ledgers.filter fun (y : Ledger) => y.slot != k.index) ++ [l] }
        let w := (List.range ls.length).foldl (fun s n => s.cacheTree k.index n 0) b
        Settles e (· = (w.modJob id fun j => { j with shadow := none }).closeNow id { output := pk, rel := [none] }))
    (Running u id .lmsKeygen j → u.stagingUsed < 16384 → keygen false (exec (.lmsKeygen t id) s)) ∧
    (Running u id .xmssKeygen j → u.stagingUsed < 16384 → keygen true (exec (.xmssKeygen t id) s)) ∧
    (∀ l q ring k, j.phase = .ready → u.dispatching = true → u.fenceOk j = true → u.holdOrderOk j = true →
      u.ledger? (refIndex j.keyRef) = some l → Reports u j q ring k →
      let slot := refIndex j.keyRef
      let record := toLe 8 l.nextIndex ++ toLe 8 l.left ++ toLe 8 l.highWater ++ toLe 1 l.ranges.length ++
        toLe 1 (u.treeState slot (u.slotLevels slot) l.nextIndex) ++ zeros 6
      let done : Job := { j with status := .success, output := record, trailer := entTs j.entry, phase := .computed }
      (j.op = some .lmsStateGet → Settles (exec (.lmsStateGet t j.id) s) (Reported u done q ring)) ∧
      (j.op = some .xmssStateGet → Settles (exec (.xmssStateGet t j.id) s) (Reported u done q ring)))

/-- Classic McEliece beyond one job (R149, R150, R152, R156): PK_CACHE checks a key and answers a handle whose CHECK is not 0; ENCAPS may use a
cached key; a search that fails 16 attempts starts again, and ends with FAULT_UNRECOVERED after eight. -/
def Obligations.McElieceCacheAndSearch : Prop :=
  ∀ (s u : State) (t id : Nat) (j : Job), u = s.advance t →
    (Running u id .mceliecePkCache j →
      (mcePkOk j.param j.input = false → Gives (exec (.mceliecePkCache t id) s)
        (u.finishNow id (.failed .malformedEncoding (codeTime .mceliecePkCache j.param false)))) ∧
      (mcePkOk j.param j.input = true →
        let check := 1 + leNat j.own % 65535
        let w := u.pkStore j check
        Gives (exec (.mceliecePkCache t id) s)
          (w.1.finishNow id { output := toLe 4 w.2, rel := codeTime .mceliecePkCache j.param false }) ∧
        (∃ n, w.2 = n + check * 65536) ∧ check ≠ 0)) ∧
    (∀ e, Running u id .mcelieceEncaps j → j.kind = .none → j.handle = some e →
      let v := mceSample j.param j.own
      let out := u.placedSecret j (mceEncK j.param j.publicKey v) ++ mceEncC j.param j.publicKey v
      ∃ x, Computed u id j .success out x ∧ Gives (exec (.mcelieceEncaps t id) s) (x.pkUse id)) ∧
    (Running u id .mcelieceKeygen j → 16 < mceAttempts j.param j.own →
      let w := u.modJob id fun j => { j with stops := j.stops + 1 }
      Settles (exec (.keygenAttemptsExhausted t id) s)
        (· = if 8 ≤ j.stops + 1 then w.failAny id .faultUnrecovered false else w.abandonPart id 0 false false))

/-- Key management (R277, R280 to R291): GENERATE and IMPORT judge the target again and put tested material in force, IMPORT to external places a
wrapped object; DESTROY empties the slot; REWRAP wraps the same material anew; RESTORE takes the oversized part that has the slot's hash. -/
def Obligations.KeyManagement : Prop :=
  ∀ (s u : State) (t id : Nat) (j : Job), u = s.advance t →
    (Running u id .kmGenerate j → u.stagingUsed < 16384 → ∀ slot, j.target = some slot → u.targetBusy j = false →
      let a := if (attrsOf j.input).keyClass = 0x0D then { attrsOf j.input with expClass := 1 } else attrsOf j.input
      let e := exec (.kmGenerate t id) s
      (∀ st, u.targetNow j slot = some st → Settles e (· = u.closeNow id (.failed st [none]))) ∧
      (u.targetNow j slot = none → a.keyClass = 7 ∨ a.keyClass = 8 → Settles e (· = u.putKey id j a .prepared 0 [] [] false)) ∧
      (u.targetNow j slot = none → a.keyClass ≠ 7 → a.keyClass ≠ 8 → newMaterial a.keyClass a.param j.own = none →
        Settles e (· = u.searchStop id j a)) ∧
      (∀ m, u.targetNow j slot = none → a.keyClass ≠ 7 → a.keyClass ≠ 8 → newMaterial a.keyClass a.param j.own = some m →
        (pairwiseOk a.keyClass a.param m j.own = false → Settles e (· = u.abandonPart id 0 true false)) ∧
        (pairwiseOk a.keyClass a.param m j.own = true →
          Settles e (· = u.putKey id j a .live (if a.keyClass = 0x0D then 65537 else 0) m (classPublic a.keyClass a.param m rsaE) true)))) ∧
    (Running u id .kmImport j → u.stagingUsed < 16384 → (u.targetBusy j = false ∨ j.target = none) →
      let a := attrsOf j.input
      let b := j.input.drop 16
      let kek := if j.keyIsKem then kemDecK 3 j.material (b.take 1568) else j.material
      let blob := if j.keyIsKem then b.drop 1568 else b
      let m := std .kwpUnwrap 32 [kek, blob] (kwpLen kek blob)
      let good := Config.stdHolds .kwpOk 32 [kek, blob] = true ∧ importOk a.keyClass a.param m = true ∧
        pairwiseOk a.keyClass a.param m j.rand = true
      let e := exec (.kmImport t id) s
      (¬ good → Settles e (· = u.closeNow id (.failed .malformedEncoding [none]))) ∧
      (good → j.target = none → Settles e
        (· = u.closeNow id { output := u.jobWrap j (a.object (formOf a.keyClass a.param m)) j.cek m })) ∧
      (∀ slot, good → j.target = some slot → u.targetNow j slot = none → Settles e (· = u.putKey id j a .live
        (if a.keyClass = 0x0D then rsaExpOf m else 0) (if a.keyClass = 5 then m ++ mcePkOf a.param m else m) [] (a.keyClass != 5)))) ∧
    (∀ slot, Running u id .kmDestroy j → u.stagingUsed < 16384 → j.target = some slot →
      (u.slotRecord? slot = none → Settles (exec (.kmDestroy t id) s) (· = u.closeNow id (.failed .keyNotFound [none]))) ∧
      ((u.slotRecord? slot).isSome = true → Settles (exec (.kmDestroy t id) s) (· = (u.destroySlot slot).closeNow id {}))) ∧
    (Running u id .kmRewrap j →
      (∀ h m, u.jobOpen j j.input = some (h, m) →
        Yields (exec (.kmRewrap t id) s) u id j (u.jobWrap j h.object j.cek m)) ∧
      (u.jobOpen j j.input = none →
        Gives (exec (.kmRewrap t id) s) (u.objectFailure.finish id (.failed .keyNotFound [none])))) ∧
    (∀ k, Running u id .kmRestore j → u.stagingUsed < 16384 → j.key = some k →
      let h := k.header
      let heap := k.material.take h.materialLen
      let regenerated := mcePkOf h.param heap
      let part := if j.input ≠ [] then (u.jobOpen j j.input).map fun x => (x.2, j.input)
        else if h.keyClass = 5 then some (regenerated, u.jobWrap j h.object (partCek id) regenerated) else none
      let e := exec (.kmRestore t id) s
      let counted := if j.input = [] then u else u.objectFailure
      (part = none → Settles e (· = counted.closeNow id (.failed .malformedEncoding [none]))) ∧
      (∀ b object, part = some (b, object) →
        (h.oversized = true → sha3 (heap ++ b) = h.materialHash → Settles e (· = ({ u with
          cellar.oversized := (u.cellar.oversized.filter fun (x : Nat × Bytes) => x.1 != k.record) ++ [(k.record, object)] } : State).closeNow id {})) ∧
        (h.oversized = false ∨ sha3 (heap ++ b) ≠ h.materialHash → Settles e (· = u.closeNow id (.failed .malformedEncoding [none])))))

/-! ### Faults -/

/-- Engine faults (R62, R95, R168, R169, R215, R243): a powered engine raises its source, its jobs are abandoned and counted, and with the third
fault in 1 s it goes offline, told by one event where that fault is a tile's (DEDUCED, log entry 88); an engine without power has none; a failed signature check needs a job that signs. Known-answer tests of a patch
(R105): an engine that passes switches, and once all have the patch is verified; one that fails puts every engine back and the vintage register as
before PATCH_LOAD, and raises its source. -/
def Obligations.EngineFaultsAndTests : Prop :=
  (∀ (s u : State) (t i : Nat), u = s.advance t →
    let after (p : Pool) (src : Nat) (d : List Nat) (off : State → State) (x : State) : Prop :=
      let once : Bool := p == .press && (u.countFault p i).2 && src == 2 * i
      let a := ((if once then u else u.raise src d).abandonEngine p i true false).faultFrames p i
      (∃ e, (u.pool p)[i]? = some e) → u.domainOn (engineDomain p i) = true →
      x = (if (a.countFault p i).2 then off (a.countFault p i).1 else (a.countFault p i).1)
    let gone (p : Pool) (src : Nat) (d : List Nat) (y : State) : State := (y.takeOffline p i src d).reserveExpress.verifyPatches
    (∀ kind, Settles (exec (.tileFault t i kind) s)
      (after .press (match kind with | .fault => 2 * i | .trap => 2 * i + 1) [0] (gone .press (2 * i) [1]))) ∧
    (∀ kind, Settles (exec (.cooperFault t i kind) s)
      (after .cooper (64 + 4 * (i / 16) + (match kind with | .fault => 0 | .trap => 1 | .mismatch => 3)) [i % 16]
        (gone .cooper (64 + 4 * (i / 16) + 2) [i % 16]))) ∧
    (∀ kind, Settles (exec (.drayFault t i kind) s)
      (after .dray (84 + i) [match kind with | .fault => 1 | .trap => 2] (gone .dray (84 + i) [3]))) ∧
    let signs (p : Pool) : Bool := (u.engineParts p i).any fun x => match (u.job? x.1).bind (·.op) with
      | some o => opTeam o && (match o with | .slhDsaSign | .slhDsaSignPrehash | .lmsSign | .xmssSign => true | _ => false)
      | none => false
    (∀ check core, i < 192 → core = i / 96 * 128 + i % 96 → check = false ∨ signs .sha2 = true →
      Settles (exec (.hashCoreFault t core check) s)
        (after .sha2 (80 + i / 96) [i % 96] fun y => (y.crossEngine .sha2 i).abandonEngine .sha2 i false false)) ∧
    (∀ check core, i < 64 → core = i / 32 * 128 + 96 + i % 32 → check = false ∨ signs .keccak = true →
      Settles (exec (.hashCoreFault t core check) s)
        (after .keccak (80 + i / 32) [96 + i % 32] fun y => (y.crossEngine .keccak i).abandonEngine .keccak i false false)) ∧
    (u.domainOn (engineDomain .press i) = false → ∀ kind, Settles (exec (.tileFault t i kind) s) (· = u)) ∧
    (i < 96 → signs .sha2 = false → Settles (exec (.hashCoreFault t i true) s) (· = u)) ∧
    (∀ (p : Pool) (e : Engine), (u.pool p)[i]? = some e → e.offline = false →
      (u.countFault p i).2 = decide (3 ≤ (e.faultTimes.filter fun x => u.clock.now < x + 1000000000).length + 1))) ∧
  (∀ (s u v : State) (t i : Nat) (k : MicroKind) (e : Engine), u = s.advance t → v = u.startKats k → (v.pool (kindPool k))[i]? = some e →
    let p := kindPool k
    let w := v.modEngine p i fun e => { e with kat := false, switched := true, image := (v.vintage k).patch }
    let clear (x : State) : State := x.setPool p ((x.pool p).map fun e => { e with kat := false, switched := false })
    let revert (e : Engine) : Engine := { e with kat := false, switched := false, reverting := e.reverting || e.switched }
    (e.kat = false → Gives (exec (.patchKatDone t k i true) s) v) ∧
    (e.kat = true → w.allSwitched k = false → Gives (exec (.patchKatDone t k i true) s) w) ∧
    (e.kat = true → (v.vintage k).patchState = .loaded → w.allSwitched k = true →
      Gives (exec (.patchKatDone t k i true) s) ((clear w).setVintage k { v.vintage k with patchState := .verified })) ∧
    (e.kat = true →
      let old := v.vintage k
      Gives (exec (.patchKatDone t k i false) s) ((((v.setPool p ((v.pool p).map revert)).setVintage k
        { old with patchId := old.oldId, patchState := old.oldState, patch := old.oldPatch }).startKats k).raise (katSource k i).1 (katSource k i).2)))

/-- GDDR7 errors (R14, R63, R153, R155, R189, R205, R208, R415, R531): source 128 + 2k with the component of the pair, the row is reported for
retirement, and what was lost decides the rest; more than 1,000 corrected errors raise source 129 + 2k at most once in 1 s. -/
def Obligations.GddrErrors : Prop :=
  ∀ (s u : State) (t c row region : Nat), u = s.advance t → c < 8 →
    let a := u.raise (128 + 2 * (c / 2)) [c % 2, row, region]
    let w : State := if (c, row) ∈ u.tasting.reported then a else { a with tasting.reported := u.tasting.reported ++ [(c, row)] }
    let e (x : GddrTarget) := exec (.gddr7Uncorrectable t c row region x) s
    Gives (e .other) w.settle ∧
    (∀ id, Gives (e (.jobOutput id)) (w.modJob id fun j => { j with placeFault := true }).settle) ∧
    (∀ slot level index, Gives (e (.tree slot level index)) ({ w with
      engines.trees := w.engines.trees.filter fun (z : CachedTree) => !(z.slot == slot && z.level == level && z.index == index) } : State).settle) ∧
    (∀ n, Gives (e (.publicKey n)) ((w.fabric.jobs.filter fun (j : Job) => j.streams n).foldl
      (fun (s : State) (j : Job) => s.failAny j.id .inputFetchError true)
      { w with engines.publicKeys := w.engines.publicKeys.filter fun (k : PkEntry) => k.entry != n }).settle) ∧
    (∀ h, Gives (e (.expandedKey h)) ((w.fabric.jobs.filter fun (j : Job) => j.hit && j.cacheKey.2 == h).foldl
      (fun (s : State) (j : Job) => s.abandonPart j.id 0 false false)
      { w with cellar.expanded := w.cellar.expanded.filter fun (x : Nat × Bytes) => x.2 != h }).settle) ∧
    (∀ n, Gives (e (.session n)) (((w.fabric.jobs.filter fun j => j.phase == .running && j.handle == some n &&
      (match j.op with | some o => opChunk o | none => false)).foldl (fun s j => s.failAny j.id .inputFetchError true) w).closeSession n).settle) ∧
    (∀ id j, w.job? id = some j →
      (j.readsGddr = true → j.handle = none → Gives (e (.jobInput id)) (w.failAny id .inputFetchError true).settle) ∧
      (j.readsGddr = false → Gives (e (.jobInput id)) w.settle) ∧
      (∀ q qs, j.parts = q :: qs → q.running = true → q.region ≠ [] → Gives (e (.largeMode id)) (w.abandonPart id 0 false false).settle)) ∧
    (∀ count,
      let recent := ∃ z ∈ u.router.gddrRate, z.1 = c / 2 ∧ u.clock.now < z.2 + 1000000000
      (count ≤ 1000 ∨ recent → Gives (exec (.gddr7CorrectedRate t c count) s) u) ∧
      (1000 < count → ¬ recent →
        let rate := (u.router.gddrRate.filter fun (z : Nat × Nat) => z.1 != c / 2) ++ [(c / 2, u.clock.now)]
        Gives (exec (.gddr7CorrectedRate t c count) s)
          (({ u with router.gddrRate := rate } : State).raise (129 + 2 * (c / 2)) [c % 2, count])))
end

