-- ==== Sys2Proof/Laws/State.lean ====
section
/-!
SUPPORT. What each update of one record leaves alone, one lemma per field, so that no proof unfolds a record update.
-/
namespace Sys2Proof.Machine

/-! ### modQueue -/

@[simp] theorem State.modQueue_pending (s : State) (i : Nat) (g : WorkQueue → WorkQueue) : (s.modQueue i g).pending = s.pending := rfl
@[simp] theorem State.modQueue_clock (s : State) (i : Nat) (g : WorkQueue → WorkQueue) : (s.modQueue i g).clock = s.clock := rfl
@[simp] theorem State.modQueue_power (s : State) (i : Nat) (g : WorkQueue → WorkQueue) : (s.modQueue i g).power = s.power := rfl
@[simp] theorem State.modQueue_fuses (s : State) (i : Nat) (g : WorkQueue → WorkQueue) : (s.modQueue i g).fuses = s.fuses := rfl
@[simp] theorem State.modQueue_journal (s : State) (i : Nat) (g : WorkQueue → WorkQueue) : (s.modQueue i g).journal = s.journal := rfl
@[simp] theorem State.modQueue_book (s : State) (i : Nat) (g : WorkQueue → WorkQueue) : (s.modQueue i g).book = s.book := rfl
@[simp] theorem State.modQueue_cellar (s : State) (i : Nat) (g : WorkQueue → WorkQueue) : (s.modQueue i g).cellar = s.cellar := rfl
@[simp] theorem State.modQueue_rng (s : State) (i : Nat) (g : WorkQueue → WorkQueue) : (s.modQueue i g).rng = s.rng := rfl
@[simp] theorem State.modQueue_engines (s : State) (i : Nat) (g : WorkQueue → WorkQueue) : (s.modQueue i g).engines = s.engines := rfl
@[simp] theorem State.modQueue_bd (s : State) (i : Nat) (g : WorkQueue → WorkQueue) : (s.modQueue i g).bd = s.bd := rfl
@[simp] theorem State.modQueue_firmware (s : State) (i : Nat) (g : WorkQueue → WorkQueue) : (s.modQueue i g).firmware = s.firmware := rfl
@[simp] theorem State.modQueue_mailbox (s : State) (i : Nat) (g : WorkQueue → WorkQueue) : (s.modQueue i g).mailbox = s.mailbox := rfl
@[simp] theorem State.modQueue_ports (s : State) (i : Nat) (g : WorkQueue → WorkQueue) : (s.modQueue i g).ports = s.ports := rfl
@[simp] theorem State.modQueue_router (s : State) (i : Nat) (g : WorkQueue → WorkQueue) : (s.modQueue i g).router = s.router := rfl
@[simp] theorem State.modQueue_express (s : State) (i : Nat) (g : WorkQueue → WorkQueue) : (s.modQueue i g).express = s.express := rfl
@[simp] theorem State.modQueue_train (s : State) (i : Nat) (g : WorkQueue → WorkQueue) : (s.modQueue i g).train = s.train := rfl
@[simp] theorem State.modQueue_dbg (s : State) (i : Nat) (g : WorkQueue → WorkQueue) : (s.modQueue i g).dbg = s.dbg := rfl
@[simp] theorem State.modQueue_tasting (s : State) (i : Nat) (g : WorkQueue → WorkQueue) : (s.modQueue i g).tasting = s.tasting := rfl
@[simp] theorem State.modQueue_sent (s : State) (i : Nat) (g : WorkQueue → WorkQueue) : (s.modQueue i g).sent = s.sent := rfl
@[simp] theorem State.modQueue_egress (s : State) (i : Nat) (g : WorkQueue → WorkQueue) : (s.modQueue i g).egress = s.egress := rfl
@[simp] theorem State.modQueue_queues (s : State) (i : Nat) (g : WorkQueue → WorkQueue) : (s.modQueue i g).fabric.queues = mapIf (·.index == i) g s.fabric.queues := rfl
@[simp] theorem State.modQueue_fabric_rings (s : State) (i : Nat) (g : WorkQueue → WorkQueue) : (s.modQueue i g).fabric.rings = s.fabric.rings := rfl
@[simp] theorem State.modQueue_fabric_conns (s : State) (i : Nat) (g : WorkQueue → WorkQueue) : (s.modQueue i g).fabric.conns = s.fabric.conns := rfl
@[simp] theorem State.modQueue_fabric_nextRead (s : State) (i : Nat) (g : WorkQueue → WorkQueue) : (s.modQueue i g).fabric.nextRead = s.fabric.nextRead := rfl
@[simp] theorem State.modQueue_fabric_jobs (s : State) (i : Nat) (g : WorkQueue → WorkQueue) : (s.modQueue i g).fabric.jobs = s.fabric.jobs := rfl
@[simp] theorem State.modQueue_fabric_nextJob (s : State) (i : Nat) (g : WorkQueue → WorkQueue) : (s.modQueue i g).fabric.nextJob = s.fabric.nextJob := rfl
@[simp] theorem State.modQueue_fabric_pmap (s : State) (i : Nat) (g : WorkQueue → WorkQueue) : (s.modQueue i g).fabric.pmap = s.fabric.pmap := rfl
@[simp] theorem State.modQueue_fabric_carriages (s : State) (i : Nat) (g : WorkQueue → WorkQueue) : (s.modQueue i g).fabric.carriages = s.fabric.carriages := rfl
@[simp] theorem State.modQueue_fabric_sessions (s : State) (i : Nat) (g : WorkQueue → WorkQueue) : (s.modQueue i g).fabric.sessions = s.fabric.sessions := rfl

/-! ### modCring -/

@[simp] theorem State.modCring_pending (s : State) (i : Nat) (g : CompletionRing → CompletionRing) : (s.modCring i g).pending = s.pending := rfl
@[simp] theorem State.modCring_clock (s : State) (i : Nat) (g : CompletionRing → CompletionRing) : (s.modCring i g).clock = s.clock := rfl
@[simp] theorem State.modCring_power (s : State) (i : Nat) (g : CompletionRing → CompletionRing) : (s.modCring i g).power = s.power := rfl
@[simp] theorem State.modCring_fuses (s : State) (i : Nat) (g : CompletionRing → CompletionRing) : (s.modCring i g).fuses = s.fuses := rfl
@[simp] theorem State.modCring_journal (s : State) (i : Nat) (g : CompletionRing → CompletionRing) : (s.modCring i g).journal = s.journal := rfl
@[simp] theorem State.modCring_book (s : State) (i : Nat) (g : CompletionRing → CompletionRing) : (s.modCring i g).book = s.book := rfl
@[simp] theorem State.modCring_cellar (s : State) (i : Nat) (g : CompletionRing → CompletionRing) : (s.modCring i g).cellar = s.cellar := rfl
@[simp] theorem State.modCring_rng (s : State) (i : Nat) (g : CompletionRing → CompletionRing) : (s.modCring i g).rng = s.rng := rfl
@[simp] theorem State.modCring_engines (s : State) (i : Nat) (g : CompletionRing → CompletionRing) : (s.modCring i g).engines = s.engines := rfl
@[simp] theorem State.modCring_bd (s : State) (i : Nat) (g : CompletionRing → CompletionRing) : (s.modCring i g).bd = s.bd := rfl
@[simp] theorem State.modCring_firmware (s : State) (i : Nat) (g : CompletionRing → CompletionRing) : (s.modCring i g).firmware = s.firmware := rfl
@[simp] theorem State.modCring_mailbox (s : State) (i : Nat) (g : CompletionRing → CompletionRing) : (s.modCring i g).mailbox = s.mailbox := rfl
@[simp] theorem State.modCring_ports (s : State) (i : Nat) (g : CompletionRing → CompletionRing) : (s.modCring i g).ports = s.ports := rfl
@[simp] theorem State.modCring_router (s : State) (i : Nat) (g : CompletionRing → CompletionRing) : (s.modCring i g).router = s.router := rfl
@[simp] theorem State.modCring_express (s : State) (i : Nat) (g : CompletionRing → CompletionRing) : (s.modCring i g).express = s.express := rfl
@[simp] theorem State.modCring_train (s : State) (i : Nat) (g : CompletionRing → CompletionRing) : (s.modCring i g).train = s.train := rfl
@[simp] theorem State.modCring_dbg (s : State) (i : Nat) (g : CompletionRing → CompletionRing) : (s.modCring i g).dbg = s.dbg := rfl
@[simp] theorem State.modCring_tasting (s : State) (i : Nat) (g : CompletionRing → CompletionRing) : (s.modCring i g).tasting = s.tasting := rfl
@[simp] theorem State.modCring_sent (s : State) (i : Nat) (g : CompletionRing → CompletionRing) : (s.modCring i g).sent = s.sent := rfl
@[simp] theorem State.modCring_egress (s : State) (i : Nat) (g : CompletionRing → CompletionRing) : (s.modCring i g).egress = s.egress := rfl
@[simp] theorem State.modCring_fabric_queues (s : State) (i : Nat) (g : CompletionRing → CompletionRing) : (s.modCring i g).fabric.queues = s.fabric.queues := rfl
@[simp] theorem State.modCring_rings (s : State) (i : Nat) (g : CompletionRing → CompletionRing) : (s.modCring i g).fabric.rings = mapIf (·.index == i) g s.fabric.rings := rfl
@[simp] theorem State.modCring_fabric_conns (s : State) (i : Nat) (g : CompletionRing → CompletionRing) : (s.modCring i g).fabric.conns = s.fabric.conns := rfl
@[simp] theorem State.modCring_fabric_nextRead (s : State) (i : Nat) (g : CompletionRing → CompletionRing) : (s.modCring i g).fabric.nextRead = s.fabric.nextRead := rfl
@[simp] theorem State.modCring_fabric_jobs (s : State) (i : Nat) (g : CompletionRing → CompletionRing) : (s.modCring i g).fabric.jobs = s.fabric.jobs := rfl
@[simp] theorem State.modCring_fabric_nextJob (s : State) (i : Nat) (g : CompletionRing → CompletionRing) : (s.modCring i g).fabric.nextJob = s.fabric.nextJob := rfl
@[simp] theorem State.modCring_fabric_pmap (s : State) (i : Nat) (g : CompletionRing → CompletionRing) : (s.modCring i g).fabric.pmap = s.fabric.pmap := rfl
@[simp] theorem State.modCring_fabric_carriages (s : State) (i : Nat) (g : CompletionRing → CompletionRing) : (s.modCring i g).fabric.carriages = s.fabric.carriages := rfl
@[simp] theorem State.modCring_fabric_sessions (s : State) (i : Nat) (g : CompletionRing → CompletionRing) : (s.modCring i g).fabric.sessions = s.fabric.sessions := rfl

/-! ### modConn -/

@[simp] theorem State.modConn_pending (s : State) (i : Nat) (g : Connection → Connection) : (s.modConn i g).pending = s.pending := rfl
@[simp] theorem State.modConn_clock (s : State) (i : Nat) (g : Connection → Connection) : (s.modConn i g).clock = s.clock := rfl
@[simp] theorem State.modConn_power (s : State) (i : Nat) (g : Connection → Connection) : (s.modConn i g).power = s.power := rfl
@[simp] theorem State.modConn_fuses (s : State) (i : Nat) (g : Connection → Connection) : (s.modConn i g).fuses = s.fuses := rfl
@[simp] theorem State.modConn_journal (s : State) (i : Nat) (g : Connection → Connection) : (s.modConn i g).journal = s.journal := rfl
@[simp] theorem State.modConn_book (s : State) (i : Nat) (g : Connection → Connection) : (s.modConn i g).book = s.book := rfl
@[simp] theorem State.modConn_cellar (s : State) (i : Nat) (g : Connection → Connection) : (s.modConn i g).cellar = s.cellar := rfl
@[simp] theorem State.modConn_rng (s : State) (i : Nat) (g : Connection → Connection) : (s.modConn i g).rng = s.rng := rfl
@[simp] theorem State.modConn_engines (s : State) (i : Nat) (g : Connection → Connection) : (s.modConn i g).engines = s.engines := rfl
@[simp] theorem State.modConn_bd (s : State) (i : Nat) (g : Connection → Connection) : (s.modConn i g).bd = s.bd := rfl
@[simp] theorem State.modConn_firmware (s : State) (i : Nat) (g : Connection → Connection) : (s.modConn i g).firmware = s.firmware := rfl
@[simp] theorem State.modConn_mailbox (s : State) (i : Nat) (g : Connection → Connection) : (s.modConn i g).mailbox = s.mailbox := rfl
@[simp] theorem State.modConn_ports (s : State) (i : Nat) (g : Connection → Connection) : (s.modConn i g).ports = s.ports := rfl
@[simp] theorem State.modConn_router (s : State) (i : Nat) (g : Connection → Connection) : (s.modConn i g).router = s.router := rfl
@[simp] theorem State.modConn_express (s : State) (i : Nat) (g : Connection → Connection) : (s.modConn i g).express = s.express := rfl
@[simp] theorem State.modConn_train (s : State) (i : Nat) (g : Connection → Connection) : (s.modConn i g).train = s.train := rfl
@[simp] theorem State.modConn_dbg (s : State) (i : Nat) (g : Connection → Connection) : (s.modConn i g).dbg = s.dbg := rfl
@[simp] theorem State.modConn_tasting (s : State) (i : Nat) (g : Connection → Connection) : (s.modConn i g).tasting = s.tasting := rfl
@[simp] theorem State.modConn_sent (s : State) (i : Nat) (g : Connection → Connection) : (s.modConn i g).sent = s.sent := rfl
@[simp] theorem State.modConn_egress (s : State) (i : Nat) (g : Connection → Connection) : (s.modConn i g).egress = s.egress := rfl
@[simp] theorem State.modConn_fabric_queues (s : State) (i : Nat) (g : Connection → Connection) : (s.modConn i g).fabric.queues = s.fabric.queues := rfl
@[simp] theorem State.modConn_fabric_rings (s : State) (i : Nat) (g : Connection → Connection) : (s.modConn i g).fabric.rings = s.fabric.rings := rfl
@[simp] theorem State.modConn_conns (s : State) (i : Nat) (g : Connection → Connection) : (s.modConn i g).fabric.conns = mapIf (·.index == i) g s.fabric.conns := rfl
@[simp] theorem State.modConn_fabric_nextRead (s : State) (i : Nat) (g : Connection → Connection) : (s.modConn i g).fabric.nextRead = s.fabric.nextRead := rfl
@[simp] theorem State.modConn_fabric_jobs (s : State) (i : Nat) (g : Connection → Connection) : (s.modConn i g).fabric.jobs = s.fabric.jobs := rfl
@[simp] theorem State.modConn_fabric_nextJob (s : State) (i : Nat) (g : Connection → Connection) : (s.modConn i g).fabric.nextJob = s.fabric.nextJob := rfl
@[simp] theorem State.modConn_fabric_pmap (s : State) (i : Nat) (g : Connection → Connection) : (s.modConn i g).fabric.pmap = s.fabric.pmap := rfl
@[simp] theorem State.modConn_fabric_carriages (s : State) (i : Nat) (g : Connection → Connection) : (s.modConn i g).fabric.carriages = s.fabric.carriages := rfl
@[simp] theorem State.modConn_fabric_sessions (s : State) (i : Nat) (g : Connection → Connection) : (s.modConn i g).fabric.sessions = s.fabric.sessions := rfl

/-! ### modCarriage -/

@[simp] theorem State.modCarriage_pending (s : State) (i : Nat) (g : Carriage → Carriage) : (s.modCarriage i g).pending = s.pending := rfl
@[simp] theorem State.modCarriage_clock (s : State) (i : Nat) (g : Carriage → Carriage) : (s.modCarriage i g).clock = s.clock := rfl
@[simp] theorem State.modCarriage_power (s : State) (i : Nat) (g : Carriage → Carriage) : (s.modCarriage i g).power = s.power := rfl
@[simp] theorem State.modCarriage_fuses (s : State) (i : Nat) (g : Carriage → Carriage) : (s.modCarriage i g).fuses = s.fuses := rfl
@[simp] theorem State.modCarriage_journal (s : State) (i : Nat) (g : Carriage → Carriage) : (s.modCarriage i g).journal = s.journal := rfl
@[simp] theorem State.modCarriage_book (s : State) (i : Nat) (g : Carriage → Carriage) : (s.modCarriage i g).book = s.book := rfl
@[simp] theorem State.modCarriage_cellar (s : State) (i : Nat) (g : Carriage → Carriage) : (s.modCarriage i g).cellar = s.cellar := rfl
@[simp] theorem State.modCarriage_rng (s : State) (i : Nat) (g : Carriage → Carriage) : (s.modCarriage i g).rng = s.rng := rfl
@[simp] theorem State.modCarriage_engines (s : State) (i : Nat) (g : Carriage → Carriage) : (s.modCarriage i g).engines = s.engines := rfl
@[simp] theorem State.modCarriage_bd (s : State) (i : Nat) (g : Carriage → Carriage) : (s.modCarriage i g).bd = s.bd := rfl
@[simp] theorem State.modCarriage_firmware (s : State) (i : Nat) (g : Carriage → Carriage) : (s.modCarriage i g).firmware = s.firmware := rfl
@[simp] theorem State.modCarriage_mailbox (s : State) (i : Nat) (g : Carriage → Carriage) : (s.modCarriage i g).mailbox = s.mailbox := rfl
@[simp] theorem State.modCarriage_ports (s : State) (i : Nat) (g : Carriage → Carriage) : (s.modCarriage i g).ports = s.ports := rfl
@[simp] theorem State.modCarriage_router (s : State) (i : Nat) (g : Carriage → Carriage) : (s.modCarriage i g).router = s.router := rfl
@[simp] theorem State.modCarriage_express (s : State) (i : Nat) (g : Carriage → Carriage) : (s.modCarriage i g).express = s.express := rfl
@[simp] theorem State.modCarriage_train (s : State) (i : Nat) (g : Carriage → Carriage) : (s.modCarriage i g).train = s.train := rfl
@[simp] theorem State.modCarriage_dbg (s : State) (i : Nat) (g : Carriage → Carriage) : (s.modCarriage i g).dbg = s.dbg := rfl
@[simp] theorem State.modCarriage_tasting (s : State) (i : Nat) (g : Carriage → Carriage) : (s.modCarriage i g).tasting = s.tasting := rfl
@[simp] theorem State.modCarriage_sent (s : State) (i : Nat) (g : Carriage → Carriage) : (s.modCarriage i g).sent = s.sent := rfl
@[simp] theorem State.modCarriage_egress (s : State) (i : Nat) (g : Carriage → Carriage) : (s.modCarriage i g).egress = s.egress := rfl
@[simp] theorem State.modCarriage_fabric_queues (s : State) (i : Nat) (g : Carriage → Carriage) : (s.modCarriage i g).fabric.queues = s.fabric.queues := rfl
@[simp] theorem State.modCarriage_fabric_rings (s : State) (i : Nat) (g : Carriage → Carriage) : (s.modCarriage i g).fabric.rings = s.fabric.rings := rfl
@[simp] theorem State.modCarriage_fabric_conns (s : State) (i : Nat) (g : Carriage → Carriage) : (s.modCarriage i g).fabric.conns = s.fabric.conns := rfl
@[simp] theorem State.modCarriage_fabric_nextRead (s : State) (i : Nat) (g : Carriage → Carriage) : (s.modCarriage i g).fabric.nextRead = s.fabric.nextRead := rfl
@[simp] theorem State.modCarriage_fabric_jobs (s : State) (i : Nat) (g : Carriage → Carriage) : (s.modCarriage i g).fabric.jobs = s.fabric.jobs := rfl
@[simp] theorem State.modCarriage_fabric_nextJob (s : State) (i : Nat) (g : Carriage → Carriage) : (s.modCarriage i g).fabric.nextJob = s.fabric.nextJob := rfl
@[simp] theorem State.modCarriage_fabric_pmap (s : State) (i : Nat) (g : Carriage → Carriage) : (s.modCarriage i g).fabric.pmap = s.fabric.pmap := rfl
@[simp] theorem State.modCarriage_carriages (s : State) (i : Nat) (g : Carriage → Carriage) : (s.modCarriage i g).fabric.carriages = mapIf (·.number == i) g s.fabric.carriages := rfl
@[simp] theorem State.modCarriage_fabric_sessions (s : State) (i : Nat) (g : Carriage → Carriage) : (s.modCarriage i g).fabric.sessions = s.fabric.sessions := rfl

/-! ### modJob -/

@[simp] theorem State.modJob_pending (s : State) (i : Nat) (g : Job → Job) : (s.modJob i g).pending = s.pending := rfl
@[simp] theorem State.modJob_clock (s : State) (i : Nat) (g : Job → Job) : (s.modJob i g).clock = s.clock := rfl
@[simp] theorem State.modJob_power (s : State) (i : Nat) (g : Job → Job) : (s.modJob i g).power = s.power := rfl
@[simp] theorem State.modJob_fuses (s : State) (i : Nat) (g : Job → Job) : (s.modJob i g).fuses = s.fuses := rfl
@[simp] theorem State.modJob_journal (s : State) (i : Nat) (g : Job → Job) : (s.modJob i g).journal = s.journal := rfl
@[simp] theorem State.modJob_book (s : State) (i : Nat) (g : Job → Job) : (s.modJob i g).book = s.book := rfl
@[simp] theorem State.modJob_cellar (s : State) (i : Nat) (g : Job → Job) : (s.modJob i g).cellar = s.cellar := rfl
@[simp] theorem State.modJob_rng (s : State) (i : Nat) (g : Job → Job) : (s.modJob i g).rng = s.rng := rfl
@[simp] theorem State.modJob_engines (s : State) (i : Nat) (g : Job → Job) : (s.modJob i g).engines = s.engines := rfl
@[simp] theorem State.modJob_bd (s : State) (i : Nat) (g : Job → Job) : (s.modJob i g).bd = s.bd := rfl
@[simp] theorem State.modJob_firmware (s : State) (i : Nat) (g : Job → Job) : (s.modJob i g).firmware = s.firmware := rfl
@[simp] theorem State.modJob_mailbox (s : State) (i : Nat) (g : Job → Job) : (s.modJob i g).mailbox = s.mailbox := rfl
@[simp] theorem State.modJob_ports (s : State) (i : Nat) (g : Job → Job) : (s.modJob i g).ports = s.ports := rfl
@[simp] theorem State.modJob_router (s : State) (i : Nat) (g : Job → Job) : (s.modJob i g).router = s.router := rfl
@[simp] theorem State.modJob_express (s : State) (i : Nat) (g : Job → Job) : (s.modJob i g).express = s.express := rfl
@[simp] theorem State.modJob_train (s : State) (i : Nat) (g : Job → Job) : (s.modJob i g).train = s.train := rfl
@[simp] theorem State.modJob_dbg (s : State) (i : Nat) (g : Job → Job) : (s.modJob i g).dbg = s.dbg := rfl
@[simp] theorem State.modJob_tasting (s : State) (i : Nat) (g : Job → Job) : (s.modJob i g).tasting = s.tasting := rfl
@[simp] theorem State.modJob_sent (s : State) (i : Nat) (g : Job → Job) : (s.modJob i g).sent = s.sent := rfl
@[simp] theorem State.modJob_egress (s : State) (i : Nat) (g : Job → Job) : (s.modJob i g).egress = s.egress := rfl
@[simp] theorem State.modJob_fabric_queues (s : State) (i : Nat) (g : Job → Job) : (s.modJob i g).fabric.queues = s.fabric.queues := rfl
@[simp] theorem State.modJob_fabric_rings (s : State) (i : Nat) (g : Job → Job) : (s.modJob i g).fabric.rings = s.fabric.rings := rfl
@[simp] theorem State.modJob_fabric_conns (s : State) (i : Nat) (g : Job → Job) : (s.modJob i g).fabric.conns = s.fabric.conns := rfl
@[simp] theorem State.modJob_fabric_nextRead (s : State) (i : Nat) (g : Job → Job) : (s.modJob i g).fabric.nextRead = s.fabric.nextRead := rfl
@[simp] theorem State.modJob_jobs (s : State) (i : Nat) (g : Job → Job) : (s.modJob i g).fabric.jobs = mapIf (·.id == i) g s.fabric.jobs := rfl
@[simp] theorem State.modJob_fabric_nextJob (s : State) (i : Nat) (g : Job → Job) : (s.modJob i g).fabric.nextJob = s.fabric.nextJob := rfl
@[simp] theorem State.modJob_fabric_pmap (s : State) (i : Nat) (g : Job → Job) : (s.modJob i g).fabric.pmap = s.fabric.pmap := rfl
@[simp] theorem State.modJob_fabric_carriages (s : State) (i : Nat) (g : Job → Job) : (s.modJob i g).fabric.carriages = s.fabric.carriages := rfl
@[simp] theorem State.modJob_fabric_sessions (s : State) (i : Nat) (g : Job → Job) : (s.modJob i g).fabric.sessions = s.fabric.sessions := rfl

/-! ### modPort -/

@[simp] theorem State.modPort_pending (s : State) (i : Nat) (g : Port → Port) : (s.modPort i g).pending = s.pending := rfl
@[simp] theorem State.modPort_clock (s : State) (i : Nat) (g : Port → Port) : (s.modPort i g).clock = s.clock := rfl
@[simp] theorem State.modPort_power (s : State) (i : Nat) (g : Port → Port) : (s.modPort i g).power = s.power := rfl
@[simp] theorem State.modPort_fuses (s : State) (i : Nat) (g : Port → Port) : (s.modPort i g).fuses = s.fuses := rfl
@[simp] theorem State.modPort_journal (s : State) (i : Nat) (g : Port → Port) : (s.modPort i g).journal = s.journal := rfl
@[simp] theorem State.modPort_book (s : State) (i : Nat) (g : Port → Port) : (s.modPort i g).book = s.book := rfl
@[simp] theorem State.modPort_cellar (s : State) (i : Nat) (g : Port → Port) : (s.modPort i g).cellar = s.cellar := rfl
@[simp] theorem State.modPort_rng (s : State) (i : Nat) (g : Port → Port) : (s.modPort i g).rng = s.rng := rfl
@[simp] theorem State.modPort_engines (s : State) (i : Nat) (g : Port → Port) : (s.modPort i g).engines = s.engines := rfl
@[simp] theorem State.modPort_bd (s : State) (i : Nat) (g : Port → Port) : (s.modPort i g).bd = s.bd := rfl
@[simp] theorem State.modPort_firmware (s : State) (i : Nat) (g : Port → Port) : (s.modPort i g).firmware = s.firmware := rfl
@[simp] theorem State.modPort_fabric (s : State) (i : Nat) (g : Port → Port) : (s.modPort i g).fabric = s.fabric := rfl
@[simp] theorem State.modPort_mailbox (s : State) (i : Nat) (g : Port → Port) : (s.modPort i g).mailbox = s.mailbox := rfl
@[simp] theorem State.modPort_router (s : State) (i : Nat) (g : Port → Port) : (s.modPort i g).router = s.router := rfl
@[simp] theorem State.modPort_express (s : State) (i : Nat) (g : Port → Port) : (s.modPort i g).express = s.express := rfl
@[simp] theorem State.modPort_train (s : State) (i : Nat) (g : Port → Port) : (s.modPort i g).train = s.train := rfl
@[simp] theorem State.modPort_dbg (s : State) (i : Nat) (g : Port → Port) : (s.modPort i g).dbg = s.dbg := rfl
@[simp] theorem State.modPort_tasting (s : State) (i : Nat) (g : Port → Port) : (s.modPort i g).tasting = s.tasting := rfl
@[simp] theorem State.modPort_sent (s : State) (i : Nat) (g : Port → Port) : (s.modPort i g).sent = s.sent := rfl
@[simp] theorem State.modPort_egress (s : State) (i : Nat) (g : Port → Port) : (s.modPort i g).egress = s.egress := rfl

/-! ### modEring -/

@[simp] theorem State.modEring_pending (s : State) (i : Nat) (g : EventRing → EventRing) : (s.modEring i g).pending = s.pending := rfl
@[simp] theorem State.modEring_clock (s : State) (i : Nat) (g : EventRing → EventRing) : (s.modEring i g).clock = s.clock := rfl
@[simp] theorem State.modEring_power (s : State) (i : Nat) (g : EventRing → EventRing) : (s.modEring i g).power = s.power := rfl
@[simp] theorem State.modEring_fuses (s : State) (i : Nat) (g : EventRing → EventRing) : (s.modEring i g).fuses = s.fuses := rfl
@[simp] theorem State.modEring_journal (s : State) (i : Nat) (g : EventRing → EventRing) : (s.modEring i g).journal = s.journal := rfl
@[simp] theorem State.modEring_book (s : State) (i : Nat) (g : EventRing → EventRing) : (s.modEring i g).book = s.book := rfl
@[simp] theorem State.modEring_cellar (s : State) (i : Nat) (g : EventRing → EventRing) : (s.modEring i g).cellar = s.cellar := rfl
@[simp] theorem State.modEring_rng (s : State) (i : Nat) (g : EventRing → EventRing) : (s.modEring i g).rng = s.rng := rfl
@[simp] theorem State.modEring_engines (s : State) (i : Nat) (g : EventRing → EventRing) : (s.modEring i g).engines = s.engines := rfl
@[simp] theorem State.modEring_bd (s : State) (i : Nat) (g : EventRing → EventRing) : (s.modEring i g).bd = s.bd := rfl
@[simp] theorem State.modEring_firmware (s : State) (i : Nat) (g : EventRing → EventRing) : (s.modEring i g).firmware = s.firmware := rfl
@[simp] theorem State.modEring_fabric (s : State) (i : Nat) (g : EventRing → EventRing) : (s.modEring i g).fabric = s.fabric := rfl
@[simp] theorem State.modEring_mailbox (s : State) (i : Nat) (g : EventRing → EventRing) : (s.modEring i g).mailbox = s.mailbox := rfl
@[simp] theorem State.modEring_ports (s : State) (i : Nat) (g : EventRing → EventRing) : (s.modEring i g).ports = s.ports := rfl
@[simp] theorem State.modEring_express (s : State) (i : Nat) (g : EventRing → EventRing) : (s.modEring i g).express = s.express := rfl
@[simp] theorem State.modEring_train (s : State) (i : Nat) (g : EventRing → EventRing) : (s.modEring i g).train = s.train := rfl
@[simp] theorem State.modEring_dbg (s : State) (i : Nat) (g : EventRing → EventRing) : (s.modEring i g).dbg = s.dbg := rfl
@[simp] theorem State.modEring_tasting (s : State) (i : Nat) (g : EventRing → EventRing) : (s.modEring i g).tasting = s.tasting := rfl
@[simp] theorem State.modEring_sent (s : State) (i : Nat) (g : EventRing → EventRing) : (s.modEring i g).sent = s.sent := rfl
@[simp] theorem State.modEring_egress (s : State) (i : Nat) (g : EventRing → EventRing) : (s.modEring i g).egress = s.egress := rfl
@[simp] theorem State.modEring_router_nextSeq (s : State) (i : Nat) (g : EventRing → EventRing) : (s.modEring i g).router.nextSeq = s.router.nextSeq := rfl
@[simp] theorem State.modEring_router_bootSeq (s : State) (i : Nat) (g : EventRing → EventRing) : (s.modEring i g).router.bootSeq = s.router.bootSeq := rfl
@[simp] theorem State.modEring_router_early (s : State) (i : Nat) (g : EventRing → EventRing) : (s.modEring i g).router.early = s.router.early := rfl
@[simp] theorem State.modEring_router_earlyLost (s : State) (i : Nat) (g : EventRing → EventRing) : (s.modEring i g).router.earlyLost = s.router.earlyLost := rfl
@[simp] theorem State.modEring_router_ringCreated (s : State) (i : Nat) (g : EventRing → EventRing) : (s.modEring i g).router.ringCreated = s.router.ringCreated := rfl
@[simp] theorem State.modEring_rings (s : State) (i : Nat) (g : EventRing → EventRing) : (s.modEring i g).router.rings = mapIf (·.index == i) g s.router.rings := rfl
@[simp] theorem State.modEring_router_gddrRate (s : State) (i : Nat) (g : EventRing → EventRing) : (s.modEring i g).router.gddrRate = s.router.gddrRate := rfl

/-! ### modPeer -/

@[simp] theorem State.modPeer_pending (s : State) (i : Nat) (g : Peer → Peer) : (s.modPeer i g).pending = s.pending := rfl
@[simp] theorem State.modPeer_clock (s : State) (i : Nat) (g : Peer → Peer) : (s.modPeer i g).clock = s.clock := rfl
@[simp] theorem State.modPeer_power (s : State) (i : Nat) (g : Peer → Peer) : (s.modPeer i g).power = s.power := rfl
@[simp] theorem State.modPeer_fuses (s : State) (i : Nat) (g : Peer → Peer) : (s.modPeer i g).fuses = s.fuses := rfl
@[simp] theorem State.modPeer_journal (s : State) (i : Nat) (g : Peer → Peer) : (s.modPeer i g).journal = s.journal := rfl
@[simp] theorem State.modPeer_book (s : State) (i : Nat) (g : Peer → Peer) : (s.modPeer i g).book = s.book := rfl
@[simp] theorem State.modPeer_cellar (s : State) (i : Nat) (g : Peer → Peer) : (s.modPeer i g).cellar = s.cellar := rfl
@[simp] theorem State.modPeer_rng (s : State) (i : Nat) (g : Peer → Peer) : (s.modPeer i g).rng = s.rng := rfl
@[simp] theorem State.modPeer_engines (s : State) (i : Nat) (g : Peer → Peer) : (s.modPeer i g).engines = s.engines := rfl
@[simp] theorem State.modPeer_bd (s : State) (i : Nat) (g : Peer → Peer) : (s.modPeer i g).bd = s.bd := rfl
@[simp] theorem State.modPeer_firmware (s : State) (i : Nat) (g : Peer → Peer) : (s.modPeer i g).firmware = s.firmware := rfl
@[simp] theorem State.modPeer_fabric (s : State) (i : Nat) (g : Peer → Peer) : (s.modPeer i g).fabric = s.fabric := rfl
@[simp] theorem State.modPeer_mailbox (s : State) (i : Nat) (g : Peer → Peer) : (s.modPeer i g).mailbox = s.mailbox := rfl
@[simp] theorem State.modPeer_ports (s : State) (i : Nat) (g : Peer → Peer) : (s.modPeer i g).ports = s.ports := rfl
@[simp] theorem State.modPeer_router (s : State) (i : Nat) (g : Peer → Peer) : (s.modPeer i g).router = s.router := rfl
@[simp] theorem State.modPeer_express (s : State) (i : Nat) (g : Peer → Peer) : (s.modPeer i g).express = s.express := rfl
@[simp] theorem State.modPeer_dbg (s : State) (i : Nat) (g : Peer → Peer) : (s.modPeer i g).dbg = s.dbg := rfl
@[simp] theorem State.modPeer_tasting (s : State) (i : Nat) (g : Peer → Peer) : (s.modPeer i g).tasting = s.tasting := rfl
@[simp] theorem State.modPeer_sent (s : State) (i : Nat) (g : Peer → Peer) : (s.modPeer i g).sent = s.sent := rfl
@[simp] theorem State.modPeer_egress (s : State) (i : Nat) (g : Peer → Peer) : (s.modPeer i g).egress = s.egress := rfl
@[simp] theorem State.modPeer_train_roster (s : State) (i : Nat) (g : Peer → Peer) : (s.modPeer i g).train.roster = s.train.roster := rfl
@[simp] theorem State.modPeer_train_trainId (s : State) (i : Nat) (g : Peer → Peer) : (s.modPeer i g).train.trainId = s.train.trainId := rfl
@[simp] theorem State.modPeer_train_serial (s : State) (i : Nat) (g : Peer → Peer) : (s.modPeer i g).train.serial = s.train.serial := rfl
@[simp] theorem State.modPeer_train_history (s : State) (i : Nat) (g : Peer → Peer) : (s.modPeer i g).train.history = s.train.history := rfl
@[simp] theorem State.modPeer_train_lastIndex (s : State) (i : Nat) (g : Peer → Peer) : (s.modPeer i g).train.lastIndex = s.train.lastIndex := rfl
@[simp] theorem State.modPeer_train_versions (s : State) (i : Nat) (g : Peer → Peer) : (s.modPeer i g).train.versions = s.train.versions := rfl
@[simp] theorem State.modPeer_train_joinedId (s : State) (i : Nat) (g : Peer → Peer) : (s.modPeer i g).train.joinedId = s.train.joinedId := rfl
@[simp] theorem State.modPeer_train_state (s : State) (i : Nat) (g : Peer → Peer) : (s.modPeer i g).train.state = s.train.state := rfl
@[simp] theorem State.modPeer_train_joinSince (s : State) (i : Nat) (g : Peer → Peer) : (s.modPeer i g).train.joinSince = s.train.joinSince := rfl
@[simp] theorem State.modPeer_peers (s : State) (i : Nat) (g : Peer → Peer) : (s.modPeer i g).train.peers = mapIf (·.index == i) g s.train.peers := rfl
@[simp] theorem State.modPeer_train_heldPushes (s : State) (i : Nat) (g : Peer → Peer) : (s.modPeer i g).train.heldPushes = s.train.heldPushes := rfl

/-! ### emit -/

@[simp] theorem State.emit_pending (s : State) (o : Out) : (s.emit o).pending = s.pending := rfl
@[simp] theorem State.emit_clock (s : State) (o : Out) : (s.emit o).clock = s.clock := rfl
@[simp] theorem State.emit_power (s : State) (o : Out) : (s.emit o).power = s.power := rfl
@[simp] theorem State.emit_fuses (s : State) (o : Out) : (s.emit o).fuses = s.fuses := rfl
@[simp] theorem State.emit_journal (s : State) (o : Out) : (s.emit o).journal = s.journal := rfl
@[simp] theorem State.emit_book (s : State) (o : Out) : (s.emit o).book = s.book := rfl
@[simp] theorem State.emit_cellar (s : State) (o : Out) : (s.emit o).cellar = s.cellar := rfl
@[simp] theorem State.emit_rng (s : State) (o : Out) : (s.emit o).rng = s.rng := rfl
@[simp] theorem State.emit_engines (s : State) (o : Out) : (s.emit o).engines = s.engines := rfl
@[simp] theorem State.emit_bd (s : State) (o : Out) : (s.emit o).bd = s.bd := rfl
@[simp] theorem State.emit_firmware (s : State) (o : Out) : (s.emit o).firmware = s.firmware := rfl
@[simp] theorem State.emit_fabric (s : State) (o : Out) : (s.emit o).fabric = s.fabric := rfl
@[simp] theorem State.emit_mailbox (s : State) (o : Out) : (s.emit o).mailbox = s.mailbox := rfl
@[simp] theorem State.emit_ports (s : State) (o : Out) : (s.emit o).ports = s.ports := rfl
@[simp] theorem State.emit_router (s : State) (o : Out) : (s.emit o).router = s.router := rfl
@[simp] theorem State.emit_express (s : State) (o : Out) : (s.emit o).express = s.express := rfl
@[simp] theorem State.emit_train (s : State) (o : Out) : (s.emit o).train = s.train := rfl
@[simp] theorem State.emit_dbg (s : State) (o : Out) : (s.emit o).dbg = s.dbg := rfl
@[simp] theorem State.emit_tasting (s : State) (o : Out) : (s.emit o).tasting = s.tasting := rfl
@[simp] theorem State.emit_sent (s : State) (o : Out) : (s.emit o).sent = s.sent ++ [o] := rfl
@[simp] theorem State.emit_egress (s : State) (o : Out) : (s.emit o).egress = s.egress := rfl

/-! ### Looking up what an update changed -/

/-- Looking up by a key that the update keeps finds the updated element. -/
theorem find?_mapIf {α : Type} (key : α → Nat) (g : α → α) (hg : ∀ x, key (g x) = key x) (i k : Nat) (l : List α) :
    (mapIf (fun x => key x == i) g l).find? (fun x => key x == k) =
      (l.find? fun x => key x == k).map fun x => if k == i then g x else x := by
  induction l with
  | nil => rfl
  | cons a t ih =>
    simp only [mapIf, List.map_cons] at ih ⊢
    by_cases ha : key a = i
    · by_cases hk : key a = k
      · simp_all
      · have : key (if (key a == i) = true then g a else a) ≠ k := by simp_all
        simp_all
    · by_cases hk : key a = k
      · have : ¬ k = i := by omega
        simp_all
      · simp_all

theorem State.job?_modJob (s : State) (i k : Nat) (g : Job → Job) (hg : ∀ x, (g x).id = x.id) :
    (s.modJob i g).job? k = (s.job? k).map fun x => if k == i then g x else x := find?_mapIf Job.id g hg i k _
theorem State.conn?_modConn (s : State) (i k : Nat) (g : Connection → Connection) (hg : ∀ x, (g x).index = x.index) :
    (s.modConn i g).conn? k = (s.conn? k).map fun x => if k == i then g x else x := find?_mapIf Connection.index g hg i k _
theorem State.queue?_modQueue (s : State) (i k : Nat) (g : WorkQueue → WorkQueue) (hg : ∀ x, (g x).index = x.index) :
    (s.modQueue i g).queue? k = (s.queue? k).map fun x => if k == i then g x else x := find?_mapIf WorkQueue.index g hg i k _
theorem State.carriage?_modCarriage (s : State) (i k : Nat) (g : Carriage → Carriage) (hg : ∀ x, (g x).number = x.number) :
    (s.modCarriage i g).carriage? k = (s.carriage? k).map fun x => if k == i then g x else x := find?_mapIf Carriage.number g hg i k _
theorem State.peer?_modPeer (s : State) (i k : Nat) (g : Peer → Peer) (hg : ∀ x, (g x).index = x.index) :
    (s.modPeer i g).peer? k = (s.peer? k).map fun x => if k == i then g x else x := find?_mapIf Peer.index g hg i k _
theorem State.ering?_modEring (s : State) (i k : Nat) (g : EventRing → EventRing) (hg : ∀ x, (g x).index = x.index) :
    (s.modEring i g).ering? k = (s.ering? k).map fun x => if k == i then g x else x := find?_mapIf EventRing.index g hg i k _

end Sys2Proof.Machine
end

