-- ==== Sys2Proof/Laws/Fuses.lean ====
section
/-!
SUPPORT. Operations that leave the fuses as they are: memory, engines, the Cellar and the operands.
-/
namespace Sys2Proof.Machine

/-- Folding a step that keeps it keeps it. -/
theorem foldl_fuses {α : Type} (f : State → α → State) (h : ∀ s x, (f s x).fuses = s.fuses) (l : List α) (s : State) :
    (l.foldl f s).fuses = s.fuses := by
  induction l generalizing s with
  | nil => rfl
  | cons a t ih => simp [ih, h]

@[simp] theorem State.ensureMark_fuses (s : State) :
    (s.ensureMark).fuses = s.fuses := by
  grind [State.ensureMark, = foldl_fuses]

@[simp] theorem State.post_fuses (s : State) (c : Nat) (o : Out) :
    (s.post c o).fuses = s.fuses := by
  grind [State.post, State.modConn_fuses, State.emit_fuses, = foldl_fuses]

@[simp] theorem State.issueRead_fuses (s : State) (c : Nat) (rkey : Nat) (addr : Nat) (len : Nat) (u : ReadUse) :
    (s.issueRead c rkey addr len u).fuses = s.fuses := by
  grind [State.issueRead, State.modConn_fuses, State.post_fuses, = foldl_fuses]

@[simp] theorem State.pumpReads_fuses (fuel : Nat) (s : State) (x1 : Nat) :
    (State.pumpReads fuel s x1).fuses = s.fuses := by
  induction fuel generalizing s x1 with
  | zero => simp [State.pumpReads]
  | succ n ih => grind [State.pumpReads, State.modConn_fuses, State.post_fuses]

@[simp] theorem State.placeRecord_fuses (s : State) (ring : EventRing) (r : Bytes) :
    (s.placeRecord ring r).fuses = s.fuses := by
  simp [State.placeRecord]

@[simp] theorem State.offer_fuses (s : State) (ring : Nat) (r : Bytes) :
    (s.offer ring r).1.fuses = s.fuses := by
  grind [State.offer, State.modEring_fuses, State.post_fuses, State.placeRecord_fuses, = foldl_fuses]
theorem State.offer_fuses_eq (s : State) (ring : Nat) (r : Bytes) {s' : State} {q'}
    (h : (s.offer ring r) = (s', q')) : s'.fuses = s.fuses := by
  have e := State.offer_fuses s ring r
  rw [h] at e
  exact e

@[simp] theorem State.takeEventSeq_fuses (s : State) :
    (s.takeEventSeq).1.fuses = s.fuses := by
  grind [State.takeEventSeq, = foldl_fuses]
theorem State.takeEventSeq_fuses_eq (s : State) {s' : State} {q'}
    (h : (s.takeEventSeq) = (s', q')) : s'.fuses = s.fuses := by
  have e := State.takeEventSeq_fuses s
  rw [h] at e
  exact e

@[simp] theorem State.raiseN_fuses (fuel : Nat) (s : State) (x1 : Nat) (x2 : List Nat) (x3 : Option Nat) (x4 : Option Nat) :
    (State.raiseN fuel s x1 x2 x3 x4).fuses = s.fuses := by
  induction fuel generalizing s x1 x2 x3 x4 with
  | zero => rfl
  | succ n ih =>
    unfold State.raiseN
    repeat' (first | (simp only [State.modEring_fuses, State.ensureMark_fuses, State.offer_fuses,
      State.takeEventSeq_fuses]) | (refine (ih _ _ _ _ _).trans ?_) | split | (refine (foldl_fuses _ (fun _ _ => ?_) _ _).trans ?_))
    all_goals (first | (simp; done) | grind [→ State.offer_fuses_eq, → State.takeEventSeq_fuses_eq, State.modEring_fuses, State.ensureMark_fuses,
      State.offer_fuses, State.takeEventSeq_fuses])

@[simp] theorem State.raise_fuses (s : State) (src : Nat) (detail : List Nat) :
    (s.raise src detail).fuses = s.fuses := by
  simp [State.raise]

@[simp] theorem State.raiseFor_fuses (s : State) (src : Nat) (detail : List Nat) (car : Nat) :
    (s.raiseFor src detail car).fuses = s.fuses := by
  simp [State.raiseFor]

@[simp] theorem State.setLink_fuses (s : State) (p : Nat) (x : LinkState) :
    (s.setLink p x).fuses = s.fuses := by
  grind [State.setLink, State.modPort_fuses, State.raise_fuses, = foldl_fuses]

@[simp] theorem State.drainRing_fuses (fuel : Nat) (s : State) (x1 : Nat) :
    (State.drainRing fuel s x1).fuses = s.fuses := by
  induction fuel generalizing s x1 with
  | zero => rfl
  | succ n ih =>
    unfold State.drainRing
    repeat' (first | (simp only [State.modEring_fuses,
      State.placeRecord_fuses]) | (refine (ih _ _).trans ?_) | split | (refine (foldl_fuses _ (fun _ _ => ?_) _ _).trans ?_))
    all_goals (first | (simp; done) | grind [State.modEring_fuses, State.placeRecord_fuses])

@[simp] theorem State.raiseLoss_fuses (s : State) (ring : Nat) : (s.raiseLoss ring).fuses = s.fuses := by
  grind [State.raiseLoss, State.modEring_fuses, State.raiseN_fuses]

@[simp] theorem State.deliverEarly_fuses (s : State) (ring : Nat) :
    (s.deliverEarly ring).fuses = s.fuses := by
  unfold State.deliverEarly
  simp only []
  repeat' (first | (simp only [State.post_fuses, State.modEring_fuses]) | split)
  all_goals
    refine (foldl_fuses _ (fun s e => ?_) _ _).trans rfl
    grind [State.raiseLoss_fuses, → State.offer_fuses_eq]

@[simp] theorem State.placeUnit_fuses (s : State) (x : EventRing) (u : Bytes) (mark : Option Nat) :
    (s.placeUnit x u mark).fuses = s.fuses := by
  simp [State.placeUnit]

@[simp] theorem State.pumpExport_fuses (fuel : Nat) (s : State) :
    (State.pumpExport fuel s).fuses = s.fuses := by
  induction fuel generalizing s with
  | zero => rfl
  | succ n ih =>
    unfold State.pumpExport
    repeat' (first | (simp only [State.placeUnit_fuses]) | (refine (ih _).trans ?_) | split | (refine (foldl_fuses _ (fun _ _ => ?_) _ _).trans ?_))
    all_goals (first | (simp; done) | grind [State.placeUnit_fuses])

@[simp] theorem State.commitEntry_fuses (s : State) (b : Bytes) :
    (s.commitEntry b).fuses = s.fuses := by
  grind [State.commitEntry, State.ensureMark_fuses, State.pumpExport_fuses, = foldl_fuses]

@[simp] theorem State.tailEvent_fuses (s : State) (before : Nat) :
    (s.tailEvent before).fuses = s.fuses := by
  grind [State.tailEvent, State.raise_fuses, = foldl_fuses]

@[simp] theorem State.appendHeld_fuses (fuel : Nat) (s : State) :
    (State.appendHeld fuel s).fuses = s.fuses := by
  induction fuel generalizing s with
  | zero => simp [State.appendHeld]
  | succ n ih => grind [State.appendHeld, State.commitEntry_fuses]

@[simp] theorem State.appendBook_fuses (s : State) (f : BookFields) :
    (s.appendBook f).fuses = s.fuses := by
  grind [State.appendBook, State.commitEntry_fuses, State.tailEvent_fuses, = foldl_fuses]

@[simp] theorem State.appendReserved_fuses (s : State) (f : BookFields) :
    (s.appendReserved f).fuses = s.fuses := by
  simp [State.appendReserved]

@[simp] theorem State.checkpoint_fuses (s : State) :
    (s.checkpoint).fuses = s.fuses := by
  grind [State.checkpoint, State.appendBook_fuses, = foldl_fuses]

@[simp] theorem State.creditUnits_fuses (s : State) (n : Nat) :
    (s.creditUnits n).fuses = s.fuses := by
  simp [State.creditUnits]

@[simp] theorem State.restartExport_fuses (s : State) (ring : Option Nat) :
    (s.restartExport ring).fuses = s.fuses := by
  simp [State.restartExport]

@[simp] theorem State.writeDir_fuses (s : State) (slot : Nat) (record : Nat) (valid : Bool) :
    (s.writeDir slot record valid).fuses = s.fuses := by
  grind [State.writeDir, = foldl_fuses]

@[simp] theorem State.granuleEvent_fuses (s : State) :
    (s.granuleEvent).fuses = s.fuses := by
  grind [State.granuleEvent, State.raise_fuses, = foldl_fuses]

@[simp] theorem State.uncache_fuses (s : State) (r : Nat) :
    (s.uncache r).fuses = s.fuses := by
  simp [State.uncache]

@[simp] theorem State.putRecord_fuses (s : State) (r : Nat) (h : SlotHeader) (m : Bytes) :
    (s.putRecord r h m).fuses = s.fuses := by
  simp [State.putRecord]

@[simp] theorem State.sweepRecords_fuses (s : State) :
    (s.sweepRecords).fuses = s.fuses := by
  simp [State.sweepRecords]

@[simp] theorem State.keyChange_fuses (s : State) (code : Nat) (param : Nat) (status : Status) (slot : Option Nat) (carriage : Nat) (record : Option Nat) (subject : Bytes) :
    (s.keyChange code param status slot carriage record subject).fuses = s.fuses := by
  simp [State.keyChange]

@[simp] theorem State.cork_fuses (s : State) (r : SlotRecord) :
    (s.cork r).fuses = s.fuses := by
  grind [State.cork, State.raiseFor_fuses, State.uncache_fuses, State.keyChange_fuses, = foldl_fuses]

@[simp] theorem State.fetchRecord_fuses (s : State) (r : SlotRecord) :
    (s.fetchRecord r).1.fuses = s.fuses := by
  grind [State.fetchRecord, State.cork_fuses, = foldl_fuses]
theorem State.fetchRecord_fuses_eq (s : State) (r : SlotRecord) {s' : State} {q'}
    (h : (s.fetchRecord r) = (s', q')) : s'.fuses = s.fuses := by
  have e := State.fetchRecord_fuses s r
  rw [h] at e
  exact e

@[simp] theorem State.install_fuses (s : State) (slot : Nat) (r : Nat) (h : SlotHeader) (m : Bytes) :
    (s.install slot r h m).fuses = s.fuses := by
  simp [State.install]

@[simp] theorem State.emptySlot_fuses (s : State) (slot : Nat) :
    (s.emptySlot slot).fuses = s.fuses := by
  simp [State.emptySlot]

@[simp] theorem State.modLedger_fuses (s : State) (slot : Nat) (g : Ledger → Ledger) :
    (s.modLedger slot g).fuses = s.fuses := by
  simp [State.modLedger]

@[simp] theorem State.objectFailure_fuses (s : State) :
    (s.objectFailure).fuses = s.fuses := by
  grind [State.objectFailure, State.raise_fuses, = foldl_fuses]

@[simp] theorem State.setPool_fuses (s : State) (p : Pool) (l : List Engine) : (s.setPool p l).fuses = s.fuses := by cases p <;> rfl

@[simp] theorem State.modEngine_fuses (s : State) (p : Pool) (i : Nat) (g : Engine → Engine) :
    (s.modEngine p i g).fuses = s.fuses := by
  simp [State.modEngine]

@[simp] theorem State.occupy_fuses (s : State) (p : Pool) (u : List Nat) (id : Nat) (part : Nat) (g : Nat → Engine → Engine) :
    (s.occupy p u id part g).fuses = s.fuses := by
  simp [State.occupy, foldl_fuses]

@[simp] theorem State.freeBanks_fuses (s : State) (p : Pool) (id : Nat) (part : Nat) (after : Bank) :
    (s.freeBanks p id part after).fuses = s.fuses := by
  simp [State.freeBanks]

@[simp] theorem State.freeExpansion_fuses (s : State) (id : Nat) :
    (s.freeExpansion id).fuses = s.fuses := by
  simp [State.freeExpansion]

@[simp] theorem State.setVintage_fuses (s : State) (k : MicroKind) (v : Vintage) : (s.setVintage k v).fuses = s.fuses := by cases k <;> rfl

@[simp] theorem State.startKats_fuses (s : State) (k : MicroKind) :
    (s.startKats k).fuses = s.fuses := by
  grind [State.startKats, State.setPool_fuses, = foldl_fuses]

@[simp] theorem State.kats_fuses (s : State) :
    (s.kats).fuses = s.fuses := by
  simp [State.kats]

@[simp] theorem State.verifyPatch_fuses (s : State) (k : MicroKind) :
    (s.verifyPatch k).fuses = s.fuses := by
  grind [State.verifyPatch, State.setPool_fuses, State.setVintage_fuses, = foldl_fuses]

@[simp] theorem State.verifyPatches_fuses (s : State) :
    (s.verifyPatches).fuses = s.fuses := by
  simp [State.verifyPatches]

@[simp] theorem State.powerTest_fuses (s : State) (x : Pool × Nat) :
    (s.powerTest x).fuses = s.fuses := by
  grind [State.powerTest, State.modEngine_fuses, = foldl_fuses]

@[simp] theorem State.setTime_fuses (s : State) (x : TimeState) :
    (s.setTime x).fuses = s.fuses := by
  grind [State.setTime, State.raise_fuses, = foldl_fuses]

@[simp] theorem State.lockTime_fuses (s : State) :
    (s.lockTime).fuses = s.fuses := by
  simp [State.lockTime]

@[simp] theorem State.caughtUp_fuses (s : State) :
    (s.caughtUp).fuses = s.fuses := by
  grind [State.caughtUp, State.lockTime_fuses]

@[simp] theorem State.advance_fuses (s : State) (t : Nat) :
    (s.advance t).fuses = s.fuses := by
  grind [State.advance, State.ensureMark_fuses, State.caughtUp_fuses, = foldl_fuses]

@[simp] theorem State.recordFault_fuses (s : State) (f : MemFault) :
    (s.recordFault f).fuses = s.fuses := by
  grind [State.recordFault, = foldl_fuses]

@[simp] theorem State.assertAlarm_fuses (s : State) (cause : Nat) :
    (s.assertAlarm cause).fuses = s.fuses := by
  grind [State.assertAlarm, = foldl_fuses]

@[simp] theorem State.stick_fuses (s : State) (cause : Nat) :
    (s.stick cause).fuses = s.fuses := by
  simp [State.stick]

@[simp] theorem State.islandLost_fuses (s : State) (island : Nat) :
    (s.islandLost island).fuses = s.fuses := by
  grind [State.islandLost, State.raise_fuses, State.setLink_fuses, State.stick_fuses, = foldl_fuses]

@[simp] theorem State.repairMemories_fuses (s : State) :
    (s.repairMemories).fuses = s.fuses := by
  simp [State.repairMemories, foldl_fuses]

@[simp] theorem State.flagRow_fuses (s : State) (component : Nat) (row : Nat) (flags : Nat) :
    (s.flagRow component row flags).fuses = s.fuses := by
  simp [State.flagRow]

@[simp] theorem State.retireRow_fuses (s : State) (x : Nat × Nat) :
    (s.retireRow x).fuses = s.fuses := by
  grind [State.retireRow, State.raise_fuses, State.stick_fuses, State.flagRow_fuses, = foldl_fuses]

@[simp] theorem State.retireRows_fuses (s : State) :
    (s.retireRows).fuses = s.fuses := by
  simp [State.retireRows, foldl_fuses]

@[simp] theorem State.appendJob_fuses (s : State) (j : Job) :
    (s.appendJob j).1.fuses = s.fuses := by
  grind [State.appendJob, State.tailEvent_fuses, State.appendHeld_fuses, State.appendReserved_fuses, = foldl_fuses]
theorem State.appendJob_fuses_eq (s : State) (j : Job) {s' : State} {q'}
    (h : (s.appendJob j) = (s', q')) : s'.fuses = s.fuses := by
  have e := State.appendJob_fuses s j
  rw [h] at e
  exact e

@[simp] theorem State.placeOutput_fuses (s : State) (j : Job) (off : Nat) (data : Bytes) :
    (s.placeOutput j off data).fuses = s.fuses := by
  grind [State.placeOutput, State.modCarriage_fuses, State.post_fuses, = foldl_fuses]

@[simp] theorem State.complete_fuses (s : State) (j : Job) (written : Nat) (logged : Bool) :
    (s.complete j written logged).fuses = s.fuses := by
  grind [State.complete, State.modCring_fuses, State.post_fuses, = foldl_fuses]

@[simp] theorem State.unreserve_fuses (s : State) (q : Nat) :
    (s.unreserve q).fuses = s.fuses := by
  grind [State.unreserve, State.modCring_fuses, = foldl_fuses]

@[simp] theorem State.freeJobBanks_fuses (s : State) (id : Nat) :
    (s.freeJobBanks id).fuses = s.fuses := by
  grind [State.freeJobBanks, State.freeBanks_fuses, State.freeExpansion_fuses, = foldl_fuses]

@[simp] theorem State.dropJob_fuses (s : State) (id : Nat) :
    (s.dropJob id).fuses = s.fuses := by
  simp [State.dropJob]

@[simp] theorem State.releaseJob_fuses (s : State) (id : Nat) :
    (s.releaseJob id).fuses = s.fuses := by
  grind [State.releaseJob, State.modQueue_fuses, State.modCarriage_fuses, State.ensureMark_fuses, State.appendJob_fuses, State.placeOutput_fuses,
    State.complete_fuses, State.unreserve_fuses, State.dropJob_fuses, = foldl_fuses]

@[simp] theorem State.failJob_fuses (s : State) (id : Nat) (st : Status) (trailer : Bool) :
    (s.failJob id st trailer).fuses = s.fuses := by
  simp [State.failJob]

@[simp] theorem State.failBuffer_fuses (s : State) (id : Nat) (need : Nat) :
    (s.failBuffer id need).fuses = s.fuses := by
  simp [State.failBuffer]

@[simp] theorem State.releaseRecord_fuses (s : State) (id : Nat) :
    (s.releaseRecord id).fuses = s.fuses := by
  grind [State.releaseRecord, State.modJob_fuses, State.ensureMark_fuses, State.appendJob_fuses, State.placeOutput_fuses, State.dropJob_fuses,
    = foldl_fuses]

@[simp] theorem State.release_fuses (s : State) (id : Nat) :
    (s.release id).fuses = s.fuses := by
  grind [State.release, State.releaseJob_fuses, State.releaseRecord_fuses, = foldl_fuses]

@[simp] theorem State.failAny_fuses (s : State) (id : Nat) (st : Status) (trailer : Bool) :
    (s.failAny id st trailer).fuses = s.fuses := by
  simp [State.failAny]

@[simp] theorem State.reseed_fuses (s : State) :
    (s.reseed).fuses = s.fuses := by
  simp [State.reseed]

@[simp] theorem State.serveDraw_fuses (s : State) (fresh : Bool) (calls : Nat) :
    (s.serveDraw fresh calls).1.fuses = s.fuses := by
  grind [State.serveDraw, State.reseed_fuses, = foldl_fuses]
theorem State.serveDraw_fuses_eq (s : State) (fresh : Bool) (calls : Nat) {s' : State} {q'}
    (h : (s.serveDraw fresh calls) = (s', q')) : s'.fuses = s.fuses := by
  have e := State.serveDraw_fuses s fresh calls
  rw [h] at e
  exact e

@[simp] theorem State.drawNow_fuses (s : State) (len : Nat) :
    (s.drawNow len).1.fuses = s.fuses := by
  grind [State.drawNow, State.serveDraw_fuses, = foldl_fuses]
theorem State.drawNow_fuses_eq (s : State) (len : Nat) {s' : State} {q'}
    (h : (s.drawNow len) = (s', q')) : s'.fuses = s.fuses := by
  have e := State.drawNow_fuses s len
  rw [h] at e
  exact e

@[simp] theorem State.giveDraw_fuses (s : State) (x : Nat × Nat) (fresh : Bool) (calls : Nat) :
    (s.giveDraw x fresh calls).fuses = s.fuses := by
  simp [State.giveDraw]

@[simp] theorem State.failWaiting_fuses (s : State) (p : Job → Bool) :
    (s.failWaiting p).1.fuses = s.fuses := by
  simp [State.failWaiting, foldl_fuses]
theorem State.failWaiting_fuses_eq (s : State) (p : Job → Bool) {s' : State} {q'}
    (h : (s.failWaiting p) = (s', q')) : s'.fuses = s.fuses := by
  have e := State.failWaiting_fuses s p
  rw [h] at e
  exact e

@[simp] theorem State.dropPools_fuses (s : State) :
    (s.dropPools).fuses = s.fuses := by
  simp [State.dropPools]

@[simp] theorem State.drbgFailed_fuses (s : State) :
    (s.drbgFailed).fuses = s.fuses := by
  simp [State.drbgFailed]

@[simp] theorem State.holdBoot_fuses (s : State) :
    (s.holdBoot).fuses = s.fuses := by
  grind [State.holdBoot, State.setLink_fuses, = foldl_fuses]

@[simp] theorem State.fatalEntropy_fuses (s : State) (cause : Nat) :
    (s.fatalEntropy cause).fuses = s.fuses := by
  grind [State.fatalEntropy, State.raise_fuses, State.failWaiting_fuses, State.drbgFailed_fuses, State.holdBoot_fuses, = foldl_fuses]

@[simp] theorem State.serveWaiting_fuses (fuel : Nat) (s : State) :
    (State.serveWaiting fuel s).fuses = s.fuses := by
  induction fuel generalizing s with
  | zero => simp [State.serveWaiting]
  | succ n ih => grind [State.serveWaiting, State.giveDraw_fuses, State.fatalEntropy_fuses]

@[simp] theorem State.serveDraws_fuses (s : State) :
    (s.serveDraws).fuses = s.fuses := by
  grind [State.serveDraws, State.giveDraw_fuses, State.serveWaiting_fuses, = foldl_fuses]

@[simp] theorem State.countTranslation_fuses (s : State) (c : Nat) :
    (s.countTranslation c).fuses = s.fuses := by
  grind [State.countTranslation, State.modCarriage_fuses, State.raiseFor_fuses, = foldl_fuses]

@[simp] theorem State.countQuota_fuses (s : State) (c : Nat) :
    (s.countQuota c).fuses = s.fuses := by
  grind [State.countQuota, State.modCarriage_fuses, State.raiseFor_fuses, = foldl_fuses]

@[simp] theorem State.resolveIn_fuses (s : State) (idx : Nat) (kind : KeyKind) (prepared : Bool) (corked : Bool) (part : Bool) (access : SlotHeader → Bool) (fit : SlotHeader → Bool) :
    (s.resolveIn idx kind prepared corked part access fit).1.fuses = s.fuses := by
  grind [State.resolveIn, State.fetchRecord_fuses, = foldl_fuses]
theorem State.resolveIn_fuses_eq (s : State) (idx : Nat) (kind : KeyKind) (prepared : Bool) (corked : Bool) (part : Bool) (access : SlotHeader → Bool) (fit : SlotHeader → Bool) {s' : State} {q'}
    (h : (s.resolveIn idx kind prepared corked part access fit) = (s', q')) : s'.fuses = s.fuses := by
  have e := State.resolveIn_fuses s idx kind prepared corked part access fit
  rw [h] at e
  exact e

@[simp] theorem State.resolveSlot_fuses (s : State) (idx : Nat) (carriage : Nat) (kind : KeyKind) (prepared : Bool) (corked : Bool) (part : Bool) (fit : SlotHeader → Bool) :
    (s.resolveSlot idx carriage kind prepared corked part fit).1.fuses = s.fuses := by
  simp [State.resolveSlot]
theorem State.resolveSlot_fuses_eq (s : State) (idx : Nat) (carriage : Nat) (kind : KeyKind) (prepared : Bool) (corked : Bool) (part : Bool) (fit : SlotHeader → Bool) {s' : State} {q'}
    (h : (s.resolveSlot idx carriage kind prepared corked part fit) = (s', q')) : s'.fuses = s.fuses := by
  have e := State.resolveSlot_fuses s idx carriage kind prepared corked part fit
  rw [h] at e
  exact e

@[simp] theorem State.resolveWrapped_fuses (s : State) (idx : Nat) (carriage : Nat) (fit : SlotHeader → Bool) :
    (s.resolveWrapped idx carriage fit).1.fuses = s.fuses := by
  grind [State.resolveWrapped, State.objectFailure_fuses, = foldl_fuses]
theorem State.resolveWrapped_fuses_eq (s : State) (idx : Nat) (carriage : Nat) (fit : SlotHeader → Bool) {s' : State} {q'}
    (h : (s.resolveWrapped idx carriage fit) = (s', q')) : s'.fuses = s.fuses := by
  have e := State.resolveWrapped_fuses s idx carriage fit
  rw [h] at e
  exact e

@[simp] theorem State.targetOk_fuses (s : State) (j : Job) (idx : Nat) (replace : Bool) :
    (s.targetOk j idx replace).1.fuses = s.fuses := by
  grind [State.targetOk, State.resolveSlot_fuses, = foldl_fuses]
theorem State.targetOk_fuses_eq (s : State) (j : Job) (idx : Nat) (replace : Bool) {s' : State} {q'}
    (h : (s.targetOk j idx replace) = (s', q')) : s'.fuses = s.fuses := by
  have e := State.targetOk_fuses s j idx replace
  rw [h] at e
  exact e

@[simp] theorem State.step10_fuses (s : State) (j : Job) (op : Op) :
    (s.step10 j op).1.fuses = s.fuses := by
  unfold State.step10
  repeat' (first | (simp only [State.resolveSlot_fuses, State.resolveWrapped_fuses,
    State.targetOk_fuses]) | split | (refine (foldl_fuses _ (fun _ _ => ?_) _ _).trans ?_))
  all_goals (first | (simp; done) | grind [→ State.resolveSlot_fuses_eq, → State.resolveWrapped_fuses_eq, → State.targetOk_fuses_eq,
    State.resolveSlot_fuses, State.resolveWrapped_fuses, State.targetOk_fuses])
theorem State.step10_fuses_eq (s : State) (j : Job) (op : Op) {s' : State} {q'}
    (h : (s.step10 j op) = (s', q')) : s'.fuses = s.fuses := by
  have e := State.step10_fuses s j op
  rw [h] at e
  exact e

@[simp] theorem State.leafEvent_fuses (s : State) (slot : Nat) (low : Nat) (owner : Nat) :
    (s.leafEvent slot low owner).fuses = s.fuses := by
  grind [State.leafEvent, State.raiseFor_fuses, State.modLedger_fuses, = foldl_fuses]

@[simp] theorem State.leafEvents_fuses (s : State) :
    (s.leafEvents).fuses = s.fuses := by
  grind [State.leafEvents, State.leafEvent_fuses, = foldl_fuses]

@[simp] theorem State.takeLeaf_fuses (s : State) (id : Nat) (slot : Nat) (low : Nat) (owner : Nat) :
    (s.takeLeaf id slot low owner).fuses = s.fuses := by
  grind [State.takeLeaf, State.modJob_fuses, State.modLedger_fuses, State.leafEvent_fuses, = foldl_fuses]

@[simp] theorem State.setParts_fuses (s : State) (id : Nat) :
    (s.setParts id).fuses = s.fuses := by
  grind [State.setParts, State.modJob_fuses, = foldl_fuses]

@[simp] theorem State.readPieces_fuses (fuel : Nat) (s : State) (x1 : Nat) (x2 : Nat) (x3 : Nat) (x4 : Nat) (x5 : Nat) (x6 : Nat) :
    (State.readPieces fuel s x1 x2 x3 x4 x5 x6).fuses = s.fuses := by
  induction fuel generalizing s x1 x2 x3 x4 x5 x6 with
  | zero => simp [State.readPieces]
  | succ n ih => grind [State.readPieces, State.issueRead_fuses]

@[simp] theorem State.startFetch_fuses (s : State) (id : Nat) :
    (s.startFetch id).fuses = s.fuses := by
  grind [State.startFetch, State.modJob_fuses, State.failAny_fuses, State.setParts_fuses, State.readPieces_fuses, = foldl_fuses]

@[simp] theorem State.step11_fuses (s : State) (id : Nat) :
    (s.step11 id).fuses = s.fuses := by
  grind [State.step11, State.modJob_fuses, State.raise_fuses, State.tailEvent_fuses, State.failJob_fuses, State.startFetch_fuses, = foldl_fuses]

@[simp] theorem State.assignLeaf_fuses (s : State) (id : Nat) :
    (s.assignLeaf id).fuses = s.fuses := by
  grind [State.assignLeaf, State.modJob_fuses, State.failJob_fuses, State.takeLeaf_fuses, State.step11_fuses, = foldl_fuses]

@[simp] theorem State.queueRecord_fuses (s : State) (id : Nat) :
    (s.queueRecord id).fuses = s.fuses := by
  simp [State.queueRecord]

@[simp] theorem State.takeRecord_fuses (s : State) (id : Nat) (op : Op) :
    (s.takeRecord id op).fuses = s.fuses := by
  grind [State.takeRecord, State.modJob_fuses, State.step11_fuses, State.queueRecord_fuses, = foldl_fuses]

@[simp] theorem State.afterKey_fuses (s : State) (id : Nat) (op : Op) (r : Resolved) :
    (s.afterKey id op r).fuses = s.fuses := by
  grind [State.afterKey, State.modJob_fuses, State.failJob_fuses, State.failBuffer_fuses, State.step11_fuses, State.assignLeaf_fuses,
    State.takeRecord_fuses, = foldl_fuses]

@[simp] theorem State.admit8_fuses (s : State) (id : Nat) (j : Job) (op : Op) (conn : Nat) :
    (s.admit8 id j op conn).fuses = s.fuses := by
  grind [State.admit8, State.modJob_fuses, State.failJob_fuses, State.countTranslation_fuses, State.countQuota_fuses, State.step10_fuses,
    State.afterKey_fuses, = foldl_fuses]

@[simp] theorem State.admitEntry_fuses (s : State) (id : Nat) (conn : Nat) :
    (s.admitEntry id conn).fuses = s.fuses := by
  unfold State.admitEntry
  repeat' (first | (simp only [State.modJob_fuses, State.failJob_fuses, State.failBuffer_fuses,
    State.admit8_fuses]) | split | (refine (foldl_fuses _ (fun _ _ => ?_) _ _).trans ?_))
  all_goals (first | (simp; done) | grind [State.modJob_fuses, State.failJob_fuses, State.failBuffer_fuses, State.admit8_fuses])

@[simp] theorem State.consume_fuses (fuel : Nat) (s : State) (x1 : Nat) :
    (State.consume fuel s x1).fuses = s.fuses := by
  induction fuel generalizing s x1 with
  | zero => rfl
  | succ n ih =>
    rw [State.consume]
    simp only []
    repeat' split
    all_goals simp [ih]

@[simp] theorem State.runQueue_fuses (s : State) (qi : Nat) :
    (s.runQueue qi).fuses = s.fuses := by
  simp [State.runQueue]

@[simp] theorem State.serveRecords_fuses (fuel : Nat) (s : State) :
    (State.serveRecords fuel s).fuses = s.fuses := by
  induction fuel generalizing s with
  | zero => simp [State.serveRecords]
  | succ n ih => grind [State.serveRecords, State.modJob_fuses, State.step11_fuses]

@[simp] theorem State.serveBook_fuses (s : State) :
    (s.serveBook).fuses = s.fuses := by
  grind [State.serveBook, State.step11_fuses, = foldl_fuses]

@[simp] theorem State.serveQueues_fuses (s : State) :
    (s.serveQueues).fuses = s.fuses := by
  grind [State.serveQueues, State.modQueue_fuses, State.runQueue_fuses, = foldl_fuses]

@[simp] theorem State.cacheExpanded_fuses (s : State) (j : Job) :
    (s.cacheExpanded j).fuses = s.fuses := by
  grind [State.cacheExpanded, State.cork_fuses, = foldl_fuses]

@[simp] theorem State.takeSeed_fuses (s : State) (tile : Nat) :
    (s.takeSeed tile).1.fuses = s.fuses := by
  grind [State.takeSeed, State.modEngine_fuses, State.serveDraw_fuses, = foldl_fuses]
theorem State.takeSeed_fuses_eq (s : State) (tile : Nat) {s' : State} {q'}
    (h : (s.takeSeed tile) = (s', q')) : s'.fuses = s.fuses := by
  have e := State.takeSeed_fuses s tile
  rw [h] at e
  exact e

@[simp] theorem State.startExpansion_fuses (s : State) (id : Nat) :
    (s.startExpansion id).fuses = s.fuses := by
  grind [State.startExpansion, State.modEngine_fuses, State.failAny_fuses, State.takeSeed_fuses, = foldl_fuses]

@[simp] theorem State.startExpansions_fuses (s : State) :
    (s.startExpansions).fuses = s.fuses := by
  simp [State.startExpansions, foldl_fuses]

@[simp] theorem State.settle_fuses (s : State) :
    (s.settle).fuses = s.fuses := by
  simp [State.settle]

@[simp] theorem State.makeReady_fuses (s : State) (id : Nat) :
    (s.makeReady id).fuses = s.fuses := by
  grind [State.makeReady, State.modJob_fuses, State.failJob_fuses, = foldl_fuses]

@[simp] theorem State.afterInput_fuses (s : State) (id : Nat) :
    (s.afterInput id).fuses = s.fuses := by
  grind [State.afterInput, State.failBuffer_fuses, State.failAny_fuses, State.setParts_fuses, State.makeReady_fuses, = foldl_fuses]

@[simp] theorem State.splitRecords_fuses (s : State) (p : Job) :
    (s.splitRecords p).fuses = s.fuses := by
  simp [State.splitRecords, foldl_fuses]

@[simp] theorem State.charge_fuses (s : State) (j : Job) (p : Pool) :
    (s.charge j p).fuses = s.fuses := by
  simp [State.charge]

@[simp] theorem State.start_fuses (s : State) (j : Job) (op : Op) (part : Nat) (q : JobPart) (u : List Nat) :
    (s.start j op part q u).fuses = s.fuses := by
  grind [State.start, State.modJob_fuses, State.occupy_fuses, State.serveDraw_fuses, State.takeSeed_fuses, State.charge_fuses, = foldl_fuses]

@[simp] theorem State.dispatch_fuses (s : State) (id : Nat) (part : Nat) :
    (s.dispatch id part).fuses = s.fuses := by
  unfold State.dispatch
  repeat' (first | (simp only [State.modJob_fuses, State.failAny_fuses,
    State.start_fuses]) | split | (refine (foldl_fuses _ (fun _ _ => ?_) _ _).trans ?_))
  all_goals (first | (simp; done) | grind [State.modJob_fuses, State.failAny_fuses, State.start_fuses])

@[simp] theorem State.finish_fuses (s : State) (id : Nat) (r : OpResult) :
    (s.finish id r).fuses = s.fuses := by
  simp [State.finish]

@[simp] theorem State.stagePart_fuses (s : State) (id : Nat) (part : Nat) (p : Pool) :
    (s.stagePart id part p).fuses = s.fuses := by
  simp [State.stagePart]

@[simp] theorem State.commitPart_fuses (s : State) (id : Nat) (part : Nat) :
    (s.commitPart id part).fuses = s.fuses := by
  grind [State.commitPart, State.modJob_fuses, State.cacheExpanded_fuses, State.stagePart_fuses, = foldl_fuses]

@[simp] theorem State.finishNow_fuses (s : State) (id : Nat) (r : OpResult) :
    (s.finishNow id r).fuses = s.fuses := by
  simp [State.finishNow]

@[simp] theorem State.closeNow_fuses (s : State) (id : Nat) (r : OpResult) :
    (s.closeNow id r).fuses = s.fuses := by
  grind [State.closeNow, State.release_fuses, State.finishNow_fuses, = foldl_fuses]

@[simp] theorem State.abandonPart_fuses (s : State) (id : Nat) (part : Nat) (fault : Bool) (hold : Bool) :
    (s.abandonPart id part fault hold).fuses = s.fuses := by
  grind [State.abandonPart, State.modJob_fuses, State.freeBanks_fuses, State.failAny_fuses, = foldl_fuses]

@[simp] theorem State.abandonEngine_fuses (s : State) (p : Pool) (i : Nat) (fault : Bool) (hold : Bool) :
    (s.abandonEngine p i fault hold).fuses = s.fuses := by
  simp [State.abandonEngine, foldl_fuses]

@[simp] theorem State.crossEngine_fuses (s : State) (p : Pool) (i : Nat) :
    (s.crossEngine p i).fuses = s.fuses := by
  grind [State.crossEngine, State.stagePart_fuses, = foldl_fuses]

@[simp] theorem State.uncoupleEngine_fuses (s : State) (p : Pool) (i : Nat) (hold : Bool) :
    (s.uncoupleEngine p i hold).fuses = s.fuses := by
  simp [State.uncoupleEngine]

@[simp] theorem State.domainOff_fuses (s : State) (d : Nat) (hold : Bool) :
    (s.domainOff d hold).fuses = s.fuses := by
  simp [State.domainOff, foldl_fuses]

@[simp] theorem State.domainOnNow_fuses (s : State) (d : Nat) :
    (s.domainOnNow d).fuses = s.fuses := by
  grind [State.domainOnNow, State.kats_fuses, State.powerTest_fuses, = foldl_fuses]

@[simp] theorem State.countFault_fuses (s : State) (p : Pool) (i : Nat) :
    (s.countFault p i).1.fuses = s.fuses := by
  grind [State.countFault, State.modEngine_fuses, = foldl_fuses]
theorem State.countFault_fuses_eq (s : State) (p : Pool) (i : Nat) {s' : State} {q'}
    (h : (s.countFault p i) = (s', q')) : s'.fuses = s.fuses := by
  have e := State.countFault_fuses s p i
  rw [h] at e
  exact e

@[simp] theorem State.withdraw_fuses (s : State) (st : Status) (p : Job → Bool) :
    (s.withdraw st p).fuses = s.fuses := by
  grind [State.withdraw, State.failAny_fuses, = foldl_fuses]

@[simp] theorem State.takeForExpress_fuses (s : State) (p : Pool) (i : Nat) :
    (s.takeForExpress p i).fuses = s.fuses := by
  simp [State.takeForExpress]

@[simp] theorem State.fillCoopers_fuses (fuel : Nat) (s : State) :
    (State.fillCoopers fuel s).fuses = s.fuses := by
  induction fuel generalizing s with
  | zero => simp [State.fillCoopers]
  | succ n ih => grind [State.fillCoopers, State.takeForExpress_fuses]

@[simp] theorem State.fillDray_fuses (s : State) :
    (s.fillDray).fuses = s.fuses := by
  grind [State.fillDray, State.takeForExpress_fuses, = foldl_fuses]

@[simp] theorem State.drawBlinding_fuses (s : State) :
    (s.drawBlinding).1.fuses = s.fuses := by
  grind [State.drawBlinding, State.serveDraw_fuses, = foldl_fuses]
theorem State.drawBlinding_fuses_eq (s : State) {s' : State} {q'}
    (h : (s.drawBlinding) = (s', q')) : s'.fuses = s.fuses := by
  have e := State.drawBlinding_fuses s
  rw [h] at e
  exact e

@[simp] theorem State.redispatchFrame_fuses (s : State) (id : Nat) :
    (s.redispatchFrame id).fuses = s.fuses := by
  grind [State.redispatchFrame, State.drawBlinding_fuses, = foldl_fuses]

@[simp] theorem State.moveFrames_fuses (s : State) :
    (s.moveFrames).fuses = s.fuses := by
  simp [State.moveFrames, foldl_fuses]

@[simp] theorem State.faultFrames_fuses (s : State) (p : Pool) (i : Nat) :
    (s.faultFrames p i).fuses = s.fuses := by
  grind [State.faultFrames, State.redispatchFrame_fuses, = foldl_fuses]

@[simp] theorem State.reserveExpress_fuses (s : State) :
    (s.reserveExpress).fuses = s.fuses := by
  grind [State.reserveExpress, State.fillCoopers_fuses, State.fillDray_fuses, State.moveFrames_fuses, = foldl_fuses]

@[simp] theorem State.returnExpress_fuses (s : State) :
    (s.returnExpress).fuses = s.fuses := by
  grind [State.returnExpress, = foldl_fuses]

@[simp] theorem State.endSession_fuses (s : State) (id : Nat) (cause : Nat) :
    (s.endSession id cause).fuses = s.fuses := by
  grind [State.endSession, State.raise_fuses, = foldl_fuses]

@[simp] theorem State.breakQueue_fuses (s : State) (q : Nat) :
    (s.breakQueue q).fuses = s.fuses := by
  grind [State.breakQueue, State.modQueue_fuses, State.raise_fuses, = foldl_fuses]

@[simp] theorem State.loseInputs_fuses (s : State) (q : Nat) :
    (s.loseInputs q).fuses = s.fuses := by
  simp [State.loseInputs, foldl_fuses]

@[simp] theorem State.failConnection_fuses (s : State) (c : Nat) :
    (s.failConnection c).fuses = s.fuses := by
  grind [State.failConnection, State.modConn_fuses, State.endSession_fuses, State.breakQueue_fuses, State.loseInputs_fuses, = foldl_fuses]

@[simp] theorem State.refuseRequest_fuses (s : State) (c : Nat) (invalid : Bool) :
    (s.refuseRequest c invalid).fuses = s.fuses := by
  simp [State.refuseRequest]

theorem State.writePackets_fuses (conn rkey : Nat) (put : State → Region → Nat → Bytes → State)
    (h : ∀ s r o b, (put s r o b).fuses = s.fuses) (fuel : Nat) (s : State) (addr : Nat) (data : Bytes) :
    (State.writePackets conn rkey put fuel s addr data).fuses = s.fuses := by
  induction fuel generalizing s addr data with
  | zero => rfl
  | succ n ih =>
    unfold State.writePackets
    repeat' (first | split | (simp only [ih, h, State.emit_fuses, State.refuseRequest_fuses]))

theorem State.rdmaWrite_fuses (s : State) (conn rkey addr : Nat) (data : Bytes) (put : State → Region → Nat → Bytes → State)
    (h : ∀ s r o b, (put s r o b).fuses = s.fuses) : (s.rdmaWrite conn rkey addr data put).fuses = s.fuses := by
  unfold State.rdmaWrite
  repeat' (first | split | (simp only [State.writePackets_fuses conn rkey put h, State.refuseRequest_fuses]))

@[simp] theorem State.dropWindow_fuses (s : State) (conn : Nat) :
    (s.dropWindow conn).fuses = s.fuses := by
  simp [State.dropWindow]

@[simp] theorem State.dropDoorbell_fuses (s : State) (conn : Nat) (q : Nat) :
    (s.dropDoorbell conn q).fuses = s.fuses := by
  simp [State.dropDoorbell]

@[simp] theorem State.doorbellWord_fuses (s : State) (conn : Nat) (q : Nat) (w : Bytes) :
    (s.doorbellWord conn q w).fuses = s.fuses := by
  grind [State.doorbellWord, State.modQueue_fuses, State.runQueue_fuses, State.dropWindow_fuses, State.dropDoorbell_fuses, = foldl_fuses]

@[simp] theorem State.creditWord_fuses (s : State) (conn : Nat) (r : Nat) (w : Bytes) :
    (s.creditWord conn r w).fuses = s.fuses := by
  grind [State.creditWord, State.modCring_fuses, State.modConn_fuses, State.settle_fuses, State.dropWindow_fuses, = foldl_fuses]

@[simp] theorem State.windowWord_fuses (s : State) (conn : Nat) (off : Nat) (w : Bytes) :
    (s.windowWord conn off w).fuses = s.fuses := by
  grind [State.windowWord, State.doorbellWord_fuses, State.creditWord_fuses, = foldl_fuses]

@[simp] theorem State.windowWords_fuses (s : State) (conn : Nat) (off : Nat) (data : Bytes) :
    (s.windowWords conn off data).fuses = s.fuses := by
  simp [State.windowWords, foldl_fuses]

@[simp] theorem State.windowWrite_fuses (s : State) (conn : Nat) (off : Nat) (data : Bytes) :
    (s.windowWrite conn off data).fuses = s.fuses := by
  grind [State.windowWrite, State.modConn_fuses, State.dropWindow_fuses, State.dropDoorbell_fuses, State.windowWords_fuses, = foldl_fuses]

@[simp] theorem State.placePacket_fuses (conn : Nat) (s : State) (r : Region) (off : Nat) (data : Bytes) :
    (State.placePacket conn s r off data).fuses = s.fuses := by
  unfold State.placePacket
  repeat' (first | (simp only [State.modQueue_fuses, State.modCarriage_fuses,
    State.windowWrite_fuses]) | split | (refine (foldl_fuses _ (fun _ _ => ?_) _ _).trans ?_))
  all_goals (first | (simp; done) | grind [State.modQueue_fuses, State.modCarriage_fuses, State.windowWrite_fuses])

@[simp] theorem State.prefetch_fuses (s : State) (qi : Nat) (count : Nat) (consume : Bool) :
    (s.prefetch qi count consume).fuses = s.fuses := by
  grind [State.prefetch, State.modQueue_fuses, State.runQueue_fuses, = foldl_fuses]

@[simp] theorem State.runOp_fuses (s : State) (id : Nat) (op : Op) (f : State → Job → OpResult) :
    (s.runOp id op f).fuses = s.fuses := by
  grind [State.runOp, State.finish_fuses, = foldl_fuses]

@[simp] theorem State.dsaTrap_fuses (s : State) (id : Nat) :
    (s.dsaTrap id).fuses = s.fuses := by
  grind [State.dsaTrap, State.raise_fuses, State.verifyPatches_fuses, State.crossEngine_fuses, State.countFault_fuses, = foldl_fuses]

@[simp] theorem State.runSign_fuses (s : State) (id : Nat) (op : Op) (f : State → Job → OpResult) :
    (s.runSign id op f).fuses = s.fuses := by
  grind [State.runSign, State.finish_fuses, State.dsaTrap_fuses, = foldl_fuses]

@[simp] theorem State.pkRoom_fuses (fuel : Nat) (s : State) (x1 : Nat) :
    (State.pkRoom fuel s x1).fuses = s.fuses := by
  induction fuel generalizing s x1 with
  | zero => simp [State.pkRoom]
  | succ n ih => grind [State.pkRoom]

@[simp] theorem State.pkStore_fuses (s : State) (j : Job) (check : Nat) :
    (s.pkStore j check).1.fuses = s.fuses := by
  simp [State.pkStore]
theorem State.pkStore_fuses_eq (s : State) (j : Job) (check : Nat) {s' : State} {q'}
    (h : (s.pkStore j check) = (s', q')) : s'.fuses = s.fuses := by
  have e := State.pkStore_fuses s j check
  rw [h] at e
  exact e

@[simp] theorem State.mcePkCache_fuses (s : State) (id : Nat) :
    (s.mcePkCache id).fuses = s.fuses := by
  grind [State.mcePkCache, State.finishNow_fuses, State.pkStore_fuses, = foldl_fuses]

@[simp] theorem State.pkUse_fuses (s : State) (id : Nat) :
    (s.pkUse id).fuses = s.fuses := by
  grind [State.pkUse, = foldl_fuses]

@[simp] theorem State.mceKeygen_fuses (s : State) (id : Nat) :
    (s.mceKeygen id).fuses = s.fuses := by
  grind [State.mceKeygen, State.finish_fuses, = foldl_fuses]

@[simp] theorem State.mceStop_fuses (s : State) (id : Nat) :
    (s.mceStop id).fuses = s.fuses := by
  grind [State.mceStop, State.modJob_fuses, State.failAny_fuses, State.abandonPart_fuses, = foldl_fuses]

@[simp] theorem State.treeRoom_fuses (fuel : Nat) (s : State) (x1 : Nat) :
    (State.treeRoom fuel s x1).fuses = s.fuses := by
  induction fuel generalizing s x1 with
  | zero => simp [State.treeRoom]
  | succ n ih => grind [State.treeRoom]

@[simp] theorem State.cacheTree_fuses (s : State) (slot : Nat) (level : Nat) (index : Nat) :
    (s.cacheTree slot level index).fuses = s.fuses := by
  grind [State.cacheTree, State.treeRoom_fuses, = foldl_fuses]

@[simp] theorem State.useTrees_fuses (s : State) (slot : Nat) (ls : List TreeLevel) (q : Nat) :
    (s.useTrees slot ls q).fuses = s.fuses := by
  simp [State.useTrees]

@[simp] theorem State.statefulKeygen_fuses (s : State) (id : Nat) (op : Op) :
    (s.statefulKeygen id op).fuses = s.fuses := by
  grind [State.statefulKeygen, State.modJob_fuses, State.install_fuses, State.closeNow_fuses, State.cacheTree_fuses, = foldl_fuses]

@[simp] theorem State.statefulSign_fuses (s : State) (id : Nat) (op : Op) :
    (s.statefulSign id op).fuses = s.fuses := by
  grind [State.statefulSign, State.finish_fuses, State.useTrees_fuses, = foldl_fuses]

@[simp] theorem State.answer_fuses (s : State) (id : Nat) (out : Bytes) :
    (s.answer id out).fuses = s.fuses := by
  simp [State.answer]

@[simp] theorem State.stateGet_fuses (s : State) (id : Nat) (op : Op) :
    (s.stateGet id op).fuses = s.fuses := by
  grind [State.stateGet, State.answer_fuses, = foldl_fuses]

@[simp] theorem State.hashOpen_fuses (s : State) (id : Nat) :
    (s.hashOpen id).fuses = s.fuses := by
  grind [State.hashOpen, State.finishNow_fuses, = foldl_fuses]

end Sys2Proof.Machine
end

