-- ==== Sys2Proof/Laws/FusesJobs.lean ====
section
/-!
SUPPORT. Jobs, keys, mailbox bodies and power passages leave the fuses as they are.
-/
namespace Sys2Proof.Machine

@[simp] theorem State.wakeChunks_fuses (s : State) (h : Nat) :
    (s.wakeChunks h).fuses = s.fuses := by
  grind [State.wakeChunks, State.modJob_fuses, State.failJob_fuses, = foldl_fuses]

@[simp] theorem State.closeSession_fuses (s : State) (h : Nat) :
    (s.closeSession h).fuses = s.fuses := by
  simp [State.closeSession]

@[simp] theorem State.hashUpdate_fuses (s : State) (id : Nat) :
    (s.hashUpdate id).fuses = s.fuses := by
  grind [State.hashUpdate, State.finishNow_fuses, State.wakeChunks_fuses, State.closeSession_fuses, = foldl_fuses]

@[simp] theorem State.hashFinal_fuses (s : State) (id : Nat) :
    (s.hashFinal id).fuses = s.fuses := by
  grind [State.hashFinal, State.finishNow_fuses, State.closeSession_fuses, = foldl_fuses]

@[simp] theorem State.hashFinalVerify_fuses (s : State) (id : Nat) :
    (s.hashFinalVerify id).fuses = s.fuses := by
  grind [State.hashFinalVerify, State.finishNow_fuses, State.closeSession_fuses, = foldl_fuses]

@[simp] theorem State.hashAbort_fuses (s : State) (id : Nat) :
    (s.hashAbort id).fuses = s.fuses := by
  grind [State.hashAbort, State.finishNow_fuses, State.closeSession_fuses, = foldl_fuses]

@[simp] theorem State.rsaKeygen_fuses (s : State) (id : Nat) :
    (s.rsaKeygen id).fuses = s.fuses := by
  grind [State.rsaKeygen, State.modJob_fuses, State.failAny_fuses, State.finish_fuses, State.abandonPart_fuses, = foldl_fuses]

@[simp] theorem State.postPair_fuses (s : State) (i : Nat) (header body : Bytes) : (s.postPair i header body).fuses = s.fuses := by
  grind [State.postPair, State.modPeer_fuses, State.emit_fuses]

@[simp] theorem State.sendPeer_fuses (s : State) (i : Nat) (type : Nat) (flags : Nat) (body : Bytes) :
    (s.sendPeer i type flags body).1.fuses = s.fuses := by
  grind [State.sendPeer, State.postPair_fuses, State.modPeer_fuses, State.ensureMark_fuses, State.emit_fuses, = foldl_fuses]
theorem State.sendPeer_fuses_eq (s : State) (i : Nat) (type : Nat) (flags : Nat) (body : Bytes) {s' : State} {q'}
    (h : (s.sendPeer i type flags body) = (s', q')) : s'.fuses = s.fuses := by
  have e := State.sendPeer_fuses s i type flags body
  rw [h] at e
  exact e

@[simp] theorem State.sendBoot_fuses (s : State) (port : Nat) (i : Nat) (type : Nat) (body : Bytes) :
    (s.sendBoot port i type body).fuses = s.fuses := by
  simp [State.sendBoot]

@[simp] theorem State.pushTo_fuses (s : State) (i : Nat) (p : Push) :
    (s.pushTo i p).fuses = s.fuses := by
  grind [State.pushTo, State.modPeer_fuses, State.sendPeer_fuses, = foldl_fuses]

@[simp] theorem State.pushAll_fuses (s : State) (p : Push) :
    (s.pushAll p).fuses = s.fuses := by
  simp [State.pushAll, foldl_fuses]

@[simp] theorem State.setVersion_fuses (s : State) (slot : Nat) (v : Nat × Nat) :
    (s.setVersion slot v).fuses = s.fuses := by
  simp [State.setVersion]

@[simp] theorem State.pushSlot_fuses (s : State) (slot : Nat) :
    (s.pushSlot slot).fuses = s.fuses := by
  grind [State.pushSlot, State.pushAll_fuses, State.setVersion_fuses, = foldl_fuses]

@[simp] theorem State.pushDestroy_fuses (s : State) (slot : Nat) (usage : Nat) :
    (s.pushDestroy slot usage).fuses = s.fuses := by
  grind [State.pushDestroy, State.pushAll_fuses, State.setVersion_fuses, = foldl_fuses]

@[simp] theorem State.pushKey_fuses (s : State) (c : Nat) :
    (s.pushKey c).fuses = s.fuses := by
  grind [State.pushKey, State.pushAll_fuses, = foldl_fuses]

@[simp] theorem State.destroySlot_fuses (s : State) (slot : Nat) :
    (s.destroySlot slot).fuses = s.fuses := by
  grind [State.destroySlot, State.emptySlot_fuses, State.pushDestroy_fuses, = foldl_fuses]

@[simp] theorem State.fillSlot_fuses (s : State) (slot : Nat) (r : Nat) (h : SlotHeader) (heap : Bytes) (part : Option Bytes) :
    (s.fillSlot slot r h heap part).fuses = s.fuses := by
  cases part <;> grind [State.fillSlot, State.install_fuses, State.pushSlot_fuses, = foldl_fuses]

@[simp] theorem State.putKey_fuses (s : State) (id : Nat) (j : Job) (a : Attrs) (state : SlotState) (e : Nat) (m : Bytes) (pk : Bytes)
    (place : Bool) : (s.putKey id j a state e m pk place).fuses = s.fuses := by
  unfold State.putKey
  simp only []
  repeat' split
  all_goals simp

@[simp] theorem State.searchStop_fuses (s : State) (id : Nat) (j : Job) (a : Attrs) :
    (s.searchStop id j a).fuses = s.fuses := by
  grind [State.searchStop, State.modJob_fuses, State.failAny_fuses, State.abandonPart_fuses, State.rsaKeygen_fuses, = foldl_fuses]

@[simp] theorem State.kmGenerate_fuses (s : State) (id : Nat) :
    (s.kmGenerate id).fuses = s.fuses := by
  unfold State.kmGenerate
  repeat' (first | (simp only [State.closeNow_fuses, State.abandonPart_fuses, State.putKey_fuses,
    State.searchStop_fuses]) | split | (refine (foldl_fuses _ (fun _ _ => ?_) _ _).trans ?_))
  all_goals (first | (simp; done) | grind [State.closeNow_fuses, State.abandonPart_fuses, State.putKey_fuses, State.searchStop_fuses])

@[simp] theorem State.kmImport_fuses (s : State) (id : Nat) :
    (s.kmImport id).fuses = s.fuses := by
  grind [State.kmImport, State.closeNow_fuses, State.putKey_fuses, = foldl_fuses]

@[simp] theorem State.kmDestroy_fuses (s : State) (id : Nat) :
    (s.kmDestroy id).fuses = s.fuses := by
  grind [State.kmDestroy, State.closeNow_fuses, State.destroySlot_fuses, = foldl_fuses]

@[simp] theorem State.kmRewrap_fuses (s : State) (id : Nat) :
    (s.kmRewrap id).fuses = s.fuses := by
  grind [State.kmRewrap, State.objectFailure_fuses, State.finish_fuses, = foldl_fuses]

@[simp] theorem State.kmRestore_fuses (s : State) (id : Nat) :
    (s.kmRestore id).fuses = s.fuses := by
  grind [State.kmRestore, State.objectFailure_fuses, State.closeNow_fuses, = foldl_fuses]

@[simp] theorem State.quote_fuses (s : State) (id : Nat) :
    (s.quote id).fuses = s.fuses := by
  grind [State.quote, State.modJob_fuses, State.finish_fuses, State.commitPart_fuses, State.runSign_fuses, = foldl_fuses]

@[simp] theorem State.inputDone_fuses (s : State) (id : Nat) :
    (s.inputDone id).fuses = s.fuses := by
  grind [State.inputDone, State.afterInput_fuses, State.splitRecords_fuses, = foldl_fuses]

@[simp] theorem State.expanded_fuses (s : State) (id : Nat) :
    (s.expanded id).fuses = s.fuses := by
  grind [State.expanded, State.freeExpansion_fuses, State.cacheExpanded_fuses, State.makeReady_fuses, = foldl_fuses]

@[simp] theorem State.journalDurable_fuses (s : State) (slot : Nat) :
    (s.journalDurable slot).fuses = s.fuses := by
  grind [State.journalDurable, State.modLedger_fuses, State.assignLeaf_fuses, = foldl_fuses]

@[simp] theorem State.treeBuilt_fuses (s : State) (slot : Nat) (level : Nat) (index : Nat) :
    (s.treeBuilt slot level index).fuses = s.fuses := by
  grind [State.treeBuilt, State.makeReady_fuses, State.cacheTree_fuses, = foldl_fuses]

@[simp] theorem State.wiped_fuses (s : State) (p : Pool) (i : Nat) (b : Nat) :
    (s.wiped p i b).fuses = s.fuses := by
  simp [State.wiped]

@[simp] theorem State.releaseDue_fuses (s : State) (id : Nat) :
    (s.releaseDue id).fuses = s.fuses := by
  grind [State.releaseDue, State.release_fuses, = foldl_fuses]

@[simp] theorem State.stageHeld_fuses (s : State) (id : Nat) (part : Nat) :
    (s.stageHeld id part).fuses = s.fuses := by
  grind [State.stageHeld, State.stagePart_fuses, = foldl_fuses]

@[simp] theorem State.endIf_fuses (s : State) (id : Nat) (due : Job → Bool) (st : Status) (trailer : Bool) :
    (s.endIf id due st trailer).fuses = s.fuses := by
  grind [State.endIf, State.failAny_fuses, = foldl_fuses]

@[simp] theorem State.sessionIdle_fuses (s : State) (h : Nat) :
    (s.sessionIdle h).fuses = s.fuses := by
  grind [State.sessionIdle, State.closeSession_fuses, = foldl_fuses]

@[simp] theorem State.takeOffline_fuses (s : State) (p : Pool) (i : Nat) (source : Nat) (detail : List Nat) :
    (s.takeOffline p i source detail).fuses = s.fuses := by
  simp [State.takeOffline]

@[simp] theorem State.engineFault_fuses (s : State) (p : Pool) (i : Nat) (source : Nat) (detail : List Nat) (offSource : Option (Nat × List Nat)) :
    (s.engineFault p i source detail offSource).fuses = s.fuses := by
  grind [State.engineFault, State.raise_fuses, State.verifyPatches_fuses, State.abandonEngine_fuses, State.crossEngine_fuses, State.countFault_fuses,
    State.faultFrames_fuses, State.reserveExpress_fuses, State.takeOffline_fuses, = foldl_fuses]

@[simp] theorem State.tickTile_fuses (s : State) (i : Nat) :
    (s.tickTile i).fuses = s.fuses := by
  grind [State.tickTile, State.modEngine_fuses, State.settle_fuses, State.engineFault_fuses, = foldl_fuses]

@[simp] theorem State.tick_fuses (s : State) :
    (s.tick).fuses = s.fuses := by
  simp [State.tick, foldl_fuses]

@[simp] theorem State.katDone_fuses (s : State) (k : MicroKind) (i : Nat) (pass : Bool) :
    (s.katDone k i pass).fuses = s.fuses := by
  grind [State.katDone, State.raise_fuses, State.setPool_fuses, State.modEngine_fuses, State.setVintage_fuses, State.startKats_fuses,
    State.verifyPatch_fuses, = foldl_fuses]

@[simp] theorem State.gddrLost_fuses (s : State) (x : GddrTarget) :
    (s.gddrLost x).fuses = s.fuses := by
  unfold State.gddrLost
  repeat' (first | (simp only [State.modJob_fuses, State.failAny_fuses, State.abandonPart_fuses, State.closeSession_fuses, State.expanded_fuses,
    State.endIf_fuses]) | split | (refine (foldl_fuses _ (fun _ _ => ?_) _ _).trans ?_))
  all_goals (first | (simp; done) | grind [State.modJob_fuses, State.failAny_fuses, State.abandonPart_fuses, State.closeSession_fuses,
    State.expanded_fuses, State.endIf_fuses])

@[simp] theorem State.gddrError_fuses (s : State) (component : Nat) (row : Nat) (region : Nat) (x : GddrTarget) :
    (s.gddrError component row region x).fuses = s.fuses := by
  grind [State.gddrError, State.raise_fuses, State.gddrLost_fuses, = foldl_fuses]

@[simp] theorem State.gddrCorrected_fuses (s : State) (component : Nat) (count : Nat) :
    (s.gddrCorrected component count).fuses = s.fuses := by
  grind [State.gddrCorrected, State.raise_fuses, = foldl_fuses]

@[simp] theorem State.mbSend_fuses (s : State) (c : MbCommand) (o : MbOut) :
    (s.mbSend c o).fuses = s.fuses := by
  grind [State.mbSend, State.post_fuses, = foldl_fuses]

@[simp] theorem State.mbAnswer_fuses (s : State) (c : MbCommand) (o : MbOut) :
    (s.mbAnswer c o).fuses = s.fuses := by
  grind [State.mbAnswer, State.keyChange_fuses, State.endSession_fuses, State.mbSend_fuses, = foldl_fuses]

@[simp] theorem State.mbArrival_fuses (s : State) (conn : Nat) (msg : Bytes) (extra : List Nat) :
    (s.mbArrival conn msg extra).1.fuses = s.fuses := by
  grind [State.mbArrival, = foldl_fuses]
theorem State.mbArrival_fuses_eq (s : State) (conn : Nat) (msg : Bytes) (extra : List Nat) {s' : State} {q'}
    (h : (s.mbArrival conn msg extra) = (s', q')) : s'.fuses = s.fuses := by
  have e := State.mbArrival_fuses s conn msg extra
  rw [h] at e
  exact e

@[simp] theorem State.mbAdmit_fuses (s : State) (c : MbCommand) :
    (s.mbAdmit c).1.fuses = s.fuses := by
  grind [State.mbAdmit, State.endSession_fuses, State.mbSend_fuses, = foldl_fuses]
theorem State.mbAdmit_fuses_eq (s : State) (c : MbCommand) {s' : State} {q'}
    (h : (s.mbAdmit c) = (s', q')) : s'.fuses = s.fuses := by
  have e := State.mbAdmit_fuses s c
  rw [h] at e
  exact e

@[simp] theorem mbHelloChallenge_fuses (s : State) (c : MbCommand) :
    (mbHelloChallenge s c).1.fuses = s.fuses := by
  grind [mbHelloChallenge, State.serveDraw_fuses, State.answer_fuses, = foldl_fuses]
theorem mbHelloChallenge_fuses_eq (s : State) (c : MbCommand) {s' : State} {q'}
    (h : (mbHelloChallenge s c) = (s', q')) : s'.fuses = s.fuses := by
  have e := mbHelloChallenge_fuses s c
  rw [h] at e
  exact e

@[simp] theorem mbHelloProve_fuses (s : State) (c : MbCommand) :
    (mbHelloProve s c).1.fuses = s.fuses := by
  unfold mbHelloProve
  repeat' (first | (simp only [State.raise_fuses, State.answer_fuses]) | split | (refine (foldl_fuses _ (fun _ _ => ?_) _ _).trans ?_))
  all_goals (first | (simp; done) | grind [State.raise_fuses, State.answer_fuses])
theorem mbHelloProve_fuses_eq (s : State) (c : MbCommand) {s' : State} {q'}
    (h : (mbHelloProve s c) = (s', q')) : s'.fuses = s.fuses := by
  have e := mbHelloProve_fuses s c
  rw [h] at e
  exact e

@[simp] theorem mbVintageGet_fuses (s : State) (z1 : MbCommand) :
    (mbVintageGet s z1).1.fuses = s.fuses := by
  simp [mbVintageGet]
theorem mbVintageGet_fuses_eq (s : State) (z1 : MbCommand) {s' : State} {q'}
    (h : (mbVintageGet s z1) = (s', q')) : s'.fuses = s.fuses := by
  have e := mbVintageGet_fuses s z1
  rw [h] at e
  exact e

@[simp] theorem mbModuleInfo_fuses (s : State) (z1 : MbCommand) :
    (mbModuleInfo s z1).1.fuses = s.fuses := by
  simp [mbModuleInfo]
theorem mbModuleInfo_fuses_eq (s : State) (z1 : MbCommand) {s' : State} {q'}
    (h : (mbModuleInfo s z1) = (s', q')) : s'.fuses = s.fuses := by
  have e := mbModuleInfo_fuses s z1
  rw [h] at e
  exact e

@[simp] theorem mbSessionClose_fuses (s : State) (c : MbCommand) :
    (mbSessionClose s c).1.fuses = s.fuses := by
  grind [mbSessionClose, State.endSession_fuses, State.answer_fuses, = foldl_fuses]
theorem mbSessionClose_fuses_eq (s : State) (c : MbCommand) {s' : State} {q'}
    (h : (mbSessionClose s c) = (s', q')) : s'.fuses = s.fuses := by
  have e := mbSessionClose_fuses s c
  rw [h] at e
  exact e

@[simp] theorem mbQuoteGet_fuses (s : State) (c : MbCommand) :
    (mbQuoteGet s c).1.fuses = s.fuses := by
  grind [mbQuoteGet, State.serveDraw_fuses, State.answer_fuses, = foldl_fuses]
theorem mbQuoteGet_fuses_eq (s : State) (c : MbCommand) {s' : State} {q'}
    (h : (mbQuoteGet s c) = (s', q')) : s'.fuses = s.fuses := by
  have e := mbQuoteGet_fuses s c
  rw [h] at e
  exact e

@[simp] theorem mbRngInfo_fuses (s : State) (z1 : MbCommand) :
    (mbRngInfo s z1).1.fuses = s.fuses := by
  simp [mbRngInfo]
theorem mbRngInfo_fuses_eq (s : State) (z1 : MbCommand) {s' : State} {q'}
    (h : (mbRngInfo s z1) = (s', q')) : s'.fuses = s.fuses := by
  have e := mbRngInfo_fuses s z1
  rw [h] at e
  exact e

@[simp] theorem mbWqCreate_fuses (s : State) (c : MbCommand) :
    (mbWqCreate s c).1.fuses = s.fuses := by
  grind [mbWqCreate, State.answer_fuses, = foldl_fuses]
theorem mbWqCreate_fuses_eq (s : State) (c : MbCommand) {s' : State} {q'}
    (h : (mbWqCreate s c) = (s', q')) : s'.fuses = s.fuses := by
  have e := mbWqCreate_fuses s c
  rw [h] at e
  exact e

@[simp] theorem mbWqDestroy_fuses (s : State) (c : MbCommand) :
    (mbWqDestroy s c).1.fuses = s.fuses := by
  grind [mbWqDestroy, State.modQueue_fuses, State.settle_fuses, State.withdraw_fuses, = foldl_fuses]
theorem mbWqDestroy_fuses_eq (s : State) (c : MbCommand) {s' : State} {q'}
    (h : (mbWqDestroy s c) = (s', q')) : s'.fuses = s.fuses := by
  have e := mbWqDestroy_fuses s c
  rw [h] at e
  exact e

@[simp] theorem mbCrCreate_fuses (s : State) (c : MbCommand) :
    (mbCrCreate s c).1.fuses = s.fuses := by
  grind [mbCrCreate, = foldl_fuses]
theorem mbCrCreate_fuses_eq (s : State) (c : MbCommand) {s' : State} {q'}
    (h : (mbCrCreate s c) = (s', q')) : s'.fuses = s.fuses := by
  have e := mbCrCreate_fuses s c
  rw [h] at e
  exact e

@[simp] theorem mbCrDestroy_fuses (s : State) (c : MbCommand) :
    (mbCrDestroy s c).1.fuses = s.fuses := by
  grind [mbCrDestroy, = foldl_fuses]
theorem mbCrDestroy_fuses_eq (s : State) (c : MbCommand) {s' : State} {q'}
    (h : (mbCrDestroy s c) = (s', q')) : s'.fuses = s.fuses := by
  have e := mbCrDestroy_fuses s c
  rw [h] at e
  exact e

@[simp] theorem mbWqInfo_fuses (s : State) (c : MbCommand) :
    (mbWqInfo s c).1.fuses = s.fuses := by
  grind [mbWqInfo, = foldl_fuses]
theorem mbWqInfo_fuses_eq (s : State) (c : MbCommand) {s' : State} {q'}
    (h : (mbWqInfo s c) = (s', q')) : s'.fuses = s.fuses := by
  have e := mbWqInfo_fuses s c
  rw [h] at e
  exact e

@[simp] theorem mbConnInfo_fuses (s : State) (c : MbCommand) :
    (mbConnInfo s c).1.fuses = s.fuses := by
  grind [mbConnInfo, = foldl_fuses]
theorem mbConnInfo_fuses_eq (s : State) (c : MbCommand) {s' : State} {q'}
    (h : (mbConnInfo s c) = (s', q')) : s'.fuses = s.fuses := by
  have e := mbConnInfo_fuses s c
  rw [h] at e
  exact e

@[simp] theorem State.drainDone_fuses (s : State) (q : Nat) :
    (s.drainDone q).fuses = s.fuses := by
  grind [State.drainDone, State.mbSend_fuses, = foldl_fuses]

@[simp] theorem State.dropHandles_fuses (s : State) (c : Nat) :
    (s.dropHandles c).fuses = s.fuses := by
  simp [State.dropHandles]

@[simp] theorem State.bumpGeneration_fuses (s : State) (c : Nat) (cause : Nat) :
    (s.bumpGeneration c cause).fuses = s.fuses := by
  grind [State.bumpGeneration, State.modCarriage_fuses, State.raiseFor_fuses, State.withdraw_fuses, State.dropHandles_fuses, = foldl_fuses]

@[simp] theorem State.drainGeneration_fuses (s : State) (c : Nat) (g : Nat) :
    (s.drainGeneration c g).fuses = s.fuses := by
  grind [State.drainGeneration, State.modCarriage_fuses, State.raiseFor_fuses, = foldl_fuses]

@[simp] theorem mbCarriageCreate_fuses (s : State) (c : MbCommand) :
    (mbCarriageCreate s c).1.fuses = s.fuses := by
  grind [mbCarriageCreate, State.serveDraw_fuses, State.answer_fuses, State.pushKey_fuses, = foldl_fuses]
theorem mbCarriageCreate_fuses_eq (s : State) (c : MbCommand) {s' : State} {q'}
    (h : (mbCarriageCreate s c) = (s', q')) : s'.fuses = s.fuses := by
  have e := mbCarriageCreate_fuses s c
  rw [h] at e
  exact e

@[simp] theorem mbCarriageResize_fuses (s : State) (c : MbCommand) :
    (mbCarriageResize s c).1.fuses = s.fuses := by
  grind [mbCarriageResize, = foldl_fuses]
theorem mbCarriageResize_fuses_eq (s : State) (c : MbCommand) {s' : State} {q'}
    (h : (mbCarriageResize s c) = (s', q')) : s'.fuses = s.fuses := by
  have e := mbCarriageResize_fuses s c
  rw [h] at e
  exact e

@[simp] theorem State.resizeNow_fuses (s : State) (c : MbCommand) :
    (s.resizeNow c).1.fuses = s.fuses := by
  grind [State.resizeNow, State.modCarriage_fuses, = foldl_fuses]
theorem State.resizeNow_fuses_eq (s : State) (c : MbCommand) {s' : State} {q'}
    (h : (s.resizeNow c) = (s', q')) : s'.fuses = s.fuses := by
  have e := State.resizeNow_fuses s c
  rw [h] at e
  exact e

@[simp] theorem State.genAnswer_fuses (s : State) (n : Nat) (effect : Bool) :
    (s.genAnswer n effect).1.fuses = s.fuses := by
  simp [State.genAnswer]
theorem State.genAnswer_fuses_eq (s : State) (n : Nat) (effect : Bool) {s' : State} {q'}
    (h : (s.genAnswer n effect) = (s', q')) : s'.fuses = s.fuses := by
  have e := State.genAnswer_fuses s n effect
  rw [h] at e
  exact e

@[simp] theorem mbCarriageDisable_fuses (s : State) (c : MbCommand) :
    (mbCarriageDisable s c).1.fuses = s.fuses := by
  grind [mbCarriageDisable, State.modCarriage_fuses, State.settle_fuses, State.bumpGeneration_fuses, State.genAnswer_fuses, = foldl_fuses]
theorem mbCarriageDisable_fuses_eq (s : State) (c : MbCommand) {s' : State} {q'}
    (h : (mbCarriageDisable s c) = (s', q')) : s'.fuses = s.fuses := by
  have e := mbCarriageDisable_fuses s c
  rw [h] at e
  exact e

@[simp] theorem mbCarriageReset_fuses (s : State) (c : MbCommand) :
    (mbCarriageReset s c).1.fuses = s.fuses := by
  grind [mbCarriageReset, State.modCarriage_fuses, State.settle_fuses, State.bumpGeneration_fuses, State.genAnswer_fuses, = foldl_fuses]
theorem mbCarriageReset_fuses_eq (s : State) (c : MbCommand) {s' : State} {q'}
    (h : (mbCarriageReset s c) = (s', q')) : s'.fuses = s.fuses := by
  have e := mbCarriageReset_fuses s c
  rw [h] at e
  exact e

@[simp] theorem mbCarriageDestroy_fuses (s : State) (c : MbCommand) :
    (mbCarriageDestroy s c).1.fuses = s.fuses := by
  grind [mbCarriageDestroy, State.modCarriage_fuses, State.settle_fuses, State.bumpGeneration_fuses, State.genAnswer_fuses, = foldl_fuses]
theorem mbCarriageDestroy_fuses_eq (s : State) (c : MbCommand) {s' : State} {q'}
    (h : (mbCarriageDestroy s c) = (s', q')) : s'.fuses = s.fuses := by
  have e := mbCarriageDestroy_fuses s c
  rw [h] at e
  exact e

@[simp] theorem State.pmapWrite_fuses (s : State) (e : Bytes) :
    (s.pmapWrite e).fuses = s.fuses := by
  simp [State.pmapWrite]

@[simp] theorem mbPmapSet_fuses (s : State) (c : MbCommand) :
    (mbPmapSet s c).1.fuses = s.fuses := by
  grind [mbPmapSet, State.pmapWrite_fuses, = foldl_fuses]
theorem mbPmapSet_fuses_eq (s : State) (c : MbCommand) {s' : State} {q'}
    (h : (mbPmapSet s c) = (s', q')) : s'.fuses = s.fuses := by
  have e := mbPmapSet_fuses s c
  rw [h] at e
  exact e

@[simp] theorem mbWindowSet_fuses (s : State) (c : MbCommand) :
    (mbWindowSet s c).1.fuses = s.fuses := by
  grind [mbWindowSet, State.modCarriage_fuses, = foldl_fuses]
theorem mbWindowSet_fuses_eq (s : State) (c : MbCommand) {s' : State} {q'}
    (h : (mbWindowSet s c) = (s', q')) : s'.fuses = s.fuses := by
  have e := mbWindowSet_fuses s c
  rw [h] at e
  exact e

@[simp] theorem mbCarriageInfo_fuses (s : State) (c : MbCommand) :
    (mbCarriageInfo s c).1.fuses = s.fuses := by
  grind [mbCarriageInfo, = foldl_fuses]
theorem mbCarriageInfo_fuses_eq (s : State) (c : MbCommand) {s' : State} {q'}
    (h : (mbCarriageInfo s c) = (s', q')) : s'.fuses = s.fuses := by
  have e := mbCarriageInfo_fuses s c
  rw [h] at e
  exact e

@[simp] theorem State.mbRecord_fuses (s : State) :
    (s.mbRecord).1.fuses = s.fuses := by
  grind [State.mbRecord, = foldl_fuses]
theorem State.mbRecord_fuses_eq (s : State) {s' : State} {q'}
    (h : (s.mbRecord) = (s', q')) : s'.fuses = s.fuses := by
  have e := State.mbRecord_fuses s
  rw [h] at e
  exact e

@[simp] theorem State.changeHeader_fuses (s : State) (r : SlotRecord) (g : SlotHeader → SlotHeader) :
    (s.changeHeader r g).1.fuses = s.fuses := by
  grind [State.changeHeader, State.install_fuses, State.pushSlot_fuses, State.mbRecord_fuses, = foldl_fuses]
theorem State.changeHeader_fuses_eq (s : State) (r : SlotRecord) (g : SlotHeader → SlotHeader) {s' : State} {q'}
    (h : (s.changeHeader r g) = (s', q')) : s'.fuses = s.fuses := by
  have e := State.changeHeader_fuses s r g
  rw [h] at e
  exact e

@[simp] theorem mbSlotShare_fuses (s : State) (c : MbCommand) :
    (mbSlotShare s c).1.fuses = s.fuses := by
  grind [mbSlotShare, State.changeHeader_fuses, = foldl_fuses]
theorem mbSlotShare_fuses_eq (s : State) (c : MbCommand) {s' : State} {q'}
    (h : (mbSlotShare s c) = (s', q')) : s'.fuses = s.fuses := by
  have e := mbSlotShare_fuses s c
  rw [h] at e
  exact e

@[simp] theorem mbSlotUnshare_fuses (s : State) (c : MbCommand) :
    (mbSlotUnshare s c).1.fuses = s.fuses := by
  grind [mbSlotUnshare, State.changeHeader_fuses, = foldl_fuses]
theorem mbSlotUnshare_fuses_eq (s : State) (c : MbCommand) {s' : State} {q'}
    (h : (mbSlotUnshare s c) = (s', q')) : s'.fuses = s.fuses := by
  have e := mbSlotUnshare_fuses s c
  rw [h] at e
  exact e

@[simp] theorem mbSlotDestroy_fuses (s : State) (c : MbCommand) :
    (mbSlotDestroy s c).1.fuses = s.fuses := by
  grind [mbSlotDestroy, State.settle_fuses, State.answer_fuses, State.destroySlot_fuses, = foldl_fuses]
theorem mbSlotDestroy_fuses_eq (s : State) (c : MbCommand) {s' : State} {q'}
    (h : (mbSlotDestroy s c) = (s', q')) : s'.fuses = s.fuses := by
  have e := mbSlotDestroy_fuses s c
  rw [h] at e
  exact e

@[simp] theorem mbSlotInfo_fuses (s : State) (c : MbCommand) :
    (mbSlotInfo s c).1.fuses = s.fuses := by
  grind [mbSlotInfo, State.answer_fuses, = foldl_fuses]
theorem mbSlotInfo_fuses_eq (s : State) (c : MbCommand) {s' : State} {q'}
    (h : (mbSlotInfo s c) = (s', q')) : s'.fuses = s.fuses := by
  have e := mbSlotInfo_fuses s c
  rw [h] at e
  exact e

@[simp] theorem mbLowThresholdSet_fuses (s : State) (c : MbCommand) :
    (mbLowThresholdSet s c).1.fuses = s.fuses := by
  grind [mbLowThresholdSet, State.modLedger_fuses, State.answer_fuses, State.changeHeader_fuses, = foldl_fuses]
theorem mbLowThresholdSet_fuses_eq (s : State) (c : MbCommand) {s' : State} {q'}
    (h : (mbLowThresholdSet s c) = (s', q')) : s'.fuses = s.fuses := by
  have e := mbLowThresholdSet_fuses s c
  rw [h] at e
  exact e

@[simp] theorem mbCellarStatus_fuses (s : State) (z1 : MbCommand) :
    (mbCellarStatus s z1).1.fuses = s.fuses := by
  simp [mbCellarStatus]
theorem mbCellarStatus_fuses_eq (s : State) (z1 : MbCommand) {s' : State} {q'}
    (h : (mbCellarStatus s z1) = (s', q')) : s'.fuses = s.fuses := by
  have e := mbCellarStatus_fuses s z1
  rw [h] at e
  exact e

@[simp] theorem mbWrapkeyRoll_fuses (s : State) (c : MbCommand) :
    (mbWrapkeyRoll s c).1.fuses = s.fuses := by
  grind [mbWrapkeyRoll, State.modCarriage_fuses, State.serveDraw_fuses, State.answer_fuses, State.pushKey_fuses, = foldl_fuses]
theorem mbWrapkeyRoll_fuses_eq (s : State) (c : MbCommand) {s' : State} {q'}
    (h : (mbWrapkeyRoll s c) = (s', q')) : s'.fuses = s.fuses := by
  have e := mbWrapkeyRoll_fuses s c
  rw [h] at e
  exact e

@[simp] theorem State.ringReturns_fuses (s : State) (r : Nat) :
    (s.ringReturns r).fuses = s.fuses := by
  grind [State.ringReturns, State.modEring_fuses, State.post_fuses, = foldl_fuses]

@[simp] theorem mbBookExportSet_fuses (s : State) (c : MbCommand) :
    (mbBookExportSet s c).1.fuses = s.fuses := by
  grind [mbBookExportSet, State.modEring_fuses, State.restartExport_fuses, State.ringReturns_fuses, = foldl_fuses]
theorem mbBookExportSet_fuses_eq (s : State) (c : MbCommand) {s' : State} {q'}
    (h : (mbBookExportSet s c) = (s', q')) : s'.fuses = s.fuses := by
  have e := mbBookExportSet_fuses s c
  rw [h] at e
  exact e

@[simp] theorem mbBookRead_fuses (s : State) (c : MbCommand) :
    (mbBookRead s c).1.fuses = s.fuses := by
  grind [mbBookRead, State.answer_fuses, = foldl_fuses]
theorem mbBookRead_fuses_eq (s : State) (c : MbCommand) {s' : State} {q'}
    (h : (mbBookRead s c) = (s', q')) : s'.fuses = s.fuses := by
  have e := mbBookRead_fuses s c
  rw [h] at e
  exact e

@[simp] theorem State.compareRanges_fuses (s : State) :
    (s.compareRanges).fuses = s.fuses := by
  grind [State.compareRanges, State.raise_fuses, = foldl_fuses]

@[simp] theorem mbLeafRelease_fuses (s : State) (c : MbCommand) :
    (mbLeafRelease s c).1.fuses = s.fuses := by
  grind [mbLeafRelease, State.modLedger_fuses, State.leafEvent_fuses, State.compareRanges_fuses, = foldl_fuses]
theorem mbLeafRelease_fuses_eq (s : State) (c : MbCommand) {s' : State} {q'}
    (h : (mbLeafRelease s c) = (s', q')) : s'.fuses = s.fuses := by
  have e := mbLeafRelease_fuses s c
  rw [h] at e
  exact e

@[simp] theorem mbLeafReleaseGet_fuses (s : State) (c : MbCommand) :
    (mbLeafReleaseGet s c).1.fuses = s.fuses := by
  grind [mbLeafReleaseGet, State.answer_fuses, = foldl_fuses]
theorem mbLeafReleaseGet_fuses_eq (s : State) (c : MbCommand) {s' : State} {q'}
    (h : (mbLeafReleaseGet s c) = (s', q')) : s'.fuses = s.fuses := by
  have e := mbLeafReleaseGet_fuses s c
  rw [h] at e
  exact e

@[simp] theorem mbLeafAccept_fuses (s : State) (c : MbCommand) :
    (mbLeafAccept s c).1.fuses = s.fuses := by
  unfold mbLeafAccept
  simp only []
  repeat' split
  all_goals simp
theorem mbLeafAccept_fuses_eq (s : State) (c : MbCommand) {s' : State} {q'}
    (h : (mbLeafAccept s c) = (s', q')) : s'.fuses = s.fuses := by
  have e := mbLeafAccept_fuses s c
  rw [h] at e
  exact e

@[simp] theorem mbIdentityCertGet_fuses (s : State) (c : MbCommand) :
    (mbIdentityCertGet s c).1.fuses = s.fuses := by
  grind [mbIdentityCertGet, State.answer_fuses, = foldl_fuses]
theorem mbIdentityCertGet_fuses_eq (s : State) (c : MbCommand) {s' : State} {q'}
    (h : (mbIdentityCertGet s c) = (s', q')) : s'.fuses = s.fuses := by
  have e := mbIdentityCertGet_fuses s c
  rw [h] at e
  exact e

@[simp] theorem mbProvisionImport_fuses (s : State) (c : MbCommand) : (mbProvisionImport s c).1.fuses = s.fuses := by
  generalize h : mbProvisionImport s c = p
  unfold mbProvisionImport at h
  extract_lets slot replace a key m refuse at h
  repeat' split at h
  all_goals first
    | (subst h; rfl)
    | (rename_i q; have e := State.mbRecord_fuses_eq _ q; subst h; exact e)
    | skip
  all_goals
    have e := State.mbRecord_fuses_eq _ ‹State.mbRecord _ = _›
    grind [State.serveDraw_fuses, State.fillSlot_fuses]
theorem mbProvisionImport_fuses_eq (s : State) (c : MbCommand) {s' : State} {q'}
    (h : (mbProvisionImport s c) = (s', q')) : s'.fuses = s.fuses := by
  have e := mbProvisionImport_fuses s c
  rw [h] at e
  exact e

@[simp] theorem State.startBank_fuses (s : State) (i : Nat) :
    (s.startBank i).fuses = s.fuses := by
  grind [State.startBank, = foldl_fuses]

@[simp] theorem State.romBoot_fuses (s : State) :
    (s.romBoot).1.fuses = s.fuses := by
  grind [State.romBoot, State.raise_fuses, State.startBank_fuses, = foldl_fuses]
theorem State.romBoot_fuses_eq (s : State) {s' : State} {q'}
    (h : (s.romBoot) = (s', q')) : s'.fuses = s.fuses := by
  have e := State.romBoot_fuses s
  rw [h] at e
  exact e

@[simp] theorem State.bdDo_fuses (s : State) (g : BootDigest → BootDigest) :
    (s.bdDo g).fuses = s.fuses := by
  grind [State.bdDo, = foldl_fuses]

@[simp] theorem State.norRead_fuses (s : State) (bank : Nat) (off : Nat) (len : Nat) :
    (s.norRead bank off len).fuses = s.fuses := by
  grind [State.norRead, State.bdDo_fuses, = foldl_fuses]

@[simp] theorem State.readBack_fuses (s : State) (b : Bytes) (c : Component) :
    (s.readBack b c).1.fuses = s.fuses := by
  grind [State.readBack, State.start_fuses, State.finish_fuses, = foldl_fuses]
theorem State.readBack_fuses_eq (s : State) (b : Bytes) (c : Component) {s' : State} {q'}
    (h : (s.readBack b c) = (s', q')) : s'.fuses = s.fuses := by
  have e := State.readBack_fuses s b c
  rw [h] at e
  exact e

@[simp] theorem State.syncPeers_fuses (s : State) :
    (s.syncPeers).fuses = s.fuses := by
  simp [State.syncPeers]

@[simp] theorem State.peerDown_fuses (s : State) (i : Nat) (cause : Nat) :
    (s.peerDown i cause).fuses = s.fuses := by
  grind [State.peerDown, State.modPeer_fuses, State.raise_fuses, = foldl_fuses]

@[simp] theorem State.leavePeers_fuses (s : State) (cause : Nat) :
    (s.leavePeers cause).fuses = s.fuses := by
  simp [State.leavePeers, foldl_fuses]

@[simp] theorem State.enterJoining_fuses (s : State) :
    (s.enterJoining).fuses = s.fuses := by
  grind [State.enterJoining, State.syncPeers_fuses, = foldl_fuses]

@[simp] theorem State.startKeying_fuses (s : State) (i : Nat) :
    (s.startKeying i).fuses = s.fuses := by
  grind [State.startKeying, State.modPeer_fuses, State.drawNow_fuses, State.sendBoot_fuses, = foldl_fuses]

@[simp] theorem State.sendDigest_fuses (fuel : Nat) (s : State) (x1 : Nat) (x2 : List (Nat × (Nat × Nat))) :
    (State.sendDigest fuel s x1 x2).fuses = s.fuses := by
  induction fuel generalizing s x1 x2 with
  | zero => simp [State.sendDigest]
  | succ n ih => grind [State.sendDigest, State.sendPeer_fuses]

@[simp] theorem State.startDigest_fuses (s : State) (i : Nat) :
    (s.startDigest i).fuses = s.fuses := by
  grind [State.startDigest, State.modPeer_fuses, State.sendDigest_fuses, = foldl_fuses]

@[simp] theorem State.catchUp_fuses (s : State) (i : Nat) :
    (s.catchUp i).fuses = s.fuses := by
  grind [State.catchUp, State.pushTo_fuses, = foldl_fuses]

@[simp] theorem State.applySlotPush_fuses (s : State) (slot : Nat) (p : Push) :
    (s.applySlotPush slot p).fuses = s.fuses := by
  grind [State.applySlotPush, State.keyChange_fuses, State.install_fuses, State.emptySlot_fuses, State.setVersion_fuses, = foldl_fuses]

@[simp] theorem State.applyKeyPush_fuses (s : State) (c : Nat) (p : Push) :
    (s.applyKeyPush c p).fuses = s.fuses := by
  simp [State.applyKeyPush]

@[simp] theorem State.takePush_fuses (s : State) (p : Push) :
    (s.takePush p).1.fuses = s.fuses := by
  grind [State.takePush, State.raise_fuses, State.applySlotPush_fuses, State.applyKeyPush_fuses, = foldl_fuses]
theorem State.takePush_fuses_eq (s : State) (p : Push) {s' : State} {q'}
    (h : (s.takePush p) = (s', q')) : s'.fuses = s.fuses := by
  have e := State.takePush_fuses s p
  rw [h] at e
  exact e

@[simp] theorem State.ackPeer_fuses (s : State) (i : Nat) :
    (s.ackPeer i).fuses = s.fuses := by
  simp [State.ackPeer]

@[simp] theorem State.flushPushes_fuses (fuel : Nat) (s : State) :
    (State.flushPushes fuel s).fuses = s.fuses := by
  induction fuel generalizing s with
  | zero => simp [State.flushPushes]
  | succ n ih => grind [State.flushPushes, State.takePush_fuses, State.ackPeer_fuses]

@[simp] theorem State.noteVin_fuses (s : State) (v : Nat) :
    (s.noteVin v).fuses = s.fuses := by
  simp [State.noteVin]

@[simp] theorem State.setLadder_fuses (s : State) (n : Nat) :
    (s.setLadder n).fuses = s.fuses := by
  grind [State.setLadder, State.domainOff_fuses, State.domainOnNow_fuses, = foldl_fuses]

@[simp] theorem State.fitLadder_fuses (s : State) :
    (s.fitLadder).fuses = s.fuses := by
  grind [State.fitLadder, State.setLadder_fuses, = foldl_fuses]

@[simp] theorem State.enterDerated_fuses (s : State) :
    (s.enterDerated).fuses = s.fuses := by
  simp [State.enterDerated]

@[simp] theorem State.conditions_fuses (s : State) :
    (s.conditions).fuses = s.fuses := by
  grind [State.conditions, State.fitLadder_fuses, State.enterDerated_fuses, = foldl_fuses]

@[simp] theorem State.serviceEntered_fuses (s : State) :
    (s.serviceEntered).fuses = s.fuses := by
  grind [State.serviceEntered, = foldl_fuses]

@[simp] theorem State.returnToService_fuses (s : State) :
    (s.returnToService).fuses = s.fuses := by
  grind [State.returnToService, State.enterDerated_fuses, State.serviceEntered_fuses, = foldl_fuses]

@[simp] theorem State.leaveDerated_fuses (s : State) :
    (s.leaveDerated).fuses = s.fuses := by
  grind [State.leaveDerated, State.raise_fuses, = foldl_fuses]

@[simp] theorem State.setLanes_fuses (s : State) (p : Nat) (mode : Nat) :
    (s.setLanes p mode).fuses = s.fuses := by
  grind [State.setLanes, State.modPort_fuses, State.setLink_fuses, State.failConnection_fuses, = foldl_fuses]

@[simp] theorem State.tooSmall_fuses (s : State) (p : Nat) (mtu : Nat) :
    (s.tooSmall p mtu).fuses = s.fuses := by
  simp [State.tooSmall, foldl_fuses]

@[simp] theorem State.setPort_fuses (s : State) (p : Nat) (c : PortSettings) :
    (s.setPort p c).fuses = s.fuses := by
  grind [State.setPort, State.modPort_fuses, State.setLanes_fuses, State.tooSmall_fuses, = foldl_fuses]

@[simp] theorem State.writePort_fuses (s : State) (p : Nat) (c : PortSettings) :
    (s.writePort p c).fuses = s.fuses := by
  grind [State.writePort, State.modPort_fuses, State.setPort_fuses, = foldl_fuses]

@[simp] theorem State.writeProgram_fuses (s : State) (p : Nat) (program : List (BitVec 64)) :
    (s.writeProgram p program).fuses = s.fuses := by
  grind [State.writeProgram, State.modPort_fuses, = foldl_fuses]

@[simp] theorem State.applyShadow_fuses (s : State) (p : Nat) :
    (s.applyShadow p).fuses = s.fuses := by
  grind [State.applyShadow, State.modPort_fuses, State.setPort_fuses, = foldl_fuses]

@[simp] theorem State.trainLinks_fuses (s : State) :
    (s.trainLinks).fuses = s.fuses := by
  grind [State.trainLinks, State.setLink_fuses, = foldl_fuses]

@[simp] theorem State.outerOff_fuses (s : State) :
    (s.outerOff).fuses = s.fuses := by
  grind [State.outerOff, State.setLink_fuses, = foldl_fuses]

@[simp] theorem State.outerOn_fuses (s : State) :
    (s.outerOn).fuses = s.fuses := by
  grind [State.outerOn, State.applyShadow_fuses, State.trainLinks_fuses, = foldl_fuses]

@[simp] theorem State.afterReset_fuses (s : State) :
    (s.afterReset).fuses = s.fuses := by
  simp [State.afterReset]

@[simp] theorem State.enterPassage_fuses (s : State) :
    (s.enterPassage).fuses = s.fuses := by
  simp [State.enterPassage]

@[simp] theorem State.recordCause_fuses (s : State) (c : Nat) :
    (s.recordCause c).fuses = s.fuses := by
  simp [State.recordCause]

@[simp] theorem State.internalReset_fuses (s : State) :
    (s.internalReset).fuses = s.fuses := by
  simp [State.internalReset]

@[simp] theorem State.faultReset_fuses (s : State) (cause : Nat) :
    (s.faultReset cause).fuses = s.fuses := by
  grind [State.faultReset, State.recordCause_fuses, State.internalReset_fuses, = foldl_fuses]

@[simp] theorem State.powerOff_fuses (s : State) :
    (s.powerOff).fuses = s.fuses := by
  simp [State.powerOff]

@[simp] theorem State.wipe_fuses (s : State) :
    (s.wipe).fuses = s.fuses := by
  simp [State.wipe]

@[simp] theorem State.tamper_fuses (s : State) (source : Nat) (detail : List Nat) :
    (s.tamper source detail).fuses = s.fuses := by
  grind [State.tamper, State.raise_fuses, State.assertAlarm_fuses, State.afterReset_fuses, State.enterPassage_fuses, State.recordCause_fuses,
    State.wipe_fuses, = foldl_fuses]

@[simp] theorem State.tamperOff_fuses (s : State) :
    (s.tamperOff).fuses = s.fuses := by
  grind [State.tamperOff, = foldl_fuses]

@[simp] theorem State.loadSteps_fuses (s : State) (steps : List Bytes) :
    (s.loadSteps steps).fuses = s.fuses := by
  simp [State.loadSteps]

@[simp] theorem State.bootWipes_fuses (s : State) :
    (s.bootWipes).fuses = s.fuses := by
  grind [State.bootWipes, State.raise_fuses, State.recordCause_fuses, State.wipe_fuses, = foldl_fuses]

@[simp] theorem State.transitionWipe_fuses (s : State) (target : Nat) : (s.transitionWipe target).fuses = s.fuses := by
  unfold State.transitionWipe
  split <;> rfl

@[simp] theorem State.bootTransition_fuses (s : State) : (s.bootTransition).fuses = s.fuses := by
  unfold State.bootTransition
  split
  · rfl
  · split
    · rfl
    · simp [State.dropUncertified]

@[simp] theorem State.romDigest_fuses (s : State) : (s.romDigest).fuses = s.fuses := by
  simp only [State.romDigest]
  split <;> rfl

@[simp] theorem State.enterBoot_fuses (s : State) :
    (s.enterBoot).fuses = s.fuses := by
  grind [State.enterBoot, State.ensureMark_fuses, State.stick_fuses, State.repairMemories_fuses, State.retireRows_fuses, State.romBoot_fuses,
    State.setLadder_fuses, State.trainLinks_fuses, State.loadSteps_fuses, State.bootWipes_fuses, State.bootTransition_fuses, State.romDigest_fuses, = foldl_fuses]

@[simp] theorem State.wake_fuses (s : State) :
    (s.wake).fuses = s.fuses := by
  simp [State.wake, foldl_fuses]

@[simp] theorem State.makeCarriage0_fuses (s : State) :
    (s.makeCarriage0).fuses = s.fuses := by
  grind [State.makeCarriage0, State.serveDraw_fuses, = foldl_fuses]

@[simp] theorem State.corkQuiet_fuses (s : State) (r : SlotRecord) :
    (s.corkQuiet r).fuses = s.fuses := by
  simp [State.corkQuiet]

@[simp] theorem State.recoveryEntry_fuses (s : State) :
    (s.recoveryEntry).fuses = s.fuses := by
  grind [State.recoveryEntry, State.raise_fuses, State.appendBook_fuses, = foldl_fuses]

@[simp] theorem State.recoverCarriages_fuses (s : State) :
    (s.recoverCarriages).fuses = s.fuses := by
  grind [State.recoverCarriages, State.modCarriage_fuses, State.raiseFor_fuses, = foldl_fuses]

@[simp] theorem State.clearJournal_fuses (s : State) :
    (s.clearJournal).fuses = s.fuses := by
  simp [State.clearJournal]

@[simp] theorem State.recover_fuses (s : State) :
    (s.recover).fuses = s.fuses := by
  simp [State.recover, foldl_fuses]

@[simp] theorem State.handOver_fuses (s : State) :
    (s.handOver).fuses = s.fuses := by
  grind [State.handOver, State.enterJoining_fuses, State.returnToService_fuses, = foldl_fuses]

@[simp] theorem State.bootEnd_fuses (s : State) :
    (s.bootEnd).fuses = s.fuses := by
  grind [State.bootEnd, State.leafEvents_fuses, State.makeCarriage0_fuses, State.recoveryEntry_fuses, State.recoverCarriages_fuses,
    State.clearJournal_fuses, State.handOver_fuses, = foldl_fuses]

@[simp] theorem State.recoveryEnd_fuses (s : State) :
    (s.recoveryEnd).fuses = s.fuses := by
  grind [State.recoveryEnd, State.recover_fuses, State.handOver_fuses, = foldl_fuses]

@[simp] theorem State.abandonFrames_fuses (s : State) :
    (s.abandonFrames).fuses = s.fuses := by
  simp [State.abandonFrames]

@[simp] theorem State.restartFrames_fuses (s : State) :
    (s.restartFrames).fuses = s.fuses := by
  simp [State.restartFrames, foldl_fuses]

@[simp] theorem State.enterHold_fuses (s : State) (vin : Nat) :
    (s.enterHold vin).fuses = s.fuses := by
  grind [State.enterHold, State.ensureMark_fuses, State.raise_fuses, State.domainOff_fuses, State.outerOn_fuses, State.abandonFrames_fuses,
    = foldl_fuses]

@[simp] theorem State.vinWarnCrossing_fuses (s : State) (vin : Nat) :
    (s.vinWarnCrossing vin).fuses = s.fuses := by
  grind [State.vinWarnCrossing, State.internalReset_fuses, State.enterHold_fuses, = foldl_fuses]

@[simp] theorem State.decideAfresh_fuses (s : State) (derated : Bool) :
    (s.decideAfresh derated).fuses = s.fuses := by
  grind [State.decideAfresh, State.serviceEntered_fuses, State.returnToService_fuses, State.raise_fuses, = foldl_fuses]

@[simp] theorem State.exitHold_fuses (s : State) (vin : Nat) :
    (s.exitHold vin).fuses = s.fuses := by
  grind [State.exitHold, State.raise_fuses, State.flushPushes_fuses, State.noteVin_fuses, State.setLadder_fuses, State.conditions_fuses,
    State.outerOff_fuses, State.restartFrames_fuses, State.decideAfresh_fuses, = foldl_fuses]

@[simp] theorem State.park_fuses (s : State) :
    (s.park).fuses = s.fuses := by
  simp [State.park]

@[simp] theorem State.endTasting_fuses (s : State) (outcome : Nat) :
    (s.endTasting outcome).fuses = s.fuses := by
  grind [State.endTasting, State.internalReset_fuses, State.park_fuses, = foldl_fuses]

@[simp] theorem State.passStep_fuses (s : State) (e : StepEnd) :
    (s.passStep e).fuses = s.fuses := by
  grind [State.passStep, = foldl_fuses]

@[simp] theorem State.nextStep_fuses (fuel : Nat) : ∀ s : State, (State.nextStep fuel s).fuses = s.fuses := by
  induction fuel with
  | zero => intro s; rfl
  | succ n ih =>
    intro s
    rw [State.nextStep]
    split
    · rfl
    · split
      · exact State.endTasting_fuses _ _
      · split
        · exact (ih _).trans (State.passStep_fuses _ _)
        · split
          · exact State.endTasting_fuses _ _
          · rfl

@[simp] theorem State.startTasting_fuses (s : State) (action : Nat) :
    (s.startTasting action).fuses = s.fuses := by
  simp [State.startTasting, foldl_fuses]

@[simp] theorem State.vinRise_fuses (s : State) (vin : Nat) :
    (s.vinRise vin).fuses = s.fuses := by
  grind [State.vinRise, State.noteVin_fuses, State.enterPassage_fuses, = foldl_fuses]

@[simp] theorem State.resetReleased_fuses (s : State) (vin : Nat) :
    (s.resetReleased vin).fuses = s.fuses := by
  grind [State.resetReleased, State.noteVin_fuses, State.enterPassage_fuses, = foldl_fuses]

@[simp] theorem State.resetAsserted_fuses (s : State) :
    (s.resetAsserted).fuses = s.fuses := by
  grind [State.resetAsserted, State.recordCause_fuses, State.powerOff_fuses, = foldl_fuses]

@[simp] theorem State.vinFall_fuses (s : State) (vin : Nat) :
    (s.vinFall vin).fuses = s.fuses := by
  grind [State.vinFall, State.powerOff_fuses, = foldl_fuses]

@[simp] theorem State.pllsLocked_fuses (s : State) :
    (s.pllsLocked).fuses = s.fuses := by
  grind [State.pllsLocked, State.enterBoot_fuses, = foldl_fuses]

@[simp] theorem State.pllLost_fuses (s : State) (kept : Bool) :
    (s.pllLost kept).fuses = s.fuses := by
  grind [State.pllLost, State.raise_fuses, State.afterReset_fuses, State.enterPassage_fuses, State.faultReset_fuses, = foldl_fuses]

@[simp] theorem State.expressNow_fuses (s : State) :
    (s.expressNow).fuses = s.fuses := by
  grind [State.expressNow, State.reserveExpress_fuses, = foldl_fuses]

@[simp] theorem State.vinWarned_fuses (s : State) (vin : Nat) :
    (s.vinWarned vin).fuses = s.fuses := by
  grind [State.vinWarned, State.vinWarnCrossing_fuses, State.endTasting_fuses, = foldl_fuses]

@[simp] theorem State.deratedTimer_fuses (s : State) (vin : Nat) :
    (s.deratedTimer vin).fuses = s.fuses := by
  grind [State.deratedTimer, State.noteVin_fuses, State.conditions_fuses, State.leaveDerated_fuses, = foldl_fuses]

@[simp] theorem State.ladderUp_fuses (s : State) (vin : Nat) :
    (s.ladderUp vin).fuses = s.fuses := by
  grind [State.ladderUp, State.noteVin_fuses, State.setLadder_fuses, State.conditions_fuses, State.leaveDerated_fuses, = foldl_fuses]

@[simp] theorem State.ladderDown_fuses (s : State) :
    (s.ladderDown).fuses = s.fuses := by
  grind [State.ladderDown, State.setLadder_fuses, = foldl_fuses]

@[simp] theorem State.powerOver_fuses (s : State) (current : Nat) (vin : Nat) :
    (s.powerOver current vin).fuses = s.fuses := by
  grind [State.powerOver, State.raise_fuses, State.ladderDown_fuses, = foldl_fuses]

end Sys2Proof.Machine
end

