-- ==== Sys2Proof/Laws/FusesRows.lean ====
section
/-!
SUPPORT. What the remaining commands do leaves the fuses as they are.
-/
namespace Sys2Proof.Machine

@[simp] theorem State.railFault_fuses (s : State) (d : Nat) (cause : Nat) :
    (s.railFault d cause).fuses = s.fuses := by
  grind [State.railFault, State.raise_fuses, State.setLink_fuses, State.domainOff_fuses, State.reserveExpress_fuses, State.failConnection_fuses,
    State.faultReset_fuses, = foldl_fuses]

@[simp] theorem State.currentLimit_fuses (s : State) (rail : Option Nat) (current : Nat) (vin : Nat) :
    (s.currentLimit rail current vin).fuses = s.fuses := by
  grind [State.currentLimit, State.raise_fuses, State.railFault_fuses, = foldl_fuses]

@[simp] theorem State.currentStep_fuses (s : State) (current : Nat) :
    (s.currentStep current).fuses = s.fuses := by
  grind [State.currentStep, State.raise_fuses, State.setLadder_fuses, State.fitLadder_fuses, = foldl_fuses]

@[simp] theorem State.thermalLimit_fuses (s : State) (sensor : Nat) (temp : Nat) :
    (s.thermalLimit sensor temp).fuses = s.fuses := by
  grind [State.thermalLimit, State.raise_fuses, State.fitLadder_fuses, State.conditions_fuses, = foldl_fuses]

@[simp] theorem State.thermalStep_fuses (s : State) (temp : Nat) :
    (s.thermalStep temp).fuses = s.fuses := by
  grind [State.thermalStep, State.setLadder_fuses, State.fitLadder_fuses, State.conditions_fuses, = foldl_fuses]

@[simp] theorem State.lidWarn_fuses (s : State) (temp : Nat) :
    (s.lidWarn temp).fuses = s.fuses := by
  grind [State.lidWarn, State.raise_fuses, = foldl_fuses]

@[simp] theorem State.zeroised_fuses (s : State) :
    (s.zeroised).fuses = s.fuses := by
  grind [State.zeroised, State.internalReset_fuses, = foldl_fuses]

@[simp] theorem mbTrainStatus_fuses (s : State) (z1 : MbCommand) :
    (mbTrainStatus s z1).1.fuses = s.fuses := by
  simp [mbTrainStatus]
theorem mbTrainStatus_fuses_eq (s : State) (z1 : MbCommand) {s' : State} {q'}
    (h : (mbTrainStatus s z1) = (s', q')) : s'.fuses = s.fuses := by
  have e := mbTrainStatus_fuses s z1
  rw [h] at e
  exact e

@[simp] theorem State.leaveTrain_fuses (s : State) (cause : Nat) (next : TrainState) :
    (s.leaveTrain cause next).fuses = s.fuses := by
  grind [State.leaveTrain, State.raise_fuses, State.leavePeers_fuses, State.returnToService_fuses, = foldl_fuses]

@[simp] theorem State.changePeers_fuses (s : State) (old : Bytes) :
    (s.changePeers old).fuses = s.fuses := by
  grind [State.changePeers, State.syncPeers_fuses, State.peerDown_fuses, State.startKeying_fuses, = foldl_fuses]

@[simp] theorem State.acceptRoster_fuses (s : State) (r : Bytes) :
    (s.acceptRoster r).fuses = s.fuses := by
  grind [State.acceptRoster, State.raise_fuses, State.appendBook_fuses, State.compareRanges_fuses, State.leavePeers_fuses, State.leaveTrain_fuses,
    State.changePeers_fuses, = foldl_fuses]

@[simp] theorem mbRosterSet_fuses (s : State) (c : MbCommand) :
    (mbRosterSet s c).1.fuses = s.fuses := by
  grind [mbRosterSet, State.answer_fuses, State.acceptRoster_fuses, = foldl_fuses]
theorem mbRosterSet_fuses_eq (s : State) (c : MbCommand) {s' : State} {q'}
    (h : (mbRosterSet s c) = (s', q')) : s'.fuses = s.fuses := by
  have e := mbRosterSet_fuses s c
  rw [h] at e
  exact e

@[simp] theorem mbTrainJoin_fuses (s : State) (z1 : MbCommand) :
    (mbTrainJoin s z1).1.fuses = s.fuses := by
  grind [mbTrainJoin, State.enterJoining_fuses, = foldl_fuses]
theorem mbTrainJoin_fuses_eq (s : State) (z1 : MbCommand) {s' : State} {q'}
    (h : (mbTrainJoin s z1) = (s', q')) : s'.fuses = s.fuses := by
  have e := mbTrainJoin_fuses s z1
  rw [h] at e
  exact e

@[simp] theorem mbTrainLeave_fuses (s : State) (z1 : MbCommand) :
    (mbTrainLeave s z1).1.fuses = s.fuses := by
  grind [mbTrainLeave, State.leaveTrain_fuses, = foldl_fuses]
theorem mbTrainLeave_fuses_eq (s : State) (z1 : MbCommand) {s' : State} {q'}
    (h : (mbTrainLeave s z1) = (s', q')) : s'.fuses = s.fuses := by
  have e := mbTrainLeave_fuses s z1
  rw [h] at e
  exact e

@[simp] theorem mbRosterGet_fuses (s : State) (z1 : MbCommand) :
    (mbRosterGet s z1).1.fuses = s.fuses := by
  simp [mbRosterGet]
theorem mbRosterGet_fuses_eq (s : State) (z1 : MbCommand) {s' : State} {q'}
    (h : (mbRosterGet s z1) = (s', q')) : s'.fuses = s.fuses := by
  have e := mbRosterGet_fuses s z1
  rw [h] at e
  exact e

@[simp] theorem mbVinWarnSet_fuses (s : State) (c : MbCommand) :
    (mbVinWarnSet s c).1.fuses = s.fuses := by
  grind [mbVinWarnSet, = foldl_fuses]
theorem mbVinWarnSet_fuses_eq (s : State) (c : MbCommand) {s' : State} {q'}
    (h : (mbVinWarnSet s c) = (s', q')) : s'.fuses = s.fuses := by
  have e := mbVinWarnSet_fuses s c
  rw [h] at e
  exact e

@[simp] theorem mbDeratedClear_fuses (s : State) (z1 : MbCommand) :
    (mbDeratedClear s z1).1.fuses = s.fuses := by
  grind [mbDeratedClear, State.conditions_fuses, = foldl_fuses]
theorem mbDeratedClear_fuses_eq (s : State) (z1 : MbCommand) {s' : State} {q'}
    (h : (mbDeratedClear s z1) = (s', q')) : s'.fuses = s.fuses := by
  have e := mbDeratedClear_fuses s z1
  rw [h] at e
  exact e

@[simp] theorem State.startShutdown_fuses (s : State) (action : Nat) (taste : Nat) :
    (s.startShutdown action taste).fuses = s.fuses := by
  simp [State.startShutdown]

@[simp] theorem mbShutdown_fuses (s : State) (c : MbCommand) :
    (mbShutdown s c).1.fuses = s.fuses := by
  grind [mbShutdown, State.startShutdown_fuses, = foldl_fuses]
theorem mbShutdown_fuses_eq (s : State) (c : MbCommand) {s' : State} {q'}
    (h : (mbShutdown s c) = (s', q')) : s'.fuses = s.fuses := by
  have e := mbShutdown_fuses s c
  rw [h] at e
  exact e

@[simp] theorem mbWake_fuses (s : State) (c : MbCommand) :
    (mbWake s c).1.fuses = s.fuses := by
  grind [mbWake, = foldl_fuses]
theorem mbWake_fuses_eq (s : State) (c : MbCommand) {s' : State} {q'}
    (h : (mbWake s c) = (s', q')) : s'.fuses = s.fuses := by
  have e := mbWake_fuses s c
  rw [h] at e
  exact e

@[simp] theorem State.endShutdown_fuses (s : State) (action : Nat) (taste : Nat) :
    (s.endShutdown action taste).fuses = s.fuses := by
  grind [State.endShutdown, State.internalReset_fuses, State.park_fuses, State.startTasting_fuses, = foldl_fuses]

@[simp] theorem mbPressShareSet_fuses (s : State) (c : MbCommand) :
    (mbPressShareSet s c).1.fuses = s.fuses := by
  grind [mbPressShareSet, = foldl_fuses]
theorem mbPressShareSet_fuses_eq (s : State) (c : MbCommand) {s' : State} {q'}
    (h : (mbPressShareSet s c) = (s', q')) : s'.fuses = s.fuses := by
  have e := mbPressShareSet_fuses s c
  rw [h] at e
  exact e

@[simp] theorem mbPowerStatus_fuses (s : State) (c : MbCommand) :
    (mbPowerStatus s c).1.fuses = s.fuses := by
  simp [mbPowerStatus]
theorem mbPowerStatus_fuses_eq (s : State) (c : MbCommand) {s' : State} {q'}
    (h : (mbPowerStatus s c) = (s', q')) : s'.fuses = s.fuses := by
  have e := mbPowerStatus_fuses s c
  rw [h] at e
  exact e

@[simp] theorem State.enterEntropyTest_fuses (s : State) :
    (s.enterEntropyTest).fuses = s.fuses := by
  grind [State.enterEntropyTest, State.raise_fuses, State.failWaiting_fuses, State.dropPools_fuses, State.domainOff_fuses, State.outerOff_fuses,
    = foldl_fuses]

@[simp] theorem mbEntropyTestEnter_fuses (s : State) (z1 : MbCommand) :
    (mbEntropyTestEnter s z1).1.fuses = s.fuses := by
  grind [mbEntropyTestEnter, State.enterEntropyTest_fuses, = foldl_fuses]
theorem mbEntropyTestEnter_fuses_eq (s : State) (z1 : MbCommand) {s' : State} {q'}
    (h : (mbEntropyTestEnter s z1) = (s', q')) : s'.fuses = s.fuses := by
  have e := mbEntropyTestEnter_fuses s z1
  rw [h] at e
  exact e

@[simp] theorem mbEntropyTestRead_fuses (s : State) (c : MbCommand) :
    (mbEntropyTestRead s c).1.fuses = s.fuses := by
  grind [mbEntropyTestRead, State.answer_fuses, = foldl_fuses]
theorem mbEntropyTestRead_fuses_eq (s : State) (c : MbCommand) {s' : State} {q'}
    (h : (mbEntropyTestRead s c) = (s', q')) : s'.fuses = s.fuses := by
  have e := mbEntropyTestRead_fuses s c
  rw [h] at e
  exact e

@[simp] theorem State.checkpointDone_fuses (s : State) :
    (s.checkpointDone).fuses = s.fuses := by
  grind [State.checkpointDone, State.pumpExport_fuses, = foldl_fuses]

@[simp] theorem State.checkpointsDone_fuses (fuel : Nat) (s : State) :
    (State.checkpointsDone fuel s).fuses = s.fuses := by
  induction fuel generalizing s with
  | zero => simp [State.checkpointsDone]
  | succ n ih => simp [State.checkpointsDone, ih]

@[simp] theorem State.abandonRoutines_fuses (s : State) :
    (s.abandonRoutines).fuses = s.fuses := by
  simp [State.abandonRoutines, foldl_fuses]

@[simp] theorem State.sealCellar_fuses (s : State) :
    (s.sealCellar).fuses = s.fuses := by
  simp [State.sealCellar, foldl_fuses]

@[simp] theorem State.enterDebug_fuses (s : State) :
    (s.enterDebug).fuses = s.fuses := by
  grind [State.enterDebug, State.raise_fuses, State.appendBook_fuses, State.abandonRoutines_fuses, State.sealCellar_fuses, = foldl_fuses]

@[simp] theorem mbProvisioningEnter_fuses (s : State) (z1 : MbCommand) :
    (mbProvisioningEnter s z1).1.fuses = s.fuses := by
  grind [mbProvisioningEnter, = foldl_fuses]
theorem mbProvisioningEnter_fuses_eq (s : State) (z1 : MbCommand) {s' : State} {q'}
    (h : (mbProvisioningEnter s z1) = (s', q')) : s'.fuses = s.fuses := by
  have e := mbProvisioningEnter_fuses s z1
  rw [h] at e
  exact e

@[simp] theorem mbProvisioningExit_fuses (s : State) (z1 : MbCommand) :
    (mbProvisioningExit s z1).1.fuses = s.fuses := by
  grind [mbProvisioningExit, State.returnToService_fuses, State.enterDebug_fuses, = foldl_fuses]
theorem mbProvisioningExit_fuses_eq (s : State) (z1 : MbCommand) {s' : State} {q'}
    (h : (mbProvisioningExit s z1) = (s', q')) : s'.fuses = s.fuses := by
  have e := mbProvisioningExit_fuses s z1
  rw [h] at e
  exact e

@[simp] theorem State.zeroMram_fuses (s : State) :
    (s.zeroMram).fuses = s.fuses := by
  simp [State.zeroMram]

@[simp] theorem State.zeroIdentity_fuses (s : State) :
    (s.zeroIdentity).fuses = s.fuses := by
  simp [State.zeroIdentity]

@[simp] theorem State.wipeFactory_fuses (s : State) :
    (s.wipeFactory).fuses = s.fuses := by
  simp [State.wipeFactory]

@[simp] theorem mbDebugChallenge_fuses (s : State) (z1 : MbCommand) :
    (mbDebugChallenge s z1).1.fuses = s.fuses := by
  grind [mbDebugChallenge, State.serveDraw_fuses, State.answer_fuses, = foldl_fuses]
theorem mbDebugChallenge_fuses_eq (s : State) (z1 : MbCommand) {s' : State} {q'}
    (h : (mbDebugChallenge s z1) = (s', q')) : s'.fuses = s.fuses := by
  have e := mbDebugChallenge_fuses s z1
  rw [h] at e
  exact e

@[simp] theorem State.grant_fuses (s : State) (g : Grant) (signer : Nat) (serial : Nat) :
    (s.grant g signer serial).fuses = s.fuses := by
  grind [State.grant, State.raise_fuses, State.enterDebug_fuses, = foldl_fuses]

@[simp] theorem mbDebugAuth_fuses (s : State) (c : MbCommand) :
    (mbDebugAuth s c).1.fuses = s.fuses := by
  grind [mbDebugAuth, State.raise_fuses, State.answer_fuses, State.grant_fuses, = foldl_fuses]
theorem mbDebugAuth_fuses_eq (s : State) (c : MbCommand) {s' : State} {q'}
    (h : (mbDebugAuth s c) = (s', q')) : s'.fuses = s.fuses := by
  have e := mbDebugAuth_fuses s c
  rw [h] at e
  exact e

@[simp] theorem State.setBank_fuses (s : State) (i : Nat) (b : Bytes) (serial : Nat) :
    (s.setBank i b serial).fuses = s.fuses := by
  grind [State.setBank, = foldl_fuses]

@[simp] theorem State.stageFirst_fuses (s : State) :
    (s.stageFirst).fuses = s.fuses := by
  simp [State.stageFirst]

@[simp] theorem mbFwStage_fuses (s : State) (c : MbCommand) :
    (mbFwStage s c).1.fuses = s.fuses := by
  grind [mbFwStage, State.answer_fuses, State.setBank_fuses, State.stageFirst_fuses, = foldl_fuses]
theorem mbFwStage_fuses_eq (s : State) (c : MbCommand) {s' : State} {q'}
    (h : (mbFwStage s c) = (s', q')) : s'.fuses = s.fuses := by
  have e := mbFwStage_fuses s c
  rw [h] at e
  exact e

theorem State.compareAll_fuses_eq (b : Bytes) (l : List Component) (s : State) {s' : State} {q'}
    (h : s.compareAll b l = (s', q')) : s'.fuses = s.fuses := by
  induction l generalizing s with
  | nil => simp [State.compareAll] at h; rw [h.1]
  | cons a t ih =>
    unfold State.compareAll at h
    grind [→ State.readBack_fuses_eq]

@[simp] theorem mbFwCommit_fuses (s : State) (c : MbCommand) :
    (mbFwCommit s c).1.fuses = s.fuses := by
  unfold mbFwCommit
  repeat' (first | (simp only [State.answer_fuses, State.setBank_fuses]) | split | (refine (foldl_fuses _ (fun _ _ => ?_) _ _).trans ?_))
  all_goals (first | (simp; done) | grind [→ State.compareAll_fuses_eq, State.answer_fuses, State.setBank_fuses])
theorem mbFwCommit_fuses_eq (s : State) (c : MbCommand) {s' : State} {q'}
    (h : (mbFwCommit s c) = (s', q')) : s'.fuses = s.fuses := by
  have e := mbFwCommit_fuses s c
  rw [h] at e
  exact e

@[simp] theorem State.loadPatch_fuses (s : State) (k : MicroKind) (b : Bytes) :
    (s.loadPatch k b).fuses = s.fuses := by
  simp [State.loadPatch]

@[simp] theorem mbPatchLoad_fuses (s : State) (c : MbCommand) :
    (mbPatchLoad s c).1.fuses = s.fuses := by
  grind [mbPatchLoad, State.loadPatch_fuses, = foldl_fuses]
theorem mbPatchLoad_fuses_eq (s : State) (c : MbCommand) {s' : State} {q'}
    (h : (mbPatchLoad s c) = (s', q')) : s'.fuses = s.fuses := by
  have e := mbPatchLoad_fuses s c
  rw [h] at e
  exact e

@[simp] theorem mbFwStatus_fuses (s : State) (z1 : MbCommand) :
    (mbFwStatus s z1).1.fuses = s.fuses := by
  simp [mbFwStatus]
theorem mbFwStatus_fuses_eq (s : State) (z1 : MbCommand) {s' : State} {q'}
    (h : (mbFwStatus s z1) = (s', q')) : s'.fuses = s.fuses := by
  have e := mbFwStatus_fuses s z1
  rw [h] at e
  exact e

@[simp] theorem mbEringCreate_fuses (s : State) (c : MbCommand) :
    (mbEringCreate s c).1.fuses = s.fuses := by
  grind [mbEringCreate, State.deliverEarly_fuses, = foldl_fuses]
theorem mbEringCreate_fuses_eq (s : State) (c : MbCommand) {s' : State} {q'}
    (h : (mbEringCreate s c) = (s', q')) : s'.fuses = s.fuses := by
  have e := mbEringCreate_fuses s c
  rw [h] at e
  exact e

@[simp] theorem mbEringDestroy_fuses (s : State) (c : MbCommand) :
    (mbEringDestroy s c).1.fuses = s.fuses := by
  grind [mbEringDestroy, = foldl_fuses]
theorem mbEringDestroy_fuses_eq (s : State) (c : MbCommand) {s' : State} {q'}
    (h : (mbEringDestroy s c) = (s', q')) : s'.fuses = s.fuses := by
  have e := mbEringDestroy_fuses s c
  rw [h] at e
  exact e

@[simp] theorem mbEfilterLoad_fuses (s : State) (c : MbCommand) :
    (mbEfilterLoad s c).1.fuses = s.fuses := by
  grind [mbEfilterLoad, State.modEring_fuses, = foldl_fuses]
theorem mbEfilterLoad_fuses_eq (s : State) (c : MbCommand) {s' : State} {q'}
    (h : (mbEfilterLoad s c) = (s', q')) : s'.fuses = s.fuses := by
  have e := mbEfilterLoad_fuses s c
  rw [h] at e
  exact e

@[simp] theorem mbExpressEnable_fuses (s : State) (c : MbCommand) :
    (mbExpressEnable s c).1.fuses = s.fuses := by
  grind [mbExpressEnable, State.reserveExpress_fuses, = foldl_fuses]
theorem mbExpressEnable_fuses_eq (s : State) (c : MbCommand) {s' : State} {q'}
    (h : (mbExpressEnable s c) = (s', q')) : s'.fuses = s.fuses := by
  have e := mbExpressEnable_fuses s c
  rw [h] at e
  exact e

@[simp] theorem mbExpressDisable_fuses (s : State) (z1 : MbCommand) :
    (mbExpressDisable s z1).1.fuses = s.fuses := by
  simp [mbExpressDisable]
theorem mbExpressDisable_fuses_eq (s : State) (z1 : MbCommand) {s' : State} {q'}
    (h : (mbExpressDisable s z1) = (s', q')) : s'.fuses = s.fuses := by
  have e := mbExpressDisable_fuses s z1
  rw [h] at e
  exact e

@[simp] theorem mbExpressStatus_fuses (s : State) (z1 : MbCommand) :
    (mbExpressStatus s z1).1.fuses = s.fuses := by
  simp [mbExpressStatus]
theorem mbExpressStatus_fuses_eq (s : State) (z1 : MbCommand) {s' : State} {q'}
    (h : (mbExpressStatus s z1) = (s', q')) : s'.fuses = s.fuses := by
  have e := mbExpressStatus_fuses s z1
  rw [h] at e
  exact e

@[simp] theorem mbPortConfig_fuses (s : State) (c : MbCommand) :
    (mbPortConfig s c).1.fuses = s.fuses := by
  grind [mbPortConfig, State.writePort_fuses, = foldl_fuses]
theorem mbPortConfig_fuses_eq (s : State) (c : MbCommand) {s' : State} {q'}
    (h : (mbPortConfig s c) = (s', q')) : s'.fuses = s.fuses := by
  have e := mbPortConfig_fuses s c
  rw [h] at e
  exact e

@[simp] theorem mbClassifierLoad_fuses (s : State) (c : MbCommand) :
    (mbClassifierLoad s c).1.fuses = s.fuses := by
  grind [mbClassifierLoad, State.writeProgram_fuses, = foldl_fuses]
theorem mbClassifierLoad_fuses_eq (s : State) (c : MbCommand) {s' : State} {q'}
    (h : (mbClassifierLoad s c) = (s', q')) : s'.fuses = s.fuses := by
  have e := mbClassifierLoad_fuses s c
  rw [h] at e
  exact e

@[simp] theorem State.refill_fuses (s : State) (p : Nat) :
    (s.refill p).fuses = s.fuses := by
  grind [State.refill, State.modPort_fuses, = foldl_fuses]

@[simp] theorem mbPortStatus_fuses (s : State) (c : MbCommand) :
    (mbPortStatus s c).1.fuses = s.fuses := by
  grind [mbPortStatus, State.answer_fuses, State.refill_fuses, = foldl_fuses]
theorem mbPortStatus_fuses_eq (s : State) (c : MbCommand) {s' : State} {q'}
    (h : (mbPortStatus s c) = (s', q')) : s'.fuses = s.fuses := by
  have e := mbPortStatus_fuses s c
  rw [h] at e
  exact e

@[simp] theorem mbTastingSet_fuses (s : State) (c : MbCommand) :
    (mbTastingSet s c).1.fuses = s.fuses := by
  grind [mbTastingSet, = foldl_fuses]
theorem mbTastingSet_fuses_eq (s : State) (c : MbCommand) {s' : State} {q'}
    (h : (mbTastingSet s c) = (s', q')) : s'.fuses = s.fuses := by
  have e := mbTastingSet_fuses s c
  rw [h] at e
  exact e

@[simp] theorem mbTastingLoad_fuses (s : State) (c : MbCommand) :
    (mbTastingLoad s c).1.fuses = s.fuses := by
  grind [mbTastingLoad, State.loadSteps_fuses, = foldl_fuses]
theorem mbTastingLoad_fuses_eq (s : State) (c : MbCommand) {s' : State} {q'}
    (h : (mbTastingLoad s c) = (s', q')) : s'.fuses = s.fuses := by
  have e := mbTastingLoad_fuses s c
  rw [h] at e
  exact e

@[simp] theorem mbTastingResults_fuses (s : State) (c : MbCommand) :
    (mbTastingResults s c).1.fuses = s.fuses := by
  simp [mbTastingResults]
theorem mbTastingResults_fuses_eq (s : State) (c : MbCommand) {s' : State} {q'}
    (h : (mbTastingResults s c) = (s', q')) : s'.fuses = s.fuses := by
  have e := mbTastingResults_fuses s c
  rw [h] at e
  exact e

@[simp] theorem State.mbHold_fuses (s : State) (c : MbCommand) (w : MbWait) :
    (s.mbHold c w).fuses = s.fuses := by
  grind [State.mbHold, = foldl_fuses]

@[simp] theorem State.mbDone_fuses (s : State) (c : MbCommand) (o : MbOut) :
    (s.mbDone c o).fuses = s.fuses := by
  grind [State.mbDone, State.mbAnswer_fuses, State.wake_fuses, = foldl_fuses]

@[simp] theorem State.mbEpoch_fuses (s : State) :
    (s.mbEpoch).fuses = s.fuses := by
  grind [State.mbEpoch, State.resizeNow_fuses, State.mbDone_fuses, = foldl_fuses]

@[simp] theorem State.epoch_fuses (s : State) :
    (s.epoch).fuses = s.fuses := by
  grind [State.epoch, State.returnExpress_fuses, State.mbEpoch_fuses, = foldl_fuses]

@[simp] theorem State.recordTimeout_fuses (s : State) (who : RecordWaiter) :
    (s.recordTimeout who).fuses = s.fuses := by
  unfold State.recordTimeout
  repeat' (first | (simp only [State.endIf_fuses, State.mbDone_fuses]) | split | (refine (foldl_fuses _ (fun _ _ => ?_) _ _).trans ?_))
  all_goals (first | (simp; done) | grind [State.endIf_fuses, State.mbDone_fuses])

@[simp] theorem State.placeTimeout_fuses (s : State) :
    (s.placeTimeout).fuses = s.fuses := by
  grind [State.placeTimeout, State.mbSend_fuses, = foldl_fuses]

@[simp] theorem State.drainEnd_fuses (s : State) :
    (s.drainEnd).fuses = s.fuses := by
  grind [State.drainEnd, State.endSession_fuses, State.mbSend_fuses, State.endShutdown_fuses, = foldl_fuses]

@[simp] theorem State.modCell_fuses (s : State) (i : Nat) (g : Cell → Cell) :
    (s.modCell i g).fuses = s.fuses := by
  simp [State.modCell]

@[simp] theorem State.stopCell_fuses (s : State) (i : Nat) (test : Nat) :
    (s.stopCell i test).fuses = s.fuses := by
  grind [State.stopCell, State.raise_fuses, State.fatalEntropy_fuses, State.modCell_fuses, = foldl_fuses]

@[simp] theorem State.gather_fuses (fuel : Nat) (s : State) :
    (State.gather fuel s).fuses = s.fuses := by
  induction fuel generalizing s with
  | zero => simp [State.gather]
  | succ n ih => grind [State.gather, State.modCell_fuses]

@[simp] theorem State.noiseBit_fuses (s : State) (i : Nat) (b : Bool) :
    (s.noiseBit i b).fuses = s.fuses := by
  grind [State.noiseBit, State.modCell_fuses, State.stopCell_fuses, State.gather_fuses, = foldl_fuses]

@[simp] theorem State.rawPair_fuses (s : State) (i : Nat) (x : Bool) (y : Bool) :
    (s.rawPair i x y).fuses = s.fuses := by
  grind [State.rawPair, State.noiseBit_fuses, = foldl_fuses]

@[simp] theorem State.stall_fuses (s : State) (i : Nat) :
    (s.stall i).fuses = s.fuses := by
  grind [State.stall, State.stopCell_fuses, = foldl_fuses]

@[simp] theorem State.startupPass_fuses (s : State) (i : Nat) :
    (s.startupPass i).fuses = s.fuses := by
  simp [State.startupPass]

@[simp] theorem State.blockFails_fuses (s : State) :
    (s.blockFails).fuses = s.fuses := by
  grind [State.blockFails, State.raise_fuses, State.fatalEntropy_fuses, = foldl_fuses]

@[simp] theorem State.blockReady_fuses (s : State) :
    (s.blockReady).fuses = s.fuses := by
  grind [State.blockReady, State.reseed_fuses, State.serveDraws_fuses, = foldl_fuses]

@[simp] theorem State.condition_fuses (s : State) (agree : Bool) :
    (s.condition agree).fuses = s.fuses := by
  grind [State.condition, State.blockFails_fuses, State.blockReady_fuses, = foldl_fuses]

@[simp] theorem State.refillData_fuses (s : State) :
    (s.refillData).fuses = s.fuses := by
  grind [State.refillData, State.serveDraw_fuses, = foldl_fuses]

@[simp] theorem State.instantiate_fuses (s : State) :
    (s.instantiate).fuses = s.fuses := by
  simp [State.instantiate]

@[simp] theorem State.drbgStart_fuses (s : State) (katOk : Bool) :
    (s.drbgStart katOk).fuses = s.fuses := by
  grind [State.drbgStart, State.fatalEntropy_fuses, State.instantiate_fuses, = foldl_fuses]

@[simp] theorem State.reseedDue_fuses (s : State) (katOk : Bool) :
    (s.reseedDue katOk).fuses = s.fuses := by
  grind [State.reseedDue, State.raise_fuses, State.reseed_fuses, State.drbgFailed_fuses, State.fatalEntropy_fuses, State.serveDraws_fuses,
    State.refillData_fuses, = foldl_fuses]

@[simp] theorem State.seedRefill_fuses (s : State) (tile : Nat) :
    (s.seedRefill tile).fuses = s.fuses := by
  grind [State.seedRefill, State.modEngine_fuses, State.serveDraw_fuses, = foldl_fuses]

@[simp] theorem State.readData_fuses (s : State) :
    (s.readData).fuses = s.fuses := by
  grind [State.readData, State.raise_fuses, State.refillData_fuses, = foldl_fuses]

@[simp] theorem State.writeRegister_fuses (s : State) (r : WritableReg) (v : BitVec 64) :
    (s.writeRegister r v).fuses = s.fuses := by
  unfold State.writeRegister
  repeat' (first | (simp only [State.bdDo_fuses]) | split | (refine (foldl_fuses _ (fun _ _ => ?_) _ _).trans ?_))
  all_goals (first | (simp; done) | grind [State.bdDo_fuses])

@[simp] theorem State.countPort_fuses (s : State) (p : Nat) (i : Nat) (n : Nat) :
    (s.countPort p i n).fuses = s.fuses := by
  simp [State.countPort]

@[simp] theorem State.rejectReq_fuses (s : State) (p : Nat) (reason : Nat) (cause : Nat) (retry : Nat) :
    (s.rejectReq p reason cause retry).fuses = s.fuses := by
  grind [State.rejectReq, State.modPort_fuses, State.emit_fuses, State.countPort_fuses, = foldl_fuses]

@[simp] theorem State.rejectToken_fuses (s : State) (p : Nat) :
    (s.rejectToken p).fuses = s.fuses := by
  grind [State.rejectToken, State.modPort_fuses, State.rejectReq_fuses, = foldl_fuses]

@[simp] theorem State.admitReq_fuses (s : State) (p : Nat) (c : Nat) (req : CmReq) (mailbox : Bool) :
    (s.admitReq p c req mailbox).fuses = s.fuses := by
  grind [State.admitReq, State.modPort_fuses, State.emit_fuses, State.countPort_fuses, = foldl_fuses]

@[simp] theorem State.cmReq_fuses (s : State) (p : Nat) (req : CmReq) :
    (s.cmReq p req).fuses = s.fuses := by
  grind [State.cmReq, State.refill_fuses, State.rejectReq_fuses, State.rejectToken_fuses, State.admitReq_fuses, = foldl_fuses]

@[simp] theorem State.cmDreq_fuses (s : State) (c : Nat) :
    (s.cmDreq c).fuses = s.fuses := by
  grind [State.cmDreq, State.emit_fuses, State.failConnection_fuses, = foldl_fuses]

@[simp] theorem State.endSoftStart_fuses (s : State) :
    (s.endSoftStart).fuses = s.fuses := by
  unfold State.endSoftStart
  repeat' (first | (simp only [State.refill_fuses]) | split | (refine (foldl_fuses _ (fun _ _ => ?_) _ _).trans ?_))
  all_goals (first | (simp; done) | grind [State.refill_fuses])

@[simp] theorem State.rdmaRead_fuses (s : State) (conn : Nat) (rkey : Nat) (addr : Nat) (len : Nat) :
    (s.rdmaRead conn rkey addr len).fuses = s.fuses := by
  grind [State.rdmaRead, State.emit_fuses, State.refuseRequest_fuses, = foldl_fuses]

@[simp] theorem State.consIndex_fuses (s : State) (ring : Nat) (v : Nat) :
    (s.consIndex ring v).fuses = s.fuses := by
  unfold State.consIndex
  repeat' (first | (simp only [State.modConn_fuses, State.modEring_fuses, State.drainRing_fuses, State.pumpExport_fuses,
    State.creditUnits_fuses]) | split | (refine (foldl_fuses _ (fun _ _ => ?_) _ _).trans ?_))
  all_goals (first | (simp; done) | grind [State.modConn_fuses, State.modEring_fuses, State.drainRing_fuses, State.pumpExport_fuses,
    State.creditUnits_fuses])

@[simp] theorem State.inputArrived_fuses (s : State) (id : Nat) (off : Nat) (data : Bytes) :
    (s.inputArrived id off data).fuses = s.fuses := by
  simp [State.inputArrived]

@[simp] theorem State.deliverRead_fuses (s : State) (u : ReadUse) (data : Bytes) :
    (s.deliverRead u data).fuses = s.fuses := by
  unfold State.deliverRead
  repeat' (first | (simp only [State.consIndex_fuses, State.inputArrived_fuses]) | split | (refine (foldl_fuses _ (fun _ _ => ?_) _ _).trans ?_))
  all_goals (first | (simp; done) | grind [State.consIndex_fuses, State.inputArrived_fuses])

@[simp] theorem State.readAnswered_fuses (s : State) (c : Nat) (id : Nat) (data : Bytes) :
    (s.readAnswered c id data).fuses = s.fuses := by
  grind [State.readAnswered, State.modConn_fuses, State.pumpReads_fuses, State.deliverRead_fuses, = foldl_fuses]

@[simp] theorem State.flushHeld_fuses (s : State) (c : Nat) :
    (s.flushHeld c).fuses = s.fuses := by
  grind [State.flushHeld, State.modConn_fuses, State.emit_fuses, = foldl_fuses]

@[simp] theorem State.acked_fuses (s : State) (c : Nat) (nak : Option ConnCause) :
    (s.acked c nak).fuses = s.fuses := by
  unfold State.acked
  repeat' (first | (simp only [State.modConn_fuses, State.failConnection_fuses,
    State.flushHeld_fuses]) | split | (refine (foldl_fuses _ (fun _ _ => ?_) _ _).trans ?_))
  all_goals (first | (simp; done) | grind [State.modConn_fuses, State.failConnection_fuses, State.flushHeld_fuses])

@[simp] theorem State.rnrNaked_fuses (s : State) (c : Nat) :
    (s.rnrNaked c).fuses = s.fuses := by
  grind [State.rnrNaked, State.modConn_fuses, State.emit_fuses, State.failConnection_fuses, = foldl_fuses]

@[simp] theorem State.ackTimeout_fuses (s : State) (c : Nat) :
    (s.ackTimeout c).fuses = s.fuses := by
  grind [State.ackTimeout, State.modConn_fuses, State.failConnection_fuses, = foldl_fuses]

@[simp] theorem State.cnpIn_fuses (s : State) (c : Nat) :
    (s.cnpIn c).fuses = s.fuses := by
  grind [State.cnpIn, State.modConn_fuses, State.countPort_fuses, = foldl_fuses]

@[simp] theorem State.rateUp_fuses (s : State) (c : Nat) :
    (s.rateUp c).fuses = s.fuses := by
  grind [State.rateUp, State.modConn_fuses, = foldl_fuses]

@[simp] theorem State.sendXon_fuses (s : State) (p : Nat) :
    (s.sendXon p).fuses = s.fuses := by
  grind [State.sendXon, State.modPort_fuses, State.emit_fuses, = foldl_fuses]

@[simp] theorem State.drainPort_fuses (s : State) (p : Nat) :
    (s.drainPort p).fuses = s.fuses := by
  grind [State.drainPort, State.modPort_fuses, State.sendXon_fuses, = foldl_fuses]

@[simp] theorem State.holdFrame_fuses (s : State) (p : Nat) (pri : Nat) (len : Nat) :
    (s.holdFrame p pri len).fuses = s.fuses := by
  grind [State.holdFrame, State.modPort_fuses, State.emit_fuses, State.countPort_fuses, = foldl_fuses]

@[simp] theorem State.buffer_fuses (s : State) (p : Nat) (pri : Nat) (len : Nat) (management : Bool) :
    (s.buffer p pri len management).1.fuses = s.fuses := by
  grind [State.buffer, State.modPort_fuses, State.countPort_fuses, State.drainPort_fuses, State.holdFrame_fuses, = foldl_fuses]
theorem State.buffer_fuses_eq (s : State) (p : Nat) (pri : Nat) (len : Nat) (management : Bool) {s' : State} {q'}
    (h : (s.buffer p pri len management) = (s', q')) : s'.fuses = s.fuses := by
  have e := State.buffer_fuses s p pri len management
  rw [h] at e
  exact e

@[simp] theorem State.congested_fuses (s : State) (p : Nat) (c : Option Nat) :
    (s.congested p c).fuses = s.fuses := by
  grind [State.congested, State.modConn_fuses, State.emit_fuses, State.countPort_fuses, = foldl_fuses]

@[simp] theorem State.ingress_fuses (s : State) (p : Nat) (len : Nat) (f : Bytes) (marked : Option Nat) :
    (s.ingress p len f marked).fuses = s.fuses := by
  grind [State.ingress, State.countPort_fuses, State.buffer_fuses, State.congested_fuses, = foldl_fuses]

@[simp] theorem State.dhcpSend_fuses (s : State) (p : Nat) (kind : Nat) :
    (s.dhcpSend p kind).fuses = s.fuses := by
  grind [State.dhcpSend, State.emit_fuses, State.offer_fuses, = foldl_fuses]

@[simp] theorem State.dhcpStart_fuses (s : State) (p : Nat) :
    (s.dhcpStart p).fuses = s.fuses := by
  simp [State.dhcpStart]

@[simp] theorem State.dhcpTake_fuses (s : State) (p : Nat) (x : Port) (f : Bytes) :
    (s.dhcpTake p x f).fuses = s.fuses := by
  grind [State.dhcpTake, State.modPort_fuses, State.offer_fuses, State.dhcpSend_fuses, State.dhcpStart_fuses, = foldl_fuses]

@[simp] theorem State.dhcpTimer_fuses (s : State) (p : Nat) :
    (s.dhcpTimer p).fuses = s.fuses := by
  grind [State.dhcpTimer, State.modPort_fuses, State.dhcpSend_fuses, State.dhcpStart_fuses, = foldl_fuses]

@[simp] theorem State.transmit_fuses (s : State) (p : Nat) : (s.transmit p).fuses = s.fuses := by
  grind [State.transmit, State.modPort_fuses, State.countPort_fuses]

@[simp] theorem State.idlePorts_fuses (s : State) :
    (s.idlePorts).fuses = s.fuses := by
  simp [State.idlePorts, foldl_fuses]

@[simp] theorem State.manage_fuses (s : State) (p : Nat) (x : Port) (f : Bytes) :
    (s.manage p x f).fuses = s.fuses := by
  grind [State.manage, State.modPort_fuses, State.emit_fuses, State.dhcpTake_fuses, = foldl_fuses]

@[simp] theorem State.mgmtFrame_fuses (s : State) (p : Nat) (f : Bytes) :
    (s.mgmtFrame p f).fuses = s.fuses := by
  grind [State.mgmtFrame, State.modPort_fuses, State.countPort_fuses, State.manage_fuses, = foldl_fuses]

@[simp] theorem State.pfc_fuses (s : State) (p : Nat) (pri : Nat) (pause : Bool) :
    (s.pfc p pri pause).fuses = s.fuses := by
  grind [State.pfc, State.modPort_fuses, State.countPort_fuses, = foldl_fuses]

@[simp] theorem State.pfcStorm_fuses (s : State) (p : Nat) (pri : Nat) (own : Bool) :
    (s.pfcStorm p pri own).fuses = s.fuses := by
  grind [State.pfcStorm, State.modPort_fuses, State.raise_fuses, = foldl_fuses]

@[simp] theorem State.linkTrained_fuses (s : State) (p : Nat) :
    (s.linkTrained p).fuses = s.fuses := by
  grind [State.linkTrained, State.setLink_fuses, State.dhcpStart_fuses, = foldl_fuses]

@[simp] theorem State.linkLost_fuses (s : State) (p : Nat) :
    (s.linkLost p).fuses = s.fuses := by
  grind [State.linkLost, State.setLink_fuses, = foldl_fuses]

@[simp] theorem State.fecWindow_fuses (s : State) (p : Nat) (lane : Nat) (codewords : Nat) (corrected : Nat) (received : Nat) (bad : Nat) :
    (s.fecWindow p lane codewords corrected received bad).fuses = s.fuses := by
  grind [State.fecWindow, State.modPort_fuses, State.raise_fuses, State.countPort_fuses, = foldl_fuses]

@[simp] theorem State.stepTime_fuses (s : State) (master : Nat) :
    (s.stepTime master).fuses = s.fuses := by
  simp [State.stepTime]

@[simp] theorem State.aheadTime_fuses (s : State) (master : Nat) :
    (s.aheadTime master).fuses = s.fuses := by
  simp [State.aheadTime]

@[simp] theorem State.syncAt_fuses (s : State) (id : Nat) (master : Nat) :
    (s.syncAt id master).fuses = s.fuses := by
  grind [State.syncAt, State.lockTime_fuses, State.stepTime_fuses, State.aheadTime_fuses, = foldl_fuses]

@[simp] theorem State.stamped_fuses (s : State) (p : Nat) (type : Nat) :
    (s.stamped p type).1.fuses = s.fuses := by
  grind [State.stamped, State.raise_fuses, State.countPort_fuses, = foldl_fuses]
theorem State.stamped_fuses_eq (s : State) (p : Nat) (type : Nat) {s' : State} {q'}
    (h : (s.stamped p type) = (s', q')) : s'.fuses = s.fuses := by
  have e := State.stamped_fuses s p type
  rw [h] at e
  exact e

@[simp] theorem State.setMaster_fuses (s : State) (p : Nat) (id : Nat) :
    (s.setMaster p id).fuses = s.fuses := by
  grind [State.setMaster, State.raise_fuses, = foldl_fuses]

@[simp] theorem State.sendDelayReq_fuses (s : State) (p : Nat) (member : Option Nat) : (s.sendDelayReq p member).fuses = s.fuses := by
  unfold State.sendDelayReq
  split <;> simp

@[simp] theorem State.sendSyncs_fuses (s : State) : s.sendSyncs.fuses = s.fuses := by
  unfold State.sendSyncs
  exact foldl_fuses _ (fun _ _ => by simp) _ _

@[simp] theorem State.ptpSync_fuses (s : State) (p : Nat) (id : Nat) (masterTime : Nat) (member : Option Nat) :
    (s.ptpSync p id masterTime member).fuses = s.fuses := by
  grind [State.ptpSync, State.syncAt_fuses, State.stamped_fuses, State.setMaster_fuses, State.sendDelayReq_fuses, = foldl_fuses]

@[simp] theorem State.ptpDelayReq_fuses (s : State) (p : Nat) (requester : Nat) (member : Option Nat) :
    (s.ptpDelayReq p requester member).fuses = s.fuses := by
  unfold State.ptpDelayReq
  repeat' (first | (simp only [State.sendPeer_fuses, State.stamped_fuses]) | split | (refine (foldl_fuses _ (fun _ _ => ?_) _ _).trans ?_))
  all_goals (first | (simp; done) | grind [→ State.sendPeer_fuses_eq, → State.stamped_fuses_eq, State.sendPeer_fuses, State.stamped_fuses])

@[simp] theorem State.ptpAnnounce_fuses (s : State) (p : Nat) (id : Nat) (rank : Nat) :
    (s.ptpAnnounce p id rank).fuses = s.fuses := by
  grind [State.ptpAnnounce, State.setMaster_fuses, = foldl_fuses]

@[simp] theorem State.syncTimeout_fuses (s : State) :
    (s.syncTimeout).fuses = s.fuses := by
  unfold State.syncTimeout
  repeat' (first | (simp only [State.setTime_fuses]) | split | (refine (foldl_fuses _ (fun _ _ => ?_) _ _).trans ?_))
  all_goals (first | (simp; done) | grind [State.setTime_fuses])

@[simp] theorem State.reducedEnd_fuses (s : State) :
    (s.reducedEnd).fuses = s.fuses := by
  grind [State.reducedEnd, = foldl_fuses]

@[simp] theorem State.ppsIn_fuses (s : State) :
    (s.ppsIn).fuses = s.fuses := by
  grind [State.ppsIn, State.syncAt_fuses, State.sendSyncs_fuses]

@[simp] theorem State.ppsOut_fuses (s : State) :
    (s.ppsOut).fuses = s.fuses := by
  grind [State.ppsOut, State.emit_fuses, = foldl_fuses]

@[simp] theorem State.markTimer_fuses (s : State) :
    (s.markTimer).fuses = s.fuses := by
  grind [State.markTimer, = foldl_fuses]

@[simp] theorem State.markDurable_fuses (s : State) :
    (s.markDurable).fuses = s.fuses := by
  grind [State.markDurable, = foldl_fuses]

@[simp] theorem State.pollRing_fuses (s : State) (ring : Nat) :
    (s.pollRing ring).fuses = s.fuses := by
  unfold State.pollRing
  repeat' (first | (simp only [State.modEring_fuses, State.issueRead_fuses,
    State.consIndex_fuses]) | split | (refine (foldl_fuses _ (fun _ _ => ?_) _ _).trans ?_))
  all_goals (first | (simp; done) | grind [State.modEring_fuses, State.issueRead_fuses, State.consIndex_fuses])

@[simp] theorem State.consRead_fuses (s : State) (ring : Nat) (value : Nat) :
    (s.consRead ring value).fuses = s.fuses := by
  grind [State.consRead, State.consIndex_fuses, State.readAnswered_fuses, = foldl_fuses]

@[simp] theorem State.dueCheckpoint_fuses (s : State) :
    (s.dueCheckpoint).fuses = s.fuses := by
  grind [State.dueCheckpoint, State.checkpoint_fuses]

@[simp] theorem State.checkpointTimer_fuses (s : State) :
    (s.checkpointTimer).fuses = s.fuses := by
  grind [State.checkpointTimer, State.dueCheckpoint_fuses, = foldl_fuses]

@[simp] theorem State.checkpointSigned_fuses (s : State) (ok : Bool) :
    (s.checkpointSigned ok).fuses = s.fuses := by
  grind [State.checkpointSigned, State.raise_fuses, State.checkpointDone_fuses, = foldl_fuses]

@[simp] theorem State.stepDone_fuses (s : State) (faults : List MemFault) :
    (s.stepDone faults).fuses = s.fuses := by
  grind [State.stepDone, State.recordFault_fuses, State.repairMemories_fuses, State.passStep_fuses, State.nextStep_fuses, = foldl_fuses]

@[simp] theorem State.stepCut_fuses (s : State) :
    (s.stepCut).fuses = s.fuses := by
  grind [State.stepCut, State.passStep_fuses, State.nextStep_fuses, = foldl_fuses]

@[simp] theorem State.installPair_fuses (s : State) (i : Nat) (port : Nat) (sk : Bytes) :
    (s.installPair i port sk).fuses = s.fuses := by
  grind [State.installPair, State.modPeer_fuses, State.raise_fuses, State.pushTo_fuses, State.startDigest_fuses, = foldl_fuses]

@[simp] theorem State.hello_fuses (s : State) (m : TrainMsg) :
    (s.hello m).fuses = s.fuses := by
  grind [State.hello, State.modPeer_fuses, State.drawNow_fuses, State.sendBoot_fuses, = foldl_fuses]

@[simp] theorem State.helloReply_fuses (s : State) (m : TrainMsg) :
    (s.helloReply m).fuses = s.fuses := by
  grind [State.helloReply, State.modPeer_fuses, State.drawNow_fuses, State.sendBoot_fuses, State.installPair_fuses, State.hello_fuses, = foldl_fuses]

@[simp] theorem State.helloConfirm_fuses (s : State) (m : TrainMsg) :
    (s.helloConfirm m).fuses = s.fuses := by
  grind [State.helloConfirm, State.installPair_fuses, State.hello_fuses, = foldl_fuses]

@[simp] theorem State.helloTimer_fuses (s : State) (i : Nat) :
    (s.helloTimer i).fuses = s.fuses := by
  grind [State.helloTimer, State.startKeying_fuses, State.hello_fuses, = foldl_fuses]

@[simp] theorem State.rekeyTimer_fuses (s : State) (i : Nat) :
    (s.rekeyTimer i).fuses = s.fuses := by
  grind [State.rekeyTimer, State.startKeying_fuses, = foldl_fuses]

@[simp] theorem State.oldSaExpiry_fuses (s : State) (i : Nat) :
    (s.oldSaExpiry i).fuses = s.fuses := by
  simp [State.oldSaExpiry]

theorem State.receive_fuses_eq (s : State) (m : TrainMsg) (type : Nat) {s' : State} {p : Peer}
    (h : s.receive m type = some (p, s')) : s'.fuses = s.fuses := by
  unfold State.receive at h
  grind [State.modPeer_fuses]

@[simp] theorem State.peerBack_fuses (s : State) (i : Nat) :
    (s.peerBack i).fuses = s.fuses := by
  grind [State.peerBack, State.modPeer_fuses, State.startDigest_fuses, = foldl_fuses]

@[simp] theorem State.live_fuses (s : State) (m : TrainMsg) (type : Nat) :
    (s.live m type).fuses = s.fuses := by
  unfold State.live
  repeat' (first | (simp only [State.peerBack_fuses]) | split | (refine (foldl_fuses _ (fun _ _ => ?_) _ _).trans ?_))
  all_goals (first | (simp; done) | grind [→ State.receive_fuses_eq, State.peerBack_fuses])

@[simp] theorem State.leaveMsg_fuses (s : State) (m : TrainMsg) :
    (s.leaveMsg m).fuses = s.fuses := by
  unfold State.leaveMsg
  repeat' (first | (simp only [State.peerDown_fuses]) | split | (refine (foldl_fuses _ (fun _ _ => ?_) _ _).trans ?_))
  all_goals (first | (simp; done) | grind [→ State.receive_fuses_eq, State.peerDown_fuses])

@[simp] theorem State.liveTimer_fuses (s : State) (i : Nat) :
    (s.liveTimer i).fuses = s.fuses := by
  grind [State.liveTimer, State.ackPeer_fuses, = foldl_fuses]

@[simp] theorem State.silence_fuses (s : State) (i : Nat) :
    (s.silence i).fuses = s.fuses := by
  grind [State.silence, State.peerDown_fuses, = foldl_fuses]

@[simp] theorem State.digest_fuses (s : State) (m : TrainMsg) :
    (s.digest m).fuses = s.fuses := by
  unfold State.digest
  repeat' (first | (simp only [State.modPeer_fuses, State.startDigest_fuses, State.catchUp_fuses,
    State.peerBack_fuses]) | split | (refine (foldl_fuses _ (fun _ _ => ?_) _ _).trans ?_))
  all_goals (first | (simp; done) | grind [→ State.receive_fuses_eq, State.modPeer_fuses, State.startDigest_fuses, State.catchUp_fuses,
    State.peerBack_fuses])

@[simp] theorem State.push_fuses (s : State) (m : TrainMsg) :
    (s.push m).fuses = s.fuses := by
  unfold State.push
  repeat' (first | (simp only [State.takePush_fuses, State.ackPeer_fuses,
    State.peerBack_fuses]) | split | (refine (foldl_fuses _ (fun _ _ => ?_) _ _).trans ?_))
  all_goals (first | (simp; done) | grind [→ State.takePush_fuses_eq, → State.receive_fuses_eq, State.takePush_fuses, State.ackPeer_fuses,
    State.peerBack_fuses])

@[simp] theorem State.resend_fuses (s : State) (i : Nat) :
    (s.resend i).fuses = s.fuses := by
  grind [State.resend, State.modPeer_fuses, State.ensureMark_fuses, State.emit_fuses, State.postPair_fuses, = foldl_fuses]

@[simp] theorem State.endJoining_fuses (s : State) :
    (s.endJoining).fuses = s.fuses := by
  simp [State.endJoining]

@[simp] theorem State.keyingTimeout_fuses (s : State) (i : Nat) :
    (s.keyingTimeout i).fuses = s.fuses := by
  grind [State.keyingTimeout, State.peerDown_fuses, = foldl_fuses]

@[simp] theorem State.modExpress_fuses (s : State) (p : Nat) (g : ExpressPort → ExpressPort) :
    (s.modExpress p g).fuses = s.fuses := by
  grind [State.modExpress, = foldl_fuses]

@[simp] theorem State.countExpress_fuses (s : State) (p : Nat) (i : Nat) :
    (s.countExpress p i).fuses = s.fuses := by
  simp [State.countExpress]

@[simp] theorem State.maldinSlot_fuses (s : State) (n : Nat) (kind : KeyKind) (fit : SlotHeader → Bool) :
    (s.maldinSlot n kind fit).1.fuses = s.fuses := by
  grind [State.maldinSlot, State.resolveIn_fuses, = foldl_fuses]
theorem State.maldinSlot_fuses_eq (s : State) (n : Nat) (kind : KeyKind) (fit : SlotHeader → Bool) {s' : State} {q'}
    (h : (s.maldinSlot n kind fit) = (s', q')) : s'.fuses = s.fuses := by
  have e := State.maldinSlot_fuses s n kind fit
  rw [h] at e
  exact e

@[simp] theorem State.maldinKeys_fuses (s : State) (f : MaldinFrame) :
    (s.maldinKeys f).1.fuses = s.fuses := by
  grind [State.maldinKeys, State.maldinSlot_fuses, = foldl_fuses]
theorem State.maldinKeys_fuses_eq (s : State) (f : MaldinFrame) {s' : State} {q'}
    (h : (s.maldinKeys f) = (s', q')) : s'.fuses = s.fuses := by
  have e := State.maldinKeys_fuses s f
  rw [h] at e
  exact e

@[simp] theorem State.blinded_fuses (s : State) (out : MaldinOut) :
    (s.blinded out).1.fuses = s.fuses := by
  grind [State.blinded, State.drawBlinding_fuses, = foldl_fuses]
theorem State.blinded_fuses_eq (s : State) (out : MaldinOut) {s' : State} {q'}
    (h : (s.blinded out) = (s', q')) : s'.fuses = s.fuses := by
  have e := State.blinded_fuses s out
  rw [h] at e
  exact e

@[simp] theorem State.ecdsaSignFrame_fuses (s : State) (key : Option JobKey) (z2 : Option JobKey) (d : Bytes) :
    (s.ecdsaSignFrame key z2 d).1.fuses = s.fuses := by
  simp [State.ecdsaSignFrame]
theorem State.ecdsaSignFrame_fuses_eq (s : State) (key : Option JobKey) (z2 : Option JobKey) (d : Bytes) {s' : State} {q'}
    (h : (s.ecdsaSignFrame key z2 d) = (s', q')) : s'.fuses = s.fuses := by
  have e := State.ecdsaSignFrame_fuses s key z2 d
  rw [h] at e
  exact e

@[simp] theorem State.ecdsaVerifyFrame_fuses (s : State) (key : Option JobKey) (z2 : Option JobKey) (d : Bytes) :
    (s.ecdsaVerifyFrame key z2 d).1.fuses = s.fuses := by
  simp [State.ecdsaVerifyFrame]
theorem State.ecdsaVerifyFrame_fuses_eq (s : State) (key : Option JobKey) (z2 : Option JobKey) (d : Bytes) {s' : State} {q'}
    (h : (s.ecdsaVerifyFrame key z2 d) = (s', q')) : s'.fuses = s.fuses := by
  have e := State.ecdsaVerifyFrame_fuses s key z2 d
  rw [h] at e
  exact e

@[simp] theorem State.ecdhFrame_fuses (s : State) (key : Option JobKey) (z2 : Option JobKey) (d : Bytes) :
    (s.ecdhFrame key z2 d).1.fuses = s.fuses := by
  simp [State.ecdhFrame]
theorem State.ecdhFrame_fuses_eq (s : State) (key : Option JobKey) (z2 : Option JobKey) (d : Bytes) {s' : State} {q'}
    (h : (s.ecdhFrame key z2 d) = (s', q')) : s'.fuses = s.fuses := by
  have e := State.ecdhFrame_fuses s key z2 d
  rw [h] at e
  exact e

@[simp] theorem State.protectFrame_fuses (s : State) (key : Option JobKey) (ak : Option JobKey) (d : Bytes) :
    (s.protectFrame key ak d).1.fuses = s.fuses := by
  simp [State.protectFrame]
theorem State.protectFrame_fuses_eq (s : State) (key : Option JobKey) (ak : Option JobKey) (d : Bytes) {s' : State} {q'}
    (h : (s.protectFrame key ak d) = (s', q')) : s'.fuses = s.fuses := by
  have e := State.protectFrame_fuses s key ak d
  rw [h] at e
  exact e

@[simp] theorem State.unprotectFrame_fuses (s : State) (key : Option JobKey) (ak : Option JobKey) (d : Bytes) :
    (s.unprotectFrame key ak d).1.fuses = s.fuses := by
  simp [State.unprotectFrame]
theorem State.unprotectFrame_fuses_eq (s : State) (key : Option JobKey) (ak : Option JobKey) (d : Bytes) {s' : State} {q'}
    (h : (s.unprotectFrame key ak d) = (s', q')) : s'.fuses = s.fuses := by
  have e := State.unprotectFrame_fuses s key ak d
  rw [h] at e
  exact e

@[simp] theorem State.deriveFrame_fuses (s : State) (key : Option JobKey) (z2 : Option JobKey) (d : Bytes) :
    (s.deriveFrame key z2 d).1.fuses = s.fuses := by
  simp [State.deriveFrame]
theorem State.deriveFrame_fuses_eq (s : State) (key : Option JobKey) (z2 : Option JobKey) (d : Bytes) {s' : State} {q'}
    (h : (s.deriveFrame key z2 d) = (s', q')) : s'.fuses = s.fuses := by
  have e := State.deriveFrame_fuses s key z2 d
  rw [h] at e
  exact e

@[simp] theorem State.acceptFrame_fuses (s : State) (f : MaldinFrame) (out : MaldinOut) :
    (s.acceptFrame f out).1.fuses = s.fuses := by
  grind [State.acceptFrame, State.ensureMark_fuses, State.modExpress_fuses, State.countExpress_fuses, = foldl_fuses]
theorem State.acceptFrame_fuses_eq (s : State) (f : MaldinFrame) (out : MaldinOut) {s' : State} {q'}
    (h : (s.acceptFrame f out) = (s', q')) : s'.fuses = s.fuses := by
  have e := State.acceptFrame_fuses s f out
  rw [h] at e
  exact e

@[simp] theorem State.keepFrame_fuses (s : State) (x : MaldinJob) :
    (s.keepFrame x).fuses = s.fuses := by
  simp [State.keepFrame]

@[simp] theorem State.refuseFrame_fuses (s : State) (f : MaldinFrame) (st : Status) :
    (s.refuseFrame f st).fuses = s.fuses := by
  simp [State.refuseFrame]

@[simp] theorem State.sendReply_fuses (s : State) (f : MaldinJob) :
    (s.sendReply f).fuses = s.fuses := by
  grind [State.sendReply, State.emit_fuses, State.sweepRecords_fuses, State.modExpress_fuses, State.countExpress_fuses, = foldl_fuses]

end Sys2Proof.Machine
end

