-- ==== Sys2Proof/Laws/Burns.lean ====
section
/-!
SUPPORT. What blows fuses only adds to them: FW_CONFIRM, FUSE_REPAIR, LC_TRANSITION, and with them every run of the mailbox
(17 R478 to R490, R495; 18 R530).
-/
namespace Sys2Proof.Machine

/-! ### The relation -/

theorem Burns.refl (a : Fuses) : Burns a a :=
  ⟨Nat.and_self _, Nat.le_refl _, ⟨[], (List.append_nil _).symm⟩, ⟨rfl, rfl, rfl, rfl⟩, fun _ => rfl, Nat.and_self _, fun _ => rfl,
    fun _ => rfl, fun _ => rfl, fun _ => ⟨rfl, rfl, rfl⟩⟩

theorem burned_of_eq {s s' : State} (h : s'.fuses = s.fuses) : Burned s s' := by
  intro g
  unfold FusesAgree at *
  rw [h]
  exact ⟨g, Burns.refl _⟩

theorem bitsKept_trans {a b c : Nat} (h : bitsKept a b) (g : bitsKept b c) : bitsKept a c := by
  unfold bitsKept at *
  rw [← h, Nat.and_assoc, g]

theorem bitsKept_bit {a b : Nat} (h : bitsKept a b) (i : Nat) (g : bit a i = true) : bit b i = true := by
  have e (v : Nat) : bit v i = v.testBit i := by rw [Nat.testBit_eq_decide_div_mod_eq]; rfl
  rw [e] at g ⊢
  unfold bitsKept at h
  rw [← h, Nat.testBit_and, Bool.and_eq_true] at g
  exact g.2

/-- A code that gains bits and was a state's other than WAFER does not become WAFER's. -/
theorem code_ne_one {a b : Nat} (h : bitsKept a b) (l : (lcOfCode a).isSome = true) (n : a ≠ 1) : b ≠ 1 := by
  rintro rfl
  unfold bitsKept at h
  have : a = 0 ∨ a = 1 := by
    have := Nat.and_le_right (n := a) (m := 1)
    omega
  rcases this with rfl | rfl
  · cases l
  · exact n rfl

theorem burned_trans {a b c : State} (h : Burned a b) (g : Burned b c) : Burned a c := by
  intro x
  obtain ⟨xb, hb⟩ := h x
  obtain ⟨xc, hc⟩ := g xb
  obtain ⟨es, e1⟩ := hb.repair
  obtain ⟨fs, e2⟩ := hc.repair
  refine ⟨xc, ⟨bitsKept_trans hb.code hc.code, Nat.le_trans hb.svn hc.svn, ⟨es ++ fs, by rw [e2, e1, List.append_assoc]⟩, ?_, ?_,
    bitsKept_trans hb.valid hc.valid, ?_, ?_, ?_, ?_⟩⟩
  · have p := hb.die; have q := hc.die
    exact ⟨q.1.trans p.1, q.2.1.trans p.2.1, q.2.2.1.trans p.2.2.1, q.2.2.2.trans p.2.2.2⟩
  · intro n
    exact (hc.secret (code_ne_one hb.code x.2.2 n)).trans (hb.secret n)
  · intro v; exact (hc.oemId (bitsKept_bit hb.valid _ v)).trans (hb.oemId v)
  · intro v; exact (hc.ctrlKeyHash (bitsKept_bit hb.valid _ v)).trans (hb.ctrlKeyHash v)
  · intro v; exact (hc.codeKeyHash (bitsKept_bit hb.valid _ v)).trans (hb.codeKeyHash v)
  · intro v
    have p := hb.options v; have q := hc.options (bitsKept_bit hb.valid _ v)
    exact ⟨q.1.trans p.1, q.2.1.trans p.2.1, q.2.2.trans p.2.2⟩

theorem burned_eq_left {a b c : State} (h : b.fuses = a.fuses) (g : Burned b c) : Burned a c := burned_trans (burned_of_eq h) g
theorem burned_eq_right {a b c : State} (h : Burned a b) (g : c.fuses = b.fuses) : Burned a c := burned_trans h (burned_of_eq g)

/-! ### The commands that blow fuses -/

theorem mbFwConfirm_burned (s : State) (c : MbCommand) : Burned s (mbFwConfirm s c).1 := by
  have up : Burned s { s with fuses.fwSvn := s.fusedSvn + 1 } := fun x => ⟨x, { Burns.refl s.fuses with svn := Nat.le_succ _ }⟩
  unfold mbFwConfirm
  split
  · exact burned_of_eq rfl
  · split
    · exact burned_of_eq rfl
    · simp only []
      split
      · exact up
      · exact burned_eq_right up (State.raise_fuses _ _ _)

theorem mbFuseRepair_burned (s : State) (c : MbCommand) : Burned s (mbFuseRepair s c).1 := by
  unfold mbFuseRepair
  simp only []
  repeat' split
  all_goals first
    | exact burned_of_eq rfl
    | refine burned_eq_right (b := { s with fuses.repair := s.fuses.repair ++ _ }) (fun x => ⟨x, ?_⟩) (State.raise_fuses _ _ _)
      exact { Burns.refl s.fuses with repair := ⟨_, rfl⟩ }

/-! ### LC_TRANSITION -/

theorem fuseWindow_fuses (s : State) (target : Nat) :
    (s.fuseWindow target).fuses = { s.fuses with lcA := target, lcB := target, lcC := target } := by
  unfold State.fuseWindow
  simp only []
  rw [foldl_fuses _ fun x d => ?_]
  split
  · exact State.domainOff_fuses _ _ _
  · rfl

theorem closeWindow_fuses (s : State) (target : Nat) :
    (s.closeWindow target).fuses = { s.fuses with lcA := target, lcB := target, lcC := target } := by
  unfold State.closeWindow
  simp only [fuseWindow_fuses]

/-- A permitted pair adds bits, and its target is a state's code. -/
theorem permitted {a b n : Nat} (h : pairPermitted a b n = true) : bitsKept a b ∧ (lcOfCode b).isSome = true ∧ (b = 3 → a = 1) := by
  unfold pairPermitted at h
  simp only [List.contains_cons, List.contains_nil, Bool.or_eq_true, beq_iff_eq, Prod.mk.injEq, Bool.or_false] at h
  rcases h with h | h | h | h | h | h | h | h | h | h <;> obtain ⟨rfl, rfl, rfl⟩ := h <;>
    exact ⟨by unfold bitsKept; decide, by decide, by decide⟩

/-- A valid field that accepts a value takes no bit more. -/
theorem blowBit_valid {old new : Bytes} (h : fieldAccepts true old new = true) : blowBit old new = none := by
  unfold fieldAccepts at h
  rw [if_pos rfl, beq_iff_eq] at h
  subst h
  induction old with
  | nil => rfl
  | cons x t ih =>
    have z : x &&& ~~~x = 0 := by simp
    simp [blowBit, z, ih]

/-- Fuses that a preparation leaves as they are. -/
theorem prepare_fuses (s : State) (b : Bytes) (target : Nat) (secret : Bytes) :
    (s.prepare b target secret).fuses =
      if target = 3 then { s.fuses with deviceSecret := blow s.fuses.deviceSecret secret } else s.fuses := by
  unfold State.prepare
  simp only []
  have e := State.transitionWipe_fuses s target
  split
  · rfl
  · rfl
  · rw [if_neg (show ¬ (15 = 3) by decide), ← State.transitionWipe_fuses s 15]
    split <;> rfl
  · rename_i n3 n7 nF
    rw [if_neg n3]
    exact e

/-- Personalisation under R490 adds bits to blank fields only. -/
theorem persoBit_burns {s s' : State} {b : Bytes} (h : s.persoAccepts b = true) (g : s.persoBit b = some s') : Burns s.fuses s'.fuses := by
  unfold State.persoAccepts State.perso at h
  simp only [Bool.and_eq_true] at h
  obtain ⟨⟨⟨h0, h1⟩, h2⟩, h3⟩ := h
  have n := Burns.refl s.fuses
  unfold State.persoBit at g
  split at g
  · rename_i q
    cases g
    exact { n with oemId := fun v => by rw [v] at h0; rw [blowBit_valid h0] at q; cases q }
  · split at g
    · rename_i q
      cases g
      exact { n with ctrlKeyHash := fun v => by rw [v] at h1; rw [blowBit_valid h1] at q; cases q }
    · split at g
      · rename_i q
        cases g
        exact { n with codeKeyHash := fun v => by rw [v] at h2; rw [blowBit_valid h2] at q; cases q }
      · obtain ⟨x, q, rfl⟩ := Option.map_eq_some_iff.mp g
        exact { n with options := fun v => by rw [v] at h3; rw [blowBit_valid h3] at q; cases q }

theorem persoDone_burns (s : State) (b : Bytes) : Burns s.fuses (s.persoDone b).fuses := by
  refine { Burns.refl s.fuses with valid := ?_ }
  show s.fuses.persoValid &&& (s.fuses.persoValid ||| _) = s.fuses.persoValid
  apply Nat.eq_of_testBit_eq
  intro i
  rw [Nat.testBit_and, Nat.testBit_or]
  cases s.fuses.persoValid.testBit i <;> simp

theorem persoBit_code {s s' : State} {b : Bytes} (g : s.persoBit b = some s') :
    s'.fuses.lcA = s.fuses.lcA ∧ s'.fuses.lcB = s.fuses.lcB ∧ s'.fuses.lcC = s.fuses.lcC := by
  unfold State.persoBit at g
  repeat' split at g
  all_goals first
    | (cases g; exact ⟨rfl, rfl, rfl⟩)
    | (obtain ⟨x, q, rfl⟩ := Option.map_eq_some_iff.mp g; exact ⟨rfl, rfl, rfl⟩)

/-- Fuses that keep the copies as they are, and only add, are burned. -/
theorem burned_of_burns {s s' : State} (c : s'.fuses.lcA = s.fuses.lcA ∧ s'.fuses.lcB = s.fuses.lcB ∧ s'.fuses.lcC = s.fuses.lcC)
    (h : Burns s.fuses s'.fuses) : Burned s s' := fun x => ⟨by unfold FusesAgree at *; rw [c.1, c.2.1, c.2.2]; exact x, h⟩

/-- Each stage of an accepted transition only adds to the fuses (R478 to R483, R490). -/
theorem transitionStage_burned (s : State) (b : Bytes) (target stage : Nat) (secret : Bytes) (m : s.tokenMatches b target = true) :
    Burned s (s.transitionStage b target stage secret).1 := by
  unfold State.tokenMatches at m
  simp only [Bool.and_eq_true] at m
  obtain ⟨bits, legal, three⟩ := permitted m.1.1.2
  unfold State.transitionStage
  split
  · have e := prepare_fuses s b target secret
    by_cases t3 : target = 3
    · rw [if_pos t3] at e
      refine burned_of_burns (by rw [e]; exact ⟨rfl, rfl, rfl⟩) ?_
      rw [e]
      exact { Burns.refl s.fuses with secret := fun n => absurd (three t3) n }
    · rw [if_neg t3] at e
      exact burned_of_eq e
  · split
    · rename_i t
      have w : s.persoAccepts b = true := by
        have := m.2
        simp only [beq_iff_eq] at t
        simpa [t] using this
      split
      · rename_i g
        exact burned_of_burns (persoBit_code g) (persoBit_burns w g)
      · exact burned_of_burns ⟨rfl, rfl, rfl⟩ (persoDone_burns s b)
    · split
      · exact burned_of_eq rfl
      · exact burned_of_eq rfl
  · intro x
    have c := closeWindow_fuses s target
    refine ⟨?_, ?_⟩
    · unfold FusesAgree
      rw [c]
      exact ⟨rfl, rfl, legal⟩
    · rw [c]
      exact { Burns.refl s.fuses with code := bits }

theorem mbLcTransition_burned (s : State) (c : MbCommand) : Burned s (mbLcTransition s c).1 := by
  unfold mbLcTransition
  simp only []
  split
  · split
    · rename_i m
      exact transitionStage_burned _ _ _ _ _ m
    · exact burned_of_eq rfl
  · repeat' split
    all_goals first
      | exact burned_of_eq rfl
      | exact burned_of_eq (State.serveDraw_fuses _ _ _)

/-! ### The mailbox -/

theorem mbBodyLow_fuses (s : State) (c : MbCommand) : (mbBodyLow s c).1.fuses = s.fuses := by
  unfold mbBodyLow
  split <;> simp

theorem mbBodyHigh_burned (s : State) (c : MbCommand) : Burned s (mbBodyHigh s c).1 := by
  unfold mbBodyHigh
  repeat' split
  all_goals first
    | exact mbLcTransition_burned _ _
    | exact mbFwConfirm_burned _ _
    | exact mbFuseRepair_burned _ _
    | exact burned_of_eq (by simp)

theorem mbBody_burned (s : State) (c : MbCommand) : Burned s (mbBody s c).1 := by
  unfold mbBody
  split
  · exact burned_of_eq (mbBodyLow_fuses s c)
  · exact mbBodyHigh_burned s c

theorem mbAttempt_burned (s : State) (c : MbCommand) : Burned s (s.mbAttempt c) := by
  unfold State.mbAttempt
  simp only []
  split
  · exact burned_of_eq (by simp)
  · have h := mbBody_burned { s with mailbox.running := none } c
    have g : Burned s (mbBody { s with mailbox.running := none } c).1 := h
    split
    · rename_i q; rw [q] at g; exact burned_eq_right g (by simp)
    · rename_i q; rw [q] at g; exact burned_eq_right g (by simp)

theorem mbPump_burned (fuel : Nat) : ∀ s : State, Burned s (s.mbPump fuel) := by
  induction fuel with
  | zero => exact fun s => burned_of_eq rfl
  | succ n ih =>
    intro s
    rw [State.mbPump]
    split
    · exact burned_of_eq rfl
    · split
      · exact burned_of_eq rfl
      · rename_i c _
        have a := State.mbAdmit_fuses { s with mailbox.waiting := s.mailbox.waiting.erase c } c
        split
        rename_i w ok q
        rw [q] at a
        refine burned_trans ?_ (ih _)
        split
        · exact burned_eq_left a (mbAttempt_burned _ _)
        · exact burned_of_eq a

theorem mbHoldPump_burned (fuel : Nat) : ∀ s : State, Burned s (s.mbHoldPump fuel) := by
  induction fuel with
  | zero => exact fun s => burned_of_eq rfl
  | succ n ih =>
    intro s
    rw [State.mbHoldPump]
    split
    · exact burned_of_eq rfl
    · rename_i c _
      have a := State.mbAdmit_fuses { s with mailbox.waiting := s.mailbox.waiting.erase c } c
      split
      rename_i w ok q
      rw [q] at a
      split
      · exact burned_eq_left a (ih _)
      · have h := burned_eq_left a (mbBody_burned w c)
        split
        · rename_i r
          rw [r] at h
          exact burned_trans (burned_eq_right h (by simp)) (ih _)
        · exact burned_of_eq rfl

theorem mbServe_burned (s : State) : Burned s s.mbServe := by
  unfold State.mbServe
  simp only []
  split
  · exact mbHoldPump_burned _ _
  · refine burned_trans ?_ (mbPump_burned _ _)
    split
    · split
      · exact mbAttempt_burned _ _
      · exact burned_of_eq rfl
    · exact burned_of_eq rfl

theorem idleFuses_burned (s : State) : Burned s s.idleFuses := by
  unfold State.idleFuses
  split
  · split
    · exact burned_trans (mbAttempt_burned _ _) (mbServe_burned _)
    · exact burned_of_eq rfl
  · exact burned_of_eq rfl

theorem resume_burned (s : State) : Burned s s.resume := by
  unfold State.resume
  simp only []
  refine burned_eq_left ?_ (mbServe_burned _)
  split <;> simp

theorem mbInHold_burned (s : State) (c : MbCommand) : Burned s (s.mbInHold c) := by
  unfold State.mbInHold
  split
  · exact burned_eq_left (b := { s with mailbox.waiting := s.mailbox.waiting ++ [c] }) rfl (mbHoldPump_burned _ _)
  · exact burned_of_eq (State.mbAdmit_fuses s c)

theorem mbReceive_burned (s : State) (conn : Nat) (msg : Bytes) (extra : List Nat) : Burned s (s.mbReceive conn msg extra) := by
  have a := State.mbArrival_fuses s conn msg extra
  unfold State.mbReceive
  split
  · exact burned_of_eq (by simp)
  · split
    · exact burned_of_eq rfl
    · split
      · exact burned_of_eq (by simp)
      · split
        rename_i w c q
        rw [q] at a
        split
        · exact burned_eq_left a (mbInHold_burned _ _)
        · exact burned_of_eq a

theorem mbRow_burned (s : State) (code conn : Nat) (msg : Bytes) (extra : List Nat) : Burned s (s.mbRow code conn msg extra) := by
  unfold State.mbRow
  split
  · exact mbReceive_burned _ _ _ _
  · exact burned_of_eq rfl

/-- What follows a change that leaves the fuses as they are. -/
theorem resume_after {s v : State} (h : v.fuses = s.fuses) : Burned s v.resume := burned_eq_left h (resume_burned v)
theorem mbRow_after {s v : State} (h : v.fuses = s.fuses) (code conn : Nat) (msg : Bytes) (extra : List Nat) :
    Burned s (v.mbRow code conn msg extra).resume :=
  burned_trans (burned_eq_left h (mbRow_burned _ _ _ _ _)) (resume_burned _)

end Sys2Proof.Machine
end

