-- ==== Sys2Proof/Laws/Egress.lean ====
section
/-!
SUPPORT. What leaves a port next: it waits there, a pause frame goes first, and nothing of a paused priority leaves (13 R383, R384; 16 R476).
-/
namespace Sys2Proof.Machine

theorem nextClass_step (x : Port) (l : List Nat) : ∀ b : Nat, ∃ c, l.foldl (fun best k => match best with
    | none => some k | some b => if x.before k b then some k else some b) (some b) = some c ∧ (c = b ∨ c ∈ l) ∧
    ∀ k, k = b ∨ k ∈ l → x.weight k = 0 → x.weight c = 0 ∧ k ≤ c := by
  induction l with
  | nil => exact fun b => ⟨b, rfl, .inl rfl, fun k h w => by
      rcases h with rfl | h
      · exact ⟨w, Nat.le_refl _⟩
      · cases h⟩
  | cons a t ih =>
    intro b
    rw [List.foldl_cons]
    by_cases f : x.before a b = true
    · obtain ⟨c, e, m, best⟩ := ih a
      refine ⟨c, by simpa [f] using e, .inr (by rcases m with rfl | m <;> simp_all), fun k h w => ?_⟩
      rcases h with rfl | h
      · have g : x.weight a = 0 ∧ k < a := by
          unfold Port.before at f
          by_cases z : x.weight a = 0 <;> simp_all
        have q := best a (.inl rfl) g.1
        exact ⟨q.1, by omega⟩
      · rcases List.mem_cons.mp h with rfl | h
        · exact best _ (.inl rfl) w
        · exact best _ (.inr h) w
    · obtain ⟨c, e, m, best⟩ := ih b
      refine ⟨c, by simpa [f] using e, by rcases m with rfl | m <;> simp_all, fun k h w => ?_⟩
      rcases h with rfl | h
      · exact best _ (.inl rfl) w
      · rcases List.mem_cons.mp h with rfl | h
        · have g : x.weight b = 0 ∧ k ≤ b := by
            unfold Port.before at f
            simp [w] at f
            exact f
          have q := best b (.inl rfl) g.1
          exact ⟨q.1, by omega⟩
        · exact best _ (.inr h) w

/-- The class served next waits, and no strict class goes before it (R384). -/
theorem Port.nextClass_best {x : Port} {l : List Nat} {c : Nat} (h : x.nextClass l = some c) :
    c ∈ l ∧ ∀ k ∈ l, x.weight k = 0 → x.weight c = 0 ∧ k ≤ c := by
  cases l with
  | nil => cases h
  | cons a t =>
    obtain ⟨c', e, m, best⟩ := nextClass_step x t a
    have q : x.nextClass (a :: t) = some c' := e
    rw [q] at h
    cases h
    exact ⟨by simpa using m, fun k g => best k (by simpa using g)⟩

/-- The next output waits at the port; it is a pause frame, or none waits and its priority is not paused (R383). -/
theorem State.nextOut_cases {s : State} {p i : Nat} {x : Port} (h : s.nextOut p x = some i) :
    i ∈ s.outQueue p ∧ ((s.outAt i).isPause = true ∨
      (∀ j ∈ s.outQueue p, (s.outAt j).isPause = false) ∧ x.pauses (s.outClass (s.outAt i)) = false) := by
  have out {l : List Nat} {f : Nat → Bool} {i : Nat} (h : l.find? f = some i) : i ∈ l ∧ f i = true :=
    ⟨List.mem_of_find?_eq_some h, List.find?_some h⟩
  have free {i : Nat} (h : i ∈ (s.outQueue p).filter fun i => !x.pauses (s.outClass (s.outAt i))) :
      i ∈ s.outQueue p ∧ x.pauses (s.outClass (s.outAt i)) = false := by simpa using h
  unfold State.nextOut at h
  simp only [] at h
  split at h
  · rename_i q
    cases h
    exact ⟨(out q).1, .inl (out q).2⟩
  · rename_i none
    have quiet : ∀ j ∈ s.outQueue p, (s.outAt j).isPause = false := fun j m => by
      have := List.find?_eq_none.mp none j m
      simpa using this
    split at h
    · rename_i q
      cases h
      have m := free (out q).1
      exact ⟨m.1, .inr ⟨quiet, m.2⟩⟩
    · split at h
      · have m := free (out h).1
        exact ⟨m.1, .inr ⟨quiet, m.2⟩⟩
      · cases h

end Sys2Proof.Machine
end

