-- ==== Sys2Proof/Laws/Engines.lean ====
section
/-!
SUPPORT. What the result of a routine does to the state (03 R96): one lemma that every engine operation cites.
-/
namespace Sys2Proof.Machine

theorem runs?_of_running {u : State} {id : Nat} {op : Op} {j : Job} (h : Running u id op j) : u.runs? id op = some j := by
  have hp : (j.parts.all fun q => q.engine.isSome) = true := List.all_eq_true.mpr fun q hq => (h.parts q hq).1
  have hm : (u.power.mode != Mode.hold) = true := by simpa using h.mode.1
  simp [State.runs?, h.found, h.isOp, h.phase, hp, hm, h.mode.2]

/-- A part that runs has its result after its routine. -/
theorem computePart_computed (u : State) (r : OpResult) (q : JobPart) (i : Nat) (h : q.engine.isSome = true) :
    (u.computePart r q i).computed = true := by
  cases hc : q.computed <;> simp [State.computePart, JobPart.running, h, hc]

/-- The state after a result, every part having run: only the job's own record differs. -/
theorem finish_computed {u : State} {id : Nat} {j : Job} (r : OpResult) (h : u.job? id = some j)
    (hp : ∀ q ∈ j.parts, q.engine.isSome = true) :
    Computed u id j r.status (if r.status == .success then r.output else []) (u.finish id r) := by
  have hall : ((j.parts.zipIdx.map fun (q, i) => u.computePart r q i).all (·.computed)) = true := by
    simp only [List.all_eq_true, List.mem_map, Prod.exists]
    rintro _ ⟨q, i, hq, rfl⟩
    exact computePart_computed u r q i (hp q (List.fst_mem_of_mem_zipIdx hq))
  refine ⟨⟨j.parts.zipIdx.map fun (q, i) => u.computePart r q i, ?_, ?_, ?_⟩, ?_, rfl⟩
  · rw [State.finish, State.job?_modJob _ _ _ _ (by intro x; dsimp only; split <;> rfl), h]
    simp only [beq_self_eq_true, Option.map_some, if_true]
    rw [if_pos hall]
  · simp
  · exact fun q hq => List.all_eq_true.mp hall q hq
  · intro k hk
    rw [State.finish, State.job?_modJob _ _ _ _ (by intro x; dsimp only; split <;> rfl)]
    have : (k == id) = false := by simpa using hk
    simp [this]

/-- Masking a string twice with one mask gives it back. -/
theorem xorBytes_twice : ∀ b m : Bytes, b.length ≤ m.length → xorBytes (xorBytes b m) m = b
  | [], _, _ => rfl
  | _ :: _, [], h => by simp at h
  | x :: b, y :: m, h => by
    have ih := xorBytes_twice b m (by simpa using h)
    simp only [xorBytes, List.zipWith_cons_cons] at ih ⊢
    rw [ih, BitVec.xor_assoc, BitVec.xor_self, BitVec.xor_zero]

/-- Three shares recombine to the secret (R89, R90): what a masked routine holds is its result at the commit. -/
theorem recombine_threeShares (n use : Nat) (b : Bytes) : recombine (threeShares n use b) = b :=
  xorBytes_twice _ _ (by simp [xorBytes, maskBytes, std])

/-- An engine operation on a running job ends with its routine's result. -/
theorem runOp_computed {u : State} {id : Nat} {op : Op} {j : Job} (f : State → Job → OpResult) (h : Running u id op j) :
    Answers (.next (u.runOp id op f)) (Computed u id j (f u j).status (if (f u j).status == .success then (f u j).output else [])) :=
  ⟨_, rfl, by rw [State.runOp, runs?_of_running h]; exact finish_computed _ h.found fun q hq => (h.parts q hq).1⟩

theorem runOp_yields {u : State} {id : Nat} {op : Op} {j : Job} {f : State → Job → OpResult} {out : Bytes} (h : Running u id op j)
    (hs : (f u j).status = .success) (ho : (f u j).output = out) : Yields (.next (u.runOp id op f)) u id j out := by
  have := runOp_computed f h
  rw [hs, ho] at this
  exact this

theorem runOp_endsWith {u : State} {id : Nat} {op : Op} {j : Job} {f : State → Job → OpResult} {st : Status} (h : Running u id op j)
    (hs : (f u j).status = st) (hn : st ≠ .success) : EndsWith (.next (u.runOp id op f)) u id j st := by
  have := runOp_computed f h
  rw [hs, if_neg (by simpa using hn)] at this
  exact this

/-- The trap of R102 needs the status of a job that ran out of rounds. -/
theorem dsaTrap_other {u : State} {id : Nat} {j : Job} (h : u.job? id = some j) (hs : (j.status == .faultUnrecovered) = false) :
    u.dsaTrap id = u := by
  rw [State.dsaTrap, h]
  dsimp only
  split
  · rw [hs, Bool.and_false, if_neg (by decide)]
  · rfl

/-- A signing operation that does not run out of rounds ends with its routine's result. -/
theorem runSign_yields {u : State} {id : Nat} {op : Op} {j : Job} {f : State → Job → OpResult} {out : Bytes} (h : Running u id op j)
    (hs : (f u j).status = .success) (ho : (f u j).output = out) : Yields (.next (u.runSign id op f)) u id j out := by
  have hc := finish_computed (f u j) h.found fun q hq => (h.parts q hq).1
  rw [hs, ho] at hc
  obtain ⟨ps, hj, _⟩ := hc.job
  refine ⟨_, rfl, ?_⟩
  rw [State.runSign, runs?_of_running h]
  dsimp only
  rw [dsaTrap_other hj (by rfl)]
  exact hc

end Sys2Proof.Machine
end

