-- ==== Sys2Proof/Laws/Events.lean ====
section
/-!
SUPPORT. What raising an event can change: the time mark and the event block of the journal, the router, what connections hold, and what has
been sent (14 R416 to R420, R427, R432).
-/
namespace Sys2Proof.Machine

theorem EventFrame.refl (u : State) : EventFrame u u := rfl

theorem EventFrame.trans {u v x : State} (a : EventFrame u v) (b : EventFrame v x) : EventFrame u x := by
  unfold EventFrame at *
  rw [a] at b
  exact b

theorem modEring_events (u : State) (r : Nat) (g : EventRing → EventRing) : EventFrame u (u.modEring r g) := rfl

theorem post_events (u : State) (c : Nat) (o : Out) : EventFrame u (u.post c o) := by
  unfold State.post
  split
  · rfl
  · split
    · rfl
    · split
      · rfl
      · split <;> rfl

theorem ensureMark_events (u : State) : EventFrame u u.ensureMark := by
  unfold State.ensureMark
  split <;> rfl

theorem placeRecord_events (u : State) (x : EventRing) (r : Bytes) : EventFrame u (u.placeRecord x r) :=
  ((modEring_events u _ _).trans (post_events _ _ _)).trans (post_events _ _ _)

theorem offer_events (u : State) (n : Nat) (r : Bytes) : EventFrame u (u.offer n r).1 := by
  unfold State.offer
  split
  · rfl
  · split
    · rfl
    · dsimp only
      split
      · exact modEring_events u _ _
      · split
        · exact (modEring_events u _ _).trans (placeRecord_events _ _ _)
        · split
          · exact (modEring_events u _ _).trans (modEring_events _ _ _)
          · exact ((modEring_events u _ _).trans (modEring_events _ _ _)).trans (post_events _ _ _)

theorem takeEventSeq_events (u : State) : EventFrame u u.takeEventSeq.1 := by
  unfold State.takeEventSeq
  dsimp only
  split <;> rfl

theorem foldl_events {α : Type} {f : State → α → State} (h : ∀ u a, EventFrame u (f u a)) (l : List α) :
    ∀ u, EventFrame u (l.foldl f u) := by
  induction l with
  | nil => exact fun u => .refl u
  | cons a l ih => exact fun u => (h u a).trans (ih _)

theorem raiseN_events (n : Nat) : ∀ (u : State) (src : Nat) (d : List Nat) (car skip : Option Nat),
    EventFrame u (u.raiseN n src d car skip) := by
  induction n with
  | zero => exact fun u _ _ _ _ => .refl u
  | succ n ih =>
    intro u src d car skip
    unfold State.raiseN
    dsimp only
    refine ((ensureMark_events u).trans (takeEventSeq_events _)).trans ?_
    refine EventFrame.trans ?_ (foldl_events (fun v a => ?_) _ _)
    · split
      · rfl
      · split <;> rfl
    · split
      · rename_i h
        have hv : EventFrame v (Prod.fst (_, _)) := congrArg Prod.fst h ▸ offer_events v a _
        exact hv
      · rename_i h
        have hv : EventFrame v (Prod.fst (_, _)) := congrArg Prod.fst h ▸ offer_events v a _
        split
        · exact hv
        · split
          · exact (hv.trans (modEring_events _ _ _)).trans (ih _ _ _ _ _)
          · exact hv

theorem raise_events (u : State) (src : Nat) (d : List Nat) : EventFrame u (u.raise src d) := raiseN_events _ _ _ _ _ _
theorem raiseFor_events (u : State) (src : Nat) (d : List Nat) (c : Nat) : EventFrame u (u.raiseFor src d c) := raiseN_events _ _ _ _ _ _

/-! ### What stays -/

theorem EventFrame.pending {u x : State} (h : EventFrame u x) : x.pending = u.pending := by rw [h]
theorem EventFrame.clock {u x : State} (h : EventFrame u x) : x.clock = u.clock := by rw [h]
theorem EventFrame.power {u x : State} (h : EventFrame u x) : x.power = u.power := by rw [h]
theorem EventFrame.fuses {u x : State} (h : EventFrame u x) : x.fuses = u.fuses := by rw [h]
theorem EventFrame.book {u x : State} (h : EventFrame u x) : x.book = u.book := by rw [h]
theorem EventFrame.cellar {u x : State} (h : EventFrame u x) : x.cellar = u.cellar := by rw [h]
theorem EventFrame.rng {u x : State} (h : EventFrame u x) : x.rng = u.rng := by rw [h]
theorem EventFrame.engines {u x : State} (h : EventFrame u x) : x.engines = u.engines := by rw [h]
theorem EventFrame.bd {u x : State} (h : EventFrame u x) : x.bd = u.bd := by rw [h]
theorem EventFrame.firmware {u x : State} (h : EventFrame u x) : x.firmware = u.firmware := by rw [h]
theorem EventFrame.jobs {u x : State} (h : EventFrame u x) : x.fabric.jobs = u.fabric.jobs := by rw [h]
theorem EventFrame.queues {u x : State} (h : EventFrame u x) : x.fabric.queues = u.fabric.queues := by rw [h]
theorem EventFrame.carriages {u x : State} (h : EventFrame u x) : x.fabric.carriages = u.fabric.carriages := by rw [h]
theorem EventFrame.mailbox {u x : State} (h : EventFrame u x) : x.mailbox = u.mailbox := by rw [h]
theorem EventFrame.ports {u x : State} (h : EventFrame u x) : x.ports = u.ports := by rw [h]
theorem EventFrame.express {u x : State} (h : EventFrame u x) : x.express = u.express := by rw [h]
theorem EventFrame.train {u x : State} (h : EventFrame u x) : x.train = u.train := by rw [h]
theorem EventFrame.dbg {u x : State} (h : EventFrame u x) : x.dbg = u.dbg := by rw [h]
theorem EventFrame.tasting {u x : State} (h : EventFrame u x) : x.tasting = u.tasting := by rw [h]

end Sys2Proof.Machine
end

