-- ==== Sys2Proof/Laws/Mailbox.lean ====
section
/-!
SUPPORT. What a row of the control mailbox does in a quiet module: the command is taken, run once, and answered (12 R349 to R357).
-/
namespace Sys2Proof.Machine

theorem consume_idle (n qi : Nat) (u : State) (h : ∀ q, u.queue? qi = some q → q.target = none) : u.consume n qi = u := by
  cases n with
  | zero => rfl
  | succ n =>
    rw [State.consume]
    split
    · rfl
    · rw [h _ ‹_›]

theorem queue?_mem {u : State} {i : Nat} {q : WorkQueue} (h : u.queue? i = some q) : q ∈ u.fabric.queues := List.mem_of_find?_eq_some h

theorem serveQueues_quiet {u : State} (h : ∀ q ∈ u.fabric.queues, q.target = none ∧ q.state ≠ .crWait) : u.serveQueues = u := by
  have one : ∀ q : WorkQueue, (match u.queue? q.index with
      | some q =>
        let room := match u.cring? q.cr with | some r => r.room | none => false
        let s := if q.state == .crWait && room && u.consuming then u.modQueue q.index fun q => { q with state := .active } else u
        if q.state == .crWait && !room then s else s.runQueue q.index
      | none => u) = u := by
    intro q
    split
    · rename_i q' hq
      have hs : (q'.state == QueueState.crWait) = false := by
        have := (h _ (queue?_mem hq)).2
        cases h' : q'.state <;> simp_all
      simp only [hs, Bool.false_and, Bool.false_eq_true, if_false, State.runQueue]
      exact consume_idle _ _ _ fun q'' hq'' => (h _ (queue?_mem hq'')).1
    · rfl
  have all : ∀ l : List WorkQueue, l.foldl (fun s q =>
      match s.queue? q.index with
      | some q =>
        let room := match s.cring? q.cr with | some r => r.room | none => false
        let s := if q.state == .crWait && room && s.consuming then s.modQueue q.index fun q => { q with state := .active } else s
        if q.state == .crWait && !room then s else s.runQueue q.index
      | none => s) u = u := by
    intro l
    induction l with
    | nil => rfl
    | cons q l ih => rw [List.foldl_cons, one q, ih]
  exact all _

/-- Where no job waits for a record, a Book place, an expansion or a completion slot, nothing goes on (R67, R111, R268, R297). -/
theorem settle_idle {u : State} (hr : u.cellar.recordQueue = []) (hb : ∀ j ∈ u.fabric.jobs, j.phase ≠ .waitBook)
    (he : ∀ j ∈ u.fabric.jobs, j.phase ≠ .expand) (hq : ∀ q ∈ u.fabric.queues, q.target = none ∧ q.state ≠ .crWait) :
    u.settle = u := by
  have none_in (p : JobPhase) (hp : ∀ j ∈ u.fabric.jobs, j.phase ≠ p) : u.fabric.jobs.filter (fun j => j.phase == p) = [] := by
    rw [List.filter_eq_nil_iff]
    intro j hj
    simpa using hp j hj
  rw [State.settle, hr]
  simp only [List.length_nil, State.serveRecords, State.serveBook, none_in _ hb, List.foldl_nil, serveQueues_quiet hq,
    State.startExpansions, none_in _ he]

theorem settle_quiet {u : State} (h : Quiet u) : u.settle = u := settle_idle h.records h.book h.expand h.queues

/-- Commands that wait do not disturb a quiet module. -/
theorem settle_waiting {u : State} {x : Session} (h : Quiet u) (w : List MbCommand) :
    (State.settle { u.taken x with mailbox.waiting := w }) = { u.taken x with mailbox.waiting := w } :=
  settle_idle h.records h.book h.expand h.queues

/-- The pump runs the next command. -/
theorem pump_one {w v : State} {c : MbCommand} (n : Nat) (ha : w.mbAnswers = true) (hm : (w.power.mode == .hold) = false)
    (hr : w.mailbox.running = none) (hn : w.mbNext = some c)
    (hv : ({ w with mailbox.waiting := w.mailbox.waiting.erase c } : State) = v) (hd : v.mbAdmit c = (v, true)) :
    w.mbPump (n + 1) = (v.mbAttempt c).mbPump n := by
  subst hv
  rw [State.mbPump, if_neg (by simp [ha, hm, hr]), hn]
  dsimp only at hd ⊢
  rw [hd]
  rfl

/-- With no command running, and outside Hold, the pump starts. -/
theorem serve_idle {w : State} (hm : (w.power.mode == .hold) = false) (hr : w.mailbox.running = none) :
    w.mbServe = w.mbPump (w.mailbox.waiting.length + 1) := by
  rw [State.mbServe]
  simp [hr, hm]

/-- A row of a command that comes in session runs the command once, on the state that has taken it. -/
theorem row_runs {u : State} {code conn : Nat} {msg : Bytes} {x : Session} (extra : List Nat) (h : Comes u code conn msg x)
    (hc : mbDefined code = true) (hh : helloCode code = false) :
    Runs (.next (u.mbRow code conn msg extra).resume) (· = (u.taken x).mbAttempt (mbCommand conn msg extra x)) := by
  obtain ⟨hq, ⟨ha, hm, hr⟩, ⟨hs, hk⟩, hi, ⟨hl, hf⟩, hmac, hseq, ⟨hmode, hhold, hrec⟩, hlife⟩ := h
  have hhold' : (u.power.mode == Mode.hold) = false := by
    cases h' : u.power.mode <;> simp_all <;> rfl
  have hcode : (⟨conn, msg, extra, 0, none, .none, 0⟩ : MbCommand).code = code := hi
  have hcode2 : (mbCommand conn msg extra x).code = code := hi
  have arr : u.mbArrival conn msg extra = (u.taken x, mbCommand conn msg extra x) := by
    have h1 : (⟨conn, msg, extra, x.id, none, .none, 0⟩ : MbCommand).formOk = true := hf
    have h2 : (⟨conn, msg, extra, x.id, none, .none, 0⟩ : MbCommand).macOk x.key = true := by
      simpa [MbCommand.macOk] using hmac
    have h3 : ((⟨conn, msg, extra, x.id, none, .none, 0⟩ : MbCommand).seq == x.nextSeq) = true := by
      simpa [MbCommand.seq] using hseq
    have h4 : helloCode (⟨conn, msg, extra, x.id, none, .none, 0⟩ : MbCommand).code = false := by
      rw [← hh, ← hi]; rfl
    rw [State.mbArrival, hs]
    simp only [h1, h2, h3, h4, Bool.not_true, Bool.or_self, Bool.false_eq_true, if_false, if_true]
    rfl
  have row : u.mbRow code conn msg extra =
      { u.taken x with mailbox.waiting := [mbCommand conn msg extra x] } := by
    have hw : u.mailbox.waiting.length = 0 := by rw [hq.mailbox.2]; rfl
    rw [State.mbRow, if_pos (by simpa using hi), State.mbReceive, if_neg (by simp [hr]), if_neg (by simp [ha, hm]),
      if_neg (by omega), arr]
    have : ((u.taken x).power.mode == Mode.hold) = false := hhold'
    dsimp only
    rw [if_neg (by simp [this])]
    have : (u.taken x).mailbox.waiting = [] := hq.mailbox.2
    rw [this]
    rfl
  generalize hc0 : mbCommand conn msg extra x = c at *
  refine ⟨_, 1, ?_, rfl⟩
  have hp : ({ u.taken x with mailbox.waiting := [c] } : State).train.heldPushes = [] := hq.pushes
  have hrun : ({ u.taken x with mailbox.waiting := [c] } : State).mailbox.running = none := hq.mailbox.1
  have hmd : (({ u.taken x with mailbox.waiting := [c] } : State).power.mode == Mode.hold) = false := hhold'
  have hans : ({ u.taken x with mailbox.waiting := [c] } : State).mbAnswers = true := ha
  rw [row, State.resume, settle_waiting hq]
  dsimp only
  rw [hmd, if_neg (by decide), hp]
  simp only [List.length_nil, State.flushPushes]
  rw [serve_idle hmd hrun]
  have adm : (u.taken x).mbAdmit c = (u.taken x, true) := by
    have h1 : c.formOk = true := by rw [← hc0]; exact hf
    have h2 : c.macOk x.key = true := by rw [← hc0]; simpa [MbCommand.macOk, mbCommand] using hmac
    have h4 : c.msg = msg := by rw [← hc0]; rfl
    have h5 : c.want = none := by rw [← hc0]; rfl
    have hls : ((u.taken x).lc == some LifeCycle.scrapped) = false := by
      have : (u.taken x).lc = u.lc := rfl
      rw [this]
      cases h' : u.lc with
      | none => rfl
      | some l => cases l <;> simp_all <;> rfl
    have hsess : ∃ y, (u.taken x).mbSession? c.session = some y ∧ y.key = x.key := by
      have : c.session = x.id := by rw [← hc0]; rfl
      rw [this]
      refine ⟨{ x with nextSeq := (x.nextSeq + 1) % 2 ^ 32 }, ?_, rfl⟩
      refine (find?_mapIf Session.id (fun y => { y with nextSeq := (y.nextSeq + 1) % 2 ^ 32 }) (fun _ => rfl) x.id x.id u.mailbox.sessions).trans ?_
      have : u.mailbox.sessions.find? (fun y => y.id == x.id) = some x := hk
      rw [this]
      simp
    obtain ⟨y, hy, hyk⟩ := hsess
    rw [State.mbAdmit]
    simp only [h1, h4, hcode2, hh, hls, hy, hyk, h2, h5, hc]
    have : (u.taken x).mbModeOk code = true := hmode
    simp [this, show ¬ msg.length < 128 by omega]
  have nxt : ({ u.taken x with mailbox.waiting := [c] } : State).mbNext = some c := by
    rw [State.mbNext]
    split
    · have : c.code / 256 = 0 := by
        rw [hcode2]
        apply hrec
        rename_i hx
        have hx' : (u.power.mode == Mode.recovery) = true := hx
        cases h' : u.power.mode <;> simp_all <;> contradiction
      simp [this]
    · rfl
  have er : ∀ w, w = (u.taken x).mailbox.waiting → ({ u.taken x with mailbox.waiting := w } : State) = u.taken x := by
    rintro _ rfl
    rfl
  have e1 : [c].erase c = (u.taken x).mailbox.waiting := by
    have e2 : (u.taken x).mailbox.waiting = [] := hq.mailbox.2
    rw [e2]
    simp
  exact congrArg Host.Outcome.next (pump_one 1 hans hmd hrun nxt (er _ e1) adm)

/-- Running a command whose body answers. -/
theorem attempt_answers {v w : State} {c : MbCommand} {o : MbOut} (hr : v.mailbox.running = none)
    (hp : mbKeyChange c.code = false ∨ v.placeFree = true) (hb : mbBody v c = (w, .answer o)) : v.mbAttempt c = w.mbDone c o := by
  have e : ({ v with mailbox.running := none } : State) = v := by
    have : ∀ r, r = v.mailbox.running → ({ v with mailbox.running := r } : State) = v := by
      rintro _ rfl
      rfl
    exact this none hr.symm
  rw [State.mbAttempt]
  dsimp only at e ⊢
  rw [e, hb, if_neg]
  rcases hp with h | h <;> simp [h]

/-- A row whose command answers, SHUTDOWN_WAKE apart. -/
theorem row_replies {u w : State} {code conn : Nat} {msg : Bytes} {x : Session} {extra : List Nat} {o : MbOut}
    (h : Comes u code conn msg x) (hc : mbDefined code = true) (hh : helloCode code = false) (hw : code ≠ 0x0502)
    (hp : mbKeyChange code = false ∨ u.placeFree = true)
    (hb : mbBody (u.taken x) (mbCommand conn msg extra x) = (w, .answer o)) :
    Replies (.next (u.mbRow code conn msg extra).resume) (mbCommand conn msg extra x) w o := by
  obtain ⟨y, n, hy, rfl⟩ := row_runs extra h hc hh
  refine ⟨_, n, hy, ?_⟩
  have hcode : (mbCommand conn msg extra x).code = code := h.isCode
  show (u.taken x).mbAttempt _ = _
  rw [attempt_answers (v := u.taken x) (w := w) (o := o) h.quiet.mailbox.1 (by rw [hcode]; exact hp) hb, State.mbDone, hcode]
  have : (code == 0x0502) = false := by simpa using hw
  simp [this]

end Sys2Proof.Machine
end

