-- ==== Sys2Proof/Laws/Memory.lean ====
section
/-!
SUPPORT. Memories stay in canonical form under every operation, and one byte written reads back (02 R46; 11 R343; 13 R398).
-/
namespace Sys2Proof.Machine

/-- Every address that a canonical memory lists behind its first lies above it. -/
theorem wf_above {k : Nat} {v : Byte} {t : Mem} (h : Mem.wf ((k, v) :: t) = true) : Mem.wf t = true ∧ ∀ c ∈ t, k < c.1 := by
  induction t generalizing k v with
  | nil => exact ⟨rfl, fun c hc => absurd hc List.not_mem_nil⟩
  | cons x t ih =>
    obtain ⟨j, w⟩ := x
    simp only [Mem.wf, Bool.and_eq_true, decide_eq_true_eq] at h
    have hw : Mem.wf ((j, w) :: t) = true := by simp only [Mem.wf, Bool.and_eq_true]; exact h.2
    refine ⟨hw, fun c hc => ?_⟩
    rcases List.mem_cons.mp hc with rfl | hc
    · exact h.1.2
    · exact Nat.lt_trans h.1.2 ((ih hw).2 c hc)

/-- A list with a first cell that is listed and below the rest is canonical. -/
theorem wf_cons {k : Nat} {v : Byte} {t : Mem} (hv : v ≠ 0) (ht : Mem.wf t = true) (hk : ∀ c ∈ t, k < c.1) :
    Mem.wf ((k, v) :: t) = true := by
  cases t with
  | nil => simp only [Mem.wf, Bool.and_true, bne_iff_ne, ne_eq]; exact hv
  | cons x t =>
    have := hk x List.mem_cons_self
    simp only [Mem.wf, Bool.and_eq_true, decide_eq_true_eq, bne_iff_ne, ne_eq] at ht ⊢
    exact ⟨⟨hv, this⟩, ht⟩

theorem wf_head {k : Nat} {v : Byte} {t : Mem} (h : Mem.wf ((k, v) :: t) = true) : v ≠ 0 := by
  simp only [Mem.wf, Bool.and_eq_true, bne_iff_ne, ne_eq] at h
  exact h.1.1

/-- A cell of a memory after a write was there before, or is the one written. -/
theorem mem_of_write (m : Mem) (a : Nat) (v : Byte) : ∀ c ∈ m.write a v, c ∈ m ∨ c = (a, v) := by
  induction m with
  | nil => intro c hc; unfold Mem.write at hc; split at hc <;> simp_all
  | cons x t ih =>
    obtain ⟨k, w⟩ := x
    intro c hc
    unfold Mem.write at hc
    repeat' split at hc
    all_goals simp only [List.mem_cons] at hc ⊢
    · exact .inl hc
    · grind
    · exact .inl (.inr hc)
    · rename_i h _; subst h; grind
    · rcases hc with h | h
      · exact .inl (.inl h)
      · rcases ih c h with h | h
        · exact .inl (.inr h)
        · exact .inr h

/-- A write keeps the canonical form. -/
theorem write_wf (m : Mem) (a : Nat) (v : Byte) (h : m.wf = true) : (m.write a v).wf = true := by
  induction m with
  | nil => unfold Mem.write; split <;> simp_all [Mem.wf]
  | cons x t ih =>
    obtain ⟨k, w⟩ := x
    have ht := wf_above h
    unfold Mem.write
    split
    · split
      · exact h
      · rename_i ha hv
        refine wf_cons hv h fun c hc => ?_
        rcases List.mem_cons.mp hc with rfl | hc
        · exact ha
        · exact Nat.lt_trans ha (ht.2 c hc)
    · split
      · split
        · exact ht.1
        · rename_i hv
          exact wf_cons hv ht.1 ht.2
      · rename_i h1 h2
        refine wf_cons (wf_head h) (ih ht.1) fun c hc => ?_
        rcases mem_of_write t a v c hc with hc | rfl
        · exact ht.2 c hc
        · show k < a
          omega

/-- Writing a byte string keeps the canonical form. -/
theorem writeBytes_wf (b : Bytes) : ∀ (m : Mem) (a : Nat), m.wf = true → (m.writeBytes a b).wf = true := by
  induction b with
  | nil => exact fun m a h => h
  | cons x t ih => exact fun m a h => ih _ _ (write_wf m a x h)

/-- Dropping the upper cells keeps the canonical form. -/
theorem clip_wf (m : Mem) (n : Nat) (h : m.wf = true) : (m.clip n).wf = true := by
  induction m with
  | nil => rfl
  | cons x t ih =>
    obtain ⟨k, v⟩ := x
    have ht := wf_above h
    unfold Mem.clip at ih ⊢
    rw [List.filter_cons]
    split
    · exact wf_cons (wf_head h) (ih ht.1) fun c hc => ht.2 c (List.mem_filter.mp hc).1
    · exact ih ht.1

/-- An address below every listed one reads 0. -/
theorem read_below {m : Mem} {a : Nat} (h : ∀ c ∈ m, a < c.1) : m.read a = 0 := by
  cases m with
  | nil => rfl
  | cons x t =>
    obtain ⟨k, v⟩ := x
    have := h _ List.mem_cons_self
    unfold Mem.read
    rw [if_neg (Nat.ne_of_lt this), if_pos this]

/-- A byte written reads back, and no other address changes. -/
theorem read_write (m : Mem) (a : Nat) (v : Byte) (k : Nat) (h : m.wf = true) : (m.write a v).read k = if k = a then v else m.read k := by
  induction m with
  | nil =>
    unfold Mem.write
    split
    · rename_i hv; subst hv; simp [Mem.read]
    · simp only [Mem.read]; split <;> simp_all
  | cons x t ih =>
    obtain ⟨j, w⟩ := x
    have ht := wf_above h
    unfold Mem.write
    split
    · rename_i ha
      split
      · rename_i hv
        subst hv
        split
        · rename_i hk; subst hk; simp only [Mem.read]; rw [if_neg (by omega), if_pos ha]
        · rfl
      · rw [Mem.read]
        split
        · rfl
        · split
          · rw [read_below fun c hc => ?_]
            rcases List.mem_cons.mp hc with rfl | hc
            · show k < j; omega
            · have := ht.2 c hc; omega
          · rfl
    · split
      · rename_i ha
        subst ha
        split
        · rename_i hv
          subst hv
          split
          · rename_i hk; subst hk; exact read_below ht.2
          · rename_i hk
            rw [Mem.read, if_neg hk]
            split
            · rename_i hl; exact read_below fun c hc => Nat.lt_trans hl (ht.2 c hc)
            · rfl
        · simp only [Mem.read]; split <;> rfl
      · rename_i h1 h2
        simp only [Mem.read]
        split
        · rename_i hk; subst hk; rw [if_neg fun e => h2 e.symm]
        · split
          · rename_i hk hl; rw [if_neg (by omega)]
          · exact ih ht.1

/-- Every memory that reset leaves is canonical: it leaves no carriage and no queue. -/
theorem reset_memories : (∀ c ∈ State.reset.fabric.carriages, c.mem.wf = true) ∧ ∀ q ∈ State.reset.fabric.queues, q.ring.wf = true :=
  ⟨fun _ h => absurd h List.not_mem_nil, fun _ h => absurd h List.not_mem_nil⟩

end Sys2Proof.Machine
end

