-- ==== Sys2Proof/Laws/Release.lean ====
section
/-!
SUPPORT. What a release sends and frees (02 R65 to R70): the lemma that every command which ends a job cites.
-/
namespace Sys2Proof.Machine

/-- The connection sends what is posted on it. -/
def Sends (u : State) (i : Nat) : Prop := ∃ k, u.conn? i = some k ∧ k.ready = true ∧ k.notify = none

/-- The parts of a state that a release leaves alone; every connection that sends goes on sending. -/
structure SameReport (u x : State) : Prop where
  clock : x.clock = u.clock
  train : x.train = u.train
  queues : x.fabric.queues = u.fabric.queues
  rings : x.fabric.rings = u.fabric.rings
  book : x.book = u.book
  conns : ∀ i, Sends u i → Sends x i

theorem SameReport.refl (u : State) : SameReport u u := ⟨rfl, rfl, rfl, rfl, rfl, fun _ h => h⟩

theorem SameReport.trans {u v x : State} (a : SameReport u v) (b : SameReport v x) : SameReport u x :=
  ⟨b.clock.trans a.clock, b.train.trans a.train, b.queues.trans a.queues, b.rings.trans a.rings, b.book.trans a.book,
    fun i h => b.conns i (a.conns i h)⟩

/-- What is posted on a connection that sends is sent. -/
theorem post_report {u : State} {i : Nat} (o : Out) (h : Sends u i) :
    SameReport u (u.post i o) ∧ (u.post i o).sent = u.sent ++ [o] := by
  obtain ⟨k, hk, hr, hn⟩ := h
  simp only [State.post, hk, hr, hn]
  simp only [Bool.not_true, Bool.false_eq_true, if_false, Option.isSome_none]
  split
  · refine ⟨⟨rfl, rfl, rfl, rfl, rfl, ?_⟩, rfl⟩
    rintro m ⟨k', hk', hr', hn'⟩
    have e := State.conn?_modConn u i m (fun k => { k with outstanding := k.outstanding ++ [o] }) (fun _ => rfl)
    rw [hk'] at e
    refine ⟨_, e, ?_⟩
    dsimp only
    split <;> exact ⟨hr', hn'⟩
  · exact ⟨⟨rfl, rfl, rfl, rfl, rfl, fun _ h => h⟩, rfl⟩

theorem ensureMark_report (u : State) : SameReport u u.ensureMark ∧ u.ensureMark.sent = u.sent := by
  unfold State.ensureMark
  split <;> exact ⟨⟨rfl, rfl, rfl, rfl, rfl, fun _ h => h⟩, rfl⟩

theorem setPool_report (u : State) (p : Pool) (es : List Engine) :
    SameReport u (u.setPool p es) ∧ (u.setPool p es).sent = u.sent := by
  cases p <;> exact ⟨⟨rfl, rfl, rfl, rfl, rfl, fun _ h => h⟩, rfl⟩

theorem freeBanks_fold_report {α : Type} (f : α → Pool) (g : α → Nat) (i : Nat) (l : List α) : ∀ u : State,
    SameReport u (l.foldl (fun s x => s.freeBanks (f x) i (g x) (afterJob (f x))) u) ∧
    (l.foldl (fun s x => s.freeBanks (f x) i (g x) (afterJob (f x))) u).sent = u.sent := by
  induction l with
  | nil => exact fun u => ⟨.refl u, rfl⟩
  | cons a l ih =>
    intro u
    have h := ih (u.freeBanks (f a) i (g a) (afterJob (f a)))
    have h' : SameReport u (u.freeBanks (f a) i (g a) (afterJob (f a))) ∧ (u.freeBanks (f a) i (g a) (afterJob (f a))).sent = u.sent :=
      setPool_report u (f a) _
    exact ⟨h'.1.trans h.1, h.2.trans h'.2⟩

theorem dropJob_report (u : State) (i : Nat) :
    SameReport u (u.dropJob i) ∧ (u.dropJob i).sent = u.sent ∧ (u.dropJob i).job? i = none := by
  have h : SameReport u (u.freeJobBanks i) ∧ (u.freeJobBanks i).sent = u.sent := by
    unfold State.freeJobBanks
    split
    · exact ⟨.refl u, rfl⟩
    · have a := freeBanks_fold_report (fun x : JobPart × Nat => x.1.pool) (fun x => x.2) i (‹Job›.parts.zipIdx) u
      have b := fun v : State => setPool_report v .press ((v.pool .press).map fun e => e.endWork (· == .expanding i) .wiping)
      exact ⟨a.1.trans (b _).1, (b _).2.trans a.2⟩
  refine ⟨⟨h.1.clock, h.1.train, h.1.queues, h.1.rings, h.1.book, h.1.conns⟩, h.2, ?_⟩
  show (List.filter _ _).find? _ = none
  rw [List.find?_eq_none]
  intro x hx
  have := (List.mem_filter.mp hx).2
  simp only [Bool.and_eq_true, bne_iff_ne, ne_eq] at this
  simpa using this.1

/-- Placing bytes sends one RDMA WRITE to the host area, and none otherwise. -/
theorem placeOutput_report {u : State} {j : Job} {off : Nat} {b : Bytes} {q : WorkQueue} (hq : u.queue? j.queue = some q)
    (hs : Sends u q.conn) :
    SameReport u (u.placeOutput j off b) ∧
    (u.placeOutput j off b).sent = u.sent ++
      (if addrHost (entOutAddr j.entry) && !b.isEmpty then
        [.write q.conn (entOutKey j.entry) (addrOffset (entOutAddr j.entry) + off) b] else []) := by
  simp only [State.placeOutput, hq]
  cases hb : b.isEmpty <;> cases ha : addrHost (entOutAddr j.entry)
  · simp only [Bool.false_eq_true, if_false, Bool.false_and, List.append_nil]
    exact ⟨⟨rfl, rfl, rfl, rfl, rfl, fun _ h => h⟩, rfl⟩
  · simpa using post_report _ hs
  · simpa using SameReport.refl u
  · simpa using SameReport.refl u

theorem queue?_same {u x : State} (h : SameReport u x) (i : Nat) : x.queue? i = u.queue? i := by
  simp only [State.queue?, h.queues]
theorem cring?_same {u x : State} (h : SameReport u x) (i : Nat) : x.cring? i = u.cring? i := by
  simp only [State.cring?, h.rings]

/-- The completion entry, and the NOTIFY SEND with it. -/
theorem complete_report {u : State} {j : Job} {q : WorkQueue} {r : CompletionRing} (written : Nat) (logged : Bool)
    (hq : u.queue? j.queue = some q) (hc : u.cring? q.cr = some r) (hs : r.conn = q.conn) (hk : Sends u q.conn) :
    let c := completionBytes (entTag j.entry) j.status (phaseBit r.count r.size) (cflags j.retried logged u.holdover) written j.seq
      u.clock.train (tSpan u.clock.train j.tConsume) j.queue u.deviceIndex
    let x := u.complete j written logged
    x.sent = u.sent ++ ([.write r.conn r.rkey (r.base + r.count % r.size * 32) c] ++ (if entNotify j.entry then [.send r.conn c] else [])) ∧
    x.cring? q.cr = some { r with count := (r.count + 1) % 2 ^ 32, reserved := r.reserved - 1 } ∧
    x.fabric.queues = u.fabric.queues ∧ x.book = u.book := by
  intro c x
  let v := u.modCring q.cr fun r' => { r' with count := (r.count + 1) % 2 ^ 32, reserved := r'.reserved - 1 }
  have hring : v.cring? q.cr = some { r with count := (r.count + 1) % 2 ^ 32, reserved := r.reserved - 1 } := by
    refine (find?_mapIf CompletionRing.index
      (fun r' => { r' with count := (r.count + 1) % 2 ^ 32, reserved := r'.reserved - 1 }) (fun _ => rfl) q.cr q.cr u.fabric.rings).trans ?_
    have : u.fabric.rings.find? (fun y => y.index == q.cr) = some r := hc
    rw [this]
    simp
  have hv : Sends v r.conn := by rw [hs]; exact hk
  have a := post_report (.write r.conn r.rkey (r.base + r.count % r.size * 32) c) hv
  have b := post_report (.send r.conn c) (a.1.conns _ hv)
  have hx : x = if entNotify j.entry
      then (v.post r.conn (.write r.conn r.rkey (r.base + r.count % r.size * 32) c)).post r.conn (.send r.conn c)
      else v.post r.conn (.write r.conn r.rkey (r.base + r.count % r.size * 32) c) := by
    show u.complete j written logged = _
    simp only [State.complete, hq, hc]
    rfl
  have hvs : v.sent = u.sent := rfl
  rw [hx]
  split
  · refine ⟨by rw [b.2, a.2, hvs]; simp, ?_, (a.1.trans b.1).queues, (a.1.trans b.1).book⟩
    exact (cring?_same (a.1.trans b.1) _).trans hring
  · exact ⟨by rw [a.2, hvs]; simp, (cring?_same a.1 _).trans hring, a.1.queues, a.1.book⟩

/-- Step 15 changes the end of a job alone. -/
theorem placing_form (j : Job) : ∃ st out tr, j.placing = { j with status := st, output := out, trailer := tr } := by
  unfold Job.placing
  split
  · exact ⟨_, _, _, rfl⟩
  · exact ⟨j.status, j.output, j.trailer, rfl⟩

/-- The release of a plain job (R20, R63, R65 to R70). -/
theorem releaseJob_reports {u : State} {j : Job} {q : WorkQueue} {r : CompletionRing} {k : Connection} (h : Reports u j q r k) :
    Reported u j q r (u.releaseJob j.id) := by
  obtain ⟨h1, ⟨h2, h3, h4, h5⟩, h6, ⟨h7, h8⟩, ⟨h9, h10⟩, ⟨h11, h12, h13⟩⟩ := h
  have m := ensureMark_report u
  have hun : u.ensureMark.unloggable j = false := by simp [State.unloggable, h5]
  have hst : u.ensureMark.stale j = false := by
    have e : u.ensureMark.carriage? j.carriage = u.carriage? j.carriage := by
      unfold State.ensureMark
      split <;> rfl
    rw [← h6, State.stale, State.stale, e]
  have hq := (queue?_same m.1 j.queue).trans h7
  have hc := (cring?_same m.1 q.cr).trans h9
  have hs : Sends u.ensureMark q.conn := m.1.conns _ ⟨k, h11, h12, h13⟩
  have hdead : u.ensureMark.queueDead j.queue = false := by
    have hb : (q.state == QueueState.broken) = false := by simpa using h8
    obtain ⟨k', hk', hr', -⟩ := hs
    simp [State.queueDead, hq, hk', hr', hb]
  have hrel : u.releaseJob j.id =
      (let p := j.placing
       let a := u.ensureMark.placeOutput p 0 p.output
       let tr := if p.trailer then trailerBytes p.tConsume (p.tDispatch a.clock.train) else []
       let b := a.placeOutput p (entOutLen p.entry - 16) tr
       (b.complete p (if p.status == .bufferTooSmall then p.required else p.output.length + 0 + tr.length) false).dropJob j.id) := by
    have e : { j.placing with retried := j.placing.retried || j.placing.results.any fun r => r.2.2.2.1 } = j.placing := by
      obtain ⟨st, out, tr, hp⟩ := placing_form j
      rw [hp]
      simp [h4]
    obtain ⟨st, out, tr, hp⟩ := placing_form j
    have hpl : j.placing.bookPlaces = 0 ∧ j.placing.queue = j.queue := by rw [hp]; exact ⟨h5, rfl⟩
    have hst' : u.ensureMark.stale j.placing = false := by rw [hp]; exact hst
    have happ : u.ensureMark.appendJob j.placing = (u.ensureMark, false) := by
      rw [State.appendJob, if_pos (by simp [hpl.1])]
    simp only [State.releaseJob, h1, hun, h3, Bool.false_and, Bool.false_eq_true, if_false, Bool.or_self, happ]
    rw [e, hst', hpl.2, hdead]
    rfl
  obtain ⟨st, out, tr, hp⟩ := placing_form j
  generalize hpj : j.placing = p at *
  have hid : p.queue = j.queue ∧ p.entry = j.entry ∧ p.seq = j.seq ∧ p.tConsume = j.tConsume := by rw [hp]; exact ⟨rfl, rfl, rfl, rfl⟩
  have hqp : u.ensureMark.queue? p.queue = some q := by rw [hid.1]; exact hq
  generalize hu : u.ensureMark = u' at *
  have p1 := placeOutput_report (off := 0) (b := p.output) hqp hs
  dsimp only at hrel
  generalize ha : u'.placeOutput p 0 p.output = a at *
  generalize htr : (if p.trailer then trailerBytes p.tConsume (p.tDispatch a.clock.train) else []) = tr' at *
  have p2 := placeOutput_report (off := entOutLen p.entry - 16) (b := tr') ((queue?_same p1.1 _).trans hqp) (p1.1.conns _ hs)
  generalize hb : a.placeOutput p (entOutLen p.entry - 16) tr' = b at *
  have same := p1.1.trans p2.1
  generalize hw : (if p.status == .bufferTooSmall then p.required else p.output.length + 0 + tr'.length) = w at *
  have p3 := complete_report w false ((queue?_same same _).trans hqp) ((cring?_same same _).trans hc) h10 (same.conns _ hs)
  have d := dropJob_report (b.complete p w false) j.id
  rw [hrel]
  have htrain : a.clock = u.clock := p1.1.clock.trans m.1.clock
  have hbt : b.clock = u.clock := same.clock.trans m.1.clock
  have htr2 : b.train = u.train := same.train.trans m.1.train
  refine ⟨d.2.2, ?_, ?_, ?_, ?_⟩
  · rw [d.2.1, p3.1, p2.2, p1.2, m.2]
    simp only [reportOut, hpj, List.append_assoc]
    rw [← hw, ← htr, htrain]
    have e1 : b.holdover = u.holdover := by simp only [State.holdover, hbt]
    have e2 : b.deviceIndex = u.deviceIndex := by simp only [State.deviceIndex, htr2]
    rw [e1, e2, hbt]
    simp only [Nat.add_zero, hid.1]
  · have : ((b.complete p w false).dropJob j.id).cring? q.cr = (b.complete p w false).cring? q.cr := cring?_same d.1 _
    rw [this]
    exact p3.2.1
  · rw [d.1.queues, p3.2.2.1, same.queues, m.1.queues]
  · rw [d.1.book, p3.2.2.2, same.book, m.1.book]

/-- The job with its end reports as the job does. -/
theorem reports_ended {u : State} {j : Job} {q : WorkQueue} {r : CompletionRing} {k : Connection} (st : Status) (tr : Bool)
    (h : Reports u j q r k) :
    Reports (u.modJob j.id fun y => { y with status := st, output := [], trailer := tr && entTs y.entry, phase := .computed })
      (j.ended st tr) q r k := by
  refine ⟨?_, h.whole, h.fresh, h.queue, h.ring, h.conn⟩
  refine (State.job?_modJob u j.id j.id (fun y => y.ended st tr) (fun _ => rfl)).trans ?_
  rw [h.found]
  simp

/-- A plain job that fails is reported at once (R60). -/
theorem failJob_reports {u : State} {j : Job} {q : WorkQueue} {r : CompletionRing} {k : Connection} (st : Status) (tr : Bool)
    (h : Reports u j q r k) : Reported u (j.ended st tr) q r (u.failJob j.id st tr) := by
  have := releaseJob_reports (reports_ended st tr h)
  exact ⟨this.gone, this.sent, this.ring, this.queues, this.book⟩

theorem failAny_reports {u : State} {j : Job} {q : WorkQueue} {r : CompletionRing} {k : Connection} (st : Status) (tr : Bool)
    (h : Reports u j q r k) : Reported u (j.ended st tr) q r (u.failAny j.id st tr) := by
  have e : u.failAny j.id st tr = u.failJob j.id st tr := by
    have hp := (reports_ended st tr h).found
    have hn : ((j.ended st tr).parent.isSome) = false := by simp [Job.ended, h.whole.1]
    simp only [State.failAny, State.failJob, State.release]
    have hp' : (u.modJob j.id fun y => { y with status := st, output := [], trailer := tr && entTs y.entry, phase := .computed }).job? j.id =
        some (j.ended st tr) := hp
    rw [hp']
    simp [hn]
  rw [e]
  exact failJob_reports st tr h

end Sys2Proof.Machine
end

