-- ==== Sys2Proof/WellFormed.lean ====
section
/-!
DEFINITION. Commands that can reach the block: each operand that names a port, engine, cell, pin, domain or connection lies in the
range the spec gives it. A command out of range finds nothing to act on, and its meaning changes nothing but the time.
-/
namespace Sys2Proof

/-- Every operand that names a part of the block names one that exists. -/
def Instr.wellFormed (i : Instr) : Bool :=
  match i with
  | .ringEntryWrite _ conn _ _ _ | .doorbell _ conn _ _ | .creditWord _ conn _ _ | .helloChallenge _ conn _
  | .helloProve _ conn _ | .helloKeypairExpiry _ conn | .mbUnknownCommand _ conn _ | .vintageGet _ conn _
  | .moduleInfo _ conn _ | .sessionClose _ conn _ | .quoteGet _ conn _ | .rngInfo _ conn _ | .wqCreate _ conn _
  | .wqDestroy _ conn _ | .crCreate _ conn _ | .crDestroy _ conn _ | .wqInfo _ conn _ | .connInfo _ conn _
  | .carriageCreate _ conn _ | .carriageResize _ conn _ | .carriageDisable _ conn _ | .carriageReset _ conn _
  | .carriageDestroy _ conn _ | .pmapSet _ conn _ | .windowSet _ conn _ | .carriageInfo _ conn _ | .cellarStatus _ conn _
  | .slotShare _ conn _ | .slotUnshare _ conn _ | .slotDestroy _ conn _ | .slotInfo _ conn _ | .lowThresholdSet _ conn _
  | .wrapkeyRoll _ conn _ | .bookExportSet _ conn _ | .bookRead _ conn _ | .leafRelease _ conn _
  | .leafReleaseGet _ conn _ | .leafAccept _ conn _ | .identityCertGet _ conn _ | .provisionImport _ conn _
  | .trainStatus _ conn _ | .rosterSet _ conn _ | .trainJoin _ conn _ | .trainLeave _ conn _ | .rosterGet _ conn _
  | .vinWarnSet _ conn _ | .deratedClear _ conn _ | .shutdownWakeStandby _ conn _ | .shutdownWakeReset _ conn _
  | .shutdownWakeWake _ conn _ | .pressShareSet _ conn _ | .powerStatus _ conn _ _ _ | .entropyTestEnter _ conn _
  | .entropyTestRead _ conn _ _ _ _ | .provisioningEnter _ conn _ | .provisioningExit _ conn _ | .lcTransition _ conn _
  | .debugChallenge _ conn _ | .debugAuth _ conn _ | .fwStage _ conn _ | .fwCommit _ conn _ | .fwConfirm _ conn _
  | .patchLoad _ conn _ | .fwStatus _ conn _ | .eringCreate _ conn _ | .eringDestroy _ conn _ | .efilterLoad _ conn _
  | .expressEnable _ conn _ | .expressDisable _ conn _ | .expressStatus _ conn _ | .portConfig _ conn _
  | .classifierLoad _ conn _ | .portStatus _ conn _ | .tastingSet _ conn _ | .tastingLoad _ conn _
  | .tastingResults _ conn _ | .fuseRepair _ conn _ | .cmRtu _ conn | .cmDreq _ conn | .connectionError _ conn _
  | .carriageMemoryWrite _ conn _ _ _ | .rdmaReadRequest _ conn _ _ _ | .rdmaReadResponse _ conn _ _ | .rdmaAck _ conn _
  | .rnrNak _ conn | .transportRetryTimer _ conn | .cnpReceived _ conn | .cnpRateRestore _ conn => conn < 65536
  | .prefetch _ queue _ _ | .wqDrainDone _ queue => queue < 65536
  | .journalWriteDurable _ slot | .treeBuildDone _ slot _ _ => slot < 16384
  | .bankWipeDone _ tile bank => tile < 32 && bank < 2
  | .operandWipeDone _ engine | .cooperFault _ engine _ => engine < 64
  | .tileFault _ tile _ | .maskSeedRefill _ tile => tile < 32
  | .hashCoreFault _ core _ => core < 256
  | .drayFault _ dray _ => dray < 8
  | .generationDrained _ carriage _ => carriage < 4096
  | .gddr7Uncorrectable _ component _ _ _ | .gddr7CorrectedRate _ component _ => component < 8
  | .cmReq _ port _ | .admitTokenRefill _ port | .ingressFrame _ port _ _ _ | .mgmtFrame _ port _ | .linkUp _ port
  | .linkDown _ port | .fecWindow _ port _ _ _ _ _ | .ptpSync _ port _ _ _ | .ptpDelayResp _ port _ _ _
  | .ptpDelayReq _ port _ _ | .ptpAnnounce _ port _ _ => port < 8
  | .pfcFrame _ port priority _ | .pfcStormTimeout _ port priority _ | .pfcStormIgnoreEnd _ port priority => port < 8 && priority < 8
  | .consIndexPoll _ ring | .consIndexReadDone _ ring _ => ring < 4098
  | .noiseBit _ cell _ | .cellStallTimeout _ cell | .cellStartupPass _ cell => cell < 16
  | .bdDataWrite _ _ data => data.length == 8
  | .norReadSnooped _ bank _ _ => bank < 2
  | .railFault _ domain _ => domain < 50
  | .tamperIn _ n => n < 4
  | .trainHelloTimer _ peer | .trainLiveTimer _ peer | .pushResend _ peer | .peerSilenceTimeout _ peer
  | .trainRekeyTimer _ peer | .oldSaExpiry _ peer | .peerKeyingTimeout _ peer => peer < 1024
  | .trainHello _ m | .trainHelloReply _ m | .trainHelloConfirm _ m | .trainLive _ m | .trainLeaveMsg _ m | .trainPush _ m
  | .trainDigest _ m | .trainPtp _ m => m.port < 8
  | .maldinEcdsaSign _ f | .maldinEcdsaVerify _ f | .maldinEcdh _ f | .maldinDlmsProtect _ f | .maldinDlmsUnprotect _ f
  | .maldinKeyDerive _ f | .maldinBadCommand _ f => (f.port == 0 || f.port == 4)
  | .unknownOpcodeEntry _ _ | .nop _ _ | .mlKemKeygen _ _ | .mlKemEncaps _ _ | .mlKemDecaps _ _ | .mlKemEkCheck _ _
  | .mlKemKeygenInternal _ _ | .mlKemEncapsInternal _ _ | .mlDsaKeygen _ _ | .mlDsaSign _ _ | .mlDsaSignPrehash _ _
  | .mlDsaSignMu _ _ | .mlDsaVerify _ _ | .mlDsaVerifyPrehash _ _ | .mlDsaVerifyMu _ _ | .mlDsaKeygenInternal _ _
  | .hybridInitKeygen _ _ | .hybridRespond _ _ | .hybridInitFinish _ _ | .hqcKeygen _ _ | .hqcEncaps _ _ | .hqcDecaps _ _
  | .hqcKeygenInternal _ _ | .hqcEncapsInternal _ _ | .mcelieceKeygen _ _ | .mcelieceEncaps _ _ | .mcelieceDecaps _ _
  | .mceliecePkCache _ _ | .mcelieceKeygenInternal _ _ | .mcelieceEncapsInternal _ _ | .slhDsaKeygen _ _ | .slhDsaSign _ _
  | .slhDsaSignPrehash _ _ | .slhDsaVerify _ _ | .slhDsaVerifyPrehash _ _ | .slhDsaKeygenInternal _ _ | .lmsKeygen _ _
  | .lmsSign _ _ | .lmsVerify _ _ | .lmsStateGet _ _ | .xmssKeygen _ _ | .xmssSign _ _ | .xmssVerify _ _
  | .xmssStateGet _ _ | .hashDigest _ _ | .hashVerify _ _ | .hashOpen _ _ | .hashUpdate _ _ | .hashFinal _ _
  | .hashFinalVerify _ _ | .hashAbort _ _ | .ecdsaKeygen _ _ | .ecdsaSign _ _ | .ecdsaVerify _ _ | .eddsaKeygen _ _
  | .eddsaSign _ _ | .eddsaVerify _ _ | .ecdhKeygen _ _ | .ecdhDerive _ _ | .rsaKeygen _ _ | .rsaSignPkcs1 _ _
  | .rsaSignPss _ _ | .rsaVerifyPkcs1 _ _ | .rsaVerifyPss _ _ | .rsaDecryptOaep _ _ | .rsaEncryptOaep _ _
  | .gcmEncrypt _ _ | .gcmDecrypt _ _ | .ccmEncrypt _ _ | .ccmDecrypt _ _ | .ctr _ _ | .xtsEncrypt _ _ | .xtsDecrypt _ _
  | .cmacGenerate _ _ | .cmacVerify _ _ | .gmacGenerate _ _ | .gmacVerify _ _ | .kwWrap _ _ | .kwUnwrap _ _ | .kwpWrap _ _
  | .kwpUnwrap _ _ | .chachaEncrypt _ _ | .chachaDecrypt _ _ | .dlmsProtect _ _ | .dlmsUnprotect _ _ | .keyTransfer _ _
  | .exportWrapped _ _ | .checkValue _ _ | .kmGenerate _ _ | .kmImport _ _ | .kmExport _ _ | .kmDestroy _ _
  | .kmPublicGet _ _ | .kmRewrap _ _ | .kmRestore _ _ | .kmInfo _ _ | .rngGenerate _ _ | .quote _ _ | .inputFetchDone _ _
  | .keyExpansionDone _ _ | .jobDispatch _ _ _ | .schedulingEpoch _ | .engineWaitTimeout _ _ | .bookPlaceTimeout _ _
  | .recordWaitTimeout _ _ | .keyChangePlaceTimeout _ | .entropyWaitTimeout _ _ | .chunkWaitTimeout _ _
  | .sessionIdleTimeout _ _ | .jobCommit _ _ _ | .jobRelease _ _ | .stagingSpaceFreed _ _ _ | .patchKatDone _ _ _ _
  | .shutdownDrainDone _ | .lcTransitionReset _ | .debugChallengeExpiry _ | .debugRightsLapse _ | .admitSoftStartEnd _
  | .syncTimeout _ | .ppsInEdge _ | .ppsOutTick _ | .timeMarkTimer _ | .timeMarkDurable _ | .checkpointTimer _
  | .checkpointCount _ | .checkpointSigned _ _ | .conditionedBlock _ _ | .drbgInstantiate _ _ | .reseedTimer _ _
  | .reseedCallCount _ _ | .reseedDueTimeout _ | .rngDataRead _ | .bdStart _ _ | .bdFinish _ _ | .bdAbort _ _
  | .registerWrite _ _ _ | .vinStart _ _ | .pllLock _ | .pllLossOfLock _ _ | .bootEnd _ | .expressReady _ | .recoveryEnd _
  | .vinWarnCrossing _ _ | .holdExit _ _ | .vinReset _ _ | .nresetAssert _ | .nwake _ | .vinLowDerate _ _
  | .deratedExitTimer _ _ | .ladderStepUp _ _ | .inputPowerOver _ _ _ | .currentLimit _ _ _ _ | .thermalLimit _ _ _
  | .thermalStepTimer _ _ | .junctionOvertemp _ | .lidTempWarn _ _ | .watchdogExpiry _ | .internalFault _ | .tamperMesh _
  | .nzeroiseAssert _ | .vbatLow _ | .zeroiseReset _ | .tastingStepDone _ _ | .tastingStepBudget _ | .joinTimeout _
  | .joinCatchUpDone _ | .maldinReplySend _ _ | .nresetDeassert _ _ | .holdoverReducedRateEnd _
  | .keygenAttemptsExhausted _ _ | .currentStepTimer _ _ => true

end Sys2Proof
end

