-- ==== Sys2Proof/Tests/Slice0.lean ====
section
/-!
SUPPORT. Tests: commands out of range are refused by WellFormed, small states that meet the statements' hypotheses, and single steps with
results taken from the spec.
-/
namespace Sys2Proof.Machine

/-! ### WellFormed -/

theorem test_wf_conn : Instr.wellFormed (.doorbell 0 65535 0 []) = true ∧ Instr.wellFormed (.doorbell 0 65536 0 []) = false := by decide
theorem test_wf_mailbox_conn : Instr.wellFormed (.moduleInfo 0 65536 []) = false ∧ Instr.wellFormed (.rnrNak 0 65536) = false := by decide
theorem test_wf_queue : Instr.wellFormed (.prefetch 0 65536 1 false) = false ∧ Instr.wellFormed (.wqDrainDone 0 65536) = false := by decide
theorem test_wf_slot : Instr.wellFormed (.journalWriteDurable 0 16384) = false ∧ Instr.wellFormed (.treeBuildDone 0 16384 0 0) = false := by decide
theorem test_wf_bank : Instr.wellFormed (.bankWipeDone 0 31 1) = true ∧ Instr.wellFormed (.bankWipeDone 0 32 0) = false ∧
    Instr.wellFormed (.bankWipeDone 0 0 2) = false := by decide
theorem test_wf_cooper : Instr.wellFormed (.operandWipeDone 0 64) = false ∧ Instr.wellFormed (.cooperFault 0 64 .fault) = false := by decide
theorem test_wf_tile : Instr.wellFormed (.tileFault 0 32 .fault) = false ∧ Instr.wellFormed (.maskSeedRefill 0 32) = false := by decide
theorem test_wf_hash_core : Instr.wellFormed (.hashCoreFault 0 255 false) = true ∧ Instr.wellFormed (.hashCoreFault 0 256 false) = false := by decide
theorem test_wf_dray : Instr.wellFormed (.drayFault 0 8 .fault) = false := by decide
theorem test_wf_carriage : Instr.wellFormed (.generationDrained 0 4096 1) = false := by decide
theorem test_wf_component : Instr.wellFormed (.gddr7CorrectedRate 0 8 2000) = false ∧
    Instr.wellFormed (.gddr7Uncorrectable 0 8 0 0 .other) = false := by decide
theorem test_wf_port : Instr.wellFormed (.linkUp 0 7) = true ∧ Instr.wellFormed (.linkUp 0 8) = false := by decide
theorem test_wf_pfc : Instr.wellFormed (.pfcFrame 0 7 7 true) = true ∧ Instr.wellFormed (.pfcFrame 0 8 0 true) = false ∧
    Instr.wellFormed (.pfcFrame 0 0 8 true) = false := by decide
theorem test_wf_ring : Instr.wellFormed (.consIndexPoll 0 4097) = true ∧ Instr.wellFormed (.consIndexPoll 0 4098) = false := by decide
theorem test_wf_cell : Instr.wellFormed (.noiseBit 0 16 (true, false)) = false ∧ Instr.wellFormed (.cellStallTimeout 0 15) = true := by decide
theorem test_wf_bd_data : Instr.wellFormed (.bdDataWrite 0 .firmware (zeros 8)) = true ∧ Instr.wellFormed (.bdDataWrite 0 .firmware (zeros 7)) = false := by decide
theorem test_wf_nor : Instr.wellFormed (.norReadSnooped 0 2 0 1) = false := by decide
theorem test_wf_domain : Instr.wellFormed (.railFault 0 49 true) = true ∧ Instr.wellFormed (.railFault 0 50 true) = false := by decide
theorem test_wf_tamper : Instr.wellFormed (.tamperIn 0 3) = true ∧ Instr.wellFormed (.tamperIn 0 4) = false := by decide
theorem test_wf_peer : Instr.wellFormed (.pushResend 0 1024) = false := by decide
theorem test_wf_train : Instr.wellFormed (.trainLive 0 ⟨8, 0, 0, 0, true, [], []⟩) = false := by decide
theorem test_wf_maldin : Instr.wellFormed (.maldinEcdh 0 ⟨4, 0, 0, 0, 0, true, 0, 0, 0, []⟩) = true ∧
    Instr.wellFormed (.maldinEcdh 0 ⟨1, 0, 0, 0, 0, true, 0, 0, 0, []⟩) = false := by decide

/-! ### Small states -/

/-- The module in a mode. -/
def atMode (m : Mode) : State := { power.mode := m }

/-- A REQ as a host sends it. -/
def req0 : CmReq := ⟨0x884001, 1, 1024, 4, 4, 3, 3, 10, 0, 0, zeros 16⟩

/-- A job that runs `op` on the first engine of a pool. -/
def job0 (op : Op) : Job :=
  { id := 1, queue := 0, entry := zeros 64, op := some op, seq := 0, tConsume := 0, nConsume := 0, phase := .running
    parts := [{ pool := .press, engine := some 0 }] }

/-- The module with one job. -/
def withJob (j : Job) : State := { atMode .service with fabric.jobs := [j] }

theorem advance_withJob (j : Job) : (withJob j).advance 0 = withJob j := rfl

/-- A job that runs an operation exists, for every operation and whatever else it holds. -/
theorem running_with {op : Op} {j : Job} (h1 : j.id = 1) (h2 : j.op = some op) (h3 : j.phase = .running)
    (h4 : j.parts = [{ pool := .press, engine := some 0 }]) : Running ((withJob j).advance 0) 1 op j := by
  rw [advance_withJob]
  refine ⟨?_, h2, h3, ?_, Mode.noConfusion, rfl⟩
  · show [j].find? (fun x => x.id == 1) = some j
    rw [List.find?_cons, h1]
    rfl
  · rw [h4]
    intro q h
    rw [List.mem_singleton.mp h]
    exact ⟨rfl, rfl⟩

theorem running_witness (op : Op) : Running ((withJob (job0 op)).advance 0) 1 op (job0 op) := running_with rfl rfl rfl rfl

/-! ### Commands of the mailbox -/

def key1 : Bytes := List.replicate 32 1
def ses1 : Session := { id := 5, conn := 2, key := key1 }
def conn2 : Connection := { index := 2, mailbox := true, port := 0, req := req0 }
def conn3 : Connection := { index := 3, mailbox := false, port := 1, req := req0 }

/-- Header of a slot of carriage 0 that the control master may change. -/
def head0 : SlotHeader :=
  { state := .live, keyClass := 0x0E, param := 1, form := 1, usage := 3, worlds := 3, lcMask := 15, masters := 1, graftPrf := 0, expClass := 0, owner := 0,
    materialLen := 16, shareList := [], versionTime := 0, versionDevice := 0, slot := 7, lowThreshold := 65536, materialHash := [], replaceCount := 0 }

/-- The module in a mode with a session, two connections, a queue with its ring, a carriage, an event ring and a slot with a ledger. -/
def full (m : Mode) : State :=
  { power.mode := m, power.vin := 12000, rng.state := .seeded, mailbox.sessions := [ses1], fabric.conns := [conn2, conn3],
    fabric.queues := [{ index := 0, conn := 3, cr := 0, size := 64 }], fabric.rings := [{ index := 0, conn := 3, base := 0, rkey := 9, size := 64 }],
    fabric.carriages := [{ number := 0 }], router.rings := [{ index := 1, conn := 3, base := 0, rkey := 9, size := 64 }],
    cellar.dir := [{ slot := 7, record := 0, valid := true, swapSerial := 1 }],
    cellar.records := [{ index := 0, header := head0, material := zeros 16, tag := [] }],
    cellar.ledgers := [{ slot := 7, keyId := [], next := 0, highWater := 0, ranges := [(0, 0, 32)] }] }

theorem advance_full (m : Mode) : (full m).advance 0 = full m := by cases m <;> rfl

/-- A command of the session in form, with its MAC; parameters stand from 0x08 on. -/
def cmd (code : Nat) (par bulk : Bytes) : Bytes :=
  let h := toLe 2 code ++ zeros 2 ++ toLe 4 1 ++ padTo 88 par ++ zeros 8 ++ toLe 4 bulk.length ++ zeros 4
  h ++ kmac key1 (h ++ bulk) 16 "ZMCMD" ++ bulk

/-- The module in a mode takes the command. -/
def Takes (m : Mode) (code : Nat) (par bulk : Bytes) : Prop := Comes (full m) code 2 (cmd code par bulk) ses1

theorem quiet_full (m : Mode) : Quiet (full m) :=
  ⟨rfl, fun _ h => absurd h List.not_mem_nil, fun _ h => absurd h List.not_mem_nil,
    fun _ h => by rw [List.mem_singleton.mp h]; exact ⟨rfl, QueueState.noConfusion⟩, rfl, rfl, rfl⟩

/-- What a command must show for the module to take it. -/
theorem takes {m : Mode} {code : Nat} {par bulk : Bytes} (hm : (full m).mbAnswers = true) (hc : le (cmd code par bulk) 0 2 = code)
    (hl : 128 ≤ (cmd code par bulk).length) (hf : MbCommand.formOk { conn := 2, msg := cmd code par bulk } = true)
    (hk : slice (cmd code par bulk) 0x70 16 = mbMac key1 (cmd code par bulk) "ZMCMD") (hs : le (cmd code par bulk) 4 4 = 1)
    (ho : (full m).mbModeOk code = true) (hh : m ≠ .hold) (hr : m = .recovery → code / 256 = 0) : Takes m code par bulk :=
  ⟨quiet_full m, ⟨hm, rfl, rfl⟩, ⟨rfl, rfl⟩, hc, ⟨hl, hf⟩, hk, hs, ⟨ho, hh, hr⟩, LifeCycle.noConfusion ∘ Option.some.inj⟩

set_option maxRecDepth 100000 in
/-- Commands that the hypotheses of MailboxReads admit. -/
theorem witness_MailboxReads :
    Takes .service 0x0002 ([]) ([]) ∧
    Takes .service 0x0003 ([]) ([]) ∧
    Takes .service 0x0010 ([]) ([]) ∧
    Takes .service 0x0104 ([]) ([]) ∧
    Takes .service 0x0105 ([3]) ([]) ∧
    Takes .service 0x0207 ([]) ([]) ∧
    Takes .service 0x0300 ([]) ([]) ∧
    Takes .service 0x0304 ([7]) ([]) ∧
    Takes .service 0x0400 ([]) ([]) ∧
    Takes .service 0x0404 ([]) ([]) ∧
    Takes .service 0x0504 ([]) ([]) ∧
    Takes .service 0x0704 ([]) ([]) ∧
    Takes .service 0x0902 ([]) ([]) ∧
    Takes .service 0x0A02 ([7]) ([]) ∧
    Takes .service 0x0B02 ([]) ([]) ∧
    ((full .service).queue? 0).isSome = true ∧
    ((full .service).conn? 3).isSome = true ∧
    ((full .service).slotRecord? 7).isSome = true := by
  and_intros <;> first | decide | exact takes rfl rfl (by decide) rfl rfl rfl rfl Mode.noConfusion Mode.noConfusion

set_option maxRecDepth 100000 in
/-- Commands that the hypotheses of MailboxEvidence admit. -/
theorem witness_MailboxEvidence :
    Takes .service 0x0308 (zeros 8 ++ [64]) ([]) ∧
    Takes .service 0x030C ([1]) ([]) ∧
    Takes .service 0x030A ([7]) ([]) ∧
    Takes .service 0x0005 ([]) (zeros 8) ∧
    Takes .entropyTest 0x0521 ([15, 2]) ([]) := by
  and_intros <;> exact takes rfl rfl (by decide) rfl rfl rfl rfl Mode.noConfusion Mode.noConfusion

set_option maxRecDepth 100000 in
/-- Commands that the hypotheses of MailboxSessions admit. -/
theorem witness_MailboxSessions :
    Takes .service 0x0004 ([0xFF, 0xFF]) ([]) ∧
    Takes .service 0x0004 ([5]) ([]) ∧
    Takes .service 0x0004 ([6]) ([]) ∧
    (full .service).mbSession? 6 = none := by
  and_intros <;> first | decide | exact takes rfl rfl (by decide) rfl rfl rfl rfl Mode.noConfusion Mode.noConfusion

set_option maxRecDepth 100000 in
/-- Commands that the hypotheses of MailboxRings admit. -/
theorem witness_MailboxRings :
    Takes .service 0x0100 ([1, 0, 3, 0, 6, 0, 0, 0]) ([]) ∧
    Takes .service 0x0100 ([1, 0, 3, 0, 16]) ([]) ∧
    Takes .service 0x0102 ([1, 0, 3, 0, 6]) ([]) ∧
    Takes .service 0x0103 ([]) ([]) ∧
    Takes .service 0x0101 ([]) ([]) ∧
    Takes .service 0x0800 ([0, 0, 3, 0, 6]) ([]) ∧
    Takes .service 0x0801 ([1]) ([]) ∧
    Takes .service 0x0802 ([1, 0, 1]) (zeros 8) ∧
    (full .service).queue? 1 = none ∧
    (full .service).ringConn 3 = true ∧
    (full .service).cring? 1 = none ∧
    ((full .service).ering? 1).isSome = true := by
  and_intros <;> first | decide | exact takes rfl rfl (by decide) rfl rfl rfl rfl Mode.noConfusion Mode.noConfusion

set_option maxRecDepth 100000 in
/-- Commands that the hypotheses of MailboxCarriages admit. -/
theorem witness_MailboxCarriages :
    Takes .service 0x0200 ([]) ([1, 0] ++ zeros 6 ++ [1] ++ zeros 7 ++ [1, 1, 1, 1, 1, 1] ++ zeros 90) ∧
    Takes .service 0x0202 ([]) ([]) ∧
    Takes .service 0x0203 ([]) ([]) ∧
    Takes .service 0x0204 ([]) ([]) ∧
    Takes .service 0x0205 ([1]) (zeros 16) ∧
    Takes .service 0x0206 (zeros 14 ++ [1]) ([]) ∧
    Takes .service 0x0201 ([]) (zeros 8 ++ [1] ++ zeros 7 ++ [1, 1, 1, 1, 1, 1] ++ zeros 90) ∧
    (full .service).carState 0 = .active ∧
    (full .service).carriage? 1 = none ∧
    (full .service).drawFate false = .served ∧
    (full .service).resizeFault (zeros 8 ++ [1] ++ zeros 7 ++ [1, 1, 1, 1, 1, 1] ++ zeros 90) = none := by
  and_intros <;> first | decide | exact takes rfl rfl (by decide) rfl rfl rfl rfl Mode.noConfusion Mode.noConfusion

set_option maxRecDepth 100000 in
/-- Commands that the hypotheses of MailboxSlots admit. -/
theorem witness_MailboxSlots :
    Takes .service 0x0301 ([7, 0, 0xFF, 0x0F]) ([]) ∧
    Takes .service 0x0302 ([7]) ([]) ∧
    Takes .service 0x0305 ([7]) ([]) ∧
    Takes .service 0x0303 ([7]) ([]) ∧
    Takes .service 0x0303 ([8]) ([]) ∧
    Takes .service 0x0306 ([]) ([]) ∧
    (full .service).placeFree = true ∧
    ((full .service).slotRecord? 7).isSome = true ∧
    (full .service).slotRecord? 8 = none ∧
    head0.controlMaster = true ∧
    ((full .service).carriage? 0).isSome = true := by
  and_intros <;> first | decide | exact takes rfl rfl (by decide) rfl rfl rfl rfl Mode.noConfusion Mode.noConfusion

set_option maxRecDepth 100000 in
/-- Commands that the hypotheses of MailboxLeavesAndBook admit. -/
theorem witness_MailboxLeavesAndBook :
    Takes .service 0x0309 ([7]) ([]) ∧
    Takes .service 0x030B ([]) ([1]) ∧
    Takes .service 0x0307 ([0xFF, 0xFF]) ([]) ∧
    Takes .service 0x0307 ([0]) ([]) ∧
    Takes .service 0x0307 ([1]) ([]) ∧
    Takes .service 0x030D ([]) ([]) ∧
    Takes .provisioning 0x030D ([8]) (zeros 17) ∧
    (full .service).book.exportRing = none ∧
    (full .service).ering? 0 = none ∧
    ((full .service).ering? 1).isSome = true ∧
    ((full .service).ledger? 7).isSome = true := by
  and_intros <;> first | decide | exact takes rfl rfl (by decide) rfl rfl rfl rfl Mode.noConfusion Mode.noConfusion

set_option maxRecDepth 100000 in
/-- Commands that the hypotheses of MailboxTrain admit. -/
theorem witness_MailboxTrain :
    Takes .service 0x0401 ([]) (zeros 128) ∧
    Takes .service 0x0402 ([]) ([]) ∧
    Takes .service 0x0403 ([]) ([]) ∧
    Takes .derated 0x0402 ([]) ([]) ∧
    (full .service).train.state ≠ .listed ∧
    ((full .service).mbSession? 5).isSome = true := by
  and_intros <;> first | decide | exact takes rfl rfl (by decide) rfl rfl rfl rfl Mode.noConfusion Mode.noConfusion

set_option maxRecDepth 100000 in
/-- Commands that the hypotheses of MailboxPower admit. -/
theorem witness_MailboxPower :
    Takes .service 0x0500 (toLe 4 5700) ([]) ∧
    Takes .service 0x0500 (toLe 4 5699) ([]) ∧
    Takes .service 0x0500 (toLe 4 11000) ([]) ∧
    Takes .service 0x0501 ([]) ([]) ∧
    Takes .service 0x0502 ([0, 1]) ([]) ∧
    Takes .service 0x0502 ([1, 0]) ([]) ∧
    Takes .service 0x0503 ([1]) ([]) ∧
    Takes .service 0x0503 ([32]) ([]) ∧
    Takes .service 0x0520 ([]) ([]) ∧
    Takes .debug 0x0502 ([0]) ([]) ∧
    Takes .trainJoin 0x0520 ([]) ([]) := by
  and_intros <;> exact takes rfl rfl (by decide) rfl rfl rfl rfl Mode.noConfusion Mode.noConfusion

/-- The module in Provisioning, as at reset else, with a command that has fuses to blow. -/
def blowing (code : Nat) (params bulk : Bytes) : State :=
  let c : MbCommand := { conn := 3, msg := padTo 128 (toLe 2 code ++ zeros 6 ++ params) ++ bulk, wait := .fuses 0 [] }
  { State.reset with power.mode := .provisioning, mailbox.running := some c }

set_option maxRecDepth 100000 in
/-- Commands that the hypotheses of MailboxLifeCycle admit. -/
theorem witness_MailboxLifeCycle :
    Takes .service 0x0600 ([]) ([]) ∧
    Takes .service 0x0602 ([3]) ([]) ∧
    Takes .service 0x0603 ([]) ([]) ∧
    Takes .service 0x0604 ([]) (zeros 64) ∧
    Takes .trainJoin 0x0600 ([]) ([]) ∧
    Takes .provisioning 0x0601 ([]) ([]) ∧
    Takes .provisioning 0x0602 ([3]) ([]) ∧
    (full .service).dbgAuthMode = 0 ∧
    (let w := { blowing 0x0602 [3] ([1, 0, 1, 3, 1] ++ zeros 251) with journal.lcPending := some (1, 3) }
     w.mbAnswers = true ∧ w.power.mode ≠ .hold ∧ w.tokenMatches ([1, 0, 1, 3, 1] ++ zeros 251) 3 = true ∧ w.lcCode ≠ 3) := by
  and_intros <;> first | decide | exact takes rfl rfl (by decide) rfl rfl rfl rfl Mode.noConfusion Mode.noConfusion

set_option maxRecDepth 100000 in
/-- Commands that the hypotheses of MailboxFirmware admit. -/
theorem witness_MailboxFirmware :
    Takes .service 0x0700 ([0, 0, 0, 0, 1]) ([5]) ∧
    Takes .service 0x0700 ([1]) ([5]) ∧
    Takes .service 0x0701 ([]) ([]) ∧
    Takes .service 0x0701 ([1]) ([]) ∧
    Takes .service 0x0702 ([]) ([]) ∧
    Takes .service 0x0703 ([1]) (zeros 16) ∧
    (full .service).firmware.svn ≤ (full .service).fusedSvn ∧
    (let w := { blowing 0x0702 [] [] with firmware.svn := 1 }
     w.mbAnswers = true ∧ w.power.mode ≠ .hold ∧ w.fusedSvn + 1 = w.firmware.svn) := by
  and_intros <;> first | decide | exact takes rfl rfl (by decide) rfl rfl rfl rfl Mode.noConfusion Mode.noConfusion

set_option maxRecDepth 100000 in
/-- Commands that the hypotheses of MailboxPorts admit. -/
theorem witness_MailboxPorts :
    Takes .service 0x0900 ([1]) ([]) ∧
    Takes .service 0x0900 ([3]) ([]) ∧
    Takes .service 0x0901 ([]) ([]) ∧
    Takes .service 0x0A00 ([7, 1] ++ toLe 2 1500 ++ toLe 2 4094) ([]) ∧
    Takes .service 0x0A00 ([8]) ([]) ∧
    Takes .service 0x0A01 ([7, 64]) (zeros 512) ∧
    Takes .service 0x0A01 ([7, 0]) ([]) ∧
    Takes .service 0x0B00 (toLe 4 500 ++ toLe 4 1000) ([]) ∧
    Takes .service 0x0B00 (toLe 4 499 ++ toLe 4 1000) ([]) ∧
    Takes .service 0x0B01 ([1]) (zeros 16) ∧
    Takes .service 0x0B03 ([1]) (zeros 4) ∧
    Takes .provisioning 0x0B03 ([1]) (zeros 4) ∧
    (full .provisioning).inTest = true ∧
    vinFull ≤ (full .provisioning).power.vin := by
  and_intros <;> first | decide | exact takes rfl rfl (by decide) rfl rfl rfl rfl Mode.noConfusion Mode.noConfusion


/-! ### Jobs and queues -/

/-- The module in Service with a queue, its ring and connection, and jobs, at an instant. -/
def busy (now : Nat) (js : List Job) : State := { full .service with clock.now := now, fabric.jobs := js, rng.state := .unseeded }

theorem le_of {a b : Nat} (h : Nat.ble a b = true) : a ≤ b := Nat.le_of_ble_eq_true h

/-- Before its clock runs, an instant that has passed changes nothing. -/
theorem advance_still (s : State) (h : s.clock.running = false) : s.advance 0 = s := by
  have hp : s.clock.pass 0 = s.clock := by simp [Clock.pass, h]
  obtain ⟨_, ⟨⟩⟩ := s
  simp_all [State.advance]

theorem advance_busy (now : Nat) (js : List Job) : (busy now js).advance 0 = busy now js := advance_still _ rfl

def queue0 : WorkQueue := { index := 0, conn := 3, cr := 0, size := 64 }
def ring0 : CompletionRing := { index := 0, conn := 3, base := 0, rkey := 9, size := 64 }

/-- A job in a phase, with no part on an engine. -/
def idle0 (op : Option Op) (p : JobPhase) : Job := { job0 .nop with op := op, phase := p, parts := [], gen := 1 }

/-- A plain job of queue 0 reports. -/
theorem reports (now : Nat) (op : Option Op) (p : JobPhase) (h : (idle0 op p).array = false) :
    Reports ((busy now [idle0 op p]).advance 0) (idle0 op p) queue0 ring0 conn3 := by
  rw [advance_busy]
  exact ⟨rfl, ⟨rfl, h, rfl, rfl⟩, rfl, ⟨rfl, QueueState.noConfusion⟩, ⟨rfl, rfl⟩, rfl, rfl, rfl⟩

/-- A staged job of a queue that reports. -/
theorem witness_JobRelease : Reports ((busy 0 [idle0 (some .nop) .staged]).advance 0) (idle0 (some .nop) .staged) queue0 ring0 conn3 ∧
    ((busy 0 [idle0 (some .nop) .staged]).advance 0).releasable (idle0 (some .nop) .staged) = true := ⟨reports 0 _ _ rfl, rfl⟩

set_option maxRecDepth 100000 in
/-- A job for each clause, at the instant its limit passes; the engine and entropy limits count waiting time. -/
theorem witness_WaitsThatEnd :
    (idle0 none .unknown).phase = .unknown ∧
    ((busy 0 [idle0 (some .nop) .ready]).dispatching = true ∧ (busy 0 [idle0 (some .nop) .ready]).fenceOk (idle0 (some .nop) .ready) = true ∧
      (busy 0 [idle0 (some .nop) .ready]).holdOrderOk (idle0 (some .nop) .ready) = true) ∧
    (idle0 (some .ctr) .ready).waitsEngine = true ∧ 50000000 ≤ ({ idle0 (some .ctr) .ready with noEngineNs := 50000000 } : Job).noEngineNs ∧
    (busy 0 []).rng.state = .unseeded ∧ (let j : Job := { idle0 (some .ctr) .ready with entropyNs := 50000000, parts := [{ pool := .dray, waits := true }] }
      j.parts.any (·.waits) = true ∧ 50000000 ≤ j.entropyNs) ∧
    (∀ p, (idle0 (some .ctr) p).waitSince + 10000000 ≤ (busy 10000000 [idle0 (some .ctr) p]).clock.now) := by
  exact ⟨rfl, ⟨rfl, rfl, rfl⟩, rfl, Nat.le_refl _, rfl, ⟨rfl, Nat.le_refl _⟩, fun _ => (by decide : 0 + 10000000 ≤ 10000000)⟩

set_option maxRecDepth 100000 in
/-- A mailbox command that waits for a record or a place, and a session object, at the instants their limits pass. -/
theorem witness_WaitsThatEnd_mailbox (w : MbWait) :
    let c : MbCommand := { conn := 2, msg := [], wait := w }
    let u := { busy 60000000000 [] with mailbox.running := some { c with since := 59990000000 }, fabric.sessions := [{ index := 4, check := 1, carriage := 0, gen := 1, param := 1, key := [], usage := 0, custN := [], custS := [], outLen := 32, declLen := none, lastUse := 0 }] }
    u.advance 0 = u ∧ u.power.mode ≠ .hold ∧ (∃ d, u.mailbox.running = some d ∧ d.wait = w ∧ d.since + 10000000 ≤ u.clock.now) ∧
      ∃ x, (u.fabric.sessions.find? fun y => y.index == 4) = some x ∧ x.lastUse + 60000000000 ≤ u.clock.now :=
  ⟨advance_still _ rfl, Mode.noConfusion, ⟨_, rfl, rfl, (by decide : 59990000000 + 10000000 ≤ 60000000000)⟩,
    ⟨_, rfl, (by decide : 0 + 60000000000 ≤ 60000000000)⟩⟩

/-- Writes of connection 3: inside its ring and one byte past its end, a doorbell of its queue, one of another connection, credits that fit and
that do not. -/
theorem witness_QueueInput :
    let u := (busy 0 []).advance 0
    u.rdmaConn 3 = true ∧ u.mtuOf 3 = 1024 ∧
    regionOf 0x40000000 = some (.ring 0) ∧ regionOf 0x3FFFFFFF = none ∧ regionOf 0xC0001000 = none ∧
    u.regionOffset 3 (.ring 0) (ringAddr 0 + 4032) 64 = some 4032 ∧ u.regionOffset 3 (.ring 0) (ringAddr 0 + 4033) 64 = none ∧
    u.regionOffset 2 (.ring 0) (ringAddr 0) 64 = none ∧
    u.queue? 0 = some queue0 ∧ queue0.conn = 3 ∧ queue0.state ≠ .draining ∧ bit (le (zeros 8) 2 2) 0 = false ∧
    u.cring? 0 = some ring0 ∧
    (le [0, 0, 0, 0, 0, 0, 0, 0] 0 2 + 65536 - ring0.crCons) % 65536 ≤ (ring0.count + 65536 - ring0.crCons) % 65536 ∧
    (ring0.count + 65536 - ring0.crCons) % 65536 < (le [1, 0, 0, 0, 0, 0, 0, 0] 0 2 + 65536 - ring0.crCons) % 65536 := by
  and_intros <;> first | rfl | decide

/-- A queue that may be read ahead. -/
theorem witness_QueueInput_prefetch : ((busy 0 []).advance 0).queue? 0 = some queue0 ∧ queue0.state ≠ .broken ∧ queue0.state ≠ .draining :=
  ⟨rfl, by decide, by decide⟩

/-- A connection and a session that a response goes to. -/
theorem witness_MailboxResponse :
    let c : MbCommand := { conn := 2, msg := cmd 0x0002 [] [], session := 5 }
    (full .service).mbSession? c.session = some ses1 ∧ c.want = none ∧ mbKeyChange c.code = false ∧ (full .service).conn? c.conn = some conn2 ∧
      conn2.ready = true ∧ conn2.notify = none := by
  refine ⟨rfl, rfl, by decide, rfl, rfl, rfl⟩

set_option maxRecDepth 100000 in
/-- A message of the session in form with its MAC, whose CODE is of no table, and one that is not in form. -/
theorem witness_MailboxArrival :
    let ok (msg : Bytes) : Prop := MbCommand.formOk { conn := 2, msg := msg, session := 5 } = true ∧ slice msg 0x70 16 = mbMac key1 msg "ZMCMD"
    (full .service).sessionOn 2 = some ses1 ∧ (full .service).mbSession? 5 = some ses1 ∧ (full .service).lc ≠ some .scrapped ∧
    ok (cmd 0x0FFF [] []) ∧ ¬ ok (zeros 129) ∧ 128 ≤ (zeros 129).length ∧
    mbDefined (le (cmd 0x0FFF [] []) 0 2) = false := by
  refine ⟨rfl, rfl, LifeCycle.noConfusion ∘ Option.some.inj, ⟨rfl, rfl⟩, fun h => absurd h.1 (by decide), by decide, by decide⟩

/-- The instant an epoch ends, and a carriage with a drained generation. -/
theorem witness_EpochAndGenerations :
    let u := { busy 100000 [] with fabric.carriages := [{ number := 0, gen := 2, draining := [1] }] }
    u.advance 0 = u ∧ u.power.mode ≠ .hold ∧ u.engines.epochAt + 100000 ≤ u.clock.now ∧
      ∃ y, u.carriage? 0 = some y ∧ 1 ∈ y.draining ∧ u.genJobs 0 1 = 0 :=
  ⟨advance_still _ rfl, Mode.noConfusion, le_of rfl, _, rfl, by decide, rfl⟩

set_option maxRecDepth 100000 in
/-- A command with the number its session expects, and one with another number; the row MODULE_INFO as the statement names it. Whether signatures
of a hello verify is the standard's to say, and open here. -/
theorem witness_CommandNumbers :
    let later : State := { full .service with mailbox.sessions := [{ ses1 with nextSeq := 2 }] }
    Comes (full .service) 0x0003 2 (cmd 0x0003 [] []) ses1 ∧ later.sessionOn 2 = some { ses1 with nextSeq := 2 } ∧
    le (cmd 0x0003 [] []) 4 4 ≠ 2 ∧ later.conn? 2 = some conn2 ∧ conn2.notify = none ∧ Quiet later ∧ later.mailConn 2 = true ∧
    ∀ s : State, exec (.moduleInfo 0 2 (cmd 0x0003 [] [])) s = .next ((s.advance 0).mbRow 0x0003 2 (cmd 0x0003 [] []) []).resume :=
  ⟨takes rfl rfl (by decide) rfl rfl rfl rfl Mode.noConfusion Mode.noConfusion, rfl, by decide, rfl, rfl,
    ⟨rfl, fun _ h => absurd h List.not_mem_nil, fun _ h => absurd h List.not_mem_nil,
      fun _ h => by rw [List.mem_singleton.mp h]; exact ⟨rfl, QueueState.noConfusion⟩, rfl, rfl, rfl⟩, rfl, fun _ => rfl⟩

/-! ### Engines, memory of keys, random numbers -/

/-- The module in a mode with every domain on and a job, at an instant. -/
def powered (m : Mode) (now : Nat) (js : List Job) : State :=
  { full m with power.domains := List.range 50, clock.now := now, fabric.jobs := js }

theorem advance_powered (m : Mode) (now : Nat) (js : List Job) : (powered m now js).advance 0 = powered m now js := advance_still _ rfl

def slotKey (h : SlotHeader) (m : Bytes) : JobKey := { kind := .slot, index := 7, record := 0, header := h, material := m }

/-- A job ready for an engine. -/
def ready0 (op : Op) (p : Pool) : Job := { job0 op with phase := .ready, parts := [{ pool := p }], gen := 1 }

set_option maxRecDepth 100000 in
/-- Each clause of JobPipeline: a job that has its whole input, one whose key is expanded, a ledger write under way, a key of one tree, a job
ready for a Cooper, a job whose part has its result and one whose part has committed. -/
theorem witness_JobPipeline :
    (let u : State := { powered .service 0 [] with engines := { tiles := [{ banks := [.expanding 1, .free] }] } }
     u.expanding 1 = true ∧ (idle0 (some .mlKemDecaps) .expand).id = 1) ∧
    7 ∈ ({ full .service with cellar.journalWrites := [7] } : State).cellar.journalWrites ∧
    (∃ l, ({ full .service with cellar.records := [{ index := 0, header := { head0 with keyClass := 7 }, material := [0, 0, 0, 5, 0, 0, 0, 1], tag := [] }] } : State).slotLevels 7 = [l]
      ∧ (powered .service 0 []).poolUp (if groupShake l.group then .keccak else .sha2) true = true ∧
      ({ powered .service 0 [] with cellar.ledgers := [{ slot := 7, keyId := [], next := 0, highWater := 0, ranges := [(0, 0, 32)] }] } : State).treeAhead 7 0 0 [l]
        (if groupShake l.group then .keccak else .sha2) = true) ∧
    (let u := powered .service 0 [ready0 .ecdsaSign .cooper]
     u.kats.job? 1 = some (ready0 .ecdsaSign .cooper) ∧ u.kats.dispatchable (ready0 .ecdsaSign .cooper) 0 = true ∧
      u.kats.shareOk (ready0 .ecdsaSign .cooper) .cooper = true ∧ u.kats.turnOk (ready0 .ecdsaSign .cooper) .cooper = true ∧
      ((u.kats.runUnit .cooper (ready0 .ecdsaSign .cooper)).or ((u.kats.unitFor .cooper (opTeam .ecdsaSign)).or
        (u.kats.pieceUnit .cooper (ready0 .ecdsaSign .cooper)))).isSome = true ∧ u.kats.drawFate false = .served) ∧
    (powered .service 0 []).stagingUsed < 16384 := by
  refine ⟨by decide, by decide, ⟨_, rfl, by decide⟩, by decide, by decide⟩

/-- Parts whose result is computed, and committed; staging has room. -/
theorem witness_JobPipeline_parts :
    let part : JobPart := { pool := .dray, engine := some 0 }
    let u (p : JobPart) : State := powered .service 0 [{ job0 .ctr with parts := [p] }]
    (∀ p, (u p).job? 1 = some { job0 .ctr with parts := [p] }) ∧ ({ part with computed := true } : JobPart).committed = false ∧
    ({ part with computed := true, committed := true } : JobPart).staged = false ∧ (u part).stagingUsed < 16384 :=
  ⟨fun _ => rfl, rfl, rfl, by decide⟩

set_option maxRecDepth 100000 in
/-- Settings of a port whose domain is on; those of `witness_MailboxPorts` meet it off. -/
theorem witness_MailboxPorts_on : let u := powered .service 0 []
    let par : Bytes := [7, 1] ++ toLe 2 1500 ++ toLe 2 4094
    Comes u 0x0A00 2 (cmd 0x0A00 par []) ses1 ∧ u.domainOn (portDomain 7) = true ∧ (full .service).domainOn (portDomain 7) = false :=
  ⟨⟨⟨rfl, fun _ h => absurd h List.not_mem_nil, fun _ h => absurd h List.not_mem_nil,
      fun _ h => by rw [List.mem_singleton.mp h]; exact ⟨rfl, QueueState.noConfusion⟩, rfl, rfl, rfl⟩, ⟨rfl, rfl, rfl⟩, ⟨rfl, rfl⟩, rfl, ⟨by decide, rfl⟩, rfl, rfl, ⟨rfl, Mode.noConfusion, Mode.noConfusion⟩,
    LifeCycle.noConfusion ∘ Option.some.inj⟩, by decide, by decide⟩

/-- A queue that drains and has no job, whose last completion the connection no longer holds. -/
theorem witness_MailboxRings_drain : let u : State := { full .service with fabric.queues := [{ queue0 with state := .draining }] }
    u.queue? 0 = some { queue0 with state := .draining } ∧ u.queueJobs 0 = 0 ∧ u.completionHeld 0 = false ∧ u.power.mode ≠ .hold :=
  ⟨rfl, rfl, rfl, Mode.noConfusion⟩

/-- The unit with and without a message under way, after a message, with the snoop, and both writers. -/
theorem witness_BootDigestUnit :
    (atMode .boot).bdUp = true ∧ (atMode .boot).bd.busy = false ∧ ({ atMode .boot with bd.busy := true } : State).bdUp = true ∧
    ({ atMode .boot with bd.done := true } : State).bd.done = true ∧ ({ atMode .boot with bd.snoop := true } : State).bdUp = true ∧
    (zeros 8).length = 8 ∧ 0 + bankSize ≤ bankSize := ⟨rfl, rfl, rfl, rfl, rfl, rfl, by decide⟩

/-- The registers' domains are on. -/
theorem witness_RegisterWrites : (powered .service 0 []).bdUp = true ∧ (powered .service 0 []).domainOn 3 = true := ⟨rfl, by decide⟩

set_option maxRecDepth 100000 in
/-- Cells at the edges of the tests: 40 and 41 equal bits, 794 and 795 bits equal to the first, healthy or not, and silent for 100 us. -/
theorem witness_NoiseAndConditioner :
    let cell (run same : Nat) (h : Bool) : Cell := { started := 1024, run := run, last := true, pos := 1000, first := true, same := same, healthy := h }
    let u (c : Cell) : State := { powered .service 1100000 [] with rng := { cells := List.replicate 16 c, block := List.replicate 512 (0, true) } }
    (∀ c, (u c).advance 0 = u c ∧ (u c).rng.cells[15]? = some c ∧ (u c).rngRuns = true ∧ (u c).rng.fatal = false ∧ 512 ≤ (u c).rng.block.length) ∧
    ((cell 39 793 true).count true 0).failedTest = none ∧ ((cell 39 793 false).count true 0).failedTest = none ∧
    ((cell 40 793 true).count true 0).failedTest.isSome = true ∧ ((cell 39 794 true).count true 0).failedTest.isSome = true ∧
    1024 ≤ (cell 0 0 true).started ∧
    max (cell 0 0 true).lastAt ((u (cell 0 0 true)).power.bootAt + 1000000) + 100000 ≤ (u (cell 0 0 true)).clock.now := by
  refine ⟨fun c => ⟨advance_still _ rfl, rfl, rfl, rfl, le_of rfl⟩, ?_⟩
  and_intros <;> decide

set_option maxRecDepth 100000 in
/-- Pairs of samples that each debiaser takes and drops, and a turn at a cell that has bits. -/
theorem witness_NoiseAndConditioner_turn :
    let c : Cell := { healthy := true, bits := [true] }
    let v : State := { powered .service 0 [] with rng := { cells := List.replicate 16 c, turn := 15 } }
    debias 0 true true = some false ∧ debias 1 true true = none ∧ debias 1 true false = some true ∧
    v.turnCell = some 15 ∧ v.rng.cells[15]? = some c := by
  and_intros <;> decide

set_option maxRecDepth 100000 in
/-- The DRBG before its seed with four blocks, seeded when a reseed falls due with and without two blocks, and in RESEED_DUE for 10 ms. -/
theorem witness_DrbgRules :
    let u (m : Mode) (st : DrbgState) (n : Nat) : State :=
      { powered m 100000000 [] with rng := { state := st, ready := List.replicate n [], calls := 2 ^ 20 } }
    (∀ m st n, (u m st n).advance 0 = u m st n ∧ (u m st n).rng.fatal = false) ∧
    (u .boot .unseeded 4).power.mode = .boot ∧ (u .boot .unseeded 4).rngRuns = true ∧ 4 ≤ (u .boot .unseeded 4).rng.ready.length ∧
    (u .service .seeded 2).rng.reseedAt + 100000000 ≤ (u .service .seeded 2).clock.now ∧ 2 ^ 20 ≤ (u .service .seeded 2).rng.calls ∧
    2 ≤ (u .service .seeded 2).rng.ready.length ∧ (u .service .seeded 1).rng.ready.length < 2 ∧
    (u .service .reseedDue 1).rng.dueSince + 10000000 ≤ (u .service .reseedDue 1).clock.now ∧
    (∃ y, (u .service .seeded 0).engines.tiles[31]? = some y ∧ y.seeds.length < 4) ∧
    (u .service .seeded 0).domainOn (engineDomain .press 31) = true ∧
    (u .service .seeded 0).rng.valid = false ∧ ({ powered .service 21 [] with rng.readAt := 0 } : State).clock.now < 0 + 22 := by
  refine ⟨fun m st n => ⟨advance_still _ rfl, rfl⟩, ?_⟩
  and_intros <;> decide

/-- The unit after a message, with the snoop on, and the last byte of a bank. -/
theorem witness_DigestRestarts : let u : State := { atMode .boot with bd.done := true, bd.snoop := true }
    u.advance 0 = u ∧ u.bdUp = true ∧ u.bd.done = true ∧ u.bd.snoop = true ∧ (zeros 8).length = 8 ∧ (bankSize - 1) + 1 ≤ bankSize ∧ 0 < 1 :=
  ⟨advance_still _ rfl, rfl, rfl, rfl, rfl, by decide, by decide⟩

/-! ### Operations that change more than their job, and faults -/

/-- A state in Service with one job. -/
def State.hasJob (s : State) (j : Job) : State := { s with fabric.jobs := [j] }

theorem advance_hasJob {s : State} {j : Job} (h : s.clock.running = false) : (s.hasJob j).advance 0 = s.hasJob j := advance_still _ h

/-- A job that runs an operation, in any state in Service. -/
theorem running_in {s : State} {op : Op} {j : Job} (h : s.clock.running = false) (hm : s.power.mode = .service) (h1 : j.id = 1)
    (h2 : j.op = some op) (h3 : j.phase = .running) (h4 : j.parts = [{ pool := .press, engine := some 0 }]) :
    Running ((s.hasJob j).advance 0) 1 op j := by
  rw [advance_hasJob h]
  have hs : (s.hasJob j).power.mode = .service := hm
  refine ⟨?_, h2, h3, ?_, by rw [hs]; exact Mode.noConfusion, by show (s.power.mode == .entropyTest && _) = false; rw [hm]; rfl⟩
  · show [j].find? (fun x => x.id == 1) = some j
    rw [List.find?_cons, h1]
    rfl
  · rw [h4]
    intro q h
    rw [List.mem_singleton.mp h]
    exact ⟨rfl, rfl⟩

/-- An entry with a key reference and AUX. -/
def entry0 (ref aux : Nat) : Bytes := zeros 8 ++ toLe 4 ref ++ zeros 36 ++ toLe 8 aux ++ zeros 8

def session4 : HashSession :=
  { index := 4, check := 1, carriage := 0, gen := 1, param := 1, key := [], usage := 0, custN := [], custS := [], outLen := 32, declLen := some 3 }

/-- A job of session 4 with a chunk of a number. -/
def chunk (op : Op) (n : Nat) (b : Bytes) : Job := { job0 op with gen := 1, input := b, entry := entry0 0 (4 + 2 ^ 24 + n * 2 ^ 32) }

set_option maxRecDepth 100000 in
/-- A session's chunks in turn and late. -/
theorem witness_HashSessions :
    let u : State := { full .service with fabric.sessions := [session4] }
    (∀ op n b, Running ((u.hasJob (chunk op n b)).advance 0) 1 op (chunk op n b)) ∧ u.fabric.sessions.length < 1048576 ∧
    u.handleSession (chunk .hashUpdate 0 [1, 2]) = some session4 ∧ u.handleSession (chunk .hashUpdate 1 [1, 2]) = some session4 ∧
    auxChunkNo (chunk .hashUpdate 0 []).aux = session4.nextChunk ∧ auxChunkNo (chunk .hashUpdate 1 []).aux ≠ session4.nextChunk ∧
    session4.outLen ≤ (zeros 35).length := by
  refine ⟨fun op n b => running_in rfl rfl rfl rfl rfl rfl, by decide, rfl, rfl, by decide, by decide, by decide⟩

set_option maxRecDepth 100000 in
/-- Chunks that bring the count to one byte below the declared total of 3, to it, and to one byte above; the same behind a tag of 32 bytes. -/
theorem witness_DeclaredTotals :
    let u : State := { full .service with fabric.sessions := [session4] }
    (∀ op b, Running ((u.hasJob (chunk op 0 b)).advance 0) 1 op (chunk op 0 b)) ∧ session4.declLen = some 3 ∧
    u.handleSession (chunk .hashFinal 0 [1, 2]) = some session4 ∧ auxChunkNo (chunk .hashFinal 0 [1, 2]).aux = session4.nextChunk ∧
    session4.absorbed.length + [1, 2].length ≠ 3 ∧ session4.absorbed.length + [1, 2, 3].length = 3 ∧
    3 < session4.absorbed.length + [1, 2, 3, 4].length ∧ session4.outLen ≤ (zeros 34).length ∧ (zeros 34).length - session4.outLen ≠ 3 := by
  refine ⟨fun op b => running_in rfl rfl rfl rfl rfl rfl, rfl, rfl, by decide, by decide, by decide, by decide, by decide, by decide⟩

/-- Header of a PREPARED slot for a stateful key. -/
def head7 : SlotHeader := { head0 with state := .prepared, keyClass := 7 }

set_option maxRecDepth 100000 in
/-- A stateful KEYGEN on a PREPARED slot and on a LIVE one, of a tree of height 5, and a key whose state is asked for. -/
theorem witness_StatefulKeys :
    let input : Bytes := toBe 4 5 ++ toBe 4 1
    let j : Job := { job0 .lmsKeygen with gen := 1, key := some (slotKey head7 []), shadow := some 1, input := input, entry := [0, 0, 0, 1] ++ zeros 60 }
    let prepared : State := { full .service with cellar.records := [{ index := 0, header := head7, material := [], tag := [] }] }
    let k : Job := { ready0 .lmsStateGet .control with entry := entry0 7 0 }
    Running ((prepared.hasJob j).advance 0) 1 .lmsKeygen j ∧ (prepared.hasJob j).slotState 7 = .prepared ∧
    (statefulLevels false 1 input).isSome = true ∧ (full .service).slotState 7 ≠ .prepared ∧ refIndex k.keyRef = 7 ∧
    ((full .service).ledger? 7).isSome = true ∧ ((full .service).hasJob k).job? 1 = some k ∧ ((full .service).hasJob k).dispatching = true ∧
    ((full .service).hasJob k).fenceOk k = true ∧ ((full .service).hasJob k).holdOrderOk k = true := by
  refine ⟨running_in rfl rfl rfl rfl rfl rfl, rfl, rfl, by decide, by decide, by decide, rfl, by decide, by decide, by decide⟩

/-- The read of a state reports. -/
theorem witness_StatefulKeys_report : let k : Job := { ready0 .lmsStateGet .control with entry := entry0 7 0, parts := [] }
    Reports (((full .service).hasJob k).advance 0) k queue0 ring0 conn3 := by
  intro k
  rw [advance_hasJob rfl]
  exact ⟨rfl, ⟨rfl, by decide, rfl, rfl⟩, rfl, ⟨rfl, QueueState.noConfusion⟩, ⟨rfl, rfl⟩, rfl, rfl, rfl⟩

/-- Jobs of class 0x05; a cached key that one of them names. What a check or a search gives is the standard's, and open here. -/
theorem witness_McElieceCacheAndSearch :
    (∀ op, Running (((full .service).hasJob (job0 op)).advance 0) 1 op (job0 op)) ∧
    (let u : State := { full .service with engines.publicKeys := [{ entry := 3, check := 1, param := 1, key := [], carriage := 0, gen := 1, lastUse := 0 }] }
     (u.engines.publicKeys.find? fun z => z.entry == 3).isSome = true) ∧
    (job0 .mcelieceEncaps).kind = .none := ⟨fun _ => running_in rfl rfl rfl rfl rfl rfl, rfl, by decide⟩

/-- Targets of key management: an empty slot, slot 7 without and with replacement, a CORKED one; KEYREF kinds and key classes. -/
theorem witness_KeyManagement :
    let j (aux : Nat) : Job := { job0 .kmGenerate with gen := 1, target := some 7, entry := entry0 0 aux }
    let corked : State := { full .service with cellar.records := [{ index := 0, header := { head0 with state := .corked }, material := [], tag := [] }] }
    (∀ op aux, Running (((full .service).hasJob { j aux with op := some op }).advance 0) 1 op { j aux with op := some op }) ∧
    (∀ aux, ((full .service).hasJob (j aux)).targetBusy (j aux) = false) ∧
    (full .service).targetNow (j 0) 8 = none ∧ (full .service).targetNow (j 0) 7 = some .keyUseDenied ∧
    corked.targetNow (j 0) 7 = some .keyCorked ∧ (full .service).slotRecord? 8 = none ∧ ((full .service).slotRecord? 7).isSome = true ∧
    (attrsOf ([7] ++ zeros 15)).keyClass = 7 ∧ (attrsOf ([8] ++ zeros 15)).keyClass = 8 ∧ (attrsOf ([14, 1] ++ zeros 14)).keyClass ≠ 7 := by
  refine ⟨fun op aux => running_in rfl rfl rfl rfl rfl rfl, fun aux => by simp [State.targetBusy, State.hasJob, job0], by decide, by decide, by decide, by decide, by decide, rfl, rfl, by decide⟩

set_option maxRecDepth 100000 in
/-- Engines at the ends of their pools, powered and not; engines with two and three faults in 1 s. -/
theorem witness_EngineFaultsAndTests :
    let u := powered .service 0 []
    (∀ x ∈ [(Pool.press, 31), (.cooper, 63), (.dray, 7), (.sha2, 191), (.keccak, 63)],
      ((u.pool x.1)[x.2]?).isSome = true ∧ u.domainOn (engineDomain x.1 x.2) = true) ∧
    (full .service).domainOn (engineDomain .press 31) = false ∧
    (let e2 : Engine := { banks := [.free], faultTimes := [0, 0] }
     e2.offline = false ∧ 3 ≤ (e2.faultTimes.filter fun x => 0 < x + 1000000000).length + 1) := by
  refine ⟨by decide, by decide, rfl, by decide⟩

/-- An engine under test, the last of its pool and one of many. -/
theorem witness_EngineFaultsAndTests_patch :
    let e : Engine := { banks := [.free], kat := true }
    let u : State := { powered .service 0 [] with engines := { press := { patchState := .loaded }, tiles := [e] } }
    let two : State := { powered .service 0 [] with engines := { press := { patchState := .loaded }, tiles := [e, e] } }
    ((u.startKats .press).pool (kindPool .press))[0]? = some e ∧
    ((u.startKats .press).modEngine .press 0 fun e => { e with kat := false, switched := true }).allSwitched .press = true ∧
    ((two.startKats .press).pool (kindPool .press))[0]? = some e ∧
    ((two.startKats .press).modEngine .press 0 fun e => { e with kat := false, switched := true }).allSwitched .press = false := by
  refine ⟨by decide, by decide, by decide, by decide⟩

/-- The last component; a pair reported just now, and one reported 1 s ago. -/
theorem witness_GddrErrors :
    (7 < 8) ∧ (∃ z ∈ ({ full .service with router.gddrRate := [(3, 0)] } : State).router.gddrRate, z.1 = 7 / 2 ∧ 999999999 < z.2 + 1000000000) ∧
    ¬ ∃ z ∈ ({ full .service with router.gddrRate := [(3, 0)] } : State).router.gddrRate, z.1 = 7 / 2 ∧ 1000000000 < z.2 + 1000000000 := by
  refine ⟨by decide, ⟨_, List.mem_singleton.mpr rfl, by decide, by decide⟩, ?_⟩
  rintro ⟨z, h, _, h2⟩
  rw [List.mem_singleton.mp h] at h2
  exact absurd h2 (by decide)

/-- A job whose input streams from module memory, and one in large mode. -/
theorem witness_GddrErrors_jobs :
    let j : Job := { job0 .ctr with phase := .fetch, entry := zeros 24 ++ [1] ++ zeros 39 }
    let large : Job := { job0 .rsaSignPss with parts := [{ pool := .cooper, engine := some 0, region := [1] }] }
    (withJob j).job? 1 = some j ∧ j.readsGddr = true ∧ j.handle = none ∧ (withJob large).job? 1 = some large ∧ large.readsGddr = false :=
  ⟨rfl, by decide, rfl, rfl, rfl⟩

/-! ### Transport and ports -/

/-- A port whose link is up, with what the classes of statements ask for. -/
def port1 : Port :=
  { link := .up, ipv4 := 0x0A000001, rejs := (1, 0), mgmt := (1, 0), classifier := [0x0000000100000030#64], admitTokens := 5, pfcMask := 0x88
    paused := [(7, 0)] }

/-- The module in a mode with the same link up on all ports, at an instant after Service entry. -/
def linked (m : Mode) (now : Nat) (p : Port) : State :=
  { powered m now [] with ports := List.replicate 8 p, power.serviceEntry := some 0 }

theorem advance_linked (m : Mode) (now : Nat) (p : Port) : (linked m now p).advance 0 = linked m now p := advance_still _ rfl

set_option maxRecDepth 100000 in
/-- REQs at each check: an unknown service, a mode without data connections, path MTUs that fit and that do not, buckets with and without a
token, RETRY and REJ limits at their bounds. The index a connection is given is a free value. -/
theorem witness_ConnectionManagement :
    let u := linked .service 1000000 port1
    u.port? 7 = some port1 ∧ port1.link = .up ∧ u.power.mode ≠ .boot ∧ u.power.mode ≠ .tasting ∧ ((u.refill 7).port? 7).isSome = true ∧
    (req0.serviceId == 0x8840FF) = false ∧ req0.serviceId = 0x884001 ∧ ({ req0 with serviceId := 0x884002 } : CmReq).serviceId ≠ 0x884001 ∧
    (u.refill 7).admitsService 7 false = true ∧ ((linked .recovery 1000000 port1).refill 7).admitsService 7 false = false ∧
    (u.fabric.conns.filter fun k => k.mailbox && k.ready).length < 4 ∧
    (u.refill 7).pathMtuOk 7 1024 = true ∧ (u.refill 7).pathMtuOk 7 4096 = true ∧ (u.refill 7).pathMtuOk 7 1023 = false ∧
    ((linked .service 1000000 { port1 with mtu := 1103 }).refill 7).pathMtuOk 7 1024 = false ∧
    ((linked .service 1000000 { port1 with mtu := 1104 }).refill 7).pathMtuOk 7 1024 = true ∧
    (((linked .service 0 { port1 with admitTokens := 0 }).refill 7).port? 7).map (·.admitTokens) = some 0 ∧
    port1.rejs.1 < 100000 ∧ port1.rejs.1 ≠ 0 ∧ u.clock.now < port1.rejs.2 + 1000000000 ∧
    u.power.serviceEntry = some 0 ∧ 0 + 5000000000 ≤ (linked .service 5000000000 port1).clock.now ∧
    (linked .service 4999999999 port1).clock.now < 0 + 5000000000 ∧
    u.conn? 2 = some conn2 ∧ conn2.ready = true ∧ (∀ q ∈ u.fabric.queues, q.conn ≠ 2) ∧
    u.conn? 3 = some conn3 ∧ (u.queue? 0).isSome = true := by
  refine ⟨rfl, rfl, Mode.noConfusion, Mode.noConfusion, ?_⟩
  and_intros <;> first | rfl | exact le_of rfl | decide

/-- A connection bound to carriage 0 with a page of memory, a READ out and a NOTIFY SEND out; retries below and at their limits. -/
def conn4 : Connection := { conn3 with notify := some ([], 2), reads := [(9, .consIndex 1)], lastCnp := some 0, rate := 50000 }

def bound (now : Nat) (k : Connection) : State :=
  { linked .service now port1 with
    fabric.conns := [conn2, k], fabric.pmap := [{ conn := 3, wildcard := false, procId := 0, carriage := 0, bindGen := 1 }]
    fabric.carriages := [{ number := 0, params := { memSize := 1 } }], sent := [.send 3 []] }

set_option maxRecDepth 100000 in
theorem witness_RdmaTraffic :
    let u := bound 55000 conn4
    u.advance 0 = u ∧ u.conn? 3 = some conn4 ∧ conn4.ready = true ∧ u.conn? 2 = some conn2 ∧ conn2.mailbox = true ∧ conn4.mailbox = false ∧
    (u.carriage? 0).isSome = true ∧ u.boundTo 3 0 = true ∧ u.boundTo 3 1 = false ∧
    0 + (zeros 1024).length ≤ u.mtuOf 3 ∧ 3072 + (zeros 1024).length ≤ 1 * 4096 ∧ ¬ 3073 + (zeros 1024).length ≤ 1 * 4096 ∧
    conn4.reads.find? (·.1 == 9) = some (9, .consIndex 1) ∧ conn4.notify = some ([], 2) ∧
    2 < conn4.req.rnrRetryCount ∧ ({ req0 with rnrRetryCount := 2 } : CmReq).rnrRetryCount ≤ 2 ∧ conn4.retries < conn4.req.retryCount ∧
    conn4.req.retryCount ≤ ({ conn4 with retries := 3 } : Connection).retries ∧
    0 + 50000 ≤ (bound 50000 conn4).clock.now ∧ (bound 49999 conn4).clock.now < 0 + 50000 ∧
    conn4.rate < u.portRate conn4.port ∧ conn4.rateAt + 55000 ≤ u.clock.now ∧ (bound 54999 conn4).clock.now < conn4.rateAt + 55000 := by
  refine ⟨advance_still _ rfl, ?_⟩
  and_intros <;> first | rfl | decide

/-- An ARP request for the port's address. -/
def arp0 : Bytes := zeros 12 ++ toBe 2 0x0806 ++ zeros 6 ++ toBe 2 1 ++ zeros 16 ++ toBe 4 0x0A000001 ++ zeros 22

set_option maxRecDepth 100000 in
/-- Links, frames with and without options, verdicts, CE marks, the management limit, pauses and FEC windows at their bounds. The checks of a
path that the model leaves to its standard are open. -/
theorem witness_PortsAndFrames :
    let u := linked .service 200000000 port1
    u.advance 0 = u ∧ u.port? 7 = some port1 ∧ ({ port1 with link := .training } : Port).link = .training ∧
    frameRefused (zeros 12 ++ [8, 0, 0x46] ++ zeros 60) = true ∧ frameRefused (zeros 12 ++ [8, 0, 0x45] ++ zeros 60) = false ∧
    (u.verdict 7 port1 64 arp0) = 1 ∧ u.vlanOk port1 arp0 = true ∧ (u.verdict 7 { port1 with classifier := [0x30#64] } 64 arp0) = 0 ∧
    u.vlanOk { port1 with vlan := 5 } arp0 = false ∧ u.pathAccepts 7 1 arp0 = false ∧ framePath arp0 ≠ 5 ∧
    frameTag arp0 = 0 ∧ frameType arp0 = 0x0806 ∧ be arp0 20 2 = 1 ∧ be arp0 38 4 = port1.ipv4 ∧ port1.ipv4 ≠ 0 ∧
    port1.mgmt.1 ≠ 0 ∧ u.clock.now < port1.mgmt.2 + 1000000000 ∧ 10000 ≤ ({ port1 with mgmt := (10000, 0) } : Port).mgmt.1 ∧
    (bit port1.pfcMask 3 && !(port1.ignoring.any (·.1 == 3)) && !(port1.paused.any (·.1 == 3))) = true ∧
    ¬ (bit port1.pfcMask 7 && !(port1.ignoring.any (·.1 == 7)) && !(port1.paused.any (·.1 == 7))) = true ∧
    (7, 0) ∈ port1.paused ∧ 0 + 200000000 ≤ u.clock.now ∧ groupSize port1.laneMode = 1 ∧
    (10000 < 1 * 10001) ∧ ¬ (10000 < 1 * 10000) ∧
    ({ u with sent := [.mgmt 7 [], .pfc 7 3 true] } : State).nextOut 7 port1 = some 1 ∧
    ({ u with sent := [.mgmt 7 [], .train 7 2 (u.bootSec 7) [] [], .mgmt 7 [1]] } : State).nextOut 7 { port1 with paused := [] } = some 1 ∧
    ({ u with sent := [.mgmt 7 [], .train 7 2 (u.bootSec 7) [] []] } : State).nextOut 7 { port1 with paused := [(6, 0)] } = some 0 ∧
    ({ u with sent := [.mgmt 7 []] } : State).nextOut 7 { port1 with paused := [(0, 0)] } = none := by
  refine ⟨advance_still _ rfl, ?_⟩
  and_intros <;> first | rfl | exact le_of rfl | decide

/-! ### Time, the Book, power, Tasting -/

/-- A roster of the module, index 1, and a peer, index 2, with a grandmaster. -/
def roster0 (gm : Nat) : Bytes :=
  [0, 0, 2, 0] ++ zeros 0x26 ++ toLe 2 gm ++ zeros 0x54 ++ (zeros 16 ++ [1, 0, 0xFF, 0] ++ toLe 6 0x1000 ++ zeros 70) ++
    ([1] ++ zeros 15 ++ [2, 0, 0xFF, 0] ++ toLe 6 0x2000 ++ zeros 70)

def peer2 : Peer := { index := 2, keyed := true, assoc := 5, oldAssoc := some (4, 0), hello := [1], reply := [2], txSeq := 7, rxSeq := 8, txPn := 7, rxPn := 8 }

/-- The module at an instant, its clock in a time state, with a roster or an external master; its mark lies far ahead. -/
def timed (now : Nat) (st : TimeState) (ros : Option Bytes) (ahead behind within : Nat) : State :=
  { linked .service now port1 with
    clock := { now := now, train := 5000000000, running := true, timeState := st, master := some 9, ptpPort := some 7, masterRank := some 4
               lastSync := some (0, 1000), reduced := true, syncsAhead := ahead, syncsBehind := behind, syncsWithin := within }
    journal.timeMark := 10000000000, train.roster := ros, train.lastIndex := 1, train.peers := [peer2] }

set_option maxRecDepth 100000 in
/-- Syncs in each time state and at each count; an external master, a grandmaster member, the module as grandmaster; port stamps below and at their
limit; silence of 3 s; masters of better and worse rank; a Sync 1,000 ns and 1,001 ns away. -/
theorem witness_TrainTime :
    let u := timed 3000000000 .locked none 3 0 0
    u.advance 0 = u ∧ u.port? 7 = some port1 ∧ u.ptpRuns 7 = true ∧ u.fromMaster 7 9 none = true ∧ port1.stamps < 64 ∧
    64 ≤ ({ port1 with stamps := 64 } : Port).stamps ∧ u.clock.master = some 9 ∧ u.clock.ptpPort = some 7 ∧
    u.fromMaster 7 8 none = false ∧ (timed 0 .locked (some (roster0 2)) 0 0 0).fromMaster 7 9 (some 2) = true ∧
    (timed 0 .ahead none 0 0 0).clock.timeState = .ahead ∧ (timed 0 .ahead none 0 0 0).clock.running = true ∧
    ((timed 0 .ahead none 0 0 0).advance 0).clock.timeState = .ahead ∧ (timed 0 .ahead none 0 0 0).clock.lastSync = some (0, 1000) ∧ (u.clock.countSync 5000001001).syncsAhead = 4 ∧
    (u.clock.countSync 5000001000).syncsAhead = 0 ∧ ((timed 0 .unsynced none 0 3 0).clock.countSync 4999998999).syncsBehind = 4 ∧
    ((timed 0 .holdover none 0 0 15).clock.countSync 5000000000).syncsWithin = 16 ∧
    ((timed 0 .holdover none 0 0 14).clock.countSync 5000000000).syncsWithin = 15 ∧
    (timed 0 .locked (some (roster0 1)) 0 0 0).isGm = true ∧ (timed 0 .locked (some (roster0 1)) 0 0 0).ptpRuns 7 = true ∧
    (timed 0 .locked (some (roster0 1)) 0 0 0).peer? 2 = some peer2 ∧ u.isGm = false ∧ u.gmIndex = 0xFFFF ∧
    (timed 0 .locked (some (roster0 2)) 0 0 0).gmIndex ≠ 0xFFFF ∧ u.clock.masterRank = some 4 ∧
    u.clock.lastSync = some (0, 1000) ∧ 0 + 3000000000 ≤ u.clock.now ∧ (timed 2999999999 .locked none 0 0 0).clock.now < 0 + 3000000000 ∧
    (timed 0 .holdover none 0 0 0).clock.reduced = true := by
  and_intros <;> first | rfl | exact le_of rfl | decide

/-- A ring with a unit to write, a room below a quarter, and a read of CONS_INDEX out. -/
def ring1 : EventRing := { index := 1, conn := 3, base := 0, rkey := 9, size := 64, prod := 60, lastPoll := some 0 }

set_option maxRecDepth 100000 in
/-- A mark under way; rings with little and with enough room; credit that fits, moves backwards and beyond PROD_INDEX; checkpoints due and not. -/
theorem witness_MarksAndCheckpoints :
    let u : State := { timed 1000000000 .locked none 0 0 0 with
      clock.markPending := some 7, router.rings := [ring1], fabric.conns := [conn4], book.sinceCheckpoint := 4096
      fuses.lcA := 0x0F, fuses.lcB := 0x0F, fuses.lcC := 0x0F }
    u.advance 0 = u ∧ u.clock.running = true ∧ u.ering? 1 = some ring1 ∧ ring1.dead = false ∧ u.conn? 3 = some conn4 ∧
    (∀ r ∈ conn3.reads, r.2 ≠ .consIndex 1) ∧ (∀ r ∈ conn3.readQueue, r.2.2.2.2 ≠ .consIndex 1) ∧
    ring1.room < ring1.size / 4 ∧ 0 + 10000 ≤ u.clock.now ∧ ({ ring1 with prod := 47 } : EventRing).size / 4 ≤ ({ ring1 with prod := 47 } : EventRing).room ∧
    (conn4.reads.find? fun r => r.2 == .consIndex 1) = some (9, .consIndex 1) ∧ (∀ r ∈ conn4.reads, r.1 = 9 → r = (9, .consIndex 1)) ∧
    (60 + 2 ^ 32 - ring1.cons) % 2 ^ 32 = (ring1.prod + 2 ^ 32 - ring1.cons) % 2 ^ 32 ∧
    (ring1.prod + 2 ^ 32 - ring1.cons) % 2 ^ 32 < (61 + 2 ^ 32 - ring1.cons) % 2 ^ 32 ∧
    1 ≤ u.book.sinceCheckpoint ∧ u.book.checkpointAt + 1000000000 ≤ u.clock.now ∧ 4096 ≤ u.book.sinceCheckpoint ∧
    u.book.signing = [] ∧ u.bookOpen = true ∧ u.power.mode ≠ .boot ∧ u.power.mode ≠ .recovery ∧ u.power.mode ≠ .hold ∧
    ({ u with book.signing := [[]] } : State).book.signing = [[]] := by
  and_intros <;> first | rfl | exact le_of rfl | decide

set_option maxRecDepth 100000 in
/-- The states that the passages start from, and the supply at their bounds. -/
theorem witness_PowerPassages :
    (∀ m, (full m).advance 0 = full m) ∧ (5999 < 6000 ∧ 6000 ≤ 60000 ∧ 4799 < 4800 ∧ 5700 ≤ (full .standby).power.vin) ∧
    State.reset.power.mode = .off ∧ State.reset.power.nResetLow = false ∧ ({ State.reset with power.nResetLow := true } : State).power.mode = .off ∧
    (full .standby).power.parked = false ∧ (full .standby).power.zeroising = false ∧ (full .standby).power.hot = false ∧
    ({ full .standby with fuses.lcA := 2 } : State).lc = none ∧ ({ full .standby with power.parked := true, mailbox.sessions := [] } : State).power.parked = true ∧
    (full .boot).power.bootStuck = false ∧ (full .boot).rng.state = .seeded ∧
    ({ full .boot with journal.orderly := true } : State).makeCarriage0.journal.orderly = true ∧ (full .boot).makeCarriage0.journal.orderly = false ∧
    ({ full .service with journal.expressMask := 1 } : State).journal.expressMask ≠ 0 ∧ (full .service).power.bootStuck = false ∧
    (full .service).power.zeroising = false ∧ ({ full .off with fuses.persoValid := 8, fuses.vbatSealEn := 1 } : State).sealEnabled = true ∧
    (full .off).sealEnabled = false ∧ ({ full .standby with power.zeroising := true } : State).power.zeroising = true := by
  refine ⟨advance_full, ?_⟩
  and_intros <;> first | rfl | decide

set_option maxRecDepth 100000 in
/-- The supply, current and temperature at their bounds in Service, Derated and Hold; the ladder at its first unit and above. -/
theorem witness_PowerConditions :
    (full .service).power.vinWarn = 5700 ∧ 5699 < (full .service).power.vinWarn ∧ holdable .service = true ∧ holdable .boot = false ∧
    ({ full .hold with power.held := some .service } : State).power.held = some .service ∧ (full .hold).power.vinWarn + 250 ≤ 5950 ∧
    5949 < (full .hold).power.vinWarn + 250 ∧ (decide (3 ≤ [1, 2, 3].length) && !(full .hold).power.dipLatch) = true ∧
    (11399 < 11400) ∧ ((full .service).noteVin 11399).deratedNow = true ∧ ((full .service).noteVin 11400).deratedNow = false ∧
    ({ full .derated with power.clearSince := some 0 } : State).power.clearSince.isSome = true ∧
    (ladderMode .derated = true ∧ ladderMode .standby = false) ∧ (full .service).power.ladder < (full .service).ladderLimit ∧
    ({ full .service with power.ladder := 33 } : State).ladderLimit ≤ 33 ∧ 1 < ({ full .derated with power.ladder := 2 } : State).power.ladder ∧
    ({ full .derated with power.clearSince := some 0, clock.now := 100000000 } : State).clearLong = true ∧
    ({ full .derated with power.clearSince := some 0, clock.now := 99999999 } : State).clearLong = false ∧
    (20000 < 20001 ∧ 21000 ≤ 21000 ∧ 20999 < 21000) ∧ (powered .service 0 []).domainOn 4 = true ∧ (powered .service 0 []).domainOn 43 = true ∧
    (powered .service 0 []).domainOn 45 = true ∧ (powered .service 0 []).domainOn 49 = true ∧ (full .service).domainOn 4 = false ∧
    (full .service).power.thermal = false ∧ (full .service).power.lidWarned = false := by
  and_intros <;> first | rfl | decide

set_option maxRecDepth 100000 in
/-- A pass of one step whose budget of 25,000 us ends at 25 ms, its last step, and Boot's short self-test. -/
theorem witness_TastingSteps :
    let run : TastingRun := { action := 0, since := 0, critical := 1 }
    let u (m : Mode) (now : Nat) : State := { full m with
      clock.now := now, tasting.run := some run, tasting.sequence := [zeros 16], tasting.stepCount := 1 }
    (∀ m now, (u m now).advance 0 = u m now ∧ (u m now).tasting.run = some run) ∧
    (∀ f ∈ ([] : List MemFault), stepFinds (zeros 16) f = false) ∧ le (zeros 16) 0x0C 4 = 0 ∧
    (u .tasting 25000000).tasting.stepAt + 1000 * (u .tasting 25000000).tasting.sliceUs ≤ (u .tasting 25000000).clock.now ∧
    (u .tasting 24999999).clock.now < (u .tasting 24999999).tasting.stepAt + 1000 * (u .tasting 24999999).tasting.sliceUs ∧
    (u .boot 0).power.bootStuck = false ∧ (u .boot 0).tasting.criticalDone = false ∧
    ({ u .boot 0 with tasting.criticalDone := true } : State).tasting.criticalDone = true ∧ memIsland (le (zeros 16) 0 2) ≠ 55 ∧
    ({ run with passed := 1 } : TastingRun).passed = (u .tasting 0).tasting.stepCount ∧
    (u .tasting 0).tasting.totalMs * 1000000 < (2975000001 - run.since) + 25000000 ∧
    ¬ (u .tasting 0).tasting.totalMs * 1000000 < (2975000000 - run.since) + 25000000 := by
  refine ⟨fun _ _ => ⟨advance_still _ rfl, rfl⟩, by decide, by decide, by decide, by decide, rfl, rfl, rfl, by decide, rfl, by decide, by decide⟩

/-! ### The Train, Maldin frames, the block as a whole -/

/-- The module as a member of index 1, and as one of index 3 above its peer. -/
def trained (now own : Nat) (p : Peer) : State :=
  let ros := (roster0 0xFFFF).take 128 ++ (zeros 16 ++ toLe 2 own ++ [0xFF, 0] ++ toLe 6 0x1000 ++ zeros 70) ++ (roster0 0xFFFF).drop 224
  { linked .trainJoin now port1 with
    train := { roster := some ros, lastIndex := own, peers := [p], state := .joining }, cellar.identity := true, cellar.sealed := false }

/-- A message of the peer of a type, in the association 5. -/
def msg0 (own type seq : Nat) (body : Bytes) : TrainMsg :=
  { port := 7, srcMac := 0x2007, assocNo := 5, pn := 9, tagOk := true, header := trainHeader type 0 2 own body.length seq 0 0, body := body }

set_option maxRecDepth 100000 in
/-- Messages of each type from a lower and a higher index, accepted and not; the timers at their limits. That the keys of a HELLO have the roster's
hashes is the standard's to say, and open here. -/
theorem witness_TrainAssociations :
    let lo := trained 86400000000000 1 peer2
    let hi := trained 0 3 peer2
    (∀ n o p, (trained n o p).advance 0 = trained n o p) ∧ lo.peer? 2 = some peer2 ∧ hi.peer? 2 = some peer2 ∧ msgSrc (msg0 3 1 1 []) = 2 ∧
    hi.trainMsgOk (msg0 3 1 1 (zeros 4345)) 1 = true ∧ 2 < hi.deviceIndex ∧ (zeros 4345).length = 4345 ∧
    lo.trainMsgOk (msg0 1 2 1 (zeros 5913)) 2 = true ∧ lo.deviceIndex < 2 ∧ (zeros 5913).length = 5913 ∧
    hi.trainMsgOk (msg0 3 3 1 (zeros 1600)) 3 = true ∧ peer2.reply ≠ [] ∧ peer2.hello ≠ [] ∧
    hi.trainMsgOk { msg0 3 1 1 (zeros 4345) with tagOk := false } 1 = false ∧ hi.trainMsgOk { msg0 3 1 1 [] with srcMac := 0x2008 } 1 = false ∧
    lo.assocOk peer2 (msg0 1 0x10 9 []) = true ∧ lo.trainMsgOk (msg0 1 0x10 9 []) 0x10 = true ∧ lo.trainMsgOk (msg0 1 0x30 9 []) 0x30 = true ∧
    lo.trainMsgOk (msg0 1 0x11 9 []) 0x11 = true ∧ msgSeq (msg0 1 0x10 9 []) = peer2.rxSeq + 1 ∧
    peer2.keyedAt + 86400000000000 ≤ lo.clock.now ∧ ¬ peer2.keyedAt + 86400000000000 ≤ (trained 86399999999999 1 peer2).clock.now ∧
    peer2.lastTx + 100000000 ≤ lo.clock.now ∧ peer2.lastRx + 300000000 ≤ lo.clock.now ∧ ¬ peer2.lastRx + 300000000 ≤ hi.clock.now ∧
    ({ peer2 with keyed := false } : Peer).keyed = false ∧ lo.train.state = .joining ∧ lo.power.mode = .trainJoin ∧
    lo.train.joinSince + 2000000000 ≤ lo.clock.now ∧ (∃ x ∈ lo.train.peers, x.caughtUp = false) ∧
    ∀ x ∈ (trained 0 1 { peer2 with digestSent := true, digestRecv := true }).train.peers, x.caughtUp = true := by
  refine ⟨fun _ _ _ => advance_still _ rfl, ?_⟩
  and_intros <;> first | rfl | exact le_of rfl | exact Nat.not_le_of_gt (le_of rfl) | decide

/-- A push of slot 7 above the version that the module holds, and one that is not. -/
def push7 (n : Nat) : Push := { object := 7, version := (n, 0), destroy := false, header := [], material := [] }

set_option maxRecDepth 100000 in
/-- A DIGEST and pushes: the next in order, an old one and one held; objects that are EMPTY, CORKED, replicated and of absent carriages; a peer with
a port to send to. -/
theorem witness_TrainReplication :
    let u := trained 0 1 peer2
    u.peer? 2 = some peer2 ∧ peer2.down = false ∧ u.assocOk peer2 (msg0 1 0x21 9 []) = true ∧ u.trainMsgOk (msg0 1 0x21 9 []) 0x21 = true ∧
    u.trainMsgOk (msg0 1 0x20 9 (zeros 32)) 0x20 = true ∧ msgSeq (msg0 1 0x20 9 []) = peer2.rxSeq + 1 ∧ msgSeq (msg0 1 0x21 8 []) ≤ peer2.rxSeq ∧
    (digestOf []).length < 370 ∧ versionAbove (push7 1).version (u.slotVersion 7) = true ∧ versionAbove (push7 0).version (u.slotVersion 7) = false ∧
    (u.slotRecord? 7).isSome = true ∧ u.slotRecord? 8 = none ∧ u.carriage? 4095 = none ∧ (u.carriage? 0).isSome = true ∧ bit head0.masters 3 = false ∧
    peer2.keyed = true ∧ (u.peerPort peer2).isSome = true ∧ peer2.pushes = [] ∧ ({ peer2 with pushes := [push7 1] } : Peer).pushes ≠ [] := by
  and_intros <;> first | rfl | decide

/-- The module with Express in service on port 0. -/
def express0 (m : Mode) : State :=
  { linked m 0 { port1 with ipv4 := 0x0A000001 } with express.enabled := true, journal.expressMask := 1, ports := List.replicate 8 port1 }

/-- A Maldin frame with a command, a slot and data. -/
def frame0 (c slot n : Nat) : MaldinFrame :=
  let h := toBe 2 0x4D44 ++ [2] ++ toBe 1 c ++ zeros 2 ++ toBe 2 512 ++ toBe 2 slot ++ toBe 2 n ++ zeros 496
  { port := 0, srcAddr := 1, srcPort := 2, dstAddr := 0x0A000001, udpLen := 520, checksumOk := true, vlan := 0, pcp := 0, dscp := 0
    payload := h ++ toBe 4 (crc32c h).toNat }

set_option maxRecDepth 100000 in
/-- Frames that are addressed, wrong in length, magic, CRC or mode, and those that pass, with the lengths of their data at their bounds. -/
theorem witness_MaldinFrames :
    let u := express0 .service
    u.advance 0 = u ∧ u.linkIsUp 0 = true ∧ u.frameAddressed (frame0 2 0 161) = true ∧ u.frameAddressed { frame0 2 0 161 with dstAddr := 0 } = false ∧
    (frame0 2 0 161).payload.length = 512 ∧ be (frame0 2 0 161).payload 6 2 = 512 ∧ frameCmd (frame0 2 0 161) = 2 ∧
    frameSlot (frame0 2 0 161) = 0 ∧ frameLen (frame0 2 0 161) = 161 ∧ u.frameDrop (frame0 2 0 161) = none ∧
    u.frameDrop { frame0 2 0 161 with checksumOk := false } = some 4 ∧ (express0 .provisioning).frameDrop (frame0 2 0 161) = some 5 ∧
    (dataLenOk 1 1 32 = true ∧ dataLenOk 2 0 161 = true ∧ dataLenOk 2 1 161 = false ∧ dataLenOk 4 1 32 = false ∧ dataLenOk 4 1 33 = true ∧
      dataLenOk 4 1 491 = true ∧ dataLenOk 4 1 492 = false ∧ dataLenOk 5 1 492 = true ∧ dataLenOk 5 1 493 = false) := by
  refine ⟨advance_still _ rfl, ?_⟩
  and_intros <;> decide +kernel

set_option maxRecDepth 100000 in
/-- An ECDSA_VERIFY frame without a slot passes every check of its keys, and has an engine; the DRBG fails its draws after a fatal failure. -/
theorem witness_MaldinStatusCodes :
    let u : State := { express0 .service with engines := { (express0 .service).engines with reservedCoopers := [0, 1] } }
    u.advance 0 = u ∧ u.linkIsUp (frame0 2 0 161).port = true ∧ u.frameAddressed (frame0 2 0 161) = true ∧ u.frameDrop (frame0 2 0 161) = none ∧
    dataLenOk 2 0 161 = true ∧ u.maldinKeys (frame0 2 0 161) = (u, .ok (none, none)) ∧ u.expressEngines (framePool (frame0 2 0 161)) ≠ [] ∧
    ({ u with rng.state := .failed } : State).drawFate false ≠ .served := by
  refine ⟨advance_still _ rfl, by decide, by decide, by decide +kernel, by decide, rfl, by decide, by decide⟩

/-- VIN at its bound, and a state whose copies agree. -/
theorem witness_OnlyVinStops : vinOf (.vinStart 0 60001) = some 60001 ∧ 60000 < 60001 ∧ vinOf (.vinStart 0 60000) = some 60000 ∧
    vinOf (.nwake 0) = none := ⟨rfl, by decide, rfl, rfl⟩

theorem witness_FusesOnlyBurn : FusesAgree State.reset ∧ ∃ s', step State.reset = .next s' := ⟨⟨rfl, rfl, rfl⟩, _, rfl⟩

theorem witness_StepRunsFront : State.reset.pending = [] := rfl

/-- A memory that lists bytes, and bytes at both ends of what a write covers. -/
theorem witness_MemoryReadsBack : (Mem.writeBytes [] 5 [1, 0, 2]).wf = true ∧ (Mem.writeBytes [] 5 [1, 0, 2]).read 5 = 1 ∧
    (Mem.writeBytes [] 5 [1, 0, 2]).read 7 = 2 ∧ (Mem.writeBytes [] 5 [1, 0, 2]).read 8 = 0 := by decide

/-! ### Results of routines: inputs that meet the branches of the statements. Whether a key, a point, a signature or a tag is good is the
standard's to say (`Config.std`), and open here. -/

/-- A job that runs, with a key reference of a kind, a PARAM and an input. -/
def input0 (op : Op) (kind param : Nat) (b : Bytes) : Job := { job0 op with input := b, entry := zeros 3 ++ [BitVec.ofNat 8 param] ++ zeros 4 ++ toLe 4 (kind * 2 ^ 30) ++ zeros 52 }

theorem running_input (op : Op) (kind param : Nat) (b : Bytes) :
    Running ((withJob (input0 op kind param b)).advance 0) 1 op (input0 op kind param b) := running_with rfl rfl rfl rfl

/-- The kinds of a key reference that the branches tell apart. -/
theorem kinds (op : Op) (b : Bytes) : (input0 op 0 1 b).kind = .none ∧ (input0 op 1 1 b).kind ≠ .none ∧ (input0 op 3 1 b).kind = .graft :=
  ⟨(by decide : entKind (zeros 3 ++ [BitVec.ofNat 8 1] ++ zeros 4 ++ toLe 4 (0 * 2 ^ 30) ++ zeros 52) = .none),
    (by decide : entKind (zeros 3 ++ [BitVec.ofNat 8 1] ++ zeros 4 ++ toLe 4 (1 * 2 ^ 30) ++ zeros 52) ≠ .none),
    (by decide : entKind (zeros 3 ++ [BitVec.ofNat 8 1] ++ zeros 4 ++ toLe 4 (3 * 2 ^ 30) ++ zeros 52) = .graft)⟩

theorem witness_KemResults : (∀ op b, Running ((withJob (input0 op 0 1 b)).advance 0) 1 op (input0 op 0 1 b)) ∧
    (input0 .mlKemEncaps 0 1 []).kind = .none ∧ (input0 .mlKemEncaps 1 1 []).kind ≠ .none :=
  ⟨fun op b => running_input op 0 1 b, (kinds _ _).1, (kinds _ _).2.1⟩

/-- The public key and the rest as the two kinds of key give them. -/
theorem witness_MlDsaResults (op : Op) (b : Bytes) : Running ((withJob (input0 op 0 1 b)).advance 0) 1 op (input0 op 0 1 b) ∧
    ((input0 op 0 1 b).kind = .none → b.take 1312 = (input0 op 0 1 b).input.take (mlDsaPk 1)) ∧ ((input0 op 0 1 b).kind ≠ .none → False) :=
  ⟨running_input op 0 1 b, fun _ => rfl, fun h => h (kinds op b).1⟩

theorem witness_CodeBasedResults : (∀ op b, Running ((withJob (input0 op 0 1 b)).advance 0) 1 op (input0 op 0 1 b)) ∧
    (input0 .mcelieceEncaps 0 1 []).handle = none ∧ (input0 .mcelieceEncaps 1 1 []).kind ≠ .none :=
  ⟨fun op b => running_input op 0 1 b, rfl, (kinds _ _).2.1⟩

/-- Stateful jobs with the levels of one tree and a leaf assigned. -/
theorem witness_HashBasedResults :
    let j (op : Op) : Job := { input0 op 1 1 [] with key := some (slotKey { head0 with keyClass := 7 } (toBe 4 5 ++ toBe 4 1)), leaf := some 31 }
    (∀ op, Running ((withJob (j op)).advance 0) 1 op (j op)) ∧ (j .lmsSign).leaf = some 31 ∧ (lmsLevels [5, 1]).isSome = true ∧
    (∀ op b, Running ((withJob (input0 op 0 1 b)).advance 0) 1 op (input0 op 0 1 b)) :=
  ⟨fun _ => running_with rfl rfl rfl rfl, rfl, rfl, fun op b => running_input op 0 1 b⟩

set_option maxRecDepth 100000 in
/-- An LMS signature at the last leaf of its tree fits, one past it does not, nor does one with another one-time type. -/
theorem witness_HashBasedResults_fits :
    let sig (q ots : Nat) : Bytes := toBe 4 q ++ toBe 4 ots ++ zeros 1120 ++ toBe 4 5 ++ zeros 160
    statefulFits false 1 [⟨5, 0, 8⟩] (sig 31 4) = true ∧ statefulFits false 1 [⟨5, 0, 8⟩] (sig 32 4) = false ∧
    statefulFits false 1 [⟨5, 0, 8⟩] (sig 31 3) = false := by
  refine ⟨by decide, by decide, by decide⟩

/-- A Montgomery curve and another one. -/
theorem witness_EllipticCurveResults : (∀ op p b, Running ((withJob (input0 op 0 p b)).advance 0) 1 op (input0 op 0 p b)) ∧
    (input0 .ecdhDerive 0 0x10 []).param = 0x10 ∧ (input0 .ecdhDerive 0 1 []).param = 1 :=
  ⟨fun op p b => running_input op 0 p b, by decide, by decide⟩

set_option maxRecDepth 100000 in
/-- Moduli and exponents at their bounds: an odd modulus of full length with e = 3, an even one, e = 1, e beyond 17 bits; c = 0. -/
theorem witness_RsaResults :
    (∀ op p b, Running ((withJob (input0 op 0 p b)).advance 0) 1 op (input0 op 0 p b)) ∧
    (let n : Bytes := [0x80] ++ zeros 254 ++ [1]
     128 ≤ byteAt n 0 ∧ beNat n % 2 = 1) ∧ beNat ([0x7F] ++ zeros 254 ++ [2]) % 2 = 0 ∧
    (beNat [0, 0, 3] % 2 = 1 ∧ 3 ≤ beNat [0, 0, 3]) ∧ ¬ 3 ≤ beNat [0, 0, 1] ∧ beNat (zeros 256) = 0 := by
  refine ⟨fun op p b => running_input op 0 p b, ⟨by decide, by decide⟩, by decide, by decide, by decide, by decide⟩

theorem witness_CipherResults : (∀ op b, Running ((withJob (input0 op 1 1 b)).advance 0) 1 op (input0 op 1 1 b)) ∧
    (input0 .gcmEncrypt 3 1 []).kind = .graft ∧ (input0 .gcmEncrypt 1 1 []).kind ≠ .graft :=
  ⟨fun op b => running_input op 1 1 b, (kinds _ _).2.2, by decide⟩

/-- Records whose IC is above LAST_IC, equal to it, and equal to it with FIRST. -/
theorem witness_MeteringResults :
    let r (ic flags : Nat) : Bytes := zeros 0x14 ++ toLe 4 ic ++ toLe 4 5 ++ toLe 1 0x30 ++ toLe 1 flags ++ toLe 2 0
    (∀ op b, Running ((withJob (input0 op 3 4 b)).advance 0) 1 op (input0 op 3 4 b)) ∧
    (∀ k, ({ input0 .exportWrapped 3 1 [] with transport := some k } : Job).transport = some k) ∧
    le (r 6 0) 0x18 4 < le (r 6 0) 0x14 4 ∧ ¬ (le (r 5 0) 0x18 4 < le (r 5 0) 0x14 4 ∨ bit (byteAt (r 5 0) 0x1D) 0 = true) ∧
    bit (byteAt (r 5 1) 0x1D) 0 = true := by
  refine ⟨fun op b => running_input op 3 4 b, fun _ => rfl, by decide, by decide, by decide⟩

theorem witness_DigestsReadsAndDraws : (∀ op b, Running ((withJob (input0 op 1 1 b)).advance 0) 1 op (input0 op 1 1 b)) :=
  fun op b => running_input op 1 1 b

theorem witness_DigestsReadsAndDraws_keys (op : Op) : let j : Job := { input0 op 1 0 [] with key := some (slotKey head0 (zeros 16)) }
    Running ((withJob j).advance 0) 1 op j ∧ j.key = some (slotKey head0 (zeros 16)) := ⟨running_with rfl rfl rfl rfl, rfl⟩

/-! ### The worked examples of the spec -/

/-- 00, one value in two byte orders. -/
theorem test_byte_orders : toLe 4 0x21F07C16 = [0x16, 0x7C, 0xF0, 0x21] ∧ toBe 2 0x0A3B = [0x0A, 0x3B] := by decide

/-- 01, reading VINTAGE_PRESS. -/
theorem test_vintage : toLe 8 ({ base := 0x0121, patchId := 0x17, patchState := .verified } : Vintage).word =
    [0x21, 0x01, 0x17, 0x00, 0x02, 0x00, 0x00, 0x00] := by decide

/-- 02, a fenced no-op: the entry as the host places it. -/
def nopEntry : Bytes :=
  [0x00, 0x7F, 0x05, 0x00, 0xA7, 0x00, 0x01, 0x5C, 0, 0, 0, 0, 0x21, 0x4C, 0, 0] ++ zeros 16 ++
    [0x00, 0x02, 0x00, 0x10, 0x3A, 0x7F, 0x00, 0x80, 0x10, 0, 0, 0, 0x2C, 0x9A, 0x31, 0x00] ++ zeros 14 ++ [0x17, 0x80]

theorem test_nop_entry : entOp nopEntry = some .nop ∧ entFence nopEntry = true ∧ entTs nopEntry = true ∧ entLog nopEntry = false ∧
    entKind nopEntry = .none ∧ addrHost (entOutAddr nopEntry) = true ∧ addrOffset (entOutAddr nopEntry) = 0x7F3A10000200 ∧
    entOutLen nopEntry = 16 ∧ entOutKey nopEntry = 0x00319A2C := by decide

/-- 02, its completion entry and trailer. -/
theorem test_nop_completion : 0x0C05 % 1024 * 32 = 0xA0 ∧
    completionBytes (entTag nopEntry) .success (phaseBit 0x0C05 1024) 0 16 0x304FE 0x18326A0F47C32E10
      (tSpan 0x18326A0F47C32E10 0x18326A0F47C28C8A) 0x0213 44 =
    [0xA7, 0x00, 0x01, 0x5C, 0, 0, 0, 0, 0x10, 0, 0, 0, 0xFE, 0x04, 0x03, 0x00, 0x10, 0x2E, 0xC3, 0x47, 0x0F, 0x6A, 0x32, 0x18,
     0x86, 0xA1, 0, 0, 0x13, 0x02, 0x2C, 0x00] ∧
    trailerBytes 0x18326A0F47C28C8A 0x18326A0F47C32E10 =
      [0x8A, 0x8C, 0xC2, 0x47, 0x0F, 0x6A, 0x32, 0x18, 0x10, 0x2E, 0xC3, 0x47, 0x0F, 0x6A, 0x32, 0x18] := by decide

/-- 02, the doorbell of that queue: d = 3 at CONS 0x04FC. -/
theorem test_doorbell : (({ index := 0x213, conn := 3, cr := 0x40, size := 256, cons := 0x04FC } : WorkQueue).ring' 0x04FF).target = some 0x04FF := by
  decide

/-- 04, a batch of VERIFY_MU records; 06, an LMS signature; 20, an entry read from its first bytes. -/
theorem test_sizes : opRecordSize .mlDsaVerifyMu 1 0 .slot = 2484 ∧ lmsSigLen ⟨20, 0, 8⟩ = 1772 ∧
    entOp ([0x02, 0x0F, 0x08, 0x04] ++ zeros 60) = some .dlmsUnprotect ∧ entBatch ([0x02, 0x0F, 0x08, 0x04] ++ zeros 60) = true ∧
    dlmsArea 4 = 1024 := by decide

/-- 03, the span of a signature across a supply dip. -/
theorem test_span : toLe 4 (tSpan 2484000 0) = [0x20, 0xE7, 0x25, 0x00] := by decide

/-- 13, the classifier program of an untagged port. -/
def untagged : List (BitVec 64) :=
  [0x0000000000000C02, 0x0000080000030020, 0x000088E500100020, 0x000088F700100020, 0x0000080612110020, 0x0000000000000E01, 0x000000450F000020,
   0x0000000000001701, 0x000000110D000020, 0x0000000000002402, 0x00001842000A0020, 0x0000013F00080020, 0x0000014000070020, 0x000012B708000020,
   0x0000000000002E03, 0x00FFFFFF00000010, 0x0000000100010020, 0x0000000100000030, 0x0000000200000030, 0x0000000400000030, 0x0000000300000030,
   0x0000000500000030, 0x0000000600000030, 0x0000000000000030]

/-- An untagged IPv4 frame of a protocol to a UDP port and queue pair. -/
def ipFrame (proto port qp : Nat) : Bytes :=
  zeros 12 ++ [8, 0, 0x45] ++ zeros 8 ++ toBe 1 proto ++ zeros 12 ++ toBe 2 port ++ zeros 8 ++ toBe 4 qp ++ zeros 20

/-- 13, a CM REQ reaches connection management, data and TCP their paths, a tagged frame DROP. -/
theorem test_classifier :
    runClassifier untagged (ipFrame 17 4791 1) 64 [] 25 0 0 = 2 ∧ runClassifier untagged (ipFrame 17 4791 2) 64 [] 25 0 0 = 1 ∧
    runClassifier untagged (ipFrame 6 0 0) 64 [] 25 0 0 = 6 ∧ runClassifier untagged (zeros 12 ++ [0x81, 0] ++ zeros 60) 64 [] 25 0 0 = 0 ∧
    runClassifier untagged (ipFrame 17 6210 0) 64 [] 25 0 0 = 5 := by decide

set_option maxRecDepth 100000 in
/-- 14, the record of source 216 on module 5. -/
theorem test_event_record :
    let s : State := { full .service with
      clock := { train := 0x1833410000001F40, running := true, timeState := .holdover, lastMaster := 0x7E2104C3 }
      journal.timeMark := 0x2833410000001F40, journal.eventBlock := 0x40000, train.lastIndex := 5
      router := { nextSeq := 0x29C11, ringCreated := true, rings := [{ index := 0, conn := 3, base := 0x1000, rkey := 9, size := 1024, prod := 0xC41, cons := 0xC41 }] } }
    (s.raise 216 [2, 1, 0x7E2104C3]).sent.head? = some (.write 3 9 (0x1000 + 0x820)
      [0xD8, 0x0A, 0x05, 0x00, 0x11, 0x9C, 0x02, 0, 0, 0, 0, 0, 0x40, 0x1F, 0, 0, 0, 0x41, 0x33, 0x18, 0x02, 0, 0, 0, 0x01, 0, 0, 0,
       0xC3, 0x04, 0x21, 0x7E]) := by decide

/-- 16, the protect frame of source A. -/
theorem test_maldin_fields : let p : Bytes := [0x4D, 0x44, 0x02, 0x04, 0x1C, 0x41, 0x02, 0x00, 0x00, 0x42, 0x00, 0x48, 0x3B, 0x9A, 0xD1, 0xC4]
    let f : MaldinFrame := { port := 4, srcAddr := 0, srcPort := 41000, dstAddr := 0, udpLen := 520, checksumOk := true, vlan := 0, pcp := 0, dscp := 0, payload := p }
    frameCmd f = 4 ∧ frameSlot f = 0x42 ∧ frameLen f = 72 ∧ dataLenOk 4 0x42 72 = true := by decide

set_option maxRecDepth 100000 in
/-- 16, the check value of CRC-32C (R467). -/
theorem test_crc : crc32c (ascii "123456789") = 0xE3069283#32 := by decide

/-! ### Commands, one step each -/

set_option maxRecDepth 100000 in
/-- 18, R508: VIN_START at 6.00 V brings Standby with its domains, and below does nothing. -/
theorem test_vin_start : (∃ s, step { State.reset with pending := [.vinStart 0 6000] } = .next s ∧ s.power.mode = .standby ∧ s.power.pwrgd = true ∧
      s.power.domains = [0, 1, 2, 44]) ∧
    ∃ s, step { State.reset with pending := [.vinStart 0 5999] } = .next s ∧ s.power.mode = .off := ⟨⟨_, rfl, rfl, rfl, rfl⟩, _, rfl, rfl⟩

set_option maxRecDepth 100000 in
/-- 18, R536: 60.001 V stops the module. -/
theorem test_vin_above : step { State.reset with pending := [.vinStart 0 60001] } = .fault .vinAbove60V := rfl

set_option maxRecDepth 100000 in
/-- 02, R52: a doorbell of another connection is dropped, and acknowledged. -/
theorem test_doorbell_dropped : ∃ s, step { full .service with pending := [.doorbell 0 3 8 (zeros 8)] } = .next s ∧ s.sent.getLast? = some (.ack 3) :=
  ⟨_, rfl, rfl⟩

set_option maxRecDepth 100000 in
/-- 17, R497, R500: START takes an idle unit for its writer, FINISH of a whole block leaves DONE. -/
theorem test_boot_digest : (∃ s, step { atMode .boot with pending := [.bdStart 0 .firmware] } = .next s ∧ s.bd.busy = true ∧ s.bd.owner = .firmware) ∧
    ∃ s, step { atMode .boot with bd.busy := true, bd.absorbed := zeros 128, pending := [.bdFinish 0 .firmware] } = .next s ∧ s.bd.done = true ∧
      s.bd.whole = true := ⟨⟨_, rfl, rfl, rfl⟩, _, rfl, rfl, rfl⟩

set_option maxRecDepth 100000 in
/-- 13, R401: a Sync steps Train time forward on the fourth in a row that lies ahead. -/
theorem test_sync_steps : ∃ s, step { timed 0 .locked none 3 0 0 with pending := [.ptpSync 0 7 9 5000001001 none] } = .next s ∧
    s.clock.train = 5000001001 := ⟨_, rfl, rfl⟩

end Sys2Proof.Machine
end

/-!
Hash sessions whose declared total a chunk misses (06 R204). The frame layer first: what ends a job (02 R60, R65 to R70), what the Book
records of it and what frees its engines leave the session objects as they are.
-/
section
namespace Sys2Proof.Machine

/-! ### What leaves the session objects alone -/

/-- Folding steps that keep the session objects keeps them. -/
theorem foldl_sessions {α : Type} {f : State → α → State} (h : ∀ s x, (f s x).fabric.sessions = s.fabric.sessions) (l : List α) (s : State) :
    (l.foldl f s).fabric.sessions = s.fabric.sessions := by
  induction l generalizing s with
  | nil => rfl
  | cons a t ih => rw [List.foldl_cons, ih, h]

theorem EventFrame.sessions {u x : State} (h : EventFrame u x) : x.fabric.sessions = u.fabric.sessions := by rw [h]

@[simp] theorem State.ensureMark_sessions (s : State) : s.ensureMark.fabric.sessions = s.fabric.sessions := (ensureMark_events s).sessions

@[simp] theorem State.post_sessions (s : State) (c : Nat) (o : Out) : (s.post c o).fabric.sessions = s.fabric.sessions :=
  (post_events s c o).sessions

@[simp] theorem State.placeUnit_sessions (s : State) (x : EventRing) (u : Bytes) (mark : Option Nat) :
    (s.placeUnit x u mark).fabric.sessions = s.fabric.sessions := by
  simp only [State.placeUnit, State.post_sessions, State.modEring]

@[simp] theorem State.pumpExport_sessions (fuel : Nat) (s : State) : (s.pumpExport fuel).fabric.sessions = s.fabric.sessions := by
  fun_induction State.pumpExport fuel s with
  | case1 | case2 | case3 | case4 | case6 | case8 => rfl
  | case5 | case7 | case9 =>
    rename_i ih
    exact ih.trans (State.placeUnit_sessions _ _ _ _)

@[simp] theorem State.commitEntry_sessions (s : State) (b : Bytes) : (s.commitEntry b).fabric.sessions = s.fabric.sessions := by
  unfold State.commitEntry
  split <;> simp

@[simp] theorem State.tailEvent_sessions (s : State) (before : Nat) : (s.tailEvent before).fabric.sessions = s.fabric.sessions := by
  unfold State.tailEvent
  split
  · exact (raise_events s _ _).sessions
  · rfl

@[simp] theorem State.appendHeld_sessions (fuel : Nat) (s : State) : (s.appendHeld fuel).fabric.sessions = s.fabric.sessions := by
  fun_induction State.appendHeld fuel s with
  | case1 | case2 | case4 => rfl
  | case3 =>
    rename_i ih
    exact ih.trans (State.commitEntry_sessions _ _)

@[simp] theorem State.appendReserved_sessions (s : State) (f : BookFields) : (s.appendReserved f).fabric.sessions = s.fabric.sessions := by
  simp only [State.appendReserved, State.commitEntry_sessions]

@[simp] theorem State.appendJob_sessions (s : State) (j : Job) : (s.appendJob j).1.fabric.sessions = s.fabric.sessions := by
  unfold State.appendJob
  split
  · rfl
  · split
    · rfl
    · simp only [State.appendHeld_sessions, State.tailEvent_sessions]
      split <;> split <;> simp

@[simp] theorem State.placeOutput_sessions (s : State) (j : Job) (off : Nat) (data : Bytes) :
    (s.placeOutput j off data).fabric.sessions = s.fabric.sessions := by
  simp only [State.placeOutput]
  split
  · rfl
  · split
    · split
      · simp
      · rfl
    · simp

@[simp] theorem State.complete_sessions (s : State) (j : Job) (written : Nat) (logged : Bool) :
    (s.complete j written logged).fabric.sessions = s.fabric.sessions := by
  unfold State.complete
  split
  · rfl
  · split
    · rfl
    · dsimp only
      split <;> simp

@[simp] theorem State.unreserve_sessions (s : State) (q : Nat) : (s.unreserve q).fabric.sessions = s.fabric.sessions := by
  unfold State.unreserve
  split <;> simp

@[simp] theorem State.setPool_sessions (s : State) (p : Pool) (l : List Engine) : (s.setPool p l).fabric.sessions = s.fabric.sessions := by
  cases p <;> rfl

@[simp] theorem State.freeJobBanks_sessions (s : State) (id : Nat) : (s.freeJobBanks id).fabric.sessions = s.fabric.sessions := by
  unfold State.freeJobBanks
  split
  · rfl
  · simp only [State.freeExpansion, State.setPool_sessions]
    exact foldl_sessions (fun s _ => State.setPool_sessions s _ _) _ _

@[simp] theorem State.dropJob_sessions (s : State) (id : Nat) : (s.dropJob id).fabric.sessions = s.fabric.sessions := by
  simp only [State.dropJob, State.sweepRecords, State.freeJobBanks_sessions]

@[simp] theorem State.releaseJob_sessions (s : State) (id : Nat) : (s.releaseJob id).fabric.sessions = s.fabric.sessions := by
  unfold State.releaseJob
  split
  · rfl
  · extract_lets u j batch j'
    have hu : (u.appendJob j').1.fabric.sessions = s.fabric.sessions := by
      rw [State.appendJob_sessions]; exact State.ensureMark_sessions s
    generalize u.appendJob j' = v at hu ⊢
    simp only [State.dropJob_sessions, ← hu]
    split
    · simp
    · split <;> simp

@[simp] theorem State.failJob_sessions (s : State) (id : Nat) (st : Status) (trailer : Bool) :
    (s.failJob id st trailer).fabric.sessions = s.fabric.sessions := by
  simp only [State.failJob, State.releaseJob_sessions, State.modJob_fabric_sessions]

@[simp] theorem State.wakeChunks_sessions (s : State) (h : Nat) : (s.wakeChunks h).fabric.sessions = s.fabric.sessions := by
  refine foldl_sessions (fun s j => ?_) _ s
  split <;> simp

/-! ### Closing a session, and a chunk whose turn it is -/

/-- R202, R203: the chunks that waited for a closed session change no other session object. -/
theorem State.closeSession_sessions (s : State) (h : Nat) :
    (s.closeSession h).fabric.sessions = s.fabric.sessions.filter (·.index != h) := State.wakeChunks_sessions _ h

theorem State.chunkTurn_ok {s : State} {j : Job} {x : HashSession} (hx : s.handleSession j = some x) (hn : auxChunkNo j.aux = x.nextChunk) :
    s.chunkTurn j = .ok x := by
  simp [State.chunkTurn, hx, hn]

theorem HashSession.past_iff {x : HashSession} {d : Nat} (hd : x.declLen = some d) (n : Nat) :
    x.past n = true ↔ d < x.absorbed.length + n := by
  simp [HashSession.past, hd]

theorem HashSession.short_iff {x : HashSession} {d : Nat} (hd : x.declLen = some d) (n : Nat) :
    x.short n = true ↔ x.absorbed.length + n ≠ d := by
  rw [ne_comm]
  simp [HashSession.short, hd]

/-! ### Chunks that miss the declared total (R204) -/

/-- The chunk closes its session and ends with LENGTH_MISMATCH, with no output. -/
def State.missTotal (s : State) (id : Nat) (x : HashSession) : State :=
  (s.closeSession x.index).finishNow id (.failed .lengthMismatch [none])

section
variable {s : State} {id : Nat} {j : Job} {x : HashSession} {d : Nat}
  (ht : s.chunkTurn j = .ok x) (hd : x.declLen = some d)
include ht hd

theorem State.hashUpdate_missTotal (hr : Running s id .hashUpdate j) (h : d < x.absorbed.length + j.input.length) :
    s.hashUpdate id = s.missTotal id x := by
  simp only [State.hashUpdate, runs?_of_running hr, ht, (HashSession.past_iff hd _).mpr h, if_true, State.missTotal]

theorem State.hashFinal_missTotal (hr : Running s id .hashFinal j) (h : x.absorbed.length + j.input.length ≠ d) :
    s.hashFinal id = s.missTotal id x := by
  simp only [State.hashFinal, runs?_of_running hr, ht, (HashSession.short_iff hd _).mpr h, if_true, State.missTotal]

/-- The last chunk is what follows the tag; a tag that is cut off, and a chunk of more than 16 MiB, are other refusals. -/
theorem State.hashFinalVerify_missTotal (hr : Running s id .hashFinalVerify j) (hlen : x.outLen ≤ j.input.length)
    (hmax : j.input.length - x.outLen ≤ mib16) (h : x.absorbed.length + (j.input.length - x.outLen) ≠ d) :
    s.hashFinalVerify id = s.missTotal id x := by
  have hfits : (decide (j.input.length < x.outLen) || decide (mib16 < j.input.length - x.outLen)) = false := by
    simp [Nat.not_lt.mpr hlen, Nat.not_lt.mpr hmax]
  simp only [State.hashFinalVerify, runs?_of_running hr, ht, List.length_drop, hfits, Bool.false_eq_true, if_false,
    (HashSession.short_iff hd _).mpr h, if_true, State.missTotal]
end

/-- Settles O54: the chunk's turn leaves only the comparison of lengths, and the closed session is filtered out of a list that no chunk
woken by the closing changes. -/
theorem declaredTotals : Obligations.DeclaredTotals := by
  unfold Obligations.DeclaredTotals
  rintro s _ t id j x d rfl hx hd hn
  have ht := State.chunkTurn_ok hx hn
  refine ⟨fun hr h => ⟨_, rfl, State.hashUpdate_missTotal ht hd hr h⟩, fun hr h => ⟨_, rfl, State.hashFinal_missTotal ht hd hr h⟩,
    fun hr hlen hmax h => ⟨_, rfl, State.hashFinalVerify_missTotal ht hd hr hlen hmax h⟩, fun y hy => ?_⟩
  rw [State.closeSession_sessions] at hy
  simpa using (List.mem_filter.mp hy).2

end Sys2Proof.Machine
end

/-!
Commands of a mailbox session with another CMD_SEQ than the one it expects (12 R350). The command does nothing and its response goes out, but
the response is a SEND of the connection: the model keeps it among the connection's outstanding requests until it is acknowledged (02 R69),
so more than `sent` changes.
-/
section
namespace Sys2Proof.Machine

/-- A command of session `x` arrives as in `Comes`, in form and with its MAC, but with another CMD_SEQ than the session expects (R350). -/
structure ComesOutOfSequence (u : State) (code conn : Nat) (msg : Bytes) (x : Session) : Prop where
  quiet : Quiet u
  answers : u.mbAnswers = true ∧ u.mailConn conn = true ∧ u.rdmaConn conn = false
  session : u.sessionOn conn = some x ∧ u.mbSession? x.id = some x
  isCode : le msg 0 2 = code ∧ 2 ≤ code
  form : 128 ≤ msg.length ∧ MbCommand.formOk { conn := conn, msg := msg } = true
  mac : slice msg 0x70 16 = mbMac x.key msg "ZMCMD"
  seq : le msg 4 4 ≠ x.nextSeq
  mode : u.power.mode ≠ .hold ∧ (u.power.mode = .recovery → code / 256 = 0)
  life : u.lc ≠ some .scrapped

/-- The command as the mailbox keeps it: with the CMD_SEQ that its session expected. -/
def mbUnexpected (conn : Nat) (msg : Bytes) (extra : List Nat) (x : Session) : MbCommand :=
  { mbCommand conn msg extra x with want := some x.nextSeq }

/-! ### The pump and the queue of commands -/

/-- With no command waiting the pump does nothing. -/
theorem mbPump_nothing_waits {w : State} (h : w.mailbox.waiting = []) (n : Nat) : w.mbPump n = w := by
  have hn : w.mbNext = none := by simp [State.mbNext, h]
  cases n with
  | zero => rfl
  | succ n => rw [State.mbPump, hn, ite_self]

/-- The pump passes over the next command when it may not run. -/
theorem mbPump_not_admitted {w v r : State} {c : MbCommand} (n : Nat) (ha : w.mbAnswers = true) (hm : w.power.mode ≠ .hold)
    (hr : w.mailbox.running = none) (hn : w.mbNext = some c) (hv : ({ w with mailbox.waiting := w.mailbox.waiting.erase c } : State) = v)
    (hd : v.mbAdmit c = (r, false)) : w.mbPump (n + 1) = r.mbPump n := by
  subst hv
  rw [State.mbPump, if_neg (by simp [ha, hm, hr]), hn]
  dsimp only at hd ⊢
  rw [hd]
  rfl

/-- A command that waits alone is next, in Recovery if its group is 0x00xx (R354, R441). -/
theorem mbNext_alone {w : State} {c : MbCommand} (hw : w.mailbox.waiting = [c]) (hc : w.power.mode = .recovery → c.code / 256 = 0) :
    w.mbNext = some c := by
  unfold State.mbNext
  split
  · have h0 : c.code / 256 = 0 := hc (eq_of_beq ‹_›)
    simp [hw, h0]
  · simp [hw]

/-- In a quiet module that is not in Hold, a command that has just come goes straight to the pump. -/
theorem resume_waiting {u : State} (h : Quiet u) (hm : u.power.mode ≠ .hold) (c : MbCommand) :
    State.resume { u with mailbox.waiting := [c] } = State.mbPump 2 { u with mailbox.waiting := [c] } := by
  have hm' : (u.power.mode == Mode.hold) = false := beq_eq_false_iff_ne.mpr hm
  have hset : State.settle { u with mailbox.waiting := [c] } = { u with mailbox.waiting := [c] } :=
    settle_idle h.records h.book h.expand h.queues
  rw [State.resume, hset]
  simp only [hm', Bool.false_eq_true, if_false, h.pushes, List.length_nil, State.flushPushes]
  exact serve_idle hm' h.mailbox.1

/-! ### What the response leaves -/

/-- A SEND that leaves stays outstanding on its connection until it is acknowledged (R69). -/
theorem post_send_conn? {u : State} {i : Nat} {k : Connection} (hk : u.conn? i = some k) (hr : k.ready = true) (hn : k.notify = none)
    (b : Bytes) : (u.post i (.send i b)).conn? i = some { k with outstanding := k.outstanding ++ [.send i b] } := by
  have hpost : u.post i (.send i b) =
      (u.modConn i fun k => { k with outstanding := k.outstanding ++ [.send i b] }).emit (.send i b) := by
    simp [State.post, hk, hr, hn, Out.isSend]
  rw [hpost]
  have hconn := State.conn?_modConn u i i (fun k => { k with outstanding := k.outstanding ++ [.send i b] }) fun _ => rfl
  exact hconn.trans (by simp [hk])

/-! ### The command out of sequence -/

section
variable {u : State} {code conn : Nat} {msg : Bytes} {x : Session} (extra : List Nat) (h : ComesOutOfSequence u code conn msg x)
include h

/-- The command is no hello (R348). -/
theorem helloCode_outOfSequence : helloCode (le msg 0 2) = false := by
  have hcode : ¬ code ≤ 1 := Nat.not_le.mpr h.isCode.2
  simp [helloCode, h.isCode.1, hcode]

/-- Nothing is taken: the session still expects its number, which the command carries along. -/
theorem mbArrival_outOfSequence : u.mbArrival conn msg extra = (u, mbUnexpected conn msg extra x) := by
  have hcode : helloCode (le msg 0 2) = false := helloCode_outOfSequence h
  have hform : (⟨conn, msg, extra, x.id, none, .none, 0⟩ : MbCommand).formOk = true := h.form.2
  simp [State.mbArrival, h.session.1, MbCommand.code, hcode, hform, MbCommand.macOk, h.mac, MbCommand.seq, h.seq,
    mbUnexpected, mbCommand]

theorem mbReceive_outOfSequence :
    u.mbReceive conn msg extra = { u with mailbox.waiting := [mbUnexpected conn msg extra x] } := by
  obtain ⟨ha, hmail, hrdma⟩ := h.answers
  simp [State.mbReceive, hrdma, ha, hmail, h.quiet.mailbox.2, mbArrival_outOfSequence extra h, h.mode.1]

/-- The command may not run: MB_SEQUENCE is its answer. -/
theorem mbAdmit_outOfSequence :
    u.mbAdmit (mbUnexpected conn msg extra x) = (u.mbSend (mbUnexpected conn msg extra x) { status := .mbSequence }, false) := by
  have hlen : ¬ msg.length < 128 := Nat.not_lt.mpr h.form.1
  have hcode : helloCode (mbUnexpected conn msg extra x).code = false := helloCode_outOfSequence h
  have hform : (mbUnexpected conn msg extra x).formOk = true := h.form.2
  have hmac : (mbUnexpected conn msg extra x).macOk x.key = true := beq_iff_eq.mpr h.mac
  have hsession : u.mbSession? (mbUnexpected conn msg extra x).session = some x := h.session.2
  rw [State.mbAdmit]
  simp [hcode, hform, hmac, hsession, h.life]
  simp [mbUnexpected, mbCommand, hlen]

/-- The answer: MB_SEQUENCE with the number expected, under the session's MAC (R350). -/
theorem mbSend_outOfSequence :
    u.mbSend (mbUnexpected conn msg extra x) { status := .mbSequence } =
      u.post conn (.send conn (mbResponse code .mbSequence x.nextSeq [] 0 [] (some x.key))) := by
  have hcode : (mbUnexpected conn msg extra x).code = code := h.isCode.1
  have hhello : helloCode code = false := h.isCode.1 ▸ helloCode_outOfSequence h
  have hsession : u.mbSession? (mbUnexpected conn msg extra x).session = some x := h.session.2
  simp only [State.mbSend, hcode, hhello, hsession]
  simp [mbUnexpected, mbCommand]

/-- The response alone comes of the command. -/
theorem row_outOfSequence :
    (u.mbRow code conn msg extra).resume = u.post conn (.send conn (mbResponse code .mbSequence x.nextSeq [] 0 [] (some x.key))) := by
  have hadmit := mbSend_outOfSequence extra h ▸ mbAdmit_outOfSequence extra h
  generalize mbResponse code .mbSequence x.nextSeq [] 0 [] (some x.key) = b at hadmit ⊢
  have hreceive := mbReceive_outOfSequence extra h
  have hcode : (mbUnexpected conn msg extra x).code = code := h.isCode.1
  generalize mbUnexpected conn msg extra x = c at hadmit hreceive hcode
  have hback : ({ u with mailbox.waiting := [c].erase c } : State) = u := by
    rw [List.erase_cons_head, ← h.quiet.mailbox.2]
  have hwaiting : (u.post conn (.send conn b)).mailbox.waiting = [] :=
    (congrArg Mailbox.waiting (post_events u conn _).mailbox).trans h.quiet.mailbox.2
  calc (u.mbRow code conn msg extra).resume
    _ = State.resume { u with mailbox.waiting := [c] } := by
      rw [State.mbRow, h.isCode.1, beq_self_eq_true, if_pos rfl, hreceive]
    _ = State.mbPump 2 { u with mailbox.waiting := [c] } := resume_waiting h.quiet h.mode.1 c
    _ = (u.post conn (.send conn b)).mbPump 1 :=
      mbPump_not_admitted 1 h.answers.1 h.mode.1 h.quiet.mailbox.1 (mbNext_alone rfl (hcode ▸ h.mode.2)) hback hadmit
    _ = u.post conn (.send conn b) := mbPump_nothing_waits hwaiting 1
end

/-! ### A command sent again -/

/-- A mailbox connection with nothing outstanding. -/
def controlConn : Connection :=
  { index := 2, mailbox := true, port := 0
    req := { serviceId := 0x884001, peerQp := 1, pathMtu := 1024, responderResources := 4, initiatorDepth := 4, retryCount := 3,
             rnrRetryCount := 3, ackTimeout := 10, pcp := 0, dscp := 0, peerAddr := zeros 16 } }

/-- A session that has had its first command. -/
def controlSession : Session := { id := 5, conn := 2, key := zeros 32, nextSeq := 2 }

/-- The module in Service with that session alone. -/
def afterFirstCommand : State :=
  { power.mode := .service, mailbox.sessions := [controlSession], fabric.conns := [controlConn] }

/-- MODULE_INFO with CMD_SEQ 1, up to its MAC. -/
def firstHead : Bytes := toLe 2 0x0003 ++ zeros 2 ++ toLe 4 1 ++ zeros 104

/-- MODULE_INFO with CMD_SEQ 1, under the session's MAC. -/
def firstCommand : Bytes := firstHead ++ kmac controlSession.key firstHead 16 "ZMCMD"

theorem kmac_length (key msg : Bytes) (n : Nat) (custom : String) : (kmac key msg n custom).length = n := by
  simp [kmac, hashOf, std]

/-- A message of 112 bytes and the KMAC over them has its MAC (R349). -/
theorem mac_of_head {head : Bytes} (hl : head.length = 0x70) (key : Bytes) (custom : String) :
    slice (head ++ kmac key head 16 custom) 0x70 16 = mbMac key (head ++ kmac key head 16 custom) custom := by
  have hbulk : (head ++ kmac key head 16 custom).drop 128 = [] := List.drop_eq_nil_of_le (by simp [hl, kmac_length])
  rw [slice, mbMac, hbulk, List.append_nil, ← hl, List.drop_left, List.take_left, List.take_of_length_le (kmac_length ..).le]

theorem firstCommand_length : firstCommand.length = 128 := by
  rw [firstCommand, List.length_append, kmac_length]
  rfl

theorem firstCommand_formOk : MbCommand.formOk { conn := 2, msg := firstCommand } = true := by
  simp only [MbCommand.formOk, firstCommand_length]
  rfl

/-- Sent again, the command has another number than its session expects. -/
theorem firstCommand_outOfSequence : ComesOutOfSequence afterFirstCommand 0x0003 2 firstCommand controlSession where
  quiet := ⟨rfl, by simp [afterFirstCommand], by simp [afterFirstCommand], by simp [afterFirstCommand], rfl, rfl, rfl⟩
  answers := ⟨rfl, rfl, rfl⟩
  session := ⟨rfl, rfl⟩
  isCode := ⟨rfl, by decide⟩
  form := ⟨firstCommand_length.ge, firstCommand_formOk⟩
  mac := mac_of_head rfl _ _
  seq := by decide
  mode := ⟨by decide, fun _ => rfl⟩
  life := by decide

/-- The row of the statement is MODULE_INFO's. -/
theorem firstCommand_row :
    exec (.moduleInfo 0 2 firstCommand) afterFirstCommand = .next (afterFirstCommand.mbRow 0x0003 2 firstCommand []).resume := rfl

/-- Refutes O34: in the clause on another CMD_SEQ only `sent` may grow, but the response to a command sent again is also outstanding on its
connection. What R350 itself says of such a command holds (`row_outOfSequence`). -/
theorem not_commandNumbers : ¬ Obligations.CommandNumbers := by
  unfold Obligations.CommandNumbers
  intro h
  obtain ⟨hquiet, ⟨hanswers, hmail, hrdma⟩, ⟨hon, hsession⟩, ⟨hcode, htwo⟩, ⟨hlen, hform⟩, hmac, hseq, ⟨hhold, hrec⟩, hlife⟩ :=
    firstCommand_outOfSequence
  obtain ⟨-, hclause⟩ := h afterFirstCommand afterFirstCommand 0 2 firstCommand rfl hquiet hanswers hmail hrdma hlen hform hhold hlife
  obtain ⟨-, hother⟩ := hclause controlSession (.moduleInfo 0 2 firstCommand) 0x0003 [] hon hsession (by decide) htwo hcode hmac hrec
    firstCommand_row
  obtain ⟨_, n, hnext, rfl⟩ := hother controlConn rfl rfl hseq
  rw [firstCommand_row, row_outOfSequence [] firstCommand_outOfSequence, mbPump_nothing_waits rfl] at hnext
  have hconns := congrArg (·.conn? 2) (Host.Outcome.next.inj hnext)
  rw [post_send_conn? (k := controlConn) rfl rfl rfl] at hconns
  exact List.cons_ne_nil _ _ (congrArg Connection.outstanding (Option.some.inj hconns))

end Sys2Proof.Machine
end

/-!
M_STATUS of a Maldin reply and what the commands draw (16 R473). What each command can answer comes first; then what the acceptance of a frame
leaves as it is, and the frame of a command that a reserved engine runs.
-/
section
namespace Sys2Proof.Machine

/-! ### M_STATUS (R473) -/

/-- RNG_FAIL says that the DRBG did not supply a draw, and nothing else. -/
theorem mStatus_eq_rngFail_iff (st : Status) (b : Bool) : mStatus st b = 8 ↔ st ∈ [Status.entropyNotReady, .entropyFailed] := by
  cases st with
  | outOfRange => cases b <;> decide
  | _ => simp [mStatus]

theorem mStatus_lt (st : Status) (b : Bool) : mStatus st b < 10 := by
  cases st with
  | outOfRange => cases b <;> decide
  | _ => simp [mStatus]

/-- M_STATUS is formed from STATUS by the table of R473. -/
theorem mStatus_table (b : Bool) :
    mStatus .success b = 0 ∧ mStatus .lengthMismatch b = 1 ∧ mStatus .unknownOpcode b = 2 ∧ mStatus .keyNotFound b = 3 ∧
    (∀ st ∈ [Status.keyCorked, .keyUseDenied, .keyLifecycleDenied, .unsupportedParam], mStatus st b = 4) ∧ mStatus .signatureInvalid b = 5 ∧
    (∀ st ∈ [Status.malformedEncoding, .pointNotOnCurve, .flagsInvalid], mStatus st b = 6) ∧
    mStatus .outOfRange b = (if b then 7 else 6) ∧ (∀ st ∈ [Status.entropyNotReady, .entropyFailed], mStatus st b = 8) ∧
    ∀ st ∈ [Status.faultUnrecovered, .engineUnavailable], mStatus st b = 9 := by
  simp [mStatus]

/-! ### M_STATUS in the reply (R466) -/

@[simp] theorem toBe_length (n v : Nat) : (toBe n v).length = n := by
  induction n generalizing v with
  | zero => rfl
  | succ n ih => simpa [toBe, toLe] using ih (v / 256)

theorem slice_length_of_le {b : Bytes} {off n : Nat} (h : off + n ≤ b.length) : (slice b off n).length = n := by
  simp only [slice, List.length_take, List.length_drop]
  omega

/-- A byte is found behind as many bytes as its offset says. -/
theorem byteAt_append_toBe (p q : Bytes) {v : Nat} (hv : v < 256) : byteAt (p ++ (toBe 1 v ++ q)) p.length = v := by
  simp [byteAt, toBe, toLe, Nat.mod_eq_of_lt hv]

/-- The reply up to M_STATUS. -/
def replyHead (j : MaldinJob) : Bytes :=
  let q := j.frame.payload
  slice q 0 3 ++ toBe 1 (frameCmd j.frame % 128 + 128) ++ slice q 4 2 ++ toBe 2 0x0200 ++ slice q 8 2 ++ toBe 2 j.data.length ++ slice q 0x0C 4 ++
    toBe 4 (j.tRx / 1000)

theorem replyHead_length {j : MaldinJob} (h : j.frame.payload.length = 512) : (replyHead j).length = 0x14 := by
  simp [replyHead, slice_length_of_le, h]

theorem maldinReply_eq_head (j : MaldinJob) :
    ∃ rest, maldinReply j = replyHead j ++ (toBe 1 (mStatus j.status j.counterRefusal) ++ rest) := by
  simp only [maldinReply, replyHead, List.append_assoc]
  exact ⟨_, rfl⟩

theorem byteAt_maldinReply_mStatus {j : MaldinJob} (h : j.frame.payload.length = 512) :
    byteAt (maldinReply j) 0x14 = mStatus j.status j.counterRefusal := by
  obtain ⟨rest, hr⟩ := maldinReply_eq_head j
  rw [hr, ← replyHead_length h]
  exact byteAt_append_toBe _ _ ((mStatus_lt _ _).trans (by decide))

/-! ### What the commands that draw nothing can answer -/

theorem pointFault_status {p : Nat} {q : Bytes} {st : Status} (h : pointFault p q = some st) :
    st ∈ [Status.malformedEncoding, .outOfRange, .pointNotOnCurve] := by
  simp only [pointFault] at h
  split_ifs at h <;> cases h <;> simp

theorem dlmsCheck_status {protect : Bool} {p : Nat} {aux : BitVec 64} {r : Bytes} {st : Status} (h : dlmsCheck protect p aux r = some st) :
    st ∈ [Status.flagsInvalid, .lengthMismatch, .unsupportedParam, .keyUseDenied] := by
  simp only [dlmsCheck] at h
  split_ifs at h <;> cases h <;> simp

theorem descCheck_status {d : Bytes} {kinds : List Nat} {len : Nat} {st : Status} (h : descCheck d kinds len = some st) :
    st ∈ [Status.flagsInvalid, .lengthMismatch, .keyUseDenied] := by
  simp only [descCheck] at h
  split_ifs at h <;> cases h <;> simp

theorem graftCheck_status {op : Op} {p : Nat} {b : Bytes} {st : Status} (h : graftCheck op p b = some st) :
    st ∈ [Status.flagsInvalid, .lengthMismatch, .keyUseDenied] := by
  simp only [graftCheck] at h
  split at h
  next hd => exact descCheck_status (hd.trans h)
  next =>
    split at h
    next => cases h
    next =>
      split at h
      next hd => exact descCheck_status (hd.trans h)
      next => split at h <;> cases h; simp

/-- OUT_OF_RANGE of an UNPROTECT record is the refusal of its counter (R262, R263). -/
theorem dlmsUnprotect_error {k : DlmsKeys} {r : Bytes} {st : Status} (h : dlmsUnprotect k r = .error st) :
    st ∈ [Status.outOfRange, .signatureInvalid] := by
  simp only [dlmsUnprotect] at h
  split_ifs at h <;> cases h <;> simp

theorem ecdsaVerifyResult_status (s : State) (j : Job) :
    (ecdsaVerifyResult s j).status ∈ [Status.success, .signatureInvalid, .malformedEncoding, .outOfRange, .pointNotOnCurve] := by
  unfold ecdsaVerifyResult
  dsimp only
  split
  next st h =>
    have hp := pointFault_status (Option.ite_none_right_eq_some.mp h).2
    simp only [OpResult.failed]
    grind
  next => grind [OpResult.failed]

theorem maldinProtect_status (key ak : Option JobKey) (d : Bytes) :
    (maldinProtect key ak d).status ∈ [Status.success, .flagsInvalid, .lengthMismatch, .unsupportedParam, .keyUseDenied] := by
  unfold maldinProtect
  split
  next h => exact List.mem_cons_of_mem _ (dlmsCheck_status h)
  next => simp

theorem maldinProtect_counter (key ak : Option JobKey) (d : Bytes) : (maldinProtect key ak d).counter = false := by
  unfold maldinProtect
  split <;> rfl

theorem maldinUnprotect_status (key ak : Option JobKey) (d : Bytes) : (maldinUnprotect key ak d).status ∈
    [Status.success, .flagsInvalid, .lengthMismatch, .unsupportedParam, .keyUseDenied, .outOfRange, .signatureInvalid] := by
  unfold maldinUnprotect
  dsimp only
  split
  next h => grind [dlmsCheck_status h]
  next =>
    split
    next => simp
    next h => grind [dlmsUnprotect_error h]

theorem maldinUnprotect_counter {key ak : Option JobKey} {d : Bytes} (h : (maldinUnprotect key ak d).counter = true) :
    dlmsCounterOk (maldinRecord d) = false := by
  simp only [maldinUnprotect] at h
  split at h
  next => cases h
  next =>
    split at h
    next => cases h
    next => simpa using h

theorem maldinDerive_status (key : Option JobKey) (d : Bytes) :
    (maldinDerive key d).status ∈ [Status.success, .flagsInvalid, .lengthMismatch, .keyUseDenied] := by
  unfold maldinDerive
  dsimp only
  split
  next h => exact List.mem_cons_of_mem _ (graftCheck_status h)
  next => simp

theorem maldinDerive_counter (key : Option JobKey) (d : Bytes) : (maldinDerive key d).counter = false := by
  unfold maldinDerive
  dsimp only
  split <;> rfl

/-- A command that draws blinding and gets none answers with the DRBG's status (R236, R473). -/
theorem blinded_of_not_served {s : State} (h : s.drawFate false ≠ .served) (out : MaldinOut) :
    ∃ st ∈ [Status.entropyNotReady, .entropyFailed], s.blinded out = (s, { status := st }) := by
  unfold State.blinded State.drawBlinding
  cases hd : s.drawFate false with
  | served => exact absurd hd h
  | waits => exact ⟨.entropyNotReady, by simp, rfl⟩
  | failed => exact ⟨.entropyFailed, by simp, rfl⟩

/-! ### The acceptance of a frame (R468, R475) -/

/-- From `u` to `x` only a time mark, the Express counters and arrivals, and the number of the next frame have changed. -/
def AcceptanceFrame (u x : State) : Prop :=
  x = { u with
    journal.timeMark := x.journal.timeMark, express.p0 := x.express.p0, express.p4 := x.express.p4, express.nextFrame := x.express.nextFrame }

theorem AcceptanceFrame.trans {u v x : State} (a : AcceptanceFrame u v) (b : AcceptanceFrame v x) : AcceptanceFrame u x := by
  unfold AcceptanceFrame at *
  rw [a] at b
  exact b

theorem ensureMark_acceptance (s : State) : AcceptanceFrame s s.ensureMark := by
  unfold State.ensureMark
  split <;> rfl

theorem modExpress_acceptance (s : State) (p : Nat) (g : ExpressPort → ExpressPort) : AcceptanceFrame s (s.modExpress p g) := by
  unfold State.modExpress
  split <;> rfl

theorem acceptFrame_acceptance (s : State) (f : MaldinFrame) (out : MaldinOut) : AcceptanceFrame s (s.acceptFrame f out).1 := by
  have hcount (x : State) (i : Nat) : AcceptanceFrame x (x.countExpress f.port i) := modExpress_acceptance x _ _
  have hexcess (x : State) (b : Bool) : AcceptanceFrame x (if b then x.countExpress f.port 8 else x) := by
    split
    · exact hcount x 8
    · rfl
  exact ((((ensureMark_acceptance s).trans (hcount _ 0)).trans (hexcess _ _)).trans (modExpress_acceptance _ _ _)).trans rfl

theorem AcceptanceFrame.frames {u x : State} (h : AcceptanceFrame u x) : x.express.frames = u.express.frames := by rw [h]
theorem AcceptanceFrame.rng {u x : State} (h : AcceptanceFrame u x) : x.rng = u.rng := by rw [h]
theorem AcceptanceFrame.expressEngines {u x : State} (h : AcceptanceFrame u x) (p : Pool) : x.expressEngines p = u.expressEngines p := by
  rw [h]
  rfl

/-! ### Dispatch to a reserved engine (R464, R476) -/

/-- Folding a step that always finds something over a list that is not empty finds something. -/
theorem foldl_isSome {α β : Type} {g : Option β → α → Option β} (h : ∀ b a, (g b a).isSome = true) {l : List α} (hl : l ≠ []) (b : Option β) :
    (l.foldl g b).isSome = true := by
  obtain rfl | ⟨l', a, rfl⟩ := l.eq_nil_or_concat
  · exact absurd rfl hl
  · rw [List.concat_eq_append, List.foldl_concat]
    exact h _ a

/-- Of reserved engines in service one is free first. -/
theorem frameEngine_isSome {s : State} {p : Pool} (h : s.expressEngines p ≠ []) : (s.frameEngine p).isSome = true := by
  refine foldl_isSome (fun b a => ?_) (by simpa using h) none
  cases b with
  | none => rfl
  | some b => dsimp only; split <;> rfl

/-- A frame dispatched with a reserved engine in service keeps what its command answers. -/
theorem dispatchFrame_of_engines {s : State} {x : MaldinJob} (h : s.expressEngines (framePool x.frame) ≠ []) (start : Nat) :
    ∃ i ready, s.dispatchFrame start x = { x with engine := some i, readyAt := ready } := by
  obtain ⟨⟨i, free⟩, hi⟩ := Option.isSome_iff_exists.mp (frameEngine_isSome h)
  simp only [State.dispatchFrame, hi]
  exact ⟨i, _, rfl⟩

/-- From `v` to `y` the module has accepted frame `f` as `x`, whose command runs on a reserved engine and answers `out`. -/
structure Serves (v : State) (f : MaldinFrame) (out : MaldinOut) (y : State) (x : MaldinJob) : Prop where
  frames : y.express.frames = v.express.frames ++ [x]
  frame : x.frame = f
  rng : y.rng = v.rng
  engine : x.engine.isSome = true
  status : x.status = out.status
  counter : x.counterRefusal = out.counter

/-- With a reserved engine in service, a command that leaves the state as it is runs. -/
theorem runFrame_serves {v : State} {f : MaldinFrame} (h : v.expressEngines (framePool f) ≠ []) (keys : List JobKey)
    {run : State → State × MaldinOut} {out : MaldinOut} (hrun : run v = (v, out)) : ∃ x, Serves v f out (v.runFrame f keys run) x := by
  have hbusy : (v.expressEngines (framePool f)).isEmpty = false := by simpa using h
  have ha := acceptFrame_acceptance v f out
  obtain ⟨i, ready, hx⟩ := dispatchFrame_of_engines (s := (v.acceptFrame f out).1)
    (x := { (v.acceptFrame f out).2 with records := keys.map (·.record) }) (by rw [ha.expressEngines]; exact h)
    ((v.acceptFrame f out).1.clock.now + stageDelay "express dispatch" (v.acceptFrame f out).2.id 400 1300)
  refine ⟨{ (v.acceptFrame f out).2 with records := keys.map (·.record), engine := some i, readyAt := ready }, ?_⟩
  simp only [State.runFrame, hbusy, Bool.false_eq_true, if_false, hrun, hx]
  exact ⟨congrArg (· ++ [_]) ha.frames, rfl, ha.rng, rfl, rfl, rfl⟩

/-! ### The rows of the commands -/

/-- A frame of the row's command that passes every check of R468, with the keys it resolves to and a reserved engine in service. -/
structure Passes (u v : State) (f : MaldinFrame) (key ak : Option JobKey) : Prop where
  link : u.linkIsUp f.port = true
  addressed : u.frameAddressed f = true
  kept : u.frameDrop f = none
  len : dataLenOk (frameCmd f) (frameSlot f) (frameLen f) = true
  keys : u.maldinKeys f = (v, .ok (key, ak))
  engines : v.expressEngines (framePool f) ≠ []

/-- Such a frame is served: its command's outcome is what `run` answers on its keys and data. -/
theorem receiveFrame_serves {u v : State} {f : MaldinFrame} {key ak : Option JobKey} (h : Passes u v f key ak) {c : Nat} (hc : frameCmd f = c)
    {run : State → Option JobKey → Option JobKey → Bytes → State × MaldinOut} {out : MaldinOut}
    (hrun : run v key ak (frameData f) = (v, out)) :
    ∃ x, Serves v f out (u.receiveFrame f (frameCmd f == c) fun s => s.serveFrame f run) x := by
  have hreceive : (u.receiveFrame f (frameCmd f == c) fun s => s.serveFrame f run) = u.serveFrame f run := by
    simp [State.receiveFrame, hc, h.link, h.addressed, h.kept]
  have hserve : u.serveFrame f run = v.runFrame f (key.toList ++ ak.toList) fun s => run s key ak (frameData f) := by
    simp [State.serveFrame, h.len, h.keys]
  rw [hreceive, hserve]
  exact runFrame_serves h.engines _ hrun

/-- The command draws nothing and answers no RNG_FAIL; COUNTER is the counter refusal of an UNPROTECT record (R473). -/
def NoDraw (v : State) (f : MaldinFrame) (y : State) (x : MaldinJob) : Prop :=
  y.rng = v.rng ∧ x.engine.isSome = true ∧ mStatus x.status x.counterRefusal ≠ 8 ∧
    (x.counterRefusal = true → frameCmd f = 5 ∧ dlmsCounterOk (maldinRecord (frameData f)) = false)

/-- A row whose command draws blinding answers RNG_FAIL where the DRBG does not serve the draw (R236, R473). -/
theorem answers_rngFail {u v : State} {f : MaldinFrame} {key ak : Option JobKey} (h : Passes u v f key ak) {c : Nat} (hc : frameCmd f = c)
    (hd : v.drawFate false ≠ .served) {run : State → Option JobKey → Option JobKey → Bytes → State × MaldinOut} {out : MaldinOut}
    (hrun : run v key ak (frameData f) = v.blinded out) :
    Answers (.next (u.receiveFrame f (frameCmd f == c) fun s => s.serveFrame f run)) fun y =>
      ∃ x, y.express.frames = v.express.frames ++ [x] ∧ x.frame = f ∧ mStatus x.status x.counterRefusal = 8 := by
  obtain ⟨st, hst, hb⟩ := blinded_of_not_served hd out
  obtain ⟨x, hx⟩ := receiveFrame_serves h hc (hrun.trans hb)
  exact ⟨_, rfl, x, hx.frames, hx.frame, (mStatus_eq_rngFail_iff _ _).mpr (hx.status ▸ hst)⟩

/-- A row whose command leaves the state as it is and answers a status that is not the DRBG's draws nothing. -/
theorem answers_noDraw {u v : State} {f : MaldinFrame} {key ak : Option JobKey} (h : Passes u v f key ak) {c : Nat} (hc : frameCmd f = c)
    {run : State → Option JobKey → Option JobKey → Bytes → State × MaldinOut} {out : MaldinOut}
    (hrun : run v key ak (frameData f) = (v, out)) {l : List Status} (hout : out.status ∈ l)
    (hl : ∀ st ∈ l, st ∉ [Status.entropyNotReady, .entropyFailed])
    (hcounter : out.counter = true → c = 5 ∧ dlmsCounterOk (maldinRecord (frameData f)) = false) :
    Answers (.next (u.receiveFrame f (frameCmd f == c) fun s => s.serveFrame f run)) fun y =>
      ∃ x, y.express.frames = v.express.frames ++ [x] ∧ x.frame = f ∧ NoDraw v f y x := by
  obtain ⟨x, hx⟩ := receiveFrame_serves h hc hrun
  have hst : mStatus x.status x.counterRefusal ≠ 8 := by
    rw [ne_eq, mStatus_eq_rngFail_iff, hx.status]
    exact hl _ hout
  exact ⟨_, rfl, x, hx.frames, hx.frame, hx.rng, hx.engine, hst, fun hr => hc ▸ hcounter (hx.counter ▸ hr)⟩

/-- Settles O28: a passing frame is served with what its command answers; ECDSA_SIGN and ECDH answer the DRBG's status where it does not serve
their draw, and no status that the others can answer is the DRBG's. -/
theorem maldinStatusCodes : Obligations.MaldinStatusCodes := by
  unfold Obligations.MaldinStatusCodes
  refine ⟨mStatus_table, fun j hj _ => byteAt_maldinReply_mStatus hj, ?_⟩
  rintro s _ v t f key ak rfl hlink haddressed hkept hlen hkeys hengines
  have hp : Passes (s.advance t) v f key ak := ⟨hlink, haddressed, hkept, hlen, hkeys, hengines⟩
  refine ⟨fun hc hd => ?sign, fun hc hd => ?agree, fun hc => ?verify, fun hc => ?protect, fun hc => ?unprotect, fun hc => ?derive⟩
  case sign => exact answers_rngFail hp hc hd (run := State.ecdsaSignFrame) rfl
  case agree => exact answers_rngFail hp hc hd (run := State.ecdhFrame) rfl
  case verify =>
    exact answers_noDraw hp hc (run := State.ecdsaVerifyFrame) rfl (ecdsaVerifyResult_status v _) (by decide) (by simp [replyOf])
  case protect =>
    exact answers_noDraw hp hc (run := State.protectFrame) rfl (maldinProtect_status key ak _) (by decide) (by simp [maldinProtect_counter])
  case unprotect =>
    exact answers_noDraw hp hc (run := State.unprotectFrame) rfl (maldinUnprotect_status key ak _) (by decide)
      fun h => ⟨rfl, maldinUnprotect_counter h⟩
  case derive =>
    exact answers_noDraw hp hc (run := State.deriveFrame) rfl (maldinDerive_status key _) (by decide) (by simp [maldinDerive_counter])

end Sys2Proof.Machine
end

/-!
The Boot Digest unit after DONE (17 R500): what the unit does with bytes once its message has ended, and the two writers' and NOR's way to it.
-/
section
namespace Sys2Proof.Machine

/-- Bytes after the end are the first of a new message (R500). -/
theorem BootDigest.absorb_done {u : BootDigest} {b : Bytes} (hdone : u.done = true) (hb : b ≠ []) :
    u.absorb b = { u with absorbed := b, done := false, whole := false, busy := true } := by
  simp [BootDigest.absorb, hdone, hb]

theorem State.bdDo_up {s : State} (hup : s.bdUp = true) (g : BootDigest → BootDigest) : s.bdDo g = { s with bd := g s.bd } := if_pos hup

/-- Snooped bytes reach a unit that has its clock (R497). -/
theorem State.norRead_snooped {s : State} {bank off len : Nat} (hup : s.bdUp = true) (hsnoop : s.bd.snoop = true) (hbank : bank < 2)
    (hoff : off + len ≤ bankSize) :
    s.norRead bank off len = { s with bd := s.bd.absorb ((List.range len).map fun k => s.norByte bank (off + k)) } := by
  unfold State.norRead
  rw [if_pos (by simp [hsnoop, hbank, hoff]), State.bdDo_up hup]

/-- Without DONE the comparator drives neither output (R499, R501). -/
theorem BootDigest.outputs_not_done {d : BootDigest} (h : d.done = false) : d.eq = false ∧ d.eqN = false := by
  simp [BootDigest.eq, BootDigest.eqN, h]

/-- Settles O50: both writers' bytes and the snooped ones are absorbed by a unit whose message has ended, which starts a new one. -/
theorem digestRestarts : Obligations.DigestRestarts := by
  unfold Obligations.DigestRestarts Gives
  rintro s u t rfl hup hdone
  refine ⟨fun owner data hlen => ?written, fun bank off len hbank hoff hlen hsnoop => ?snooped, fun d => BootDigest.outputs_not_done⟩
  case written =>
    have hdata : data ≠ [] := List.ne_nil_of_length_pos (by omega)
    calc exec (.bdDataWrite t owner data) s
        = .next (if data.length == 8 then (s.advance t).bdDo fun d => d.absorb data else s.advance t) := rfl
      _ = _ := by rw [if_pos (beq_iff_eq.mpr hlen), State.bdDo_up hup, BootDigest.absorb_done hdone hdata]
  case snooped =>
    have hread : ((List.range len).map fun k => (s.advance t).norByte bank (off + k)) ≠ [] := List.ne_nil_of_length_pos (by simpa using hlen)
    calc exec (.norReadSnooped t bank off len) s
        = .next ((s.advance t).norRead bank off len) := rfl
      _ = _ := by rw [State.norRead_snooped hup hsnoop hbank hoff, BootDigest.absorb_done hdone hread]

end Sys2Proof.Machine
end

/-!
Fuses are only blown (17 R478 to R490, R495; 18 R530). What blows them is in Laws/Burns, what leaves them alone in Laws/Fuses; here every command
is led to one of the two: it runs the mailbox, or waiting commands go on after it, or it leaves the fuses as they are.
-/
section
namespace Sys2Proof.Machine

/-! ### Maldin frames leave the fuses alone -/

theorem State.runFrame_fuses (s : State) (f : MaldinFrame) (keys : List JobKey) {run : State → State × MaldinOut}
    (hrun : ∀ u, (run u).1.fuses = u.fuses) : (s.runFrame f keys run).fuses = s.fuses := by
  have hstart : (if (s.expressEngines (framePool f)).isEmpty then (s, { status := .engineUnavailable }) else run s).1.fuses = s.fuses := by
    split
    · rfl
    · exact hrun s
  unfold State.runFrame
  simp only [State.keepFrame_fuses, State.acceptFrame_fuses]
  exact hstart

theorem State.serveFrame_fuses (s : State) (f : MaldinFrame) {run : State → Option JobKey → Option JobKey → Bytes → State × MaldinOut}
    (hrun : ∀ u key ak d, (run u key ak d).1.fuses = u.fuses) : (s.serveFrame f run).fuses = s.fuses := by
  unfold State.serveFrame
  split
  · exact State.refuseFrame_fuses _ _ _
  · split
    · rename_i hkeys
      exact (State.refuseFrame_fuses _ _ _).trans (State.maldinKeys_fuses_eq s f hkeys)
    · rename_i hkeys
      exact (State.runFrame_fuses _ _ _ fun u => hrun u _ _ _).trans (State.maldinKeys_fuses_eq s f hkeys)

theorem State.receiveFrame_fuses (s : State) (f : MaldinFrame) (mine : Bool) {accept : State → State}
    (haccept : ∀ u, (accept u).fuses = u.fuses) : (s.receiveFrame f mine accept).fuses = s.fuses := by
  unfold State.receiveFrame
  split
  · rfl
  · split
    · exact State.countPort_fuses _ _ _ _
    · split
      · exact State.countExpress_fuses _ _ _
      · exact haccept s

/-! ### From what a command answers to what it blows -/

theorem burned_of_next {s v s' : State} (h : Host.Outcome.next v = (.next s' : Host.Outcome State Fault Refusal)) (hv : Burned s v) :
    Burned s s' := Host.Outcome.next.inj h ▸ hv

/-- A command that leaves the fuses as they are. -/
theorem burned_of_keeps {s v s' : State} (h : Host.Outcome.next v = (.next s' : Host.Outcome State Fault Refusal)) (hv : v.fuses = s.fuses) :
    Burned s s' := burned_of_next h (burned_of_eq hv)

/-- A command that says VIN; above 60 V there is no next state (R536). -/
theorem burned_of_withVin {vin : Nat} {s v s' : State} (h : withVin vin v = .next s') (hv : Burned s v) : Burned s s' := by
  unfold withVin at h
  split at h
  · cases h
  · exact burned_of_next h hv

/-- A Maldin frame that arrives at an instant. -/
theorem burned_of_frame {s s' : State} {t : Nat} {f : MaldinFrame} {mine : Bool} {accept : State → State}
    (h : Host.Outcome.next ((s.advance t).receiveFrame f mine accept) = (.next s' : Host.Outcome State Fault Refusal))
    (haccept : ∀ u, (accept u).fuses = u.fuses) : Burned s s' :=
  burned_of_keeps h ((State.receiveFrame_fuses _ _ _ haccept).trans (State.advance_fuses _ _))

/-- An RDMA WRITE that arrives at an instant. -/
theorem State.rdmaWrite_placePacket_fuses (s : State) (t conn rkey addr : Nat) (data : Bytes) :
    ((s.advance t).rdmaWrite conn rkey addr data (State.placePacket conn)).fuses = s.fuses :=
  (State.rdmaWrite_fuses _ _ _ _ _ _ (State.placePacket_fuses conn)).trans (State.advance_fuses s t)

theorem shutdownRow_burned (s : State) (p : Nat → Bool) (conn : Nat) (msg : Bytes) : Burned s (s.shutdownRow p conn msg) := by
  unfold State.shutdownRow
  split
  · exact mbRow_burned _ _ _ _ _
  · exact burned_of_eq rfl

theorem execUnknownOpcodeEntry_burned {t job : Nat} {s s' : State} (h : execUnknownOpcodeEntry t job s = .next s') : Burned s s' := by
  unfold execUnknownOpcodeEntry at h
  simp only [] at h
  split at h
  · exact burned_of_keeps h (by split <;> simp)
  · exact burned_of_keeps h (State.advance_fuses s t)

theorem execNop_burned {t job : Nat} {s s' : State} (h : execNop t job s = .next s') : Burned s s' := by
  unfold execNop at h
  simp only [] at h
  split at h
  · exact burned_of_keeps h (by simp)
  · exact burned_of_keeps h (State.advance_fuses s t)

/-! ### Every command, and every step -/

/-- The fuses of each command: blown by the mailbox it runs, or left as they are by its own effect. -/
theorem exec_burned (i : Instr) (s s' : State) (h : exec i s = .next s') : Burned s s' := by
  have hadv (t : Nat) : (s.advance t).fuses = s.fuses := State.advance_fuses s t
  cases i with
  -- mailbox commands
  | powerStatus t conn msg inputMw lidMc | entropyTestRead t conn msg samples failRep failProp | helloChallenge t conn msg
  | helloProve t conn msg | vintageGet t conn msg | moduleInfo t conn msg | sessionClose t conn msg | quoteGet t conn msg
  | rngInfo t conn msg | wqCreate t conn msg | wqDestroy t conn msg | crCreate t conn msg | crDestroy t conn msg | wqInfo t conn msg
  | connInfo t conn msg | carriageCreate t conn msg | carriageResize t conn msg | carriageDisable t conn msg | carriageReset t conn msg
  | carriageDestroy t conn msg | pmapSet t conn msg | windowSet t conn msg | carriageInfo t conn msg | cellarStatus t conn msg
  | slotShare t conn msg | slotUnshare t conn msg | slotDestroy t conn msg | slotInfo t conn msg | lowThresholdSet t conn msg
  | wrapkeyRoll t conn msg | bookExportSet t conn msg | bookRead t conn msg | leafRelease t conn msg | leafReleaseGet t conn msg
  | leafAccept t conn msg | identityCertGet t conn msg | provisionImport t conn msg | trainStatus t conn msg | rosterSet t conn msg
  | trainJoin t conn msg | trainLeave t conn msg | rosterGet t conn msg | vinWarnSet t conn msg | deratedClear t conn msg
  | pressShareSet t conn msg | entropyTestEnter t conn msg | provisioningEnter t conn msg | provisioningExit t conn msg
  | lcTransition t conn msg | debugChallenge t conn msg | debugAuth t conn msg | fwStage t conn msg | fwCommit t conn msg
  | fwConfirm t conn msg | patchLoad t conn msg | fwStatus t conn msg | eringCreate t conn msg | eringDestroy t conn msg
  | efilterLoad t conn msg | expressEnable t conn msg | expressDisable t conn msg | expressStatus t conn msg | portConfig t conn msg
  | classifierLoad t conn msg | portStatus t conn msg | tastingSet t conn msg | tastingLoad t conn msg | tastingResults t conn msg
  | fuseRepair t conn msg =>
    exact burned_of_next h (mbRow_after (hadv t) _ _ _ _)
  | shutdownWakeStandby t conn msg | shutdownWakeReset t conn msg | shutdownWakeWake t conn msg =>
    exact burned_of_next h (burned_trans (burned_eq_left (hadv t) (shutdownRow_burned _ _ _ _)) (resume_burned _))
  | mbUnknownCommand t conn msg =>
    refine burned_of_next h (burned_trans ?_ (resume_burned _))
    split
    · exact burned_of_eq (hadv t)
    · exact burned_eq_left (hadv t) (mbReceive_burned _ _ _ _)
  -- commands after which the mailbox and the jobs go on
  | schedulingEpoch t | recordWaitTimeout t who | keyChangePlaceTimeout t | shutdownDrainDone t | jobRelease t job | recoveryEnd t
  | cmDreq t conn | connectionError t conn cause | rdmaReadRequest t conn rkey addr len | rdmaReadResponse t conn id data
  | rdmaAck t conn nak | rnrNak t conn | transportRetryTimer t conn | noiseBit t cell raw | cellStallTimeout t cell
  | conditionedBlock t agree | drbgInstantiate t katOk | maskSeedRefill t tile | rngDataRead t | consIndexReadDone t ring value
  | trainHelloReply t m | trainHelloConfirm t m | trainLive t m | trainDigest t m | trainPush t m =>
    exact burned_of_next h (resume_after (by simp))
  | reseedTimer t katOk | reseedCallCount t katOk | reseedDueTimeout t =>
    exact burned_of_next h (resume_after (by split <;> simp))
  | carriageMemoryWrite t conn rkey addr data =>
    exact burned_of_next h (resume_after (State.rdmaWrite_placePacket_fuses s t conn rkey addr data))
  | holdExit t vin =>
    exact burned_of_withVin h (resume_after (by simp))
  | joinTimeout t | joinCatchUpDone t =>
    refine burned_of_next h ?_
    split
    · exact resume_after (by simp)
    · exact burned_of_eq (hadv t)
  | maldinReplySend t frame =>
    refine burned_of_next h ?_
    split
    · split
      · exact resume_after (by simp)
      · exact burned_of_eq (hadv t)
    · exact burned_of_eq (hadv t)
  -- commands that leave the fuses as they are
  | vinStart t vin | nresetDeassert t vin | vinReset t vin | vinWarnCrossing t vin | deratedExitTimer t vin | ladderStepUp t vin
  | inputPowerOver t currentMa vin | currentLimit t rail currentMa vin =>
    exact burned_of_withVin h (burned_of_eq (by simp))
  | vinLowDerate t vin =>
    exact burned_of_withVin h (burned_of_eq (by split <;> simp))
  | maldinEcdsaSign t f => exact burned_of_frame h fun u => State.serveFrame_fuses u f State.ecdsaSignFrame_fuses
  | maldinEcdsaVerify t f => exact burned_of_frame h fun u => State.serveFrame_fuses u f State.ecdsaVerifyFrame_fuses
  | maldinEcdh t f => exact burned_of_frame h fun u => State.serveFrame_fuses u f State.ecdhFrame_fuses
  | maldinDlmsProtect t f => exact burned_of_frame h fun u => State.serveFrame_fuses u f State.protectFrame_fuses
  | maldinDlmsUnprotect t f => exact burned_of_frame h fun u => State.serveFrame_fuses u f State.unprotectFrame_fuses
  | maldinKeyDerive t f => exact burned_of_frame h fun u => State.serveFrame_fuses u f State.deriveFrame_fuses
  | maldinBadCommand t f => exact burned_of_frame h fun u => State.refuseFrame_fuses u f .unknownOpcode
  | ringEntryWrite t conn rkey addr data | doorbell t conn offset data | creditWord t conn offset data =>
    exact burned_of_keeps h (State.rdmaWrite_placePacket_fuses s t conn _ _ data)
  | unknownOpcodeEntry t job => exact execUnknownOpcodeEntry_burned h
  | nop t job => exact execNop_burned h
  | lcTransitionReset t | debugChallengeExpiry t =>
    refine burned_of_keeps h ?_
    split
    · split <;> simp
    · exact hadv t
  | tamperIn t n =>
    refine burned_of_keeps h ?_
    split
    · exact hadv t
    · split <;> simp
  | mcelieceEncaps t job | bdDataWrite t owner data | hashCoreFault t core signatureCheck | gddr7Uncorrectable t component row region target
  | gddr7CorrectedRate t component count | nwake t | junctionOvertemp t | tamperMesh t | vbatLow t | ptpDelayResp t port master delay member
  | checkpointCount t =>
    exact burned_of_keeps h (by split <;> simp)
  -- every other command, by the lemmas of Laws/Fuses on its own effect
  | _ => exact burned_of_keeps h (by simp)

/-- A step blows fuses and clears none. -/
theorem step_burned (s s' : State) (h : step s = .next s') : Burned s s' := by
  unfold step at h
  split at h
  · exact burned_of_next h (burned_eq_left (by simp) (idleFuses_burned _))
  · rename_i c rest _
    exact burned_eq_left (b := { s with pending := rest }) rfl (exec_burned c _ _ h)

/-! ### The codes of the states (R478, R480) -/

theorem mem_codes_of_isSome {c : Nat} (h : (lcOfCode c).isSome = true) : c ∈ [1, 3, 7, 0xF, 0x1F, 0xFF] := by
  unfold lcOfCode at h
  split at h <;> simp_all

theorem codes_bitsKept : ∀ a ∈ [1, 3, 7, 0xF, 0x1F, 0xFF], ∀ b ∈ [1, 3, 7, 0xF, 0x1F, 0xFF], a ≤ b → bitsKept a b := by
  unfold bitsKept
  decide

/-- Settles O4: the six codes are an ascending chain of bits, and every command, as the idle step, blows fuses and clears none. -/
theorem fusesOnlyBurn : Obligations.FusesOnlyBurn := by
  unfold Obligations.FusesOnlyBurn
  exact ⟨fun a b ha hb => codes_bitsKept a (mem_codes_of_isSome ha) b (mem_codes_of_isSome hb), step_burned⟩

end Sys2Proof.Machine
end

/-!
Results of the routines on engines, class by class (04 to 10). Each clause names the routine's result and what it does to the running job.
-/
section
namespace Sys2Proof.Machine

/-! ### From a routine's result to the state it leaves -/

section
variable {u : State} {id : Nat} {op : Op} {j : Job} {f : State → Job → OpResult} {rel : List (Option Nat)}

/-- A routine that gives an output yields it. -/
theorem runOp_yields_of_output {out : Bytes} (h : Running u id op j) (hf : f u j = { output := out, rel := rel }) :
    Yields (.next (u.runOp id op f)) u id j out :=
  runOp_yields h (by rw [hf]) (by rw [hf])

/-- A routine that refuses ends the job with its status. -/
theorem runOp_endsWith_of_failed {st : Status} (h : Running u id op j) (hn : st ≠ .success) (hf : f u j = .failed st rel) :
    EndsWith (.next (u.runOp id op f)) u id j st :=
  runOp_endsWith h (by rw [hf]; rfl) hn
end

/-! ### ML-KEM and the hybrid (04 R115 to R120, R131, R133) -/

section
variable {j : Job} (s : State)

theorem mlKemEncapsResult_refused (hk : j.kind = .none) (he : ekOk j.input = false) :
    mlKemEncapsResult s j = .failed .malformedEncoding (latticeTime .mlKemEncaps j.param) := by
  simp [mlKemEncapsResult, hk, he]

theorem mlKemEncapsResult_input (hk : j.kind = .none) (he : ekOk j.input = true) :
    mlKemEncapsResult s j = { output := s.placedSecret j (kemEncK j.param j.input j.own) ++ kemEncC j.param j.input j.own,
                              rel := latticeTime .mlKemEncaps j.param } := by
  simp [mlKemEncapsResult, hk, he]

/-- The ek of a key is not checked (R118). -/
theorem mlKemEncapsResult_key (hk : j.kind ≠ .none) :
    mlKemEncapsResult s j =
      { output := s.placedSecret j (kemEncK j.param (kemEk j.param j.material) j.own) ++ kemEncC j.param (kemEk j.param j.material) j.own,
        rel := latticeTime .mlKemEncaps j.param } := by
  simp [mlKemEncapsResult, hk]

theorem mlKemEkCheckResult_ok (he : ekOk j.input = true) : mlKemEkCheckResult s j = { rel := latticeTime .mlKemEkCheck j.param } := by
  simp [mlKemEkCheckResult, he]

theorem mlKemEkCheckResult_refused (he : ekOk j.input = false) :
    mlKemEkCheckResult s j = .failed .malformedEncoding (latticeTime .mlKemEkCheck j.param) := by
  simp [mlKemEkCheckResult, he]

theorem mlKemEncapsInternalResult_refused (he : ekOk (j.input.take (mlKemEk j.param)) = false) :
    mlKemEncapsInternalResult s j = .failed .malformedEncoding (latticeTime .mlKemEncapsInternal j.param) := by
  simp [mlKemEncapsInternalResult, he]

theorem mlKemEncapsInternalResult_ok (he : ekOk (j.input.take (mlKemEk j.param)) = true) :
    mlKemEncapsInternalResult s j =
      { output := kemEncK j.param (j.input.take (mlKemEk j.param)) (j.input.drop (mlKemEk j.param)) ++
          kemEncC j.param (j.input.take (mlKemEk j.param)) (j.input.drop (mlKemEk j.param)),
        rel := latticeTime .mlKemEncapsInternal j.param } := by
  simp [mlKemEncapsInternalResult, he]

/-- The ek comes before the shared value (R133). -/
theorem hybridRespondResult_badKey (he : ekOk (j.input.take 1184) = false) :
    hybridRespondResult s j = .failed .malformedEncoding (hybridTime .hybridRespond) := by
  simp [hybridRespondResult, he]

theorem hybridRespondResult_zero (he : ekOk (j.input.take 1184) = true)
    (hz : allZero (x25519Shared (slice j.own 32 32) (j.input.drop 1184)) = true) :
    hybridRespondResult s j = .failed .outOfRange (hybridTime .hybridRespond) := by
  simp [hybridRespondResult, he, hz]

theorem hybridRespondResult_ok (he : ekOk (j.input.take 1184) = true)
    (hz : allZero (x25519Shared (slice j.own 32 32) (j.input.drop 1184)) = false) :
    hybridRespondResult s j =
      { output := s.placedSecret j (kemEncK 2 (j.input.take 1184) (j.own.take 32) ++ x25519Shared (slice j.own 32 32) (j.input.drop 1184)) ++
          kemEncC 2 (j.input.take 1184) (j.own.take 32) ++ x25519Pub (slice j.own 32 32),
        rel := hybridTime .hybridRespond } := by
  simp [hybridRespondResult, he, hz]

theorem hybridInitFinishResult_zero (hz : allZero (x25519Shared (slice j.material 64 32) (j.input.drop 1088)) = true) :
    hybridInitFinishResult s j = .failed .outOfRange (hybridTime .hybridInitFinish) := by
  simp [hybridInitFinishResult, hz]

theorem hybridInitFinishResult_ok (hz : allZero (x25519Shared (slice j.material 64 32) (j.input.drop 1088)) = false) :
    hybridInitFinishResult s j =
      { output := s.placedSecret j
          (kemDecK 2 (j.material.take 64) (j.input.take 1088) ++ x25519Shared (slice j.material 64 32) (j.input.drop 1088)),
        rel := hybridTime .hybridInitFinish } := by
  simp [hybridInitFinishResult, hz]
end

/-- Settles O8: each routine's result, by the outcome of its checks. -/
theorem kemResults : Obligations.KemResults := by
  unfold Obligations.KemResults
  refine ⟨?mlKem, ?hybrid⟩
  case mlKem =>
    rintro s u t id j rfl
    refine ⟨fun h => runOp_yields_of_output h rfl, fun h => ⟨?_, ?_, ?_⟩, fun h => runOp_yields_of_output h rfl, fun h => ⟨?_, ?_⟩,
      fun h => runOp_yields_of_output h rfl, fun h => ⟨?_, ?_⟩⟩
    · exact fun hk he => runOp_endsWith_of_failed h (by decide) (mlKemEncapsResult_refused _ hk he)
    · exact fun hk he => runOp_yields_of_output h (mlKemEncapsResult_input _ hk he)
    · exact fun hk => runOp_yields_of_output h (mlKemEncapsResult_key _ hk)
    · exact fun he => runOp_yields_of_output h (mlKemEkCheckResult_ok _ he)
    · exact fun he => runOp_endsWith_of_failed h (by decide) (mlKemEkCheckResult_refused _ he)
    · exact fun he => runOp_endsWith_of_failed h (by decide) (mlKemEncapsInternalResult_refused _ he)
    · exact fun he => runOp_yields_of_output h (mlKemEncapsInternalResult_ok _ he)
  case hybrid =>
    rintro s u t id j rfl
    refine ⟨fun h => runOp_yields_of_output h rfl, fun h => ⟨?_, ?_, ?_⟩, fun h => ⟨?_, ?_⟩⟩
    · exact fun he => runOp_endsWith_of_failed h (by decide) (hybridRespondResult_badKey _ he)
    · exact fun he hz => runOp_endsWith_of_failed h (by decide) (hybridRespondResult_zero _ he hz)
    · exact fun he hz => runOp_yields_of_output h (hybridRespondResult_ok _ he hz)
    · exact fun hz => runOp_endsWith_of_failed h (by decide) (hybridInitFinishResult_zero _ hz)
    · exact fun hz => runOp_yields_of_output h (hybridInitFinishResult_ok _ hz)

end Sys2Proof.Machine
end

section
namespace Sys2Proof.Machine

/-! ### HQC and Classic McEliece (05 R142 to R157) -/

section
variable {u : State} {id : Nat} {op : Op} {j : Job} {f : State → Job → OpResult}

/-- The result of a routine, as status and output together. -/
theorem runOp_yields_of_result {out : Bytes} (h : Running u id op j) (hf : (f u j).status = .success ∧ (f u j).output = out) :
    Yields (.next (u.runOp id op f)) u id j out :=
  runOp_yields h hf.1 hf.2
end

section
variable {u : State} {id : Nat} {j : Job}

/-- A KEYGEN whose dispatch has a successful attempt commits (R156). -/
theorem mceKeygen_of_attempt (h : Running u id .mcelieceKeygen j) (ha : mceAttempts j.param j.own ≤ 16) :
    u.mceKeygen id = u.runOp id .mcelieceKeygen mcelieceKeygenResult := by
  simp [State.mceKeygen, State.runOp, runs?_of_running h, ha]

/-- Without a handle no cached key is used. -/
theorem pkUse_of_no_handle {x : State} {k : Job} (hj : x.job? id = some k) (hh : k.handle = none) : x.pkUse id = x := by
  simp [State.pkUse, hj, hh]

/-- ENCAPS counts the use of a cached key after its routine. -/
theorem execMcelieceEncaps_running {s : State} {t : Nat} (h : Running (s.advance t) id .mcelieceEncaps j) :
    execMcelieceEncaps t id s = .next (((s.advance t).runOp id .mcelieceEncaps mcelieceEncapsResult).pkUse id) := by
  simp [execMcelieceEncaps, runs?_of_running h]

/-- A job that has ended has its handle still. -/
theorem Computed.pkUse {x : State} {st : Status} {out : Bytes} (hc : Computed u id j st out x) (hh : j.handle = none) : x.pkUse id = x := by
  obtain ⟨_, hj, -⟩ := hc.job
  exact pkUse_of_no_handle hj hh

theorem mceEncaps_without_handle {s : State} {t : Nat} {st : Status} {out : Bytes} (h : Running (s.advance t) id .mcelieceEncaps j)
    (hh : j.handle = none)
    (hc : Answers (.next ((s.advance t).runOp id .mcelieceEncaps mcelieceEncapsResult)) (Computed (s.advance t) id j st out)) :
    Answers (exec (.mcelieceEncaps t id) s) (Computed (s.advance t) id j st out) := by
  obtain ⟨_, ⟨⟩, hx⟩ := hc
  exact ⟨_, (execMcelieceEncaps_running h).trans (by rw [hx.pkUse hh]), hx⟩

end

/-- Settles O10: each routine's result, by the outcome of its checks. -/
theorem codeBasedResults : Obligations.CodeBasedResults := by
  unfold Obligations.CodeBasedResults
  refine ⟨?hqc, ?mceliece⟩
  case hqc =>
    rintro s u t id j rfl
    refine ⟨fun h => runOp_yields_of_output h rfl, fun h => ⟨?_, ?_⟩, fun h => runOp_yields_of_output h rfl,
      fun h => runOp_yields_of_output h rfl, fun h => ⟨?_, ?_⟩⟩
    · exact fun he => runOp_endsWith h (by simp [hqcEncapsResult, he, OpResult.failed]) (by decide)
    · exact fun he => runOp_yields_of_result h (by simp [hqcEncapsResult, he])
    · exact fun he => runOp_endsWith h (by simp [hqcEncapsInternalResult, he, OpResult.failed]) (by decide)
    · exact fun he => runOp_yields_of_result h (by simp [hqcEncapsInternalResult, he])
  case mceliece =>
    rintro s u t id j rfl
    refine ⟨fun h ha => ?_, fun h hh => ⟨fun hk he => ?_, fun ho => ?_⟩, fun h => runOp_yields_of_output h rfl, fun h => ⟨fun ha => ?_, fun ha => ?_⟩,
      fun h => ⟨fun ho => ?_, fun he hw => ?_⟩⟩
    · have hrun := runOp_yields_of_output (f := mcelieceKeygenResult) h rfl
      rw [← mceKeygen_of_attempt h ha] at hrun
      exact hrun
    · refine mceEncaps_without_handle h hh (runOp_endsWith h ?_ (by decide))
      simp_all [mcelieceEncapsResult, Job.mceKey, OpResult.failed]
    · refine mceEncaps_without_handle h hh (runOp_yields_of_result h ?_)
      by_cases hk : j.kind = .none
      · have he : mcePkOk j.param j.input = true := by simpa [hk] using ho
        simp [mcelieceEncapsResult, Job.mceKey, hk, hh, he]
      · simp [mcelieceEncapsResult, Job.mceKey, hk]
    · exact runOp_endsWith h (by simp [mcelieceKeygenInternalResult, ha, OpResult.failed]) (by decide)
    · exact runOp_yields_of_result h (by simp [mcelieceKeygenInternalResult, Nat.not_lt.mpr ha])
    · exact runOp_endsWith h (by simp [mcelieceEncapsInternalResult, ho, OpResult.failed]) (by decide)
    · exact runOp_yields_of_result h (by simp [mcelieceEncapsInternalResult, he, hw])

/-- Settles O57: PK_CACHE by the check of its key, ENCAPS through the handle's key, and a search that stops by the number of its stops. -/
theorem mcElieceCacheAndSearch : Obligations.McElieceCacheAndSearch := by
  unfold Obligations.McElieceCacheAndSearch
  rintro s _ t id j rfl
  refine ⟨fun h => ⟨fun he => ?refused, fun he => ⟨?cached, ⟨_, rfl⟩, ?check⟩⟩, fun e h hk hh => ?handle, fun h ha => ⟨_, rfl, ?stop⟩⟩
  case refused =>
    show Host.Outcome.next _ = _
    rw [State.mcePkCache, runs?_of_running h]
    simp [he]
  case cached =>
    show Host.Outcome.next _ = _
    rw [State.mcePkCache, runs?_of_running h]
    simp [he]
  case check => omega
  case handle =>
    have hrun := runOp_yields_of_result (f := mcelieceEncapsResult)
      (out := (s.advance t).placedSecret j (mceEncK j.param j.publicKey (mceSample j.param j.own)) ++
        mceEncC j.param j.publicKey (mceSample j.param j.own))
      h (by simp [mcelieceEncapsResult, Job.mceKey, hk, hh])
    obtain ⟨x, ⟨⟩, hx⟩ := hrun
    exact ⟨_, hx, execMcelieceEncaps_running h⟩
  case stop =>
    simp [State.mceStop, runs?_of_running h, Nat.not_le.mpr ha]

end Sys2Proof.Machine
end

section
namespace Sys2Proof.Machine

/-! ### SLH-DSA, LMS and XMSS (06 R172 to R192) -/

section
variable {u : State} {id : Nat} {j : Job} {ls : List TreeLevel}

theorem finish_success (out : Bytes) (rel : List (Option Nat)) (hj : u.job? id = some j) (hp : ∀ q ∈ j.parts, q.engine.isSome = true) :
    Computed u id j .success out (u.finish id { output := out, rel := rel }) :=
  finish_computed { output := out, rel := rel } hj hp

/-- A stateful signature counts the use of its trees, and then ends as any routine (R183, R189). -/
theorem statefulSign_computed {op : Op} {q : Nat} (h : Running u id op j) (hl : j.levels = some ls) (hq : j.leaf = some q) :
    Answers (.next (u.statefulSign id op)) (Computed (u.useTrees (refIndex j.keyRef) ls q) id j .success
      (statefulSig (op == .xmssSign) j.param ls j.material q j.input (u.cachedSig (refIndex j.keyRef)))) := by
  refine ⟨_, rfl, ?_⟩
  rw [State.statefulSign, runs?_of_running h]
  simp only [hl, hq]
  exact finish_success (u := u.useTrees (refIndex j.keyRef) ls q) _ _ h.found fun p hp => (h.parts p hp).1

/-- The public key and the rest of the input of a stateful verification (R191). -/
def statefulKeyOf (xmss : Bool) (j : Job) (ls : List TreeLevel) : Bytes × Bytes :=
  let pk := if j.kind = .none then j.input.take (statefulPkLen xmss j.param ls) else statefulPk xmss j.param j.material
  (pk, if j.kind = .none then j.input.drop pk.length else j.input)

/-- The signature has the length and form that its types ask for, and the standard's check accepts it (R191). -/
def statefulGood (xmss : Bool) (j : Job) (ls : List TreeLevel) : Prop :=
  let n := bitsOf j.aux 0 32
  let b := (statefulKeyOf xmss j ls).2
  let vs := verifyLevels xmss j.param ls (b.take n)
  statefulSigLen xmss j.param vs = n ∧ statefulFits xmss j.param vs (b.take n) = true ∧
    Config.stdHolds .treeVerify (if xmss then 8 else 7) [(statefulKeyOf xmss j ls).1, b.take n, b.drop n] = true

/-- The verification takes its condition in the order of R191. -/
theorem statefulVerify_eq {xmss : Bool} (hl : j.levels = some ls) :
    ∃ rel, (statefulGood xmss j ls → statefulVerify xmss u j = { rel := rel }) ∧
      (¬ statefulGood xmss j ls → statefulVerify xmss u j = .failed .signatureInvalid rel) := by
  simp only [statefulVerify, hl, beq_iff_eq]
  refine ⟨_, fun hg => if_pos ?_, fun hg => if_neg fun hc => hg ?_⟩
  · simpa only [statefulGood, statefulKeyOf, Bool.and_eq_true, beq_iff_eq, and_assoc] using hg
  · simpa only [statefulGood, statefulKeyOf, Bool.and_eq_true, beq_iff_eq, and_assoc] using hc

theorem statefulVerify_settles {op : Op} {xmss : Bool} (h : Running u id op j) (hl : j.levels = some ls) :
    (statefulGood xmss j ls → Yields (.next (u.runOp id op (statefulVerify xmss))) u id j []) ∧
      (¬ statefulGood xmss j ls → EndsWith (.next (u.runOp id op (statefulVerify xmss))) u id j .signatureInvalid) := by
  obtain ⟨rel, hgood, hbad⟩ := statefulVerify_eq (u := u) (xmss := xmss) hl
  exact ⟨fun hg => runOp_yields_of_output h (hgood hg), fun hg => runOp_endsWith_of_failed h (by decide) (hbad hg)⟩

theorem slhVerify_accepts {op : Op} {pre : Bool} (hv : Config.stdHolds .slhVerify j.param
      [if j.kind = .none then j.input.take (slhPk j.param) else j.material.drop (2 * slhN j.param),
        j.slhMessage pre ((if j.kind = .none then j.input.drop (slhPk j.param) else j.input).drop (slhSig j.param)),
        (if j.kind = .none then j.input.drop (slhPk j.param) else j.input).take (slhSig j.param)] = true) :
    slhVerify op pre j = { rel := slhTime op j } := by
  simp only [slhVerify, slhPkOf, beq_iff_eq, hv, if_true]

theorem slhVerify_refuses {op : Op} {pre : Bool} (hv : Config.stdHolds .slhVerify j.param
      [if j.kind = .none then j.input.take (slhPk j.param) else j.material.drop (2 * slhN j.param),
        j.slhMessage pre ((if j.kind = .none then j.input.drop (slhPk j.param) else j.input).drop (slhSig j.param)),
        (if j.kind = .none then j.input.drop (slhPk j.param) else j.input).take (slhSig j.param)] = false) :
    slhVerify op pre j = .failed .signatureInvalid (slhTime op j) := by
  simp only [slhVerify, slhPkOf, beq_iff_eq, hv, Bool.false_eq_true, if_false]
end

/-- Settles O11: SLH-DSA by the verdict of its check, a stateful signature by the leaf assigned, its verification by length, form and check. -/
theorem hashBasedResults : Obligations.HashBasedResults := by
  unfold Obligations.HashBasedResults
  refine ⟨?slh, ?stateful⟩
  case slh =>
    rintro s u t id j rfl
    refine ⟨fun h => runOp_yields_of_output h rfl, fun h => runOp_yields_of_output h rfl, fun h => runOp_yields_of_output h rfl,
      fun h => ⟨?_, ?_⟩, fun h => ⟨?_, ?_⟩, fun h => runOp_yields_of_output h rfl⟩
    · exact fun hv => runOp_yields_of_output h (slhVerify_accepts hv)
    · exact fun hv => runOp_endsWith_of_failed h (by decide) (slhVerify_refuses hv)
    · exact fun hv => runOp_yields_of_output h (slhVerify_accepts hv)
    · exact fun hv => runOp_endsWith_of_failed h (by decide) (slhVerify_refuses hv)
  case stateful =>
    rintro s u t id j ls rfl hl
    refine ⟨fun h q hq => statefulSign_computed h hl hq, fun h q hq => statefulSign_computed h hl hq, fun h => statefulVerify_settles h hl, fun h => statefulVerify_settles h hl⟩

end Sys2Proof.Machine
end

section
namespace Sys2Proof.Machine

/-! ### Digests, reads of keys, draws and quotes (06 R200; 09 R282, R304 to R306; 10 R321) -/

section
variable {u : State} {id : Nat} {j : Job}

theorem job?_of_runs {op : Op} (h : u.runs? id op = some j) : u.job? id = some j := by
  unfold State.runs? at h
  split at h
  · cases h
  · rename_i k hk
    rw [Option.ite_none_right_eq_some] at h
    exact hk.trans h.2

/-- A job is found after a change of its own record that keeps its number. -/
theorem job?_modJob_self (g : Job → Job) (hg : ∀ x, (g x).id = x.id) (hj : u.job? id = some j) : (u.modJob id g).job? id = some (g j) := by
  rw [State.job?_modJob u id id g hg, hj]
  simp

/-- Freeing banks changes no job. -/
theorem freeBanks_job? (p : Pool) (k part : Nat) (after : Bank) (n : Nat) : (u.freeBanks p k part after).job? n = u.job? n := by
  cases p <;> rfl

/-- A part that reaches staging keeps the job's claims. -/
theorem stagePart_claims {part : Nat} {p : Pool} (hj : u.job? id = some j) :
    ∃ k, (u.stagePart id part p).job? id = some k ∧ k.claims = j.claims := by
  refine ⟨_, job?_modJob_self _ (fun x => ?_) (job?_modJob_self _ (fun _ => rfl) ((freeBanks_job? p id part (afterJob p) id).trans hj)), ?_⟩
  · split <;> rfl
  · split <;> rfl

/-- A commit point keeps the job's claims, whatever the operation caches. -/
theorem commitPart_claims {part : Nat} (hj : u.job? id = some j) (hop : j.op ≠ some .mcelieceDecaps) :
    ∃ k, (u.commitPart id part).job? id = some k ∧ k.claims = j.claims := by
  have hcache : (j.op == some .mcelieceDecaps && !j.hit) = false := by simp [hop]
  simp only [State.commitPart, hj]
  split
  · exact ⟨j, hj, rfl⟩
  · split
    · exact ⟨j, hj, rfl⟩
    · simp only [hcache, Bool.false_eq_true, if_false]
      have hcommitted := job?_modJob_self (u := u) (fun j => { j with parts := j.parts.modify part fun q => { q with committed := true, shares := [] } })
        (fun _ => rfl) hj
      split
      · exact (stagePart_claims hcommitted :)
      · exact ⟨_, hcommitted, rfl⟩

theorem finish_claims (r : OpResult) (hj : u.job? id = some j) :
    ∃ k, (u.finish id r).job? id = some k ∧ k.claims = j.claims ∧ k.op = j.op := by
  refine ⟨_, job?_modJob_self _ (fun x => ?_) hj, ?_⟩
  · dsimp only; split <;> rfl
  · dsimp only; split <;> exact ⟨rfl, rfl⟩

/-- The control complex's part takes the claims (R306). -/
theorem quote_first {q : JobPart} (h : u.runs? id .quote = some j) (hq : j.parts[0]? = some q) (hr : q.running = true) :
    ∃ k, (u.quote id).job? id = some k ∧ k.claims = u.quoteClaims j.input := by
  have hop : j.op = some .quote := by
    have hj := job?_of_runs h
    simp only [State.runs?, hj, Option.ite_none_right_eq_some] at h
    simp_all
  have hquote : u.quote id = ((u.modJob id fun j => { j with claims := u.quoteClaims j.input }).finish id {}).commitPart id 0 := by
    simp [State.quote, h, hq, hr]
  obtain ⟨k, hk, hclaims, hkop⟩ := finish_claims {}
    (job?_modJob_self (fun j => { j with claims := u.quoteClaims j.input }) (fun _ => rfl) (job?_of_runs h))
  obtain ⟨l, hl, hlc⟩ := commitPart_claims (part := 0) hk (by rw [hkop]; simp [hop])
  exact ⟨l, by rw [hquote, hl], hlc.trans hclaims⟩

/-- The other parts sign the claims (R306). -/
theorem quote_rest {q : JobPart} (h : u.runs? id .quote = some j) (hq : j.parts[0]? = some q) (hc : q.computed = true)
    (hp : ∀ q ∈ j.parts, q.engine.isSome = true) (hr : (u.quoteRounds j.claims j.own).isSome = true) :
    Computed u id j .success (u.quoteOver j.claims j.own) (u.quote id) := by
  obtain ⟨n, hn⟩ := Option.isSome_iff_exists.mp hr
  have hresult : ∃ rel, quoteResult u j = { output := u.quoteOver j.claims j.own, rel := rel } := ⟨_, by simp only [quoteResult, hn]; rfl⟩
  obtain ⟨rel, hrel⟩ := hresult
  have hfinish := finish_success (u.quoteOver j.claims j.own) rel (job?_of_runs h) hp
  obtain ⟨ps, hj, -⟩ := hfinish.job
  have hquote : u.quote id = u.finish id { output := u.quoteOver j.claims j.own, rel := rel } := by
    have hrun : q.running = false := by simp [JobPart.running, hc]
    simp only [State.quote, h, hq, Option.any_some, hrun, Bool.false_eq_true, if_false, State.runSign, hrel]
    exact dsaTrap_other hj rfl
  rw [hquote]
  exact hfinish
end

/-- Settles O16: each read and digest by its routine's result, a quote by which of its parts has run. -/
theorem digestsReadsAndDraws : Obligations.DigestsReadsAndDraws := by
  unfold Obligations.DigestsReadsAndDraws
  refine ⟨?digests, ?others⟩
  case digests =>
    rintro s u t id j rfl
    refine ⟨fun h => runOp_yields_of_output h rfl, fun h => ⟨fun hv => ?_, fun hv => ?_⟩⟩
    · exact runOp_yields_of_result h (by simp only [hashVerifyResult, hv, beq_self_eq_true, if_true, and_self])
    · exact runOp_endsWith h (by simp only [hashVerifyResult, beq_iff_eq, hv, if_false, OpResult.failed]) (by decide)
  case others =>
    rintro s u t id j rfl
    refine ⟨fun k hk => ⟨fun h => ?_, fun h => ?_, fun h => ?_⟩, fun h => runOp_yields_of_output h rfl,
      fun q h hq => ⟨fun hr => ⟨_, rfl, quote_first h hq hr⟩, fun hc hp hr => ?_⟩⟩
    · exact runOp_yields_of_result h (by simp [kmExportResult, hk])
    · exact runOp_yields_of_result h (by simp [kmPublicGetResult, hk, SlotHeader.e])
    · exact runOp_yields_of_result h (by simp [kmInfoResult, hk])
    · obtain ⟨ps, hj, -⟩ := (quote_rest h hq hc hp hr).job
      exact ⟨_, rfl, _, hj, rfl, rfl, rfl⟩

end Sys2Proof.Machine
end

section
namespace Sys2Proof.Machine

/-! ### Hash sessions (06 R202 to R205) -/

section
variable {x : HashSession} {n : Nat}

/-- A chunk that stays within the declared total, or has none, does not pass it (R204). -/
theorem HashSession.not_past (h : ∀ d, x.declLen = some d → x.absorbed.length + n ≤ d) : x.past n = false := by
  unfold HashSession.past
  split
  · rename_i d hd
    simpa using h d hd
  · rfl

/-- A last chunk that reaches the declared total, or has none, is not short (R204). -/
theorem HashSession.not_short (h : ∀ d, x.declLen = some d → d = x.absorbed.length + n) : x.short n = false := by
  unfold HashSession.short
  split
  · rename_i d hd
    simpa using h d hd
  · rfl
end

section
variable {s : State} {id : Nat} {j : Job} {x : HashSession}

theorem hashOpen_opens (hr : Running s id .hashOpen j) (hn : s.fabric.sessions.length < sessionObjects) :
    let n := s.fabric.sessions.length
    let i := anyFree "session object" (s.useNo n) sessionObjects n fun i => s.fabric.sessions.any fun x => x.index == i
    let check := 1 + leNat j.own % 255
    let nl := auxNLen j.aux
    let decl := le j.input 0 8
    let y : HashSession := {
      index := i, check := check, carriage := j.carriage, gen := j.gen, param := j.param, key := j.material, usage := j.usage,
      custN := slice j.input 8 nl, custS := slice j.input (8 + nl) (auxSLen j.aux), outLen := hashOutLen j.param j.aux,
      declLen := if decl = 2 ^ 64 - 1 then none else some decl, lastUse := s.clock.now }
    s.hashOpen id = ({ s with fabric.sessions := s.fabric.sessions ++ [y] } : State).finishNow id { output := toLe 4 (i + check * 2 ^ 24) } := by
  simp [State.hashOpen, runs?_of_running hr, Nat.not_le.mpr hn]

/-- A chunk out of turn is refused (R203). -/
theorem chunkTurn_late (hx : s.handleSession j = some x) (hn : auxChunkNo j.aux ≠ x.nextChunk) : s.chunkTurn j = .error .outOfRange := by
  simp [State.chunkTurn, hx, hn]

theorem hashUpdate_late (hr : Running s id .hashUpdate j) (hx : s.handleSession j = some x) (hn : auxChunkNo j.aux ≠ x.nextChunk) :
    s.hashUpdate id = s.finishNow id (.failed .outOfRange [none]) := by
  simp only [State.hashUpdate, runs?_of_running hr, chunkTurn_late hx hn]

/-- The session with a chunk absorbed (R203). -/
def HashSession.absorb (b : Bytes) (now : Nat) (y : HashSession) : HashSession :=
  { y with absorbed := y.absorbed ++ b, nextChunk := y.nextChunk + 1, lastUse := now }

theorem hashUpdate_inTurn (hr : Running s id .hashUpdate j) (ht : s.chunkTurn j = .ok x) (hp : x.past j.input.length = false) :
    s.hashUpdate id =
      (({ s with fabric.sessions := mapIf (·.index == x.index) (HashSession.absorb j.input s.clock.now) s.fabric.sessions } : State).wakeChunks
        x.index).finishNow id {} := by
  simp only [State.hashUpdate, runs?_of_running hr, ht, hp, Bool.false_eq_true, if_false]
  rfl

theorem hashFinal_inTurn (hr : Running s id .hashFinal j) (ht : s.chunkTurn j = .ok x) (hp : x.short j.input.length = false) :
    s.hashFinal id = (s.closeSession x.index).finishNow id { output := x.output j.input } := by
  simp only [State.hashFinal, runs?_of_running hr, ht, hp, Bool.false_eq_true, if_false]

theorem hashFinalVerify_inTurn (hr : Running s id .hashFinalVerify j) (ht : s.chunkTurn j = .ok x) (hlen : x.outLen ≤ j.input.length)
    (hmax : (j.input.drop x.outLen).length ≤ mib16) (hp : x.short (j.input.drop x.outLen).length = false) :
    s.hashFinalVerify id = (s.closeSession x.index).finishNow id
      (if x.output (j.input.drop x.outLen) == j.input.take x.outLen then {} else .failed .signatureInvalid [none]) := by
  have hfits : (decide (j.input.length < x.outLen) || decide (mib16 < (j.input.drop x.outLen).length)) = false := by
    simp only [Nat.not_lt.mpr hlen, Nat.not_lt.mpr hmax, decide_false, Bool.or_self]
  simp only [State.hashFinalVerify, runs?_of_running hr, ht, hfits, hp, Bool.false_eq_true, if_false]

theorem hashAbort_closes (hr : Running s id .hashAbort j) (hx : s.handleSession j = some x) :
    s.hashAbort id = (s.closeSession x.index).finishNow id {} := by
  simp only [State.hashAbort, runs?_of_running hr, hx]
end

/-- Settles O55: each command by the chunk's turn and by the comparison with the declared total. -/
theorem hashSessions : Obligations.HashSessions := by
  unfold Obligations.HashSessions
  rintro s _ t id j rfl
  refine ⟨fun hr hn => congrArg _ (hashOpen_opens hr hn), fun x hx => ?_⟩
  have turn (h : ¬ auxChunkNo j.aux ≠ x.nextChunk) : (s.advance t).chunkTurn j = .ok x := State.chunkTurn_ok hx (not_not.mp h)
  refine ⟨fun hr => ⟨fun hl => ⟨_, rfl, hashUpdate_late hr hx hl⟩, fun hl hd => ?_⟩, fun hr hl hd => ?_, fun hr hl hlen => ?_, fun hr => ?_⟩
  · exact ⟨_, rfl, hashUpdate_inTurn hr (turn hl) (HashSession.not_past hd)⟩
  · exact ⟨_, rfl, hashFinal_inTurn hr (turn hl) (HashSession.not_short hd)⟩
  · refine fun hmax hd => ⟨fun hv => ⟨_, rfl, ?_⟩, fun hv => ⟨_, rfl, ?_⟩⟩
    · refine (hashFinalVerify_inTurn hr (turn hl) hlen hmax (HashSession.not_short hd)).trans ?_
      rw [show (HashSession.output x _ == _) = true from beq_iff_eq.mpr hv, if_pos rfl]
    · refine (hashFinalVerify_inTurn hr (turn hl) hlen hmax (HashSession.not_short hd)).trans ?_
      rw [show (HashSession.output x _ == _) = false from beq_eq_false_iff_ne.mpr hv, if_neg Bool.false_ne_true]
  · exact ⟨_, rfl, hashAbort_closes hr hx⟩

/-! ### Stateful keys (06 R182, R187, R190) -/

section
variable {u : State} {id : Nat} {op : Op} {j : Job}

theorem closes?_of_running (h : Running u id op j) (hs : u.stagingUsed < 16384) : u.closes? id op = some j := by
  simp [State.closes?, runs?_of_running h, stagingPlaces, hs]

/-- A job that reaches no engine and may go on is taken (R73). -/
theorem control?_of_ready (hj : u.job? id = some j) (hop : j.op = some op) (hp : j.phase = .ready) (hd : u.dispatching = true)
    (hf : u.fenceOk j = true) (ho : u.holdOrderOk j = true) : u.control? id op = some j := by
  simp [State.control?, hj, hop, hp, hd, hf, ho]

/-- A job that reaches no engine, with its output (R60, R187). -/
def Job.answered (j : Job) (out : Bytes) : Job := { j with status := .success, output := out, trailer := entTs j.entry, phase := .computed }

/-- A plain job that is answered is reported at once (R60, R187). -/
theorem answer_reports {q : WorkQueue} {ring : CompletionRing} {k : Connection} (out : Bytes) (h : Reports u j q ring k) :
    Reported u (j.answered out) q ring (u.answer j.id out) := by
  have hfound := job?_modJob_self (fun j : Job => j.answered out) (fun _ => rfl) h.found
  have hreports : Reports (u.modJob j.id fun j => j.answered out) (j.answered out) q ring k :=
    ⟨hfound, h.whole, h.fresh, h.queue, h.ring, h.conn⟩
  have hparent : (j.answered out).parent.isSome = false := by simp [Job.answered, h.whole.1]
  have hanswer : u.answer j.id out = (u.modJob j.id fun j => j.answered out).releaseJob j.id := by
    show (u.modJob j.id fun j => j.answered out).release j.id = _
    rw [State.release, hfound]
    simp only [hparent, Bool.false_eq_true, if_false]
  have hreported := releaseJob_reports hreports
  rw [hanswer]
  exact ⟨hreported.gone, hreported.sent, hreported.ring, hreported.queues, hreported.book⟩

theorem stateGet_reports {q : WorkQueue} {ring : CompletionRing} {k : Connection} {l : Ledger} (hp : j.phase = .ready)
    (hd : u.dispatching = true) (hf : u.fenceOk j = true) (ho : u.holdOrderOk j = true) (hl : u.ledger? (refIndex j.keyRef) = some l)
    (h : Reports u j q ring k) (hop : j.op = some op) :
    let slot := refIndex j.keyRef
    let record := toLe 8 l.nextIndex ++ toLe 8 l.left ++ toLe 8 l.highWater ++ toLe 1 l.ranges.length ++
      toLe 1 (u.treeState slot (u.slotLevels slot) l.nextIndex) ++ zeros 6
    Reported u (j.answered record) q ring (u.stateGet j.id op) := by
  simp only [State.stateGet, control?_of_ready h.found hop hp hd hf ho, State.stateRecord, hl]
  exact answer_reports _ h
end

section
variable {u : State} {id : Nat} {op : Op} {xmss : Bool} {j : Job} {k : JobKey} {r : Nat} {ls : List TreeLevel}
  (h : Running u id op j) (hs : u.stagingUsed < 16384) (hk : j.key = some k) (hr : j.shadow = some r) (hx : (op == .xmssKeygen) = xmss)
  (hl : statefulLevels xmss j.param j.input = some ls)
include h hs hk hr hx hl

/-- A slot that is no longer PREPARED keeps its key (R182). -/
theorem statefulKeygen_notPrepared (hp : u.slotState k.index ≠ .prepared) :
    u.statefulKeygen id op = (u.modJob id fun j => { j with shadow := none }).closeNow id (.failed .keyUseDenied [none]) := by
  simp only [State.statefulKeygen, closes?_of_running h hs, hk, hr, hx, hl]
  exact if_pos (by simpa using hp)

/-- A PREPARED slot gets the key, its whole index space and its top trees (R190). -/
theorem statefulKeygen_prepared (hp : u.slotState k.index = .prepared) :
    let m := statefulMaterial xmss j.param ls j.input j.own
    let pk := statefulPk xmss j.param m
    let h : SlotHeader := { k.header with
      state := .live, form := formStateful, materialLen := m.length, versionTime := u.clock.train, versionDevice := u.deviceIndex,
      materialHash := sha3 m }
    let total := 2 ^ (ls.map (·.height)).sum
    let l : Ledger :=
      { slot := k.index, keyId := sha3 pk, next := 0, highWater := 0, ranges := [(0, 0, total)], low := total ≤ h.lowThreshold }
    let a := u.install k.index r h m
    let b := { a with cellar.ledgers := (a.cellar.ledgers.filter fun (y : Ledger) => y.slot != k.index) ++ [l] }
    let w := (List.range ls.length).foldl (fun s n => s.cacheTree k.index n 0) b
    u.statefulKeygen id op = (w.modJob id fun j => { j with shadow := none }).closeNow id { output := pk, rel := [none] } := by
  simp only [State.statefulKeygen, closes?_of_running h hs, hk, hr, hx, hl]
  exact if_neg (by simp [hp])
end

/-- Settles O56: KEYGEN by the slot's state, STATE_GET by the release of a plain job. -/
theorem statefulKeys : Obligations.StatefulKeys := by
  unfold Obligations.StatefulKeys
  rintro s _ t id j rfl
  refine ⟨fun h hs k r ls hk hr hl => ⟨fun hp => ⟨_, rfl, ?_⟩, fun hp => ⟨_, rfl, ?_⟩⟩,
    fun h hs k r ls hk hr hl => ⟨fun hp => ⟨_, rfl, ?_⟩, fun hp => ⟨_, rfl, ?_⟩⟩,
    fun l q ring k hp hd hf ho hl h => ⟨fun hop => ⟨_, rfl, ?_⟩, fun hop => ⟨_, rfl, ?_⟩⟩⟩
  · exact statefulKeygen_notPrepared h hs hk hr rfl hl hp
  · exact statefulKeygen_prepared h hs hk hr rfl hl hp
  · exact statefulKeygen_notPrepared h hs hk hr rfl hl hp
  · exact statefulKeygen_prepared h hs hk hr rfl hl hp
  · exact stateGet_reports hp hd hf ho hl h hop
  · exact stateGet_reports hp hd hf ho hl h hop

/-! ### Key management (09 R277, R280 to R291) -/

section
variable {u : State} {id : Nat} {j : Job}

theorem beNat_rsaE : beNat rsaE = 65537 := by decide

/-- The attributes of a GENERATE: an RSA key has e = 65,537 of 3 bytes (R286). -/
def generatedAttrs (j : Job) : Attrs :=
  if (attrsOf j.input).keyClass = 0x0D then { attrsOf j.input with expClass := 1 } else attrsOf j.input

section
variable {slot : Nat} (h : Running u id .kmGenerate j) (hs : u.stagingUsed < 16384) (ht : j.target = some slot) (hb : u.targetBusy j = false)
include h hs ht hb

theorem kmGenerate_eq : u.kmGenerate id =
    match u.targetNow j slot with
    | some st => u.closeNow id (.failed st [none])
    | none =>
      let a := generatedAttrs j
      if a.keyClass == 7 || a.keyClass == 8 then u.putKey id j a .prepared 0 [] [] false
      else match newMaterial a.keyClass a.param j.own with
        | none => u.searchStop id j a
        | some m =>
          if !pairwiseOk a.keyClass a.param m j.own then u.abandonPart id 0 true false
          else u.putKey id j a .live (if a.keyClass = 0x0D then 65537 else 0) m (classPublic a.keyClass a.param m rsaE) true := by
  simp only [State.kmGenerate, closes?_of_running h hs, ht, hb, Bool.false_eq_true, if_false, generatedAttrs, beNat_rsaE, beq_iff_eq] <;> rfl

theorem kmGenerate_refused {st : Status} (hn : u.targetNow j slot = some st) : u.kmGenerate id = u.closeNow id (.failed st [none]) := by
  rw [kmGenerate_eq h hs ht hb, hn]

theorem kmGenerate_prepares (hn : u.targetNow j slot = none) (hc : (generatedAttrs j).keyClass = 7 ∨ (generatedAttrs j).keyClass = 8) :
    u.kmGenerate id = u.putKey id j (generatedAttrs j) .prepared 0 [] [] false := by
  rw [kmGenerate_eq h hs ht hb, hn]
  simp [hc]

section
variable (hn : u.targetNow j slot = none) (h7 : (generatedAttrs j).keyClass ≠ 7) (h8 : (generatedAttrs j).keyClass ≠ 8)
include hn h7 h8

theorem kmGenerate_searches (hm : newMaterial (generatedAttrs j).keyClass (generatedAttrs j).param j.own = none) :
    u.kmGenerate id = u.searchStop id j (generatedAttrs j) := by
  rw [kmGenerate_eq h hs ht hb, hn]
  simp [h7, h8, hm]

variable {m : Bytes} (hm : newMaterial (generatedAttrs j).keyClass (generatedAttrs j).param j.own = some m)
include hm

/-- Material that fails its test restarts the job (R289). -/
theorem kmGenerate_abandoned (hp : pairwiseOk (generatedAttrs j).keyClass (generatedAttrs j).param m j.own = false) :
    u.kmGenerate id = u.abandonPart id 0 true false := by
  rw [kmGenerate_eq h hs ht hb, hn]
  simp [h7, h8, hm, hp]

theorem kmGenerate_fills (hp : pairwiseOk (generatedAttrs j).keyClass (generatedAttrs j).param m j.own = true) :
    u.kmGenerate id = u.putKey id j (generatedAttrs j) .live (if (generatedAttrs j).keyClass = 0x0D then 65537 else 0) m
      (classPublic (generatedAttrs j).keyClass (generatedAttrs j).param m rsaE) true := by
  rw [kmGenerate_eq h hs ht hb, hn]
  simp [h7, h8, hm, hp]
end
end

/-- The key-encryption key of an IMPORT, and the blob it wraps (R285). -/
def importKek (j : Job) : Bytes := if j.keyIsKem then kemDecK 3 j.material ((j.input.drop 16).take 1568) else j.material
def importBlob (j : Job) : Bytes := if j.keyIsKem then (j.input.drop 16).drop 1568 else j.input.drop 16

theorem importParts_eq (j : Job) : j.importParts = (importKek j, importBlob j) := by
  unfold Job.importParts importKek importBlob
  cases j.keyIsKem <;> rfl

/-- What an IMPORT unwraps (R285). -/
def importedMaterial (j : Job) : Bytes := std .kwpUnwrap 32 [importKek j, importBlob j] (kwpLen (importKek j) (importBlob j))

/-- The blob unwraps to material in a form of its class that passes its test (R285, R289). -/
def importGood (j : Job) : Prop :=
  let a := attrsOf j.input
  Config.stdHolds .kwpOk 32 [importKek j, importBlob j] = true ∧ importOk a.keyClass a.param (importedMaterial j) = true ∧
    pairwiseOk a.keyClass a.param (importedMaterial j) j.rand = true

section
variable (h : Running u id .kmImport j) (hs : u.stagingUsed < 16384) (hb : u.targetBusy j = false ∨ j.target = none)
include h hs hb

theorem kmImport_bad (hg : ¬ importGood j) : u.kmImport id = u.closeNow id (.failed .malformedEncoding [none]) := by
  have hbusy : (u.targetBusy j && j.target.isSome) = false := by rcases hb with hb | hb <;> simp [hb]
  simp only [State.kmImport, closes?_of_running h hs, importParts_eq, hbusy, Bool.false_eq_true, if_false]
  refine if_pos ?_
  by_contra hc
  exact hg (by simpa [importGood, importedMaterial, and_assoc] using hc)

theorem kmImport_good (hg : importGood j) :
    let a := attrsOf j.input
    let m := importedMaterial j
    u.kmImport id = match j.target with
      | none => u.closeNow id { output := u.jobWrap j (a.object (formOf a.keyClass a.param m)) j.cek m }
      | some slot => match u.targetNow j slot with
        | some st => u.closeNow id (.failed st [none])
        | none => u.putKey id j a .live (if a.keyClass = 0x0D then rsaExpOf m else 0)
            (if a.keyClass = 5 then m ++ mcePkOf a.param m else m) [] (a.keyClass != 5) := by
  have hbusy : (u.targetBusy j && j.target.isSome) = false := by rcases hb with hb | hb <;> simp [hb]
  simp only [State.kmImport, closes?_of_running h hs, importParts_eq, hbusy, Bool.false_eq_true, if_false]
  refine (if_neg fun hc => ?_).trans ?_
  · obtain ⟨hblob, hform, htest⟩ := hg
    simp only [importedMaterial] at hform htest
    simp [hblob, hform, htest] at hc
  · simp only [beq_iff_eq, importedMaterial] <;> rfl
end
end

section
variable {u : State} {id : Nat} {j : Job}

/-- The oversized part that RESTORE is given or regenerates, with its object (R277). -/
def restoredPart (u : State) (id : Nat) (j : Job) (k : JobKey) : Option (Bytes × Bytes) :=
  let pk := mcePkOf k.header.param (k.material.take k.header.materialLen)
  if j.input ≠ [] then (u.jobOpen j j.input).map fun x => (x.2, j.input)
  else if k.header.keyClass = 5 then some (pk, u.jobWrap j k.header.object (partCek id) pk) else none

theorem kmRestore_eq {k : JobKey} (h : Running u id .kmRestore j) (hs : u.stagingUsed < 16384) (hk : j.key = some k) :
    u.kmRestore id = match restoredPart u id j k with
      | some (b, object) =>
        if k.header.oversized && sha3 (k.material.take k.header.materialLen ++ b) == k.header.materialHash then
          ({ u with
            cellar.oversized := (u.cellar.oversized.filter fun (x : Nat × Bytes) => x.1 != k.record) ++ [(k.record, object)] } : State).closeNow id {}
        else u.closeNow id (.failed .malformedEncoding [none])
      | none => (if j.input = [] then u else u.objectFailure).closeNow id (.failed .malformedEncoding [none]) := by
  simp only [State.kmRestore, closes?_of_running h hs, hk, restoredPart]
  by_cases hi : j.input = []
  · simp [hi] <;> rfl
  · simp [hi] <;> rfl
end

/-- Settles O58: each command by the target as it is now, the material and its checks. -/
theorem keyManagement : Obligations.KeyManagement := by
  unfold Obligations.KeyManagement
  rintro s _ t id j rfl
  refine ⟨fun h hs slot ht hb => ?generate, fun h hs hb => ?imports, fun slot h hs ht => ?destroy, fun h => ?rewrap, fun k h hs hk => ?restore⟩
  case generate =>
    refine ⟨fun st hn => ⟨_, rfl, kmGenerate_refused h hs ht hb hn⟩, fun hn hc => ⟨_, rfl, kmGenerate_prepares h hs ht hb hn hc⟩,
      fun hn h7 h8 hm => ⟨_, rfl, kmGenerate_searches h hs ht hb hn h7 h8 hm⟩, fun m hn h7 h8 hm =>
        ⟨fun hp => ⟨_, rfl, kmGenerate_abandoned h hs ht hb hn h7 h8 hm hp⟩, fun hp => ⟨_, rfl, kmGenerate_fills h hs ht hb hn h7 h8 hm hp⟩⟩⟩
  case imports =>
    refine ⟨fun hg => ⟨_, rfl, kmImport_bad h hs hb hg⟩, fun hg ht => ⟨_, rfl, ?_⟩, fun slot hg ht hn => ⟨_, rfl, ?_⟩⟩
    · exact (kmImport_good h hs hb hg).trans (by simp only [ht] <;> rfl)
    · exact (kmImport_good h hs hb hg).trans (by simp only [ht, hn] <;> rfl)
  case destroy =>
    refine ⟨fun hr => ⟨_, rfl, ?_⟩, fun hr => ⟨_, rfl, ?_⟩⟩
    · simp [State.kmDestroy, closes?_of_running h hs, ht, hr]
    · have hr' : ((s.advance t).slotRecord? slot).isNone = false := by simpa using hr
      simp [State.kmDestroy, closes?_of_running h hs, ht, hr']
  case rewrap =>
    refine ⟨fun hd m ho => ?_, fun ho => ?_⟩
    · refine ⟨_, rfl, ?_⟩
      rw [State.kmRewrap, runs?_of_running h]
      simp only [ho]
      exact finish_success _ _ h.found fun q hq => (h.parts q hq).1
    · show Host.Outcome.next _ = _
      rw [State.kmRewrap, runs?_of_running h]
      simp only [ho]
  case restore =>
    refine ⟨fun hp => ⟨_, rfl, ?_⟩, fun b object hp => ⟨fun ho hh => ⟨_, rfl, ?_⟩, fun ho => ⟨_, rfl, ?_⟩⟩⟩
    · rw [kmRestore_eq h hs hk, show restoredPart _ _ _ _ = none from hp]
    · rw [kmRestore_eq h hs hk, show restoredPart _ _ _ _ = some (b, object) from hp]
      exact if_pos (by rw [ho, hh]; simp)
    · rw [kmRestore_eq h hs hk, show restoredPart _ _ _ _ = some (b, object) from hp]
      exact if_neg (by rcases ho with ho | ho <;> simp [ho])

end Sys2Proof.Machine
end

section
namespace Sys2Proof.Machine

/-! ### ECDSA, ECDH and EdDSA (07 R220 to R228, R235) -/

section
variable {u : State} {j : Job}

/-- The verification of a checked point goes on to the signature (R235). -/
theorem ecdsaVerifyResult_eq : ecdsaVerifyResult u j =
    let p := j.param
    let rel := cooperTime .ecdsaVerify p 0 0
    let q := if j.kind = .none then j.input.take (ecPub p) else ecPubOf p j.material
    let b := if j.kind = .none then j.input.drop (ecPub p) else j.input
    let sig := b.take (2 * ecL p)
    match (if j.kind = .none then pointFault p q else none) with
    | some st => .failed st rel
    | none =>
      if ecSigRange p sig = true ∧ Config.stdHolds .ecVerify p [q, sig, ecDigest p (b.drop (2 * ecL p))] = true then { rel := rel }
      else .failed .signatureInvalid rel := by
  simp only [ecdsaVerifyResult, beq_iff_eq, Bool.and_eq_true] <;> rfl

theorem ecdhDeriveResult_montgomery (h : j.param = 0x10 ∨ j.param = 0x11) : ecdhDeriveResult u j =
    let z := std .xShared j.param [j.material, xPeer j.param j.input] (ecL j.param)
    if allZero z then .failed .outOfRange (cooperTime .ecdhDerive j.param 0 0)
    else { output := u.placedSecret j z, rel := cooperTime .ecdhDerive j.param 0 0 } := by
  simp [ecdhDeriveResult, h]

/-- A peer's u, masked for X25519, modulo the field prime (R228). -/
theorem xPeer_eq (p : Nat) (b : Bytes) :
    xPeer p b = toLe (ecL p) (if p = 0x10 then leNat b % 2 ^ 255 % (2 ^ 255 - 19) else leNat b % (2 ^ 448 - 2 ^ 224 - 1)) := by
  simp only [xPeer, beq_iff_eq]

theorem ecdhDeriveResult_weierstrass (h : ¬ (j.param = 0x10 ∨ j.param = 0x11)) : ecdhDeriveResult u j =
    match pointFault j.param j.input with
    | some st => .failed st (cooperTime .ecdhDerive j.param 0 0)
    | none => { output := u.placedSecret j (std .ecShared j.param [j.material, j.input] (ecL j.param)),
                rel := cooperTime .ecdhDerive j.param 0 0 } := by
  simp [ecdhDeriveResult, h] <;> rfl

/-- The verification under a checked A goes on to its order and the equation (R227, R235). -/
theorem eddsaVerifyResult_eq : ∃ rel, eddsaVerifyResult u j =
    let p := j.param
    let c := auxCtxLen j.aux
    let a := if j.kind = .none then j.input.take (edPub p) else edPubOf p j.material
    let b := if j.kind = .none then j.input.drop (edPub p) else j.input
    let m := b.drop (edSig p)
    match (if j.kind = .none then edKeyFault p a else none) with
    | some st => .failed st rel
    | none =>
      if Config.stdHolds .edSmall p [a] = false ∧
          Config.stdHolds .edVerify p [toLe 1 (auxVariant j.aux), a, b.take (edSig p), m.take c, m.drop c] = true then { rel := rel }
      else .failed .signatureInvalid rel := by
  simp only [eddsaVerifyResult, beq_iff_eq, Bool.and_eq_true, Bool.not_eq_true'] <;> exact ⟨_, rfl⟩

/-- No check of a point says SUCCESS. -/
theorem pointFault_ne_success {p : Nat} {q : Bytes} {st : Status} (h : pointFault p q = some st) : st ≠ .success := by
  rintro rfl
  exact absurd (pointFault_status h) (by decide)

theorem edKeyFault_ne_success {p : Nat} {a : Bytes} {st : Status} (h : edKeyFault p a = some st) : st ≠ .success := by
  rintro rfl
  simp only [edKeyFault] at h
  split_ifs at h <;> cases h
end

/-- Settles O12: the point first, then range and equation; a Montgomery value by its own rules. -/
theorem ellipticCurveResults : Obligations.EllipticCurveResults := by
  unfold Obligations.EllipticCurveResults
  refine ⟨?weierstrass, ?edwards⟩
  case weierstrass =>
    rintro s u t id j rfl
    refine ⟨fun h => runOp_yields_of_output h rfl, fun h => runOp_yields_of_output h rfl, fun h => ⟨fun st hp => ?_, fun hp hg => ?_, fun hp hg => ?_⟩,
      fun h => ⟨fun hm => ?_, fun hm => ?_⟩, fun h => ⟨fun hm hz => ?_, fun hm hz => ?_, fun hm st hp => ?_, fun hm hp => ?_⟩⟩
    · refine runOp_endsWith h ?_ (pointFault_ne_success (Option.ite_none_right_eq_some.mp hp).2)
      simp only [ecdsaVerifyResult_eq, hp, OpResult.failed]
    · refine runOp_yields_of_result h ?_
      simp only [ecdsaVerifyResult_eq, hp, if_pos hg, and_self]
    · refine runOp_endsWith h ?_ (by decide)
      simp only [ecdsaVerifyResult_eq, hp, if_neg hg, OpResult.failed]
    · exact runOp_yields_of_result h (by simp [ecdhKeygenResult, hm])
    · exact runOp_yields_of_result h (by simp [ecdhKeygenResult, hm])
    · rw [← xPeer_eq] at hz
      exact runOp_endsWith_of_failed h (by decide) ((ecdhDeriveResult_montgomery hm).trans (if_pos hz))
    · rw [← xPeer_eq] at hz ⊢
      exact runOp_yields_of_output h ((ecdhDeriveResult_montgomery hm).trans (if_neg (Bool.eq_false_iff.mp hz)))
    · exact runOp_endsWith_of_failed h (pointFault_ne_success hp) ((ecdhDeriveResult_weierstrass hm).trans (by rw [hp]))
    · exact runOp_yields_of_output h ((ecdhDeriveResult_weierstrass hm).trans (by rw [hp]))
  case edwards =>
    rintro s u t id j rfl
    refine ⟨fun h => runOp_yields_of_output h rfl, fun h => runOp_yields_of_output h rfl, fun h => ?_⟩
    obtain ⟨rel, hv⟩ := eddsaVerifyResult_eq (u := s.advance t) (j := j)
    refine ⟨fun st hp => ?_, fun hp hg => ?_, fun hp hg => ?_⟩
    · refine runOp_endsWith h ?_ (edKeyFault_ne_success (Option.ite_none_right_eq_some.mp hp).2)
      simp only [hv, hp, OpResult.failed]
    · refine runOp_yields_of_result h ?_
      simp only [hv, hp, if_pos hg, and_self]
    · refine runOp_endsWith h ?_ (by decide)
      simp only [hv, hp, if_neg hg, OpResult.failed]

/-! ### RSA (07 R229 to R235) -/

section
variable {u : State} {id : Nat} {j : Job}

/-- The parts of a public operation's input, by where its key comes from (R231). -/
def rsaKeyParts (j : Job) : Bytes × Bytes × Bytes :=
  let k := rsaK j.param
  let ne := expBytes (auxExpClass j.aux)
  (if j.kind = .none then j.input.take k else rsaModulus j.param j.material,
    if j.kind = .none then slice j.input k ne else match j.key with | some k => k.header.e | none => [],
    if j.kind = .none then j.input.drop (k + ne) else j.input)

theorem rsaKey_eq : j.rsaKey = rsaKeyParts j := by
  by_cases h : j.kind = .none <;> simp [Job.rsaKey, rsaKeyParts, h] <;> rfl

/-- The form of a key given in the input, and the size of its exponent; a stored key is not checked (R235). -/
def rsaShape (j : Job) : Prop :=
  let k := rsaKeyParts j
  j.kind ≠ .none ∨ (128 ≤ byteAt k.1 0 ∧ beNat k.1 % 2 = 1 ∧ beNat k.2.1 % 2 = 1 ∧ 3 ≤ beNat k.2.1)
def rsaSmall (j : Job) : Prop := j.kind ≠ .none ∨ beNat (rsaKeyParts j).2.1 < 2 ^ expBits (auxExpClass j.aux)

/-- The verdict on the key of a public operation (R235). -/
def rsaVerdict (j : Job) : Option Status :=
  if j.kind == .none then rsaKeyFault (rsaKeyParts j).1 (rsaKeyParts j).2.1 j.expClass else none

/-- A key of the input is judged in its class of exponents. -/
theorem rsaVerdict_input (hk : j.kind = .none) :
    rsaVerdict j = rsaKeyFault (rsaKeyParts j).1 (rsaKeyParts j).2.1 (auxExpClass j.aux) := by
  simp [rsaVerdict, hk, Job.expClass]

/-- The form that the check of a given key asks (R235). -/
theorem rsaKeyFault_form (n e : Bytes) : (byteAt n 0 < 128 || beNat n % 2 == 0 || beNat e % 2 == 0 || beNat e < 3) = true ↔
    ¬ (128 ≤ byteAt n 0 ∧ beNat n % 2 = 1 ∧ beNat e % 2 = 1 ∧ 3 ≤ beNat e) := by
  simp only [Bool.or_eq_true, decide_eq_true_eq, beq_iff_eq]
  omega

theorem rsaVerdict_shape (h : ¬ rsaShape j) : rsaVerdict j = some .malformedEncoding := by
  simp only [rsaShape, not_or, not_not] at h
  obtain ⟨hk, h⟩ := h
  rw [rsaVerdict_input hk]
  exact if_pos ((rsaKeyFault_form _ _).mpr h)

theorem rsaVerdict_small (h : rsaShape j) (hs : ¬ rsaSmall j) : rsaVerdict j = some .outOfRange := by
  simp only [rsaSmall, not_or, not_not, not_lt] at hs
  obtain ⟨hk, hs⟩ := hs
  rw [rsaVerdict_input hk]
  exact (if_neg fun hc => (rsaKeyFault_form _ _).mp hc (h.resolve_left (not_not.mpr hk))).trans (if_pos hs)

theorem rsaVerdict_none (h : rsaShape j) (hs : rsaSmall j) : rsaVerdict j = none := by
  by_cases hk : j.kind = .none
  · rw [rsaVerdict_input hk]
    exact (if_neg fun hc => (rsaKeyFault_form _ _).mp hc (h.resolve_left (not_not.mpr hk))).trans
      (if_neg (Nat.not_le.mpr (hs.resolve_left (not_not.mpr hk))))
  · simp [rsaVerdict, hk]

/-- What a verification under a key that passed its checks asks (R235). -/
def rsaGood (f : StdFn) (j : Job) : Prop :=
  let k := rsaKeyParts j
  let sig := k.2.2.take (rsaK j.param)
  0 < beNat sig ∧ beNat sig < beNat k.1 ∧
    Config.stdHolds f j.param
      [toLe 1 (auxPhAlg j.aux), toLe 1 (auxSaltLabel j.aux), k.1, k.2.1, sig, k.2.2.drop (rsaK j.param)] = true

theorem rsaVerify_settles {op : Op} (o : Op) (f : StdFn) (h : Running u id op j) :
    let e : Host.Outcome State Fault Refusal := .next (u.runOp id op fun _ j => rsaVerify o f j)
    (¬ rsaShape j → EndsWith e u id j .malformedEncoding) ∧ (rsaShape j → ¬ rsaSmall j → EndsWith e u id j .outOfRange) ∧
      (rsaShape j → rsaSmall j → rsaGood f j → Yields e u id j []) ∧
      (rsaShape j → rsaSmall j → ¬ rsaGood f j → EndsWith e u id j .signatureInvalid) := by
  have hverify : rsaVerify o f j = match rsaVerdict j with
      | some st => .failed st (cooperTime o j.param j.expClass 0)
      | none =>
        let k := rsaKeyParts j
        let sig := k.2.2.take (rsaK j.param)
        if 0 < beNat sig && beNat sig < beNat k.1 && Config.stdHolds f j.param
            [toLe 1 (auxPhAlg j.aux), toLe 1 (auxSaltLabel j.aux), k.1, k.2.1, sig, k.2.2.drop (rsaK j.param)] then
          { rel := cooperTime o j.param j.expClass 0 }
        else .failed .signatureInvalid (cooperTime o j.param j.expClass 0) := by
    simp only [rsaVerify, rsaKey_eq, rsaVerdict] <;> rfl
  refine ⟨fun hshape => ?_, fun hshape hsmall => ?_, fun hshape hsmall hg => ?_, fun hshape hsmall hg => ?_⟩
  · exact runOp_endsWith_of_failed h (by decide) (hverify.trans (by rw [rsaVerdict_shape hshape]))
  · exact runOp_endsWith_of_failed h (by decide) (hverify.trans (by rw [rsaVerdict_small hshape hsmall]))
  · have hr := hverify.trans (by rw [rsaVerdict_none hshape hsmall])
    exact runOp_yields_of_output h (hr.trans (if_pos (by simpa [rsaGood, and_assoc] using hg)))
  · have hr := hverify.trans (by rw [rsaVerdict_none hshape hsmall])
    exact runOp_endsWith_of_failed h (by decide) (hr.trans (if_neg fun hc => hg (by simpa [rsaGood, and_assoc] using hc)))

theorem rsaEncryptOaepResult_eq : rsaEncryptOaepResult u j = match rsaVerdict j with
    | some st => .failed st (cooperTime .rsaEncryptOaep j.param j.expClass 0)
    | none =>
      let k := rsaKeyParts j
      { output := std .rsaPublic j.param [toLe 1 (auxPhAlg j.aux), k.1, k.2.1, k.2.2.take (auxSaltLabel j.aux),
          k.2.2.drop (auxSaltLabel j.aux), j.own] (rsaK j.param),
        rel := cooperTime .rsaEncryptOaep j.param j.expClass 0 } := by
  simp only [rsaEncryptOaepResult, rsaKey_eq, rsaVerdict] <;> rfl

theorem rsaKeygen_of_end (h : Running u id .rsaKeygen j) (he : Config.stdHolds .rsaSearchEnds j.param [j.own] = true) :
    u.rsaKeygen id = u.finish id (rsaKeygenResult u j) := by
  simp only [State.rsaKeygen, runs?_of_running h, he, if_true]
end

/-- Settles O13: the private operations by their ranges, those of a public key by the checks of the key and then the signature. -/
theorem rsaResults : Obligations.RsaResults := by
  unfold Obligations.RsaResults
  refine ⟨?privateKey, ?publicKey⟩
  case privateKey =>
    rintro s u t id j rfl
    refine ⟨fun h he => ⟨_, rfl, ?_⟩, fun h => runOp_yields_of_output h rfl, fun h => runOp_yields_of_output h rfl,
      fun h => ⟨fun hc => ?_, fun hc hn => ?_, fun hc hn hg => ?_⟩⟩
    · rw [rsaKeygen_of_end h he]
      exact finish_success _ _ h.found fun q hq => (h.parts q hq).1
    · refine runOp_endsWith h ?_ (by decide)
      rcases hc with hc | ⟨hn, hg⟩
      · simp [rsaDecryptOaepResult, hc, OpResult.failed]
      · have hn' : ¬ beNat (rsaModulus j.param j.material) ≤ beNat (j.input.drop (auxSaltLabel j.aux)) := Nat.not_le.mpr hn
        simp only [rsaDecryptOaepResult, hn', hg, OpResult.failed]
        simp
    · have hn' : beNat (rsaModulus j.param j.material) ≤ beNat (j.input.drop (auxSaltLabel j.aux)) := hn
      exact runOp_endsWith h (by simp [rsaDecryptOaepResult, hc, hn', OpResult.failed]) (by decide)
    · have hn' : ¬ beNat (rsaModulus j.param j.material) ≤ beNat (j.input.drop (auxSaltLabel j.aux)) := Nat.not_le.mpr hn
      exact runOp_yields_of_result h (by simp only [rsaDecryptOaepResult, hn', hg]; simp [hc])
  case publicKey =>
    rintro s u t id j rfl
    refine ⟨rsaVerify_settles .rsaVerifyPkcs1 .rsaPkcs1Ok, rsaVerify_settles .rsaVerifyPss .rsaPssOk,
      fun h => ⟨fun hshape => ?_, fun hshape hsmall => ?_, fun hshape hsmall => ?_⟩⟩
    · exact runOp_endsWith_of_failed h (by decide) (rsaEncryptOaepResult_eq.trans (by rw [rsaVerdict_shape hshape]))
    · exact runOp_endsWith_of_failed h (by decide) (rsaEncryptOaepResult_eq.trans (by rw [rsaVerdict_small hshape hsmall]))
    · exact runOp_yields_of_output h (rsaEncryptOaepResult_eq.trans (by rw [rsaVerdict_none hshape hsmall] <;> rfl))

end Sys2Proof.Machine
end

section
namespace Sys2Proof.Machine

/-! ### The modes of the Drays (08 R250 to R255) -/

section
variable {u : State} {id : Nat} {op : Op} {j : Job} {f : State → Job → OpResult}

/-- The key of a class 0x0E job: the graft that the descriptor names, or its own (R248, R250). -/
theorem bulkKey_eq : j.bulkKey =
    (let d := j.input.take 16
     if j.kind = .graft then graft j.material j.prf (d.take 8) (byteAt d 12) (le d 8 4) (byteAt d 13) else j.material) := by
  simp only [Job.bulkKey, beq_iff_eq] <;> rfl

theorem bulkInput_eq : j.bulkInput = if j.kind = .graft then j.input.drop 16 else j.input := by
  simp only [Job.bulkInput, beq_iff_eq]

/-- A check that gives its output or its status ends the job so (R255). -/
theorem runOp_checked {ok : Bool} {P : Prop} {st : Status} {out : Bytes} (h : Running u id op j) (hn : st ≠ .success) (hP : ok = true ↔ P)
    (hf : f u j = checked ok st out) :
    (P → Yields (.next (u.runOp id op f)) u id j out) ∧ (¬ P → EndsWith (.next (u.runOp id op f)) u id j st) :=
  ⟨fun hp => runOp_yields_of_output h (hf.trans (if_pos (hP.mpr hp))), fun hp => runOp_endsWith_of_failed h hn (hf.trans (if_neg (mt hP.mp hp)))⟩

variable {n : Nat} {crypt : Bytes → Bytes → Bytes} {mac : Bytes → Bytes → Bytes → Bytes → Nat → Bytes}

/-- Encryption: the IV drawn or of the input, then AAD and plaintext (R252). -/
theorem runOp_aeadEncrypt (h : Running u id op j) (hf : f u j = aeadEncrypt j n crypt mac) :
    let b := j.bulkInput
    let drawn := auxIvGen j.aux
    let iv := if drawn then j.own else b.take n
    let r := if drawn then b else b.drop n
    let a := auxAadLen j.aux
    let c := crypt iv (r.drop a)
    Yields (.next (u.runOp id op f)) u id j ((if drawn then iv else []) ++ c ++ mac iv (r.take a) (r.drop a) c (auxTagLen j.aux)) :=
  runOp_yields_of_output h hf

/-- Decryption: no plaintext leaves when the tag does not match (R255). -/
theorem runOp_aeadDecrypt (h : Running u id op j) (hf : f u j = aeadDecrypt j n crypt mac) :
    let b := j.bulkInput
    let iv := b.take n
    let r := b.drop n
    let a := auxAadLen j.aux
    let tl := auxTagLen j.aux
    let body := (r.drop a).take ((r.drop a).length - tl)
    let plain := crypt iv body
    let good := (r.drop a).drop ((r.drop a).length - tl) = mac iv (r.take a) plain body tl
    (good → Yields (.next (u.runOp id op f)) u id j plain) ∧ (¬ good → EndsWith (.next (u.runOp id op f)) u id j .signatureInvalid) :=
  runOp_checked h (by decide) beq_iff_eq hf
end

/-- Settles O14: each mode by the bytes it takes from the input and, where it checks a tag or a blob, by that check. -/
theorem cipherResults : Obligations.CipherResults := by
  unfold Obligations.CipherResults
  refine ⟨?aead, ?others⟩
  case aead =>
    rintro s u t id j rfl d key b
    rw [show key = j.bulkKey from bulkKey_eq.symm, show b = j.bulkInput from bulkInput_eq.symm]
    exact ⟨fun h => (runOp_aeadEncrypt (f := gcmEncryptResult) h rfl :),
      fun h => (runOp_aeadEncrypt (f := ccmEncryptResult) h rfl :),
      fun h => (runOp_aeadEncrypt (f := chachaEncryptResult) h rfl :),
      fun h => (runOp_aeadDecrypt (f := gcmDecryptResult) h rfl :),
      fun h => (runOp_aeadDecrypt (f := ccmDecryptResult) h rfl :),
      fun h => (runOp_aeadDecrypt (f := chachaDecryptResult) h rfl :)⟩
  case others =>
    rintro s u t id j rfl d key b
    rw [show key = j.bulkKey from bulkKey_eq.symm, show b = j.bulkInput from bulkInput_eq.symm]
    exact ⟨fun h => runOp_yields_of_output h rfl, fun h => runOp_yields_of_output h rfl, fun h => runOp_yields_of_output h rfl,
      fun h => runOp_yields_of_output h rfl, fun h => runOp_checked h (by decide) beq_iff_eq rfl,
      fun h => runOp_yields_of_output h rfl, fun h => runOp_checked h (by decide) beq_iff_eq rfl,
      fun h => runOp_yields_of_output h rfl, fun h => runOp_checked h (by decide) Iff.rfl rfl,
      fun h => runOp_yields_of_output h rfl, fun h => runOp_checked h (by decide) Iff.rfl rfl⟩

/-! ### Records and grafts (08 R249, R256 to R263) -/

section
variable {j : Job}

/-- Keys, IV and protection of the job's record (R260). -/
theorem jobDlmsKeys_eq : j.dlmsKeys =
    (let r := j.input
     let sc := byteAt r 0x1C
     let g (kind : Nat) : Bytes := graft j.material j.prf (r.take 8) kind (le r 0x10 4) (if j.param % 4 = 2 then 32 else 16)
     { ek := g (if bit sc 6 then 2 else 1), ak := if bit sc 4 then g 3 else [], iv := slice r 8 8 ++ toBe 4 (le r 0x14 4),
       auth := bit sc 4, encrypt := bit sc 5 }) := by
  simp only [Job.dlmsKeys, dlmsKeys, dlmsWith, suiteLen, dlmsSuite, beq_iff_eq] <;> rfl
end

section
variable {j : Job}

theorem dlmsProtectResult_eq (u : State) :
    let r := j.input
    let sc := byteAt r 0x1C
    let g (kind : Nat) : Bytes := graft j.material j.prf (r.take 8) kind (le r 0x10 4) (if j.param % 4 = 2 then 32 else 16)
    let ek := g (if bit sc 6 then 2 else 1)
    let iv := slice r 8 8 ++ toBe 4 (le r 0x14 4)
    let apdu := slice r 0x20 (le r 0x1E 2)
    let aad (x : Bytes) : Bytes := if bit sc 5 then toLe 1 sc ++ g 3 else toLe 1 sc ++ g 3 ++ x
    let c := if bit sc 5 then gcmCrypt ek iv apdu else []
    let tag := if bit sc 4 then gcmTag ek iv (aad apdu) c 12 else []
    dlmsProtectResult u j = { output := toLe 1 sc ++ toBe 4 (le r 0x14 4) ++ (if bit sc 5 then c else apdu) ++ tag } := by
  simp only [dlmsProtectResult, dlmsProtect, jobDlmsKeys_eq, dlmsAad, recLen, recSc, recIc]
  cases bit (byteAt j.input 0x1C) 4 <;> rfl

/-- The counter is accepted above LAST_IC, or with FIRST (R262, R263). -/
theorem dlmsCounterOk_iff (r : Bytes) : dlmsCounterOk r = true ↔ le r 0x18 4 < le r 0x14 4 ∨ bit (byteAt r 0x1D) 0 = true := by
  rw [dlmsCounterOk, Bool.or_eq_true, decide_eq_true_eq]
  exact Iff.rfl

/-- The counter comes before the tag, and the tag before the plaintext (R262, R263). -/
theorem dlmsUnprotectResult_eq (u : State) :
    let r := j.input
    let sc := byteAt r 0x1C
    let g (kind : Nat) : Bytes := graft j.material j.prf (r.take 8) kind (le r 0x10 4) (if j.param % 4 = 2 then 32 else 16)
    let ek := g (if bit sc 6 then 2 else 1)
    let iv := slice r 8 8 ++ toBe 4 (le r 0x14 4)
    let apdu := slice r 0x20 (le r 0x1E 2)
    let aad (x : Bytes) : Bytes := if bit sc 5 then toLe 1 sc ++ g 3 else toLe 1 sc ++ g 3 ++ x
    let body := apdu.take (if bit sc 4 then apdu.length - 12 else apdu.length)
    dlmsUnprotectResult u j =
      if dlmsCounterOk r then
        if bit sc 4 = true → apdu.drop (apdu.length - 12) = gcmTag ek iv (aad body) (if bit sc 5 then body else []) 12 then
          { output := if bit sc 5 then gcmCrypt ek iv body else body }
        else .failed .signatureInvalid [none]
      else .failed .outOfRange [none] := by
  simp only [dlmsUnprotectResult, dlmsUnprotect, jobDlmsKeys_eq, dlmsAad, recLen, recSc]
  cases dlmsCounterOk j.input
  · rfl
  · cases bit (byteAt j.input 0x1C) 4
    · simp
    · simp only [if_true, Bool.true_and, bne_iff_ne, ne_eq, Bool.not_true, Bool.false_eq_true, if_false, forall_const, ite_not]
      split_ifs <;> rfl
end

/-- Settles O15: a record by the protection that its security control byte asks for, a graft operation by its descriptors. -/
theorem meteringResults : Obligations.MeteringResults := by
  unfold Obligations.MeteringResults
  refine ⟨?records, ?grafts⟩
  case records =>
    rintro s u t id j rfl
    refine ⟨fun h => runOp_yields_of_output h (dlmsProtectResult_eq _), fun h => ⟨fun hc => ?_, fun hc ht => ?_, fun hc ht => ?_⟩⟩
    · exact runOp_endsWith_of_failed h (by decide) ((dlmsUnprotectResult_eq _).trans (if_neg (mt (dlmsCounterOk_iff _).mp hc)))
    · exact runOp_endsWith_of_failed h (by decide)
        ((dlmsUnprotectResult_eq _).trans ((if_pos ((dlmsCounterOk_iff _).mpr hc)).trans (if_neg ht)))
    · exact runOp_yields_of_output h ((dlmsUnprotectResult_eq _).trans ((if_pos ((dlmsCounterOk_iff _).mpr hc)).trans (if_pos ht)))
  case grafts =>
    rintro s u t id j rfl
    refine ⟨fun h => runOp_yields_of_output h rfl, fun k hk h => ?_, fun h => runOp_yields_of_output h rfl⟩
    exact runOp_yields_of_result h (by simp only [exportWrappedResult, hk, true_and] <;> rfl)

end Sys2Proof.Machine
end


section
namespace Sys2Proof.Machine

/-! ### Steps of Tasting (18 R525 to R529) -/

section
variable {u : State} {r : TastingRun}

/-- Faults outside what is tested are not found. -/
theorem filter_nil_of_false {α : Type} {p : α → Bool} {l : List α} (h : ∀ x ∈ l, p x = false) : l.filter p = [] :=
  List.filter_eq_nil_iff.mpr fun x hx => by simp [h x hx]

/-- The step at the cursor is behind, whether it ran or was cut (R526). -/
def State.behind (u : State) (r : TastingRun) (ran : Bool) : State :=
  let step := u.tasting.sequence.getD u.tasting.cursor []
  { u with
    tasting.run := some { r with
      passed := r.passed + 1, critical := r.critical - b2n (ran && bit (byteAt step 3) 0)
      cut := if ran = false ∧ r.cut = none then some u.tasting.cursor else r.cut }
    tasting.cursor := if u.tasting.stepCount ≤ u.tasting.cursor + 1 then 0 else u.tasting.cursor + 1
    tasting.stepsRun := u.tasting.stepsRun + b2n ran }

theorem passStep_ran (h : u.tasting.run = some r) : u.passStep .ran = u.behind r true := by
  simp only [State.passStep, h]
  rfl

theorem passStep_cut (h : u.tasting.run = some r) : u.passStep .cut = u.behind r false := by
  simp only [State.passStep, h, State.behind]
  cases r.cut <;> rfl

theorem stepDone_tasting {faults : List MemFault} (h : u.tasting.run = some r) (hm : u.power.mode = .tasting)
    (hf : ∀ f ∈ faults, stepFinds u.stepNow f = false) :
    u.stepDone faults = (u.behind r true).nextStep (u.tasting.stepCount + 1) := by
  simp only [State.stepDone, hm, filter_nil_of_false hf, List.foldl_nil, passStep_ran h]

theorem stepDone_selfTest {faults : List MemFault} (hm : u.power.mode = .boot) (hs : u.power.bootStuck = false)
    (hc : u.tasting.criticalDone = false) (hf : ∀ f ∈ faults, selfTestIsland f = false) : u.stepDone faults = u.repairMemories := by
  simp only [State.stepDone, hm, hs, hc, filter_nil_of_false hf, List.foldl_nil, Bool.or_self, Bool.false_eq_true, if_false]

theorem stepDone_tested {faults : List MemFault} (hm : u.power.mode = .boot) (hc : u.tasting.criticalDone = true) :
    u.stepDone faults = u := by
  simp only [State.stepDone, hm, hc, Bool.or_true, if_true]

theorem stepDone_other {faults : List MemFault} (hb : u.power.mode ≠ .boot) (ht : u.power.mode ≠ .tasting) : u.stepDone faults = u := by
  unfold State.stepDone
  split
  · contradiction
  · contradiction
  · rfl

theorem stepCut_due (h : u.tasting.run = some r) (hm : u.power.mode = .tasting)
    (hb : u.tasting.stepAt + u.stepBudgetNs u.stepNow ≤ u.clock.now) :
    u.stepCut = (u.behind r false).nextStep (u.tasting.stepCount + 1) := by
  simp only [State.stepCut, hm, hb, passStep_cut h, beq_self_eq_true, decide_true, Bool.and_self, if_true]

theorem stepCut_early (h : u.power.mode ≠ .tasting ∨ u.clock.now < u.tasting.stepAt + u.stepBudgetNs u.stepNow) : u.stepCut = u := by
  refine if_neg fun hc => ?_
  simp only [Bool.and_eq_true, beq_iff_eq, decide_eq_true_eq] at hc
  exact h.elim (fun hm => hm hc.1) fun hb => absurd hc.2 (Nat.not_le.mpr hb)

/-- The budget of a step: its own, or SLICE_US (R525). -/
theorem stepBudgetNs_eq (b : Bytes) : u.stepBudgetNs b = 1000 * (if le b 0x0C 4 = 0 then u.tasting.sliceUs else le b 0x0C 4) := by
  simp only [State.stepBudgetNs, stepBudget, beq_iff_eq]

section
variable (n : Nat) (h : u.tasting.run = some r)
include h

theorem nextStep_whole (hp : u.tasting.stepCount ≤ r.passed) : u.nextStep (n + 1) = u.endTasting 1 := by
  simp only [State.nextStep, h, hp, if_true]

variable (hp : r.passed < u.tasting.stepCount) (hi : r.action ≠ 0 ∨ memIsland (stepMem u.stepNow) ≠ 55)
include hp hi

/-- A step that is not passed over starts where its budget fits (R526). -/
theorem nextStep_fits : u.nextStep (n + 1) =
    if u.tasting.totalMs * 1000000 < (u.clock.now - r.since) + u.stepBudgetNs u.stepNow then u.endTasting 2
    else { u with tasting.stepAt := u.clock.now, power.domains := [0, 1] ++ stepDomains u.stepNow } := by
  have hpass : (r.action == 0 && memIsland (stepMem u.stepNow) == 55) = false := by rcases hi with hi | hi <;> simp [hi]
  simp only [State.nextStep, h, Nat.not_le.mpr hp, hpass, Bool.false_eq_true, if_false]
  rfl
end

theorem endTasting_eq (outcome : Nat) (h : u.tasting.run = some r) : u.endTasting outcome =
    (let y : State := { u with
      tasting.run := none, tasting.lastOutcome := outcome, tasting.cursor := r.cut.getD u.tasting.cursor
      tasting.stepsUntested := u.tasting.stepCount - u.tasting.stepsRun, tasting.criticalDone := r.critical == 0 }
    if r.action = 0 then y.park else y.internalReset) := by
  simp only [State.endTasting, h, beq_iff_eq]
end

/-- Settles O24: a step that is done or cut leaves the cursor behind it; what comes next turns on the steps passed and the budget. -/
theorem tastingSteps : Obligations.TastingSteps := by
  unfold Obligations.TastingSteps
  rintro s _ t faults r rfl h step budget behind next
  have hbudget : budget = State.stepBudgetNs := funext fun x => funext fun b => (stepBudgetNs_eq b).symm
  clear_value budget
  subst hbudget
  refine ⟨fun hm hf => congrArg _ (stepDone_tasting h hm hf), fun hm hb => ?_, fun hb => ?_,
    fun hm hs hc hf => congrArg _ (stepDone_selfTest hm hs hc hf), fun hm hc => congrArg _ (stepDone_tested hm hc),
    fun hb ht => congrArg _ (stepDone_other hb ht), fun x q hq => ⟨fun hp => nextStep_whole _ hq hp, fun hp hi => ?_, fun outcome => ?_⟩⟩
  · exact congrArg _ (stepCut_due h hm hb)
  · exact congrArg _ (stepCut_early hb)
  · exact ⟨fun he => (nextStep_fits _ hq hp hi).trans (if_pos he), fun he => (nextStep_fits _ hq hp hi).trans (if_neg he)⟩
  · exact ⟨_, rfl, endTasting_eq outcome hq⟩

end Sys2Proof.Machine
end

/-!
The block as a whole, its memories, the CRC of frames and register writes (16 R467; 02 R46; 17 R497 to R501), and the response of the mailbox.
-/
section
namespace Sys2Proof.Machine

/-- Settles O1: the front of the queue is what `step` matches on. -/
theorem stepRunsFront : Obligations.StepRunsFront := by
  unfold Obligations.StepRunsFront
  exact ⟨fun c rest s => rfl, fun s h => by rw [step, h]⟩

/-- Settles O2: every value is a default of the state or of its tables. -/
theorem resetValues : Obligations.ResetValues := by
  unfold Obligations.ResetValues
  refine ⟨rfl, rfl, rfl, rfl, rfl, rfl, rfl, rfl, rfl, rfl, rfl, rfl, rfl, rfl, rfl, rfl, rfl, rfl, rfl, rfl, rfl, rfl, rfl, ?_⟩
  decide

/-- Settles O5: reset leaves the same code in the three copies. -/
theorem fusesAgreeAtReset : Obligations.FusesAgreeAtReset := ⟨⟨rfl, rfl, rfl⟩, rfl⟩

/-! ### Memory in canonical form -/

/-- What a byte string written from `a` on reads as. -/
theorem read_writeBytes (b : Bytes) : ∀ (m : Mem) (a k : Nat), m.wf = true →
    (m.writeBytes a b).read k = if a ≤ k ∧ k < a + b.length then b.getD (k - a) 0 else m.read k := by
  induction b with
  | nil =>
    intro m a k _
    have hnone : ¬ (a ≤ k ∧ k < a + ([] : Bytes).length) := by simp only [List.length_nil]; omega
    rw [if_neg hnone]
    rfl
  | cons x t ih =>
    intro m a k h
    rw [Mem.writeBytes, ih _ _ _ (write_wf m a x h), read_write m a x k h, List.length_cons]
    rcases Nat.lt_trichotomy k a with hlt | rfl | hgt
    · rw [if_neg (by omega), if_neg (by omega), if_neg (by omega)]
    · rw [if_neg (by omega), if_pos rfl, if_pos (by omega)]
      simp
    · by_cases hin : k < a + 1 + t.length
      · rw [if_pos (by omega), if_pos (by omega), show k - a = (k - (a + 1)) + 1 by omega, List.getD_cons_succ]
      · rw [if_neg (by omega), if_neg (by omega), if_neg (by omega)]

/-- A byte string reads back where it was written. -/
theorem readBytes_writeBytes (m : Mem) (a : Nat) (b : Bytes) (h : m.wf = true) : (m.writeBytes a b).readBytes a b.length = b := by
  refine List.ext_getElem (by simp [Mem.readBytes]) fun i hi hb => ?_
  simp only [Mem.readBytes, List.getElem_map, List.getElem_range]
  rw [read_writeBytes b m a (a + i) h, if_pos (by omega), Nat.add_sub_cancel_left, List.getD_eq_getElem _ _ hb]

/-- The first cell of a canonical memory reads as it is listed. -/
theorem read_head (k : Nat) (v : Byte) (t : Mem) : Mem.read ((k, v) :: t) k = v := if_pos rfl

/-- Behind its first address, a memory reads as its rest. -/
theorem read_tail {k a : Nat} (v : Byte) (t : Mem) (h : k < a) : Mem.read ((k, v) :: t) a = Mem.read t a := by
  rw [Mem.read, if_neg (by omega), if_neg (by omega)]

/-- Canonical memories that read alike start at the same address. -/
theorem head_le_of_reads {k j : Nat} {v w : Byte} {t r : Mem} (hv : v ≠ 0) (hr : Mem.wf ((j, w) :: r) = true)
    (h : ∀ a, Mem.read ((k, v) :: t) a = Mem.read ((j, w) :: r) a) : j ≤ k := by
  by_contra hlt
  have hzero : Mem.read ((j, w) :: r) k = 0 := read_below fun c hc => by
    rcases List.mem_cons.mp hc with rfl | hc
    · show k < j; omega
    · have := (wf_above hr).2 c hc; omega
  exact hv ((read_head k v t).symm.trans ((h k).trans hzero))

/-- Canonical memories that read alike are equal. -/
theorem wf_ext : ∀ m n : Mem, m.wf = true → n.wf = true → (∀ k, m.read k = n.read k) → m = n := by
  intro m
  induction m with
  | nil =>
    intro n _ hn h
    cases n with
    | nil => rfl
    | cons x r =>
      obtain ⟨j, w⟩ := x
      exact absurd ((read_head j w r).symm.trans (h j).symm) (wf_head hn)
  | cons x t ih =>
    obtain ⟨k, v⟩ := x
    intro n hm hn h
    cases n with
    | nil => exact absurd ((read_head k v t).symm.trans (h k)) (wf_head hm)
    | cons y r =>
      obtain ⟨j, w⟩ := y
      obtain rfl : k = j :=
        Nat.le_antisymm (head_le_of_reads (wf_head hn) hm fun a => (h a).symm) (head_le_of_reads (wf_head hm) hn h)
      obtain rfl : v = w := (read_head k v t).symm.trans ((h k).trans (read_head k w r))
      obtain ⟨⟨ht, habove⟩, hr, habove'⟩ := And.intro (wf_above hm) (wf_above hn)
      rw [ih r ht hr fun a => ?_]
      by_cases ha : k < a
      · rw [← read_tail v t ha, h a, read_tail v r ha]
      · rw [read_below fun c hc => ?_, read_below fun c hc => ?_]
        · have := habove' c hc; omega
        · have := habove c hc; omega

/-- A memory that has shrunk to `n` bytes reads 0 from there on, and as before below. -/
theorem read_clip (m : Mem) (n k : Nat) (h : m.wf = true) : (m.clip n).read k = if k < n then m.read k else 0 := by
  induction m with
  | nil => simp [Mem.clip, Mem.read]
  | cons x t ih =>
    obtain ⟨j, v⟩ := x
    obtain ⟨ht, habove⟩ := wf_above h
    have hih := ih ht
    unfold Mem.clip at hih ⊢
    rw [List.filter_cons]
    by_cases hj : j < n
    · rw [if_pos (by simpa using hj)]
      simp only [Mem.read, hih]
      split_ifs <;> grind
    · rw [if_neg (by simpa using hj), hih]
      by_cases hk : k < n
      · rw [if_pos hk, if_pos hk, Mem.read, if_neg (by omega), if_pos (by omega), read_below fun c hc => ?_]
        have := habove c hc
        omega
      · rw [if_neg hk, if_neg hk]

/-- Settles O6: writes by induction on the bytes, equality and clipping by induction on the cells. -/
theorem memoryReadsBack : Obligations.MemoryReadsBack := by
  unfold Obligations.MemoryReadsBack
  exact ⟨fun m a b k h => read_writeBytes b m a k h, readBytes_writeBytes, wf_ext, read_clip⟩

/-! ### CRC-32C -/

/-- The register value behind a check value. -/
theorem crc32c_register (b : Bytes) : crc32c b ^^^ 0xFFFFFFFF#32 = b.foldl crcByte 0xFFFFFFFF#32 := by
  rw [crc32c, BitVec.xor_assoc, BitVec.xor_self, BitVec.xor_zero]

set_option maxRecDepth 4000 in
theorem crc32c_digits : crc32c (ascii "123456789") = 0xE3069283#32 := by decide

/-- Settles O7: the check value by evaluation, the next byte by the fold over the bytes before it. -/
theorem crcOfFrames : Obligations.CrcOfFrames := by
  unfold Obligations.CrcOfFrames
  refine ⟨crc32c_digits, fun b x => ?_⟩
  rw [crc32c_register, crc32c, List.foldl_append]
  rfl

/-! ### Registers and the Boot Digest unit -/

/-- Settles O51: each writable register changes its own field. -/
theorem registerWrites : Obligations.RegisterWrites := by
  unfold Obligations.RegisterWrites
  rintro s u t v rfl
  refine ⟨fun hup => ⟨fun n => ?_, ?_, ?_⟩, fun hon => ?_, rfl, fun n => rfl, rfl⟩
  · exact congrArg Host.Outcome.next (State.bdDo_up hup fun d => { d with expect := d.expect.set n v })
  · exact congrArg Host.Outcome.next (State.bdDo_up hup fun d => { d with snoop := v.getLsbD 3 })
  · exact congrArg Host.Outcome.next (State.bdDo_up hup fun d => { d with refused := d.refused && !v.getLsbD 2 })
  · exact congrArg Host.Outcome.next (if_pos hon)

theorem BootDigest.start_idle {d : BootDigest} (h : d.busy = false) (owner : BdOwner) :
    d.start owner = { d with absorbed := [], done := false, whole := false, busy := true, owner := owner } := by
  simp [BootDigest.start, h]

theorem BootDigest.start_busy {d : BootDigest} (h : d.busy = true) (owner : BdOwner) : d.start owner = { d with refused := true } := if_pos h

theorem BootDigest.finish_busy {d : BootDigest} (h : d.busy = true) :
    d.finish = { d with busy := false, done := true, whole := d.absorbed.length % 128 == 0 } := if_pos h

theorem BootDigest.abort_owner {d : BootDigest} {owner : BdOwner} (h : d.owner = owner) :
    d.abort owner = { d with absorbed := [], busy := false, done := false, whole := false } := if_pos (beq_iff_eq.mpr h)

theorem BootDigest.abort_other {d : BootDigest} {owner : BdOwner} (h : d.owner ≠ owner) : d.abort owner = d :=
  if_neg (by simpa using h)

/-- Bytes go on with the message in progress. -/
theorem BootDigest.absorb_busy {d : BootDigest} (hdone : d.done = false) (hbusy : d.busy = true) (b : Bytes) :
    d.absorb b = { d with absorbed := d.absorbed ++ b } := by
  cases b with
  | nil => rw [List.append_nil]; rfl
  | cons x t => simp [BootDigest.absorb, hdone, hbusy]

/-- The comparator never drives both outputs. -/
theorem BootDigest.eq_ne_eqN (d : BootDigest) : (d.eq = true → d.eqN = false) ∧ (d.eqN = true → d.eq = false) := by
  unfold BootDigest.eq BootDigest.eqN
  cases d.same <;> simp

/-- Settles O49: each control write and each source of bytes through its own rule of the unit. -/
theorem bootDigestUnit : Obligations.BootDigestUnit := by
  unfold Obligations.BootDigestUnit
  rintro s u t owner rfl hup
  have change (g : BootDigest → BootDigest) {d : BootDigest} (h : g (s.advance t).bd = d) :
      Host.Outcome.next ((s.advance t).bdDo g) = (.next { s.advance t with bd := d } : Host.Outcome State Fault Refusal) := by
    rw [State.bdDo_up hup, h]
  refine ⟨fun h => ?_, fun h => ?_, fun h => ?_, fun h => ?_, fun h => ?_, fun data hlen hdone hbusy => ?_,
    fun bank off len hbank hoff => ⟨fun hsnoop hdone hbusy => ?_, fun hsnoop => ?_⟩,
    fun d => ⟨d.eq_ne_eqN.1, d.eq_ne_eqN.2, BootDigest.outputs_not_done⟩⟩
  · exact change _ (by rw [BootDigest.start_idle h])
  · exact change _ (by rw [BootDigest.start_busy h])
  · exact change _ (by rw [BootDigest.finish_busy h])
  · exact change _ (by rw [BootDigest.abort_owner h])
  · exact change _ (by rw [BootDigest.abort_other h])
  · have hrow : exec (.bdDataWrite t owner data) s = .next ((s.advance t).bdDo fun d => d.absorb data) :=
      congrArg Host.Outcome.next (if_pos (beq_iff_eq.mpr hlen))
    exact hrow.trans (change _ (BootDigest.absorb_busy hdone hbusy data))
  · calc exec (.norReadSnooped t bank off len) s
        = .next ((s.advance t).norRead bank off len) := rfl
      _ = _ := by rw [State.norRead_snooped hup hsnoop hbank hoff, BootDigest.absorb_busy hdone hbusy]
  · calc exec (.norReadSnooped t bank off len) s
        = .next ((s.advance t).norRead bank off len) := rfl
      _ = _ := by rw [State.norRead, if_neg (by simp [hsnoop])]

/-! ### The response of the mailbox -/

/-- The first command of a session, that reads. -/
def readingCommand : MbCommand := { conn := 2, msg := firstHead, session := 5 }

/-- Refutes O33: only `sent` may grow, but the response that the module posts is also outstanding on its connection until it is acknowledged. -/
theorem not_mailboxResponse : ¬ Obligations.MailboxResponse := by
  unfold Obligations.MailboxResponse
  intro h
  have hanswer := (h afterFirstCommand readingCommand {} controlSession controlConn rfl rfl rfl rfl (by decide) rfl rfl rfl).2
  have hpost : afterFirstCommand.mbAnswer readingCommand {} =
      afterFirstCommand.post 2 (.send 2 (mbResponse 3 .success 1 [] 0 [] (some controlSession.key))) := rfl
  have hconns := congrArg (·.conn? 2) (hpost.symm.trans hanswer)
  rw [post_send_conn? (k := controlConn) rfl rfl rfl] at hconns
  exact List.cons_ne_nil _ _ (congrArg Connection.outstanding (Option.some.inj hconns))

end Sys2Proof.Machine
end

/-! Which commands stop the module (19 R536). -/
section
namespace Sys2Proof.Machine

/-- A command that says VIN is guarded by it. -/
theorem exec_withVin (i : Instr) (s : State) (v : Nat) (h : vinOf i = some v) : ∃ w, exec i s = withVin v w := by
  cases i with
  | vinStart t vin | nresetDeassert t vin | vinReset t vin | vinWarnCrossing t vin | vinLowDerate t vin | deratedExitTimer t vin
  | ladderStepUp t vin | inputPowerOver t currentMa vin | currentLimit t rail currentMa vin | holdExit t vin =>
    obtain rfl : vin = v := Option.some.inj h
    exact ⟨_, rfl⟩
  | _ => nomatch h

/-- Every other command completes. -/
theorem exec_next_of_noVin (i : Instr) (s : State) (h : vinOf i = none) : ∃ s', exec i s = .next s' := by
  cases i with
  | unknownOpcodeEntry t job =>
    show ∃ s', execUnknownOpcodeEntry t job s = .next s'
    unfold execUnknownOpcodeEntry
    dsimp only
    split <;> exact ⟨_, rfl⟩
  | nop t job =>
    show ∃ s', execNop t job s = .next s'
    unfold execNop
    dsimp only
    split <;> exact ⟨_, rfl⟩
  | vinStart | nresetDeassert | vinReset | vinWarnCrossing | vinLowDerate | deratedExitTimer | ladderStepUp | inputPowerOver
  | currentLimit | holdExit => nomatch h
  | _ => exact ⟨_, rfl⟩

/-- Settles O3: a command either is guarded by the VIN it says or completes. -/
theorem onlyVinStops : Obligations.OnlyVinStops := by
  unfold Obligations.OnlyVinStops
  intro i s
  refine ⟨fun ⟨v, hv, hover⟩ => ?_, fun hmost => ?_⟩
  · obtain ⟨w, hw⟩ := exec_withVin i s v hv
    rw [hw]
    exact if_pos hover
  · cases hv : vinOf i with
    | none => exact exec_next_of_noVin i s hv
    | some v =>
      obtain ⟨w, hw⟩ := exec_withVin i s v hv
      exact ⟨w, hw.trans (if_neg (Nat.not_lt.mpr (hmost v hv)))⟩

end Sys2Proof.Machine
end

/-! Random numbers: debiasers, noise cells, the conditioner and the DRBG (10 R307 to R323). -/
section
namespace Sys2Proof.Machine

/-! ### Noise cells and the conditioner -/

theorem debias_zero (p q : Bool) : debias 0 p q = some (p != q) := rfl

/-- Von Neumann's debiaser makes nothing of an equal pair (R307). -/
theorem debias_one_none (p q : Bool) : debias 1 p q = none ↔ p = q := by
  cases p <;> cases q <;> decide

/-- A cell fails no continuous test below both cut-offs (R308). -/
theorem Cell.failedTest_none (c : Cell) : c.failedTest = none ↔ c.run < 41 ∧ c.same < 795 := by
  have hcut : repetitionCut = 41 ∧ proportionCut = 795 := ⟨rfl, rfl⟩
  rw [Cell.failedTest, hcut.1, hcut.2]
  by_cases hrun : 41 ≤ c.run
  · simp [hrun]
  · by_cases hsame : 795 ≤ c.same
    · simp [hrun, hsame]
    · simp only [if_neg hrun, if_neg hsame, Option.map_none, true_iff]
      omega

/-- A bit of a running cell is counted first; the tests decide what becomes of it (R308, R311). -/
theorem State.noiseBit_eq {u : State} {i : Nat} {x : Cell} (hx : u.rng.cells[i]? = some x) (hrun : x.stopped = false)
    (hup : u.rngRuns = true) (b : Bool) :
    u.noiseBit i b =
      match (x.count b u.clock.now).failedTest with
      | some test => (u.modCell i fun _ => x.count b u.clock.now).stopCell i test
      | none =>
        if x.healthy then
          let held := (u.modCell i fun _ => x.count b u.clock.now).modCell i fun c => { c with bits := c.bits ++ [b] }
          held.gather (held.rng.cells.map (·.bits.length)).sum
        else u.modCell i fun _ => x.count b u.clock.now := by
  rw [State.noiseBit, hx]
  simp only [hup, hrun, Bool.not_true, Bool.or_self, Bool.false_eq_true, if_false] <;> rfl

/-- The conditioner takes the first bit of the cell whose turn it is (R311). -/
theorem State.gather_succ {v : State} {n k : Nat} {b : Bool} {c : Cell} {rest : List Bool} (hturn : v.turnCell = some k)
    (hc : v.rng.cells[k]? = some c) (hbits : c.bits = b :: rest) :
    v.gather (n + 1) = ({ (v.modCell k fun c => { c with bits := rest }) with
      rng.block := v.rng.block ++ [(k, b)], rng.turn := (k + 1) % 16 } : State).gather n := by
  have hcells : v.rng.cells.modify k (fun c => { c with bits := c.bits.drop 1 }) = v.rng.cells.modify k fun c => { c with bits := rest } := by
    refine List.ext_getElem? fun i => ?_
    rw [List.getElem?_modify, List.getElem?_modify]
    split
    · rename_i hik
      subst hik
      simp [hc, hbits]
    · rfl
  rw [State.gather, hturn]
  simp only [hc, Option.bind_some, hbits, List.head?_cons]
  simp only [State.modCell, hcells]

/-- Settles O52: a raw pair through its debiaser and the counts of its cell, the other commands by their guards. -/
theorem noiseAndConditioner : Obligations.NoiseAndConditioner := by
  unfold Obligations.NoiseAndConditioner
  rintro s u t i x rfl hx hrun hup
  refine ⟨fun p q => ⟨fun hnone => ?_, fun b hb => ?_⟩, fun p q => ⟨debias_zero p q, debias_one_none p q⟩,
    fun v n k b c rest => State.gather_succ, fun hstall => ?_, fun hstarted => ?_, fun agree hfatal hlen => ?_⟩
  · refine ⟨_, rfl, ?_⟩
    rw [State.rawPair, hnone]
  · have hrow : exec (.noiseBit t i (p, q)) s = .next ((s.advance t).noiseBit i b).resume := by
      show Host.Outcome.next ((s.advance t).rawPair i p q).resume = _
      rw [State.rawPair, hb]
    have hbit := State.noiseBit_eq hx hrun hup b
    refine ⟨fun hpass hh => ⟨_, hrow, ?_⟩, fun hpass hh => ⟨_, hrow, ?_⟩, fun n hfail => ⟨_, hrow, ?_⟩, Cell.failedTest_none _⟩
    · rw [hbit, hpass, hh]
      rfl
    · rw [hbit, hpass, hh]
      rfl
    · rw [hbit, hfail]
  · refine ⟨_, rfl, ?_⟩
    rw [State.stall, hx]
    have hdue : ((s.advance t).rngRuns && !x.stopped && decide (max x.lastAt ((s.advance t).power.bootAt + 1000000) + 100000 ≤
        (s.advance t).clock.now)) = true := by simp [hup, hrun, hstall]
    exact if_pos hdue
  · refine congrArg (fun g => Host.Outcome.next ((s.advance t).modCell i g)) (funext fun c => ?_)
    rw [hup, Bool.true_and]
    rfl
  · have hready : (!(s.advance t).rngRuns || (s.advance t).rng.fatal || decide ((s.advance t).rng.block.length < 512)) = false := by
      simp [hup, hfatal, hlen]
    refine ⟨fun hbad => ⟨_, rfl, ?_⟩, fun hagree hnew => ⟨_, rfl, ?_⟩⟩
    · rw [State.condition, if_neg (Bool.not_eq_true _ ▸ hready)]
      exact if_pos (by simpa [blockBits] using hbad)
    · rw [State.condition, if_neg (Bool.not_eq_true _ ▸ hready)]
      exact if_neg (by simpa [blockBits, hagree] using hnew)

end Sys2Proof.Machine
end

/-! The DRBG: instantiation, reseeds, mask seeds and reads of RNG_DATA (10 R313 to R323). -/
section
namespace Sys2Proof.Machine

/-! ### The DRBG (R313 to R317) -/

theorem State.drbgStart_eq {u : State} (hmode : u.power.mode = .boot) (hup : u.rngRuns = true) (hst : u.rng.state = .unseeded)
    (hlen : 4 ≤ u.rng.ready.length) (ok : Bool) : u.drbgStart ok = if ok then u.instantiate else u.fatalEntropy 3 := by
  rw [State.drbgStart, if_neg]
  simp [hmode, hup, hst, hlen]

theorem State.refillData_clock (u : State) : u.refillData.clock = u.clock := by
  unfold State.refillData
  split <;> rfl

theorem State.refillData_ready (u : State) : u.refillData.rng.ready = u.rng.ready := by
  unfold State.refillData
  split <;> rfl

/-- A word that is there stays; without a seeded DRBG none comes (R323). -/
theorem State.refillData_idle {u : State} (h : u.rng.valid = true ∨ u.rng.state ≠ .seeded) : u.refillData = u := by
  rw [State.refillData, if_pos]
  rcases h with h | h
  · simp [h]
  · simp only [bne_iff_ne.mpr h, Bool.or_true]

theorem State.refillData_seeded {u : State} (hv : u.rng.valid = false) (hs : u.rng.state = .seeded) :
    u.refillData =
      { (u.serveDraw false 1).1 with
        rng.data := BitVec.ofNat 64 (leNat (drawBytes (u.serveDraw false 1).2 8)), rng.valid := true } := by
  rw [State.refillData, if_neg (by simp [hv, hs])]

/-- The state of the DRBG decides what a reseed that is due does (R313, R316, R317, R323). -/
theorem State.reseedDue_seeded {u : State} (h : u.rng.state = .seeded) (ok : Bool) :
    u.reseedDue ok =
      if u.rng.fatal then u.drbgFailed
      else if !ok then u.fatalEntropy 3
      else if 2 ≤ u.rng.ready.length then u.reseed.serveDraws
      else
        let r := if u.rng.readAt + 22 ≤ u.clock.now then u.refillData else u
        ({ r with rng := { r.rng with state := .reseedDue, dueSince := u.clock.now } } : State).raise 165 [u.rng.ready.length] := by
  rw [State.reseedDue, h]
  dsimp only
  have hrefill : refillTime = 22 := rfl
  rw [hrefill]
  by_cases hdue : u.rng.readAt + 22 ≤ u.clock.now
  · simp only [if_pos hdue, State.refillData_clock, State.refillData_ready]
  · simp only [if_neg hdue]

theorem State.reseedDue_due {u : State} (h : u.rng.state = .reseedDue) (ok : Bool) :
    u.reseedDue ok = if ok = true then u else u.fatalEntropy 3 := by
  rw [State.reseedDue, h]

/-- One more seed for the pool of a powered tile (R91). -/
theorem State.seedRefill_eq {u : State} {tile : Nat} {y : Engine} (hy : u.engines.tiles[tile]? = some y) (hlen : y.seeds.length < 4)
    (hon : u.domainOn (engineDomain .press tile) = true) (hs : u.rng.state = .seeded) :
    u.seedRefill tile = (u.serveDraw false 1).1.modEngine .press tile fun y => { y with seeds := y.seeds ++ [(u.serveDraw false 1).2] } := by
  have hpool : ¬ seedPool ≤ y.seeds.length := by unfold seedPool; omega
  have hfate : u.drawFate false = .served := by simp [State.drawFate, hs]
  rw [State.seedRefill, hy]
  dsimp only
  rw [if_neg]
  simp [hpool, hon, hfate]

/-! ### RNG_DATA (R323) -/

section
variable {u : State} (hon : u.domainOn 3 = true)
include hon

/-- A word that is ready is handed out once. -/
theorem State.readData_valid (hv : u.rng.valid = true) :
    u.readData = { u with rng := { u.rng with readAt := u.clock.now, lastWord := u.rng.data, data := 0, valid := false } } := by
  rw [State.readData, if_neg (by simp [hon]), State.refillData_idle (.inl hv), ite_self]
  simp [hv]

/-- A refill that has fallen due comes first. -/
theorem State.readData_refilled (hv : u.rng.valid = false) (hdue : u.rng.readAt + 22 ≤ u.clock.now) (hs : u.rng.state = .seeded) :
    u.readData = { (u.serveDraw false 1).1 with rng := { (u.serveDraw false 1).1.rng with
      readAt := u.clock.now, lastWord := BitVec.ofNat 64 (leNat (drawBytes (u.serveDraw false 1).2 8)), data := 0, valid := false } } := by
  have hdue' : u.rng.readAt + refillTime ≤ u.clock.now := hdue
  rw [State.readData, if_neg (by simp [hon]), if_pos hdue', State.refillData_seeded hv hs]
  exact if_pos rfl

/-- Without a word, EMPTY_READ is set, and the event that may be due changes nothing else of the island. -/
theorem State.readData_empty (hv : u.rng.valid = false) (hnone : u.clock.now < u.rng.readAt + 22 ∨ u.rng.state ≠ .seeded) :
    let x := u.readData
    x.rng.lastWord = 0 ∧ x.rng.emptyRead = true ∧ x.rng.valid = false ∧ x.rng.readAt = u.rng.readAt := by
  have hstay : (if u.rng.readAt + refillTime ≤ u.clock.now then u.refillData else u) = u := by
    by_cases hdue : u.rng.readAt + refillTime ≤ u.clock.now
    · rw [if_pos hdue]
      exact State.refillData_idle (.inr (hnone.resolve_left (Nat.not_lt.mpr hdue)))
    · exact if_neg hdue
  rw [State.readData, if_neg (by simp [hon]), hstay]
  simp only [hv, Bool.false_eq_true, if_false]
  split
  · rw [(raise_events _ _ _).rng]
    exact ⟨rfl, rfl, rfl, rfl⟩
  · exact ⟨rfl, rfl, rfl, rfl⟩

end

/-- Settles O53: the guards of each command, then the state of the DRBG and of its read register. -/
theorem drbgRules : Obligations.DrbgRules := by
  unfold Obligations.DrbgRules
  rintro s u t rfl now
  refine ⟨fun hmode hup hst hlen => ⟨⟨_, rfl, ?_⟩, ⟨_, rfl, ?_⟩⟩, fun ok => ?_, fun hst hdue => ⟨_, rfl, ?_⟩,
    fun tile y hy hlen hon hs => ⟨_, rfl, State.seedRefill_eq hy hlen hon hs⟩, fun hon =>
    ⟨fun hv => ⟨_, rfl, State.readData_valid hon hv⟩, fun hv hdue hs => ⟨_, rfl, State.readData_refilled hon hv hdue hs⟩,
      fun hv hnone => ⟨_, rfl, State.readData_empty hon hv hnone⟩⟩⟩
  · exact State.drbgStart_eq hmode hup hst hlen true
  · exact State.drbgStart_eq hmode hup hst hlen false
  · intro due
    have rules (e : Host.Outcome State Fault Refusal) (he : e = .next ((s.advance t).reseedDue ok).resume) : due e := by
      refine ⟨fun hst hf => ⟨_, he, ?_⟩, fun hst hf hok => ⟨_, he, ?_⟩, fun hst hf hok hlen => ⟨_, he, ?_⟩,
        fun hst hf hok hlen => ⟨_, he, ?_⟩, fun hst => ⟨_, he, State.reseedDue_due hst ok⟩⟩
      · rw [State.reseedDue_seeded hst, if_pos hf]
      · rw [State.reseedDue_seeded hst, hf, hok]
        rfl
      · rw [State.reseedDue_seeded hst, hf, hok]
        exact if_pos hlen
      · rw [State.reseedDue_seeded hst, hf, hok]
        exact if_neg (Nat.not_le.mpr hlen)
    refine ⟨fun hdue => rules _ ?_, fun hcalls => rules _ ?_⟩
    · exact congrArg (fun x => Host.Outcome.next (State.resume x)) (if_pos hdue)
    · exact congrArg (fun x => Host.Outcome.next (State.resume x)) (if_pos hcalls)
  · refine if_pos ?_
    have hdue' : (s.advance t).rng.dueSince + 10 * ms ≤ (s.advance t).clock.now := hdue
    simp [hst, hdue']

end Sys2Proof.Machine
end

/-! GDDR7 errors (01 R14; 02 R63; 14 R415; 18 R531). -/
section
namespace Sys2Proof.Machine

/-- The row of an uncorrectable error raises its event and is reported for retirement, once. -/
def State.rowReported (u : State) (c row region : Nat) : State :=
  let a := u.raise (128 + 2 * (c / 2)) [c % 2, row, region]
  if (c, row) ∈ u.tasting.reported then a else { a with tasting.reported := u.tasting.reported ++ [(c, row)] }

/-- What was lost is handled after the report. -/
theorem State.gddrError_eq (u : State) (c row region : Nat) (x : GddrTarget) :
    u.gddrError c row region x = (u.rowReported c row region).gddrLost x := by
  unfold State.gddrError State.rowReported
  dsimp only
  rw [(raise_events u _ _).tasting]
  simp only [List.contains_iff_mem]

/-- GDDR7_UNCORRECTABLE of one of the eight components. -/
theorem exec_gddr7Uncorrectable {c : Nat} (hc : c < 8) (s : State) (t row region : Nat) (x : GddrTarget) :
    exec (.gddr7Uncorrectable t c row region x) s = .next (((s.advance t).rowReported c row region).gddrLost x).settle := by
  rw [← State.gddrError_eq]
  exact congrArg (fun y => Host.Outcome.next (State.settle y)) (if_pos hc)

/-- Input lost of a job that reads no cached key from GDDR7 leaves the cache as it is. -/
theorem State.gddrLost_jobInput {w : State} {id : Nat} {j : Job} (hj : w.job? id = some j) (hcache : j.readsGddr = true → j.handle = none) :
    w.gddrLost (.jobInput id) = if j.readsGddr then w.failAny id .inputFetchError true else w := by
  have hused : ((w.job? id).bind fun j => if j.streaming then j.handle else none) = none := by
    rw [hj, Option.bind_some]
    cases hs : j.streaming with
    | false => rfl
    | true => exact hcache (by simp [Job.readsGddr, hs])
  have hkeys : w.engines.publicKeys.filter (fun k => (none : Option Nat) != some k.entry) = w.engines.publicKeys :=
    List.filter_eq_self.mpr fun k _ => rfl
  have hkeep : (State.gddrLost w (.jobInput id)) = w.endIf id Job.readsGddr .inputFetchError true := by
    simp only [State.gddrLost, hused, hkeys]
  rw [hkeep, State.endIf, hj]

/-- The first part of a job that streams from its region in GDDR7 is abandoned. -/
theorem State.gddrLost_largeMode {w : State} {id : Nat} {j : Job} {q : JobPart} {qs : List JobPart} (hj : w.job? id = some j)
    (hparts : j.parts = q :: qs) (hrun : q.running = true) (hregion : q.region ≠ []) :
    w.gddrLost (.largeMode id) = w.abandonPart id 0 false false := by
  rw [State.gddrLost, hj]
  refine if_pos ?_
  simp [hparts, hrun, hregion]

/-- Corrected errors below the rate, or within 1 s of the last report, are only counted (R415). -/
theorem State.gddrCorrected_silent {u : State} {c count : Nat}
    (h : count ≤ 1000 ∨ ∃ z ∈ u.router.gddrRate, z.1 = c / 2 ∧ u.clock.now < z.2 + 1000000000) : u.gddrCorrected c count = u := by
  refine if_pos ?_
  have hsecond : 1000 * ms = 1000000000 := rfl
  simpa [hsecond] using h

theorem State.gddrCorrected_reported {u : State} {c count : Nat} (hmany : 1000 < count)
    (h : ¬ ∃ z ∈ u.router.gddrRate, z.1 = c / 2 ∧ u.clock.now < z.2 + 1000000000) :
    u.gddrCorrected c count =
      ({ u with router.gddrRate := (u.router.gddrRate.filter fun (z : Nat × Nat) => z.1 != c / 2) ++ [(c / 2, u.clock.now)] } : State).raise
        (129 + 2 * (c / 2)) [c % 2, count] := by
  refine if_neg ?_
  have hsecond : 1000 * ms = 1000000000 := rfl
  have hnot : ¬ (count ≤ 1000 ∨ ∃ z ∈ u.router.gddrRate, z.1 = c / 2 ∧ u.clock.now < z.2 + 1000000000) :=
    not_or.mpr ⟨Nat.not_le.mpr hmany, h⟩
  simpa [hsecond] using hnot

/-- Settles O60: the report comes first, then the loss of each target by its own rule. -/
theorem gddrErrors : Obligations.GddrErrors := by
  unfold Obligations.GddrErrors
  rintro s u t c row region rfl hc
  have hrow := exec_gddr7Uncorrectable hc s t row region
  refine ⟨hrow .other, fun id => hrow (.jobOutput id), fun slot level index => hrow (.tree slot level index), fun n => hrow (.publicKey n),
    fun h => hrow (.expandedKey h), fun n => hrow (.session n), fun id j hj => ⟨fun hreads hhandle => ?_, fun hreads => ?_,
    fun q qs hparts hrun hregion => ?_⟩, fun count => ⟨fun hquiet => ?_, fun hmany hfirst => ?_⟩⟩
  · refine (hrow (.jobInput id)).trans (congrArg (fun y => Host.Outcome.next (State.settle y)) ?_)
    exact (State.gddrLost_jobInput (w := (s.advance t).rowReported c row region) hj fun _ => hhandle).trans (if_pos hreads)
  · refine (hrow (.jobInput id)).trans (congrArg (fun y => Host.Outcome.next (State.settle y)) ?_)
    have hno : ¬ j.readsGddr = true := by simp [hreads]
    exact (State.gddrLost_jobInput (w := (s.advance t).rowReported c row region) hj fun h => absurd h hno).trans (if_neg hno)
  · exact (hrow (.largeMode id)).trans
      (congrArg (fun y => Host.Outcome.next (State.settle y)) (State.gddrLost_largeMode hj hparts hrun hregion))
  · exact congrArg Host.Outcome.next ((if_pos hc).trans (State.gddrCorrected_silent hquiet))
  · exact congrArg Host.Outcome.next ((if_pos hc).trans (State.gddrCorrected_reported hmany hfirst))

end Sys2Proof.Machine
end

/-! Engine faults, and the known-answer tests of a patch (03 R95, R104 to R108; 06 R169; 07 R215; 08 R243). -/
section
namespace Sys2Proof.Machine

/-! ### Faults of an engine -/

/-- A fault of a powered engine is raised, unless `once`, and its jobs and frames are abandoned. -/
def State.faulted (u : State) (p : Pool) (i src : Nat) (d : List Nat) (once : Bool) : State :=
  ((if once then u else u.raise src d).abandonEngine p i true false).faultFrames p i

/-- A test for the negation takes the branches the other way. -/
theorem ite_bnot {α : Type} (b : Bool) (x y : α) : (if !b then x else y) = if b then y else x := by cases b <;> rfl

section
variable {u : State} {p : Pool} {i : Nat} {e : Engine} (he : (u.pool p)[i]? = some e) (hon : u.domainOn (engineDomain p i) = true)
include he hon

/-- An engine with an event of its own for going offline. -/
theorem State.engineFault_told {src : Nat} {d : List Nat} {offSrc : Nat} {offD : List Nat} {once : Bool}
    (honce : (p == .press && (u.countFault p i).2 && some (offSrc, offD) == some (src, [1])) = once) :
    let a := u.faulted p i src d once
    u.engineFault p i src d (some (offSrc, offD)) =
      if (a.countFault p i).2 then (((a.countFault p i).1.takeOffline p i offSrc offD).reserveExpress).verifyPatches
      else (a.countFault p i).1 := by
  subst honce
  rw [State.engineFault, he]
  dsimp only
  rw [if_neg (by simp [hon]), ite_bnot]
  rfl

/-- A hash core goes offline without an event of its own. -/
theorem State.engineFault_silent (hp : (p == .press) = false) {src : Nat} {d : List Nat} :
    let a := u.faulted p i src d (p == .press && (u.countFault p i).2 && src == 2 * i)
    u.engineFault p i src d none =
      if (a.countFault p i).2 then ((a.countFault p i).1.crossEngine p i).abandonEngine p i false false else (a.countFault p i).1 := by
  rw [State.engineFault, he]
  dsimp only
  rw [if_neg (by simp [hon]), ite_bnot, hp, Bool.false_and, Bool.false_and, Bool.false_and]
  rfl

end

/-- An engine without power has no fault. -/
theorem State.engineFault_off {u : State} {p : Pool} {i : Nat} (hoff : u.domainOn (engineDomain p i) = false) (src : Nat) (d : List Nat)
    (o : Option (Nat × List Nat)) : u.engineFault p i src d o = u := by
  rw [State.engineFault]
  split
  · rfl
  · exact if_pos (by simp [hoff])

/-- Three faults within 1 s take an engine offline (R95, R169, R215, R243). -/
theorem State.countFault_third {u : State} {p : Pool} {i : Nat} {e : Engine} (he : (u.pool p)[i]? = some e) (hin : e.offline = false) :
    (u.countFault p i).2 = decide (3 ≤ (e.faultTimes.filter fun x => u.clock.now < x + 1000000000).length + 1) := by
  rw [State.countFault, he]
  simp [hin]

theorem coreOf_sha2 {i : Nat} : coreOf (i / 96 * 128 + i % 96) = (.sha2, i) := by
  have hhalf : (i / 96 * 128 + i % 96) / 128 = i / 96 := by omega
  have hcore : (i / 96 * 128 + i % 96) % 128 = i % 96 := by omega
  rw [coreOf, hhalf, hcore, if_pos (Nat.mod_lt _ (by decide)), Nat.div_add_mod]

theorem coreOf_keccak {i : Nat} : coreOf (i / 32 * 128 + 96 + i % 32) = (.keccak, i) := by
  have hhalf : (i / 32 * 128 + 96 + i % 32) / 128 = i / 32 := by omega
  have hcore : (i / 32 * 128 + 96 + i % 32) % 128 = 96 + i % 32 := by omega
  rw [coreOf, hhalf, hcore, if_neg (by omega), Nat.add_sub_cancel_left, Nat.div_add_mod]

/-- A job of classes 0x06 to 0x08 that signs runs on the engine (R168). -/
def State.signsOn (u : State) (p : Pool) (i : Nat) : Bool :=
  (u.engineParts p i).any fun x =>
    match (u.job? x.1).bind (·.op) with
    | some o => opTeam o && (match o with | .slhDsaSign | .slhDsaSignPrehash | .lmsSign | .xmssSign => true | _ => false)
    | none => false

theorem exec_hashCoreFault {core : Nat} {p : Pool} {i : Nat} (hcore : coreOf core = (p, i)) (t : Nat) (check : Bool) (s : State) :
    exec (.hashCoreFault t core check) s =
      .next (if check && !(s.advance t).signsOn p i then s.advance t
        else (s.advance t).engineFault p i (80 + core / 128) [core % 128] none).settle := by
  show execHashCoreFault t core check s = _
  unfold execHashCoreFault
  rw [hcore]
  rfl

/-- A core whose signature check counts is faulted under the name it has in its half. -/
theorem exec_hashCoreFault_counts {core : Nat} {p : Pool} {i src n : Nat} (hcore : coreOf core = (p, i)) (hsrc : core / 128 = src)
    (hn : core % 128 = n) (t : Nat) (check : Bool) (s : State) (h : check = false ∨ (s.advance t).signsOn p i = true) :
    exec (.hashCoreFault t core check) s = .next ((s.advance t).engineFault p i (80 + src) [n] none).settle := by
  have hgo : ¬ (check && !(s.advance t).signsOn p i) = true := by
    rcases h with h | h <;> simp [h]
  rw [exec_hashCoreFault hcore, if_neg hgo, hsrc, hn]

/-! ### Known-answer tests of a patch -/

theorem State.vintage_modEngine (v : State) (k : MicroKind) (p : Pool) (i : Nat) (g : Engine → Engine) :
    (v.modEngine p i g).vintage k = v.vintage k := by
  cases p <;> rfl

/-- A patch that waits for an engine stays loaded. -/
theorem State.verifyPatch_waits {w : State} {k : MicroKind} (h : w.allSwitched k = false) : w.verifyPatch k = w := if_neg (by simp [h])

theorem State.verifyPatch_all {w : State} {k : MicroKind} (hl : (w.vintage k).patchState = .loaded) (h : w.allSwitched k = true) :
    w.verifyPatch k = (w.setPool (kindPool k) ((w.pool (kindPool k)).map fun e => { e with kat := false, switched := false })).setVintage k
      { w.vintage k with patchState := .verified } := if_pos (by simp [hl, h])

section
variable {u : State} {k : MicroKind} {i : Nat} {e : Engine} (he : ((u.startKats k).pool (kindPool k))[i]? = some e)
include he

/-- Outside a test its end means nothing. -/
theorem State.katDone_idle (hkat : e.kat = false) (pass : Bool) : u.katDone k i pass = u.startKats k := by
  rw [State.katDone]
  dsimp only
  rw [he]
  exact if_pos (by simp [hkat])

theorem State.katDone_pass (hkat : e.kat = true) :
    u.katDone k i true =
      ((u.startKats k).modEngine (kindPool k) i fun e =>
        { e with kat := false, switched := true, image := ((u.startKats k).vintage k).patch }).verifyPatch k := by
  rw [State.katDone]
  dsimp only
  rw [he]
  exact if_neg (by simp [hkat])

theorem State.katDone_fail (hkat : e.kat = true) :
    let v := u.startKats k
    let old := v.vintage k
    let revert (e : Engine) : Engine := { e with kat := false, switched := false, reverting := e.reverting || e.switched }
    u.katDone k i false =
      (((v.setPool (kindPool k) ((v.pool (kindPool k)).map revert)).setVintage k
        { old with patchId := old.oldId, patchState := old.oldState, patch := old.oldPatch }).startKats k).raise
          (katSource k i).1 (katSource k i).2 := by
  rw [State.katDone]
  dsimp only
  rw [he]
  exact if_neg (by simp [hkat])

end

/-- Settles O59: each kind of fault names its pool and source; a test's end goes by its result. -/
theorem engineFaultsAndTests : Obligations.EngineFaultsAndTests := by
  unfold Obligations.EngineFaultsAndTests
  refine ⟨?faults, ?tests⟩
  case faults =>
    rintro s u t i rfl after gone
    refine ⟨fun kind => ⟨_, rfl, ?_⟩, fun kind => ⟨_, rfl, ?_⟩, fun kind => ⟨_, rfl, ?_⟩, fun check core hi hcore hcheck => ?_,
      fun check core hi hcore hcheck => ?_, fun hoff kind => ⟨_, rfl, State.engineFault_off hoff _ _ _⟩, fun hi hsigns => ?_,
      fun p e => State.countFault_third⟩
    · rintro ⟨e, he⟩ hon
      refine State.engineFault_told he hon ?_
      cases kind with
      | fault => simp
      | trap =>
        have hpair : ((2 * i, [1]) == ((2 * i + 1, [1]) : Nat × List Nat)) = false := by rw [beq_eq_false_iff_ne]; simp
        have hsrc : (2 * i + 1 == 2 * i) = false := by rw [beq_eq_false_iff_ne]; omega
        simp [hpair, hsrc]
    · rintro ⟨e, he⟩ hon
      exact State.engineFault_told he hon rfl
    · rintro ⟨e, he⟩ hon
      exact State.engineFault_told he hon rfl
    · subst hcore
      refine ⟨_, exec_hashCoreFault_counts coreOf_sha2 (src := i / 96) (n := i % 96) (by omega) (by omega) t check s hcheck, ?_⟩
      rintro ⟨e, he⟩ hon
      exact State.engineFault_silent he hon rfl
    · subst hcore
      refine ⟨_, exec_hashCoreFault_counts coreOf_keccak (src := i / 32) (n := 96 + i % 32) (by omega) (by omega) t check s hcheck, ?_⟩
      rintro ⟨e, he⟩ hon
      exact State.engineFault_silent he hon rfl
    · have hcore : coreOf i = (.sha2, i) := by
        rw [coreOf, show i / 128 = 0 by omega, show i % 128 = i by omega, if_pos hi, Nat.mul_zero, Nat.zero_add]
      have hno : (s.advance t).signsOn .sha2 i = false := hsigns
      exact ⟨_, exec_hashCoreFault hcore t true s, if_pos (by simp [hno])⟩
  case tests =>
    rintro s u v t i k e rfl rfl he p w clear revert
    refine ⟨fun hkat => ?_, fun hkat hwaits => ?_, fun hkat hl hall => ?_, fun hkat => ?_⟩
    · exact congrArg Host.Outcome.next (State.katDone_idle he hkat true)
    · exact congrArg Host.Outcome.next ((State.katDone_pass he hkat).trans (State.verifyPatch_waits hwaits))
    · have hv : w.vintage k = ((s.advance t).startKats k).vintage k := State.vintage_modEngine _ _ _ _ _
      have hpatch := State.verifyPatch_all (w := w) (by rw [hv]; exact hl) hall
      rw [hv] at hpatch
      exact congrArg Host.Outcome.next ((State.katDone_pass he hkat).trans hpatch)
    · exact congrArg Host.Outcome.next (State.katDone_fail he hkat)

end Sys2Proof.Machine
end

/-! The mailbox: commands refused on arrival, the epoch, and a command that waits for a record (12 R349 to R360; 11 R333, R341; 09 R268, R560). -/
section
namespace Sys2Proof.Machine

/-- In a quiet module that is not in Hold nothing goes on. -/
theorem resume_quiet {u : State} (h : Quiet u) (hm : u.power.mode ≠ .hold) : u.resume = u := by
  have hm' : (u.power.mode == Mode.hold) = false := beq_eq_false_iff_ne.mpr hm
  rw [State.resume, settle_quiet h]
  simp only [hm', Bool.false_eq_true, if_false, h.pushes, List.length_nil, State.flushPushes]
  rw [serve_idle hm' h.mailbox.1]
  exact mbPump_nothing_waits h.mailbox.2 _

/-! ### Arrival (R349, R353, R360) -/

/-- Only commands above the two hellos need a session. -/
theorem helloCode_of_two_le {code : Nat} (h : 2 ≤ code) : helloCode code = false := by
  simp only [helloCode, decide_eq_false_iff_not]
  omega

section
variable {u : State} {conn : Nat} {msg : Bytes} {extra : List Nat} {x : Session}

/-- A SEND with a wrong form or MAC takes no CMD_SEQ. -/
theorem mbArrival_unsound (hon : u.sessionOn conn = some x)
    (hbad : ¬ ((mbCommand conn msg extra x).formOk = true ∧ slice msg 0x70 16 = mbMac x.key msg "ZMCMD")) :
    u.mbArrival conn msg extra = (u, mbCommand conn msg extra x) := by
  have hunsound : (helloCode (mbCommand conn msg extra x).code || !(mbCommand conn msg extra x).formOk ||
      !(mbCommand conn msg extra x).macOk x.key) = true := by
    by_cases hform : (mbCommand conn msg extra x).formOk = true
    · have hmac : (mbCommand conn msg extra x).macOk x.key = false := beq_eq_false_iff_ne.mpr fun h => hbad ⟨hform, h⟩
      simp [hmac]
    · simp [hform]
  rw [State.mbArrival, hon]
  exact if_pos hunsound

variable (hcode : 2 ≤ le msg 0 2) (hsession : u.mbSession? x.id = some x) (hlen : 128 ≤ msg.length) (hlife : u.lc ≠ some .scrapped)
include hcode hsession hlen hlife

/-- Such a SEND closes its session (R349). -/
theorem mbAdmit_unsound (hid : x.id ≠ 0)
    (hbad : ¬ ((mbCommand conn msg extra x).formOk = true ∧ slice msg 0x70 16 = mbMac x.key msg "ZMCMD")) :
    u.mbAdmit (mbCommand conn msg extra x) = (u.endSession x.id 2, false) := by
  have hhello : helloCode (mbCommand conn msg extra x).code = false := helloCode_of_two_le hcode
  have hlong : ¬ (mbCommand conn msg extra x).msg.length < 128 := Nat.not_lt.mpr hlen
  have hlc : (u.lc == some LifeCycle.scrapped) = false := beq_eq_false_iff_ne.mpr hlife
  have hend : (mbCommand conn msg extra x).session = x.id := rfl
  by_cases hform : (mbCommand conn msg extra x).formOk = true
  · have hmac : (mbCommand conn msg extra x).macOk x.key = false := beq_eq_false_iff_ne.mpr fun h => hbad ⟨hform, h⟩
    simp [State.mbAdmit, hlong, hform, hlc, hhello, hend, hsession, hmac, hid]
  · simp [State.mbAdmit, hform, hend, hid]

/-- A sound one with a CODE of no table is answered and does nothing (R360). -/
theorem mbAdmit_undefined (hform : (mbCommand conn msg extra x).formOk = true) (hmac : slice msg 0x70 16 = mbMac x.key msg "ZMCMD")
    (hcode' : mbDefined (le msg 0 2) = false) :
    u.mbAdmit (mbCommand conn msg extra x) = (u.mbSend (mbCommand conn msg extra x) { status := .mbUnknownCommand }, false) := by
  have hhello : helloCode (mbCommand conn msg extra x).code = false := helloCode_of_two_le hcode
  have hlong : ¬ (mbCommand conn msg extra x).msg.length < 128 := Nat.not_lt.mpr hlen
  have hend : (mbCommand conn msg extra x).session = x.id := rfl
  have hlc : (u.lc == some LifeCycle.scrapped) = false := beq_eq_false_iff_ne.mpr hlife
  have hm : (mbCommand conn msg extra x).macOk x.key = true := beq_iff_eq.mpr hmac
  have hwant : (mbCommand conn msg extra x).want = none := rfl
  have hdef : mbDefined (mbCommand conn msg extra x).code = false := hcode'
  simp [State.mbAdmit, hlong, hform, hlc, hhello, hend, hsession, hm, hwant, hdef]

end

/-- Settles O35: the checks of a command in their order. -/
theorem mailboxArrival : Obligations.MailboxArrival := by
  unfold Obligations.MailboxArrival
  intro u conn msg extra x hon hsession hid hlen hlife c arrival ok hcode
  exact ⟨fun hbad => ⟨mbArrival_unsound hon hbad, mbAdmit_unsound hcode hsession hlen hlife hid hbad⟩,
    fun hok hdef => mbAdmit_undefined hcode hsession hlen hlife hok.1 hok.2 hdef⟩

/-! ### The epoch (R333, R341, R342) -/

/-- A budget after the boundary: refilled by its ceiling up to its cap. -/
theorem Carriage.epoch_budget (y : Carriage) {i : Nat} (hi : i < 19) :
    y.epoch.budgets.getD i 0 =
      if y.params.ceilings.getD i 0 = 0 then 0
      else min (max (2 * y.params.ceilings.getD i 0) 10000) (y.budgets.getD i 0 + y.params.ceilings.getD i 0) := by
  have hbudgets : y.epoch.budgets = (List.range 19).map fun i =>
      if y.params.ceilings.getD i 0 == 0 then 0
      else min (budgetCap (y.params.ceilings.getD i 0)) (y.budgets.getD i 0 + y.params.ceilings.getD i 0) := rfl
  rw [hbudgets, List.getD_eq_getElem _ _ (by simpa using hi), List.getElem_map, List.getElem_range]
  simp only [beq_iff_eq, budgetCap, oneJob]

/-- The last job of a generation has been released. -/
theorem State.drainGeneration_eq {u : State} {n g : Nat} {y : Carriage} (hy : u.carriage? n = some y) (hg : g ∈ y.draining)
    (hjobs : u.genJobs n g = 0) :
    u.drainGeneration n g =
      let left := y.draining.filter (· != g)
      let w := (u.raiseFor 225 [n, g, y.dropped] n).modCarriage n fun y => { y with draining := left }
      if y.state == .destroying && left.isEmpty then { w with fabric.carriages := w.fabric.carriages.filter fun (y : Carriage) => y.number != n }
      else w := by
  rw [State.drainGeneration, hy]
  exact if_neg (by simp [hg, hjobs])

/-- Settles O41: the boundary when it is due, and the drained generation under its guard. -/
theorem epochAndGenerations : Obligations.EpochAndGenerations := by
  unfold Obligations.EpochAndGenerations
  rintro s u t rfl
  refine ⟨fun hmode hdue => ⟨_, rfl, ?_⟩, fun y => ⟨rfl, fun i hi => y.epoch_budget hi⟩,
    fun n g y hy hg hjobs => congrArg Host.Outcome.next (State.drainGeneration_eq hy hg hjobs)⟩
  have hlate : ¬ (s.advance t).clock.now < (s.advance t).engines.epochAt + epochLength := Nat.not_lt.mpr hdue
  exact if_neg (by simp [hmode, hlate])

/-! ### A command that waits for a record -/

/-- SLOT_SHARE of slot 7, that has waited for a record since instant 0. -/
def waitingShare : MbCommand := { conn := 2, msg := toLe 8 0x0301 ++ toLe 8 7 ++ zeros 112, session := 5, wait := .record }

/-- The command has waited 10 ms in OEM_FIELD, with an entry of the Book held; its session has ended. -/
def shareOverdue : State :=
  { clock.now := 10000000, fuses.lcA := 0x0F, fuses.lcB := 0x0F, fuses.lcC := 0x0F, book.held := [[]]
    mailbox.running := some waitingShare }

/-- The command with its end: the held entry of the Book is all that it leaves. -/
theorem shareOverdue_quiet {v : State} (h : v = { shareOverdue with mailbox.running := none, book.held := v.book.held }) : v.resume = v := by
  rw [h]
  exact resume_quiet ⟨rfl, by simp [shareOverdue], by simp [shareOverdue], by simp [shareOverdue], rfl, rfl, rfl⟩ (show Mode.off ≠ .hold by decide)

/-- Refutes O30: the clause on a mailbox command that waits for a record leaves the slot out of its KEY_CHANGE entry, which R560 demands:
SLOT_SHARE of slot 7 that has waited 10 ms. -/
theorem not_waitsThatEnd : ¬ Obligations.WaitsThatEnd := by
  unfold Obligations.WaitsThatEnd
  rintro ⟨-, h⟩
  obtain ⟨hmailbox, -⟩ := h shareOverdue shareOverdue 0 rfl
  obtain ⟨hrecord, -⟩ := hmailbox waitingShare rfl (by decide) (by decide)
  obtain ⟨_, hnext, rfl⟩ := hrecord rfl
  have hrow : exec (.recordWaitTimeout 0 .mailbox) shareOverdue = .next (shareOverdue.recordTimeout .mailbox).resume := rfl
  have hstates := Host.Outcome.next.inj (hrow.symm.trans hnext)
  rw [shareOverdue_quiet rfl, shareOverdue_quiet rfl] at hstates
  exact absurd (congrArg (·.book.held) hstates) (by decide)

end Sys2Proof.Machine
end

/-! The release of a job (02 R20, R63, R65 to R70). -/
section
namespace Sys2Proof.Machine

/-- A plain job is released on its own. -/
theorem State.release_plain {u : State} {j : Job} (hj : u.job? j.id = some j) (hparent : j.parent = none) :
    u.release j.id = u.releaseJob j.id := by
  rw [State.release, hj]
  simp [hparent]

/-- Settles O29: a staged job whose time has come is released, and reports. -/
theorem jobRelease : Obligations.JobRelease := by
  unfold Obligations.JobRelease
  rintro s u t j q r k rfl hreports hdue
  have hrelease : (s.advance t).releaseDue j.id = (s.advance t).releaseJob j.id := by
    rw [State.releaseDue, hreports.found]
    exact (if_pos hdue).trans (State.release_plain hreports.found hreports.whole.1)
  exact ⟨_, rfl, hrelease ▸ releaseJob_reports hreports⟩

end Sys2Proof.Machine
end

/-! RDMA writes into rings, doorbells and credit words, and prefetch (02 R46 to R54, R67; 13 R397, R398). -/
section
namespace Sys2Proof.Machine

/-! ### A write of one packet -/

section
variable {u : State} {conn rkey addr : Nat} {data : Bytes} (hconn : u.rdmaConn conn = true) (hdata : data ≠ [])
  (hmtu : data.length ≤ u.mtuOf conn)
include hconn

/-- A data connection that is ready takes the packets of a write. -/
theorem rdmaWrite_packets (put : State → Region → Nat → Bytes → State) :
    u.rdmaWrite conn rkey addr data put = State.writePackets conn rkey put (data.length + 1) u addr data := by
  rw [State.rdmaConn] at hconn
  rw [State.rdmaWrite]
  cases hk : u.conn? conn with
  | none => simp [hk] at hconn
  | some k =>
    obtain ⟨hready, hmail⟩ : k.ready = true ∧ k.mailbox = false := by simpa [hk] using hconn
    simp [hready, hmail]

include hdata hmtu

/-- A packet that passes the region check is placed and acknowledged. -/
theorem rdmaWrite_placed {r : Region} {off : Nat} (hr : regionOf rkey = some r) (hoff : u.regionOffset conn r addr data.length = some off)
    (put : State → Region → Nat → Bytes → State) : u.rdmaWrite conn rkey addr data put = (put u r off data).emit (.ack conn) := by
  have hempty : data.isEmpty = false := by simpa using hdata
  obtain ⟨n, hn⟩ := Nat.exists_eq_succ_of_ne_zero (Nat.ne_of_gt (List.length_pos_iff.mpr hdata))
  rw [rdmaWrite_packets hconn, State.writePackets, hempty]
  simp only [Bool.false_eq_true, if_false, List.take_of_length_le hmtu, hr, Option.bind_some, hoff, Option.map_some, List.drop_length]
  rw [hn, State.writePackets]
  rfl

/-- One that does not is refused. -/
theorem rdmaWrite_refused (hout : ∀ r, regionOf rkey = some r → u.regionOffset conn r addr data.length = none)
    (put : State → Region → Nat → Bytes → State) : u.rdmaWrite conn rkey addr data put = u.refuseRequest conn false := by
  have hempty : data.isEmpty = false := by simpa using hdata
  have hnone : ((regionOf rkey).bind fun r => (u.regionOffset conn r addr data.length).map fun off => (r, off)) = none := by
    cases hr : regionOf rkey with
    | none => rfl
    | some r => rw [Option.bind_some, hout r hr, Option.map_none]
  rw [rdmaWrite_packets hconn, State.writePackets, hempty]
  simp only [Bool.false_eq_true, if_false, List.take_of_length_le hmtu, hnone]

end

/-! ### The doorbell window -/

theorem regionOf_window {conn : Nat} (h : conn < 65536) : regionOf (0x80000000 + conn) = some (.window conn) := by
  have hring : (decide (0x40000000 ≤ 0x80000000 + conn) && decide (0x80000000 + conn < 0x40010000)) = false := by
    simp only [Bool.and_eq_false_iff, decide_eq_false_iff_not]; omega
  have hwindow : (decide (0x80000000 ≤ 0x80000000 + conn) && decide (0x80000000 + conn < 0x80010000)) = true := by
    simp only [Bool.and_eq_true, decide_eq_true_eq]; omega
  rw [regionOf, if_neg (by rw [hring]; decide), if_pos hwindow, Nat.add_sub_cancel_left]

/-- A word of the connection's own window lies inside it. -/
theorem regionOffset_window {u : State} {conn off : Nat} (h : off + 8 ≤ 0x100000) :
    u.regionOffset conn (.window conn) (doorbellAddr + off) 8 = some off := by
  have hin : (decide (doorbellAddr ≤ doorbellAddr + off) && decide (doorbellAddr + off + 8 ≤ doorbellAddr + 0x100000)) = true := by
    simp only [Bool.and_eq_true, decide_eq_true_eq]; omega
  rw [State.regionOffset]
  simp only [beq_self_eq_true, if_true]
  rw [if_pos hin, Nat.add_sub_cancel_left]

/-- A write of one aligned word is that word. -/
theorem windowWrite_word (u : State) (conn k : Nat) {data : Bytes} (hlen : data.length = 8) :
    u.windowWrite conn (8 * k) data = u.windowWord conn (8 * k) data := by
  have hchunk : chunks 8 data.length data = [data] := by
    have hdata : data ≠ [] := List.ne_nil_of_length_pos (by omega)
    rw [hlen]
    simp [chunks, hdata, hlen]
  rw [State.windowWrite, if_pos (by simp [hlen]), State.windowWords, hchunk]
  rfl

section
variable {u : State} {conn n : Nat} {data : Bytes} (hconn : u.rdmaConn conn = true) (hc : conn < 65536) (hn : n < 65536)
  (hlen : data.length = 8) (hmtu : data.length ≤ u.mtuOf conn)
include hconn hc hn hlen hmtu

theorem rdmaWrite_doorbell :
    u.rdmaWrite conn (0x80000000 + conn) (doorbellAddr + 8 * n) data (State.placePacket conn) =
      (u.doorbellWord conn n data).emit (.ack conn) := by
  have hdata : data ≠ [] := List.ne_nil_of_length_pos (by omega)
  rw [rdmaWrite_placed hconn hdata hmtu (regionOf_window hc) (by rw [hlen]; exact regionOffset_window (by omega)), State.placePacket,
    windowWrite_word u conn n hlen, State.windowWord, if_pos (by omega), Nat.mul_div_cancel_left n (by decide)]

theorem rdmaWrite_credit :
    u.rdmaWrite conn (0x80000000 + conn) (doorbellAddr + (0x80000 + 8 * n)) data (State.placePacket conn) =
      (u.creditWord conn n data).emit (.ack conn) := by
  have hdata : data ≠ [] := List.ne_nil_of_length_pos (by omega)
  have hword : 0x80000 + 8 * n = 8 * (0x10000 + n) := by omega
  rw [rdmaWrite_placed hconn hdata hmtu (regionOf_window hc) (by rw [hlen]; exact regionOffset_window (by omega)), State.placePacket, hword,
    windowWrite_word u conn _ hlen, State.windowWord, if_neg (by omega), show (8 * (0x10000 + n) - 0x80000) / 8 = n by omega]

end

/-- A doorbell on its queue's connection sets the run; on another, or while the queue drains, it is dropped (R50, R52). -/
theorem doorbellWord_sets {u : State} {conn n : Nat} {data : Bytes} {q : WorkQueue} (hq : u.queue? n = some q) (hconn : q.conn = conn)
    (hdrain : q.state ≠ .draining) (hinv : bit (le data 2 2) 0 = false) :
    u.doorbellWord conn n data = (u.modQueue n fun q => q.ring' (le data 0 2)).runQueue n := by
  rw [State.doorbellWord, hq]
  simp [hconn, hdrain, hinv]

theorem doorbellWord_drops {u : State} {conn n : Nat} {data : Bytes} {q : WorkQueue} (hq : u.queue? n = some q)
    (h : q.conn ≠ conn ∨ q.state = .draining) : u.doorbellWord conn n data = u.dropDoorbell conn n := by
  rw [State.doorbellWord, hq]
  exact if_pos (by simpa using h)

/-- Credit of the ring's connection frees what it covers, and is ignored beyond the entries written (R67). -/
theorem creditWord_own {u : State} {conn n : Nat} {data : Bytes} {r : CompletionRing} (hr : u.cring? n = some r) (hconn : r.conn = conn) :
    u.creditWord conn n data =
      if (r.count + 65536 - r.crCons) % 65536 < (le data 0 2 + 65536 - r.crCons) % 65536 then
        u.modConn conn fun k => { k with creditsIgnored := satAdd 64 k.creditsIgnored 1 }
      else (u.modCring n fun r => { r with crCons := le data 0 2 }).settle := by
  rw [State.creditWord, hr]
  exact if_neg (by simp [hconn])

/-- PROD_INDEX of a doorbell, as the run's end and state (R50). -/
theorem ring'_eq (prod : Nat) (w : WorkQueue) : w.ring' prod =
    let d := (prod + 65536 - w.cons) % 65536
    let old := match w.target with | some t => (t + 65536 - w.cons) % 65536 | none => 0
    if 1 ≤ d ∧ d ≤ w.size then
      { w with target := if old < d then some prod else w.target, state := if w.state = .idle then .active else w.state }
    else w := by
  rw [WorkQueue.ring']
  cases ht : w.target with
  | none =>
    by_cases hin : 1 ≤ (prod + 65536 - w.cons) % 65536 ∧ (prod + 65536 - w.cons) % 65536 ≤ w.size
    · simp [hin, show 0 < (prod + 65536 - w.cons) % 65536 by omega]
    · simp [hin]
  | some t =>
    by_cases hold : (t + 65536 - w.cons) % 65536 < (prod + 65536 - w.cons) % 65536 <;> simp [hold]

/-! ### Prefetch -/

/-- Reading ahead extends the copies, each from its place in the ring, up to 8. -/
theorem readAhead_cache (fuel : Nat) : ∀ (q : WorkQueue) (room i : Nat),
    (q.readAhead fuel room i).1 = { q with cache := (q.readAhead fuel room i).1.cache } ∧ q.cache <+: (q.readAhead fuel room i).1.cache ∧
    (∀ e ∈ (q.readAhead fuel room i).1.cache, e ∈ q.cache ∨ e.2 = q.ring.readBytes (e.1 % q.size * 64) 64) ∧
    (q.readAhead fuel room i).1.cache.length ≤ max q.cache.length 8 := by
  induction fuel with
  | zero => exact fun q room i => ⟨rfl, List.prefix_refl _, fun e he => .inl he, Nat.le_max_left _ _⟩
  | succ fuel ih =>
    intro q room i
    have stops : (q, i) = (q, i) ∧ q.cache <+: q.cache ∧ (∀ e ∈ q.cache, e ∈ q.cache ∨ e.2 = q.ring.readBytes (e.1 % q.size * 64) 64) ∧
        q.cache.length ≤ max q.cache.length 8 := ⟨rfl, List.prefix_refl _, fun e he => .inl he, Nat.le_max_left _ _⟩
    rw [WorkQueue.readAhead]
    split
    · split
      · exact ih q room _
      · exact ⟨rfl, stops.2⟩
    · dsimp only
      split
      · exact ⟨rfl, stops.2⟩
      · rename_i hgo
        obtain ⟨hframe, hprefix, hread, hlen⟩ := ih { q with cache := q.cache ++ [(i, q.ring.readBytes (i % q.size * 64) 64)] } (room - 1)
          ((i + 1) % 65536)
        have hroom : q.cache.length < 8 := by
          by_contra h
          exact hgo (by simp [Nat.not_lt.mp h])
        refine ⟨hframe, (List.prefix_append _ _).trans hprefix, fun e he => ?_, hlen.trans ?_⟩
        · rcases hread e he with hmem | hring
          · rcases List.mem_append.mp hmem with hold | hnew
            · exact .inl hold
            · obtain rfl := List.mem_singleton.mp hnew
              exact .inr rfl
          · exact .inr hring
        · simp only [List.length_append, List.length_singleton]
          omega

/-- PREFETCH of a queue that takes entries. -/
theorem prefetch_eq {u : State} {n count : Nat} {q q' : WorkQueue} {stop : Nat} (hq : u.queue? n = some q) (hbroken : q.state ≠ .broken)
    (hdrain : q.state ≠ .draining) (hread : q.readAhead (min count 8) (32768 - u.prefetched) q.cons = (q', stop)) (consume : Bool) :
    u.prefetch n count consume =
      if consume then ((u.modQueue n fun _ => q').modQueue n fun q => q.ring' stop).runQueue n else u.modQueue n fun _ => q' := by
  rw [State.prefetch, hq]
  dsimp only
  rw [if_neg (by simp [hbroken, hdrain]), hread]

/-- Settles O31: a write of one packet into its region, the words of the window, and the copies read ahead. -/
theorem queueInput : Obligations.QueueInput := by
  unfold Obligations.QueueInput
  refine ⟨?writes, ?ahead⟩
  case writes =>
    rintro s u t conn data rfl hconn hdata hmtu
    refine ⟨fun rkey addr n off hr hoff => congrArg Host.Outcome.next (rdmaWrite_placed hconn hdata hmtu hr hoff _),
      fun rkey addr hout => congrArg Host.Outcome.next (rdmaWrite_refused hconn hdata hmtu hout _),
      fun n hc hn hlen => ⟨fun q hq hown hdrain hinv => ?_, fun q hq hdrop => ?_, fun r hr hown => ⟨fun hmoved => ?_, fun hmoved => ?_⟩⟩,
      ring'_eq⟩
    · exact congrArg Host.Outcome.next ((rdmaWrite_doorbell hconn hc hn hlen hmtu).trans
        (congrArg (State.emit · (.ack conn)) (doorbellWord_sets hq hown hdrain hinv)))
    · exact congrArg Host.Outcome.next ((rdmaWrite_doorbell hconn hc hn hlen hmtu).trans
        (congrArg (State.emit · (.ack conn)) (doorbellWord_drops hq hdrop)))
    · exact congrArg Host.Outcome.next ((rdmaWrite_credit hconn hc hn hlen hmtu).trans
        (congrArg (State.emit · (.ack conn)) ((creditWord_own hr hown).trans (if_neg (Nat.not_lt.mpr hmoved)))))
    · exact congrArg Host.Outcome.next ((rdmaWrite_credit hconn hc hn hlen hmtu).trans
        (congrArg (State.emit · (.ack conn)) ((creditWord_own hr hown).trans (if_pos hmoved))))
  case ahead =>
    rintro s u t n count q rfl hq hbroken hdrain
    obtain ⟨hframe, hprefix, hread, hlen⟩ := readAhead_cache (min count 8) q (32768 - (s.advance t).prefetched) q.cons
    have hprefetch := prefetch_eq hq hbroken hdrain (Prod.mk.eta (p := q.readAhead (min count 8) _ q.cons)).symm
    exact ⟨_, _, rfl, hframe, hprefix, hread, hlen, congrArg Host.Outcome.next (hprefetch false),
      congrArg Host.Outcome.next (hprefetch true)⟩

end Sys2Proof.Machine
end

/-!
What an entry of the Book can change: the Book itself, and what an event changes (09 R296, R297, R560, R563).
-/
section
namespace Sys2Proof.Machine

/-- From `u` to `x` only the Book has changed, and events have been raised. -/
def BookFrame (u x : State) : Prop :=
  x = { u with
    journal.timeMark := x.journal.timeMark, journal.eventBlock := x.journal.eventBlock, router := x.router
    fabric.conns := x.fabric.conns, sent := x.sent, book := x.book }

theorem BookFrame.refl (u : State) : BookFrame u u := rfl

theorem BookFrame.trans {u v x : State} (a : BookFrame u v) (b : BookFrame v x) : BookFrame u x := by
  unfold BookFrame at *
  rw [a] at b
  exact b

theorem EventFrame.toBook {u x : State} (h : EventFrame u x) : BookFrame u x := by
  unfold EventFrame BookFrame at *
  have hbook : x.book = u.book := by rw [h]
  rw [hbook]
  exact h

/-- A change of the Book alone. -/
theorem bookFrame_of_book (u : State) (b : Book) : BookFrame u { u with book := b } := rfl

theorem placeUnit_book (u : State) (x : EventRing) (b : Bytes) (mark : Option Nat) : BookFrame u (u.placeUnit x b mark) := by
  unfold State.placeUnit
  exact ((((modEring_events u _ _).toBook.trans (bookFrame_of_book _ _)).trans (post_events _ _ _).toBook).trans (post_events _ _ _).toBook)

theorem pumpExport_book (fuel : Nat) (u : State) : BookFrame u (u.pumpExport fuel) := by
  fun_induction State.pumpExport fuel u with
  | case1 | case2 | case3 | case4 | case6 | case8 => rfl
  | case5 | case7 | case9 =>
    rename_i ih
    exact ((bookFrame_of_book _ _).trans (placeUnit_book _ _ _ _)).trans ih

theorem commitEntry_book (u : State) (b : Bytes) : BookFrame u (u.commitEntry b) := by
  unfold State.commitEntry
  split
  · exact ((ensureMark_events u).toBook.trans (bookFrame_of_book _ _)).trans (pumpExport_book _ _)
  · exact ((ensureMark_events u).toBook.trans (bookFrame_of_book _ _)).trans (pumpExport_book _ _)

theorem tailEvent_book (u : State) (before : Nat) : BookFrame u (u.tailEvent before) := by
  unfold State.tailEvent
  split
  · exact (raise_events u _ _).toBook
  · rfl

theorem appendBook_book (u : State) (f : BookFields) : BookFrame u (u.appendBook f) := by
  unfold State.appendBook
  split
  · rfl
  · dsimp only
    split
    · exact (commitEntry_book u _).trans (tailEvent_book _ _)
    · rfl

theorem keyChange_book (u : State) (code param : Nat) (st : Status) (slot : Option Nat) (carriage : Nat) (record : Option Nat)
    (subject : Bytes) : BookFrame u (u.keyChange code param st slot carriage record subject) := appendBook_book u _

theorem appendHeld_book (fuel : Nat) (u : State) : BookFrame u (u.appendHeld fuel) := by
  fun_induction State.appendHeld fuel u with
  | case1 | case2 | case4 => rfl
  | case3 =>
    rename_i ih
    exact ((bookFrame_of_book _ _).trans (commitEntry_book _ _)).trans ih

/-! ### What stays -/

theorem BookFrame.clock {u x : State} (h : BookFrame u x) : x.clock = u.clock := by rw [h]
theorem BookFrame.power {u x : State} (h : BookFrame u x) : x.power = u.power := by rw [h]
theorem BookFrame.fuses {u x : State} (h : BookFrame u x) : x.fuses = u.fuses := by rw [h]
theorem BookFrame.cellar {u x : State} (h : BookFrame u x) : x.cellar = u.cellar := by rw [h]
theorem BookFrame.rng {u x : State} (h : BookFrame u x) : x.rng = u.rng := by rw [h]
theorem BookFrame.engines {u x : State} (h : BookFrame u x) : x.engines = u.engines := by rw [h]
theorem BookFrame.jobs {u x : State} (h : BookFrame u x) : x.fabric.jobs = u.fabric.jobs := by rw [h]
theorem BookFrame.queues {u x : State} (h : BookFrame u x) : x.fabric.queues = u.fabric.queues := by rw [h]
theorem BookFrame.carriages {u x : State} (h : BookFrame u x) : x.fabric.carriages = u.fabric.carriages := by rw [h]
theorem BookFrame.mailbox {u x : State} (h : BookFrame u x) : x.mailbox = u.mailbox := by rw [h]
theorem BookFrame.ports {u x : State} (h : BookFrame u x) : x.ports = u.ports := by rw [h]
theorem BookFrame.train {u x : State} (h : BookFrame u x) : x.train = u.train := by rw [h]
theorem BookFrame.dbg {u x : State} (h : BookFrame u x) : x.dbg = u.dbg := by rw [h]
theorem BookFrame.tasting {u x : State} (h : BookFrame u x) : x.tasting = u.tasting := by rw [h]

end Sys2Proof.Machine
end

/-! From the input to the staged result (02 R64, R75; 03 R84, R85, R96, R103; 04 R111; 06 R183, R188, R189). -/
section
namespace Sys2Proof.Machine

/-! ### Key expansions (R85, R111) -/

/-- Freed from an expansion, no bank of a tile holds it. -/
theorem freeExpansion_tiles (u : State) (id : Nat) : ∀ e ∈ (u.freeExpansion id).engines.tiles, Bank.expanding id ∉ e.banks := by
  intro e he
  obtain ⟨e, -, rfl⟩ : ∃ y ∈ u.engines.tiles, y.endWork (· == .expanding id) .wiping = e := List.mem_map.mp he
  rw [Engine.endWork]
  by_cases hany : e.banks.any (· == .expanding id)
  · rw [if_neg (by simp [hany])]
    simp only [mapIf, List.mem_map, not_exists, not_and]
    intro b _
    split
    · exact nofun
    · rename_i hb
      simpa using hb
  · rw [if_pos (by simp [hany])]
    intro hmem
    exact hany (List.any_eq_true.mpr ⟨_, hmem, beq_self_eq_true _⟩)

/-- Corking changes no engine. -/
theorem cork_engines (u : State) (r : SlotRecord) : (u.cork r).engines = u.engines := by
  unfold State.cork
  split
  · rfl
  · exact (keyChange_book _ _ _ _ _ _ _ _).engines.trans (raiseFor_events _ _ _ _).engines

theorem cacheExpanded_engines (u : State) (j : Job) : (u.cacheExpanded j).engines = u.engines := by
  have hkey : ∀ v : State, (if v.keyCached j then v else { v with cellar.expanded := v.cellar.expanded ++ [j.cacheKey] }).engines = v.engines := by
    intro v
    split <;> rfl
  unfold State.cacheExpanded
  dsimp only
  rw [hkey]
  split
  · split
    · rfl
    · split
      · split
        · exact cork_engines _ _
        · rfl
      · rfl
  · rfl

theorem cacheExpanded_keyCached (u : State) (j : Job) : (u.cacheExpanded j).keyCached j = true := by
  have hkey : ∀ v : State,
      (if v.keyCached j then v else { v with cellar.expanded := v.cellar.expanded ++ [j.cacheKey] }).keyCached j = true := by
    intro v
    split
    · assumption
    · simp [State.keyCached]
  exact hkey _

/-! ### Dispatch (R22, R84, R91) -/

theorem kats_job? (u : State) (id : Nat) : u.kats.job? id = u.job? id := rfl
theorem kats_clock (u : State) : u.kats.clock = u.clock := rfl

section
variable (u : State)

theorem takeSeed_fabric (tile : Nat) : (u.takeSeed tile).1.fabric = u.fabric ∧ (u.takeSeed tile).1.clock = u.clock := by
  unfold State.takeSeed
  split <;> exact ⟨rfl, rfl⟩

theorem serveDraw_fabric (fresh : Bool) (calls : Nat) :
    (u.serveDraw fresh calls).1.fabric = u.fabric ∧ (u.serveDraw fresh calls).1.clock = u.clock := by
  cases fresh <;> exact ⟨rfl, rfl⟩

theorem modEngine_fabric (p : Pool) (i : Nat) (g : Engine → Engine) :
    (u.modEngine p i g).fabric = u.fabric ∧ (u.modEngine p i g).clock = u.clock := by
  cases p <;> exact ⟨rfl, rfl⟩

/-- Engines that take a part change no job and no clock. -/
theorem occupy_fabric (p : Pool) (l : List Nat) (id part : Nat) (g : Nat → Engine → Engine) :
    (u.occupy p l id part g).fabric = u.fabric ∧ (u.occupy p l id part g).clock = u.clock := by
  suffices h : ∀ (step : State → Nat → State), (∀ v i, (step v i).fabric = v.fabric ∧ (step v i).clock = v.clock) →
      ∀ v : State, (l.foldl step v).fabric = v.fabric ∧ (l.foldl step v).clock = v.clock from
    h _ (fun v i => modEngine_fabric v _ _ _) { u with engines.dispatches := u.engines.dispatches + 1 }
  intro step hstep
  induction l with
  | nil => exact fun v => ⟨rfl, rfl⟩
  | cons i l ih => exact fun v => ⟨(ih _).1.trans (hstep v i).1, (ih _).2.trans (hstep v i).2⟩

end

/-- The part as a dispatch leaves it. -/
def JobPart.started (x : JobPart) (c : Clock) (j : Job) (op : Op) (q : JobPart) (unit : List Nat) : JobPart :=
  { pool := x.pool, engine := some (unit.headD 0), tDispatch := some c.train, nDispatch := c.now
    slot := if q.pool == .cooper then slotBits op j.keyKind.1 j.keyKind.2 else 0
    region := if q.pool == .cooper && largeMode j.keyKind.1 j.keyKind.2 then j.load none else [] }

/-- The mask seed that a dispatch takes. -/
def State.dispatchSeed (u : State) (j : Job) (q : JobPart) (unit : List Nat) : State × Option Nat :=
  if j.masked q.pool then ((u.takeSeed (unit.headD 0)).1, some (u.takeSeed (unit.headD 0)).2) else (u, none)

/-- The random bytes that a dispatch draws. -/
def State.dispatchDraw (u : State) (j : Job) (op : Op) (part : Nat) (q : JobPart) : State × Bytes :=
  let merged (n : Nat) : Bytes := mergeDraw op j.param j.aux part j.rand (drawBytes n ((partDraw op j.param j.aux part).2 + 32))
  if !j.draws op part q.pool then (u, j.rand)
  else match q.draw with
    | some n => (u, merged n)
    | none => ((u.serveDraw (opFresh op j.aux) (opCalls op j.aux)).1, merged (u.serveDraw (opFresh op j.aux) (opCalls op j.aux)).2)

theorem dispatchSeed_fabric (u : State) (j : Job) (q : JobPart) (unit : List Nat) :
    (u.dispatchSeed j q unit).1.fabric = u.fabric ∧ (u.dispatchSeed j q unit).1.clock = u.clock := by
  unfold State.dispatchSeed
  split
  · exact takeSeed_fabric u _
  · exact ⟨rfl, rfl⟩

theorem dispatchDraw_fabric (u : State) (j : Job) (op : Op) (part : Nat) (q : JobPart) :
    (u.dispatchDraw j op part q).1.fabric = u.fabric ∧ (u.dispatchDraw j op part q).1.clock = u.clock := by
  unfold State.dispatchDraw
  dsimp only
  split
  · exact ⟨rfl, rfl⟩
  · split
    · exact ⟨rfl, rfl⟩
    · exact serveDraw_fabric u _ _

/-- A dispatch takes seeds, draws and banks, charges the carriage, and then sets the job. -/
theorem start_eq (u : State) (j : Job) (op : Op) (part : Nat) (q : JobPart) (unit : List Nat) :
    ∃ (v : State) (rand : Bytes) (hit : Bool), v.fabric = u.fabric ∧ v.clock = u.clock ∧
      u.start j op part q unit = (v.charge j q.pool).modJob j.id fun y =>
        { y with phase := .running, rand := rand, charged := true, byHold := false, hit := hit,
                 parts := y.parts.modify part fun x => x.started u.clock j op q unit } := by
  let v₁ := (u.dispatchSeed j q unit).1
  let v₂ := (v₁.dispatchDraw j op part q).1
  let code := (le j.entry 0 2, j.param)
  let seq : Option Sequencer := if q.pool == .press then some { job := (j.id, part), code := code, pc := routineEntry code } else none
  let v := v₂.occupy q.pool unit j.id part fun b e =>
    e.takeJob ((poolKind q.pool).map v₂.vintage) b (j.load (u.dispatchSeed j q unit).2) (u.dispatchSeed j q unit).2 seq
  obtain ⟨hf, hc⟩ : v.fabric = u.fabric ∧ v.clock = u.clock := by
    obtain ⟨⟨f₁, c₁⟩, ⟨f₂, c₂⟩, f₃, c₃⟩ := And.intro (dispatchSeed_fabric u j q unit)
      (And.intro (dispatchDraw_fabric v₁ j op part q) (occupy_fabric v₂ q.pool unit j.id part _))
    exact ⟨f₃.trans (f₂.trans f₁), c₃.trans (c₂.trans c₁)⟩
  refine ⟨v, (v₁.dispatchDraw j op part q).2, (j.expands || op == .mcelieceDecaps) && v.keyCached j, hf, hc, ?_⟩
  have hstart : u.start j op part q unit = (v.charge j q.pool).modJob j.id fun y =>
      { y with phase := .running, rand := (v₁.dispatchDraw j op part q).2, charged := true, byHold := false,
               hit := (j.expands || op == .mcelieceDecaps) && v.keyCached j,
               parts := y.parts.modify part fun x => x.started v.clock j op q unit } := by
    unfold State.start
    have hseed : (if j.masked q.pool then (let (s, n) := u.takeSeed (unit.headD 0); (s, some n)) else (u, none)) =
        u.dispatchSeed j q unit := rfl
    have hdraw : (if !j.draws op part q.pool then (v₁, j.rand)
        else
          let (s, n) := match q.draw with | some n => (v₁, n) | none => v₁.serveDraw (opFresh op j.aux) (opCalls op j.aux)
          (s, mergeDraw op j.param j.aux part j.rand (drawBytes n ((partDraw op j.param j.aux part).2 + 32)))) =
        v₁.dispatchDraw j op part q := by
      unfold State.dispatchDraw
      cases q.draw <;> rfl
    rw [hseed]
    dsimp only
    erw [hdraw]
    rfl
  rw [hstart, hc]

/-- A part that starts has its engine and its instant. -/
theorem start_part {u : State} {j : Job} {op : Op} {part : Nat} {q : JobPart} (hj : u.job? j.id = some j) (hq : j.parts[part]? = some q)
    (unit : List Nat) :
    ∃ y, (u.start j op part q unit).job? j.id = some y ∧ y.phase = .running ∧ y.parts[part]? = some {
      pool := q.pool, engine := some (unit.headD 0), tDispatch := u.clock.train, nDispatch := u.clock.now
      slot := if q.pool = .cooper then slotBits op j.keyKind.1 j.keyKind.2 else 0
      region := if q.pool = .cooper ∧ largeMode j.keyKind.1 j.keyKind.2 = true then j.load none else [] } := by
  obtain ⟨v, rand, hit, hf, hc, hstart⟩ := start_eq u j op part q unit
  have hfound : (v.charge j q.pool).job? j.id = some j := by
    have hcharge : (v.charge j q.pool).job? j.id = v.job? j.id := rfl
    rw [hcharge, State.job?, hf]
    exact hj
  rw [hstart]
  refine ⟨_, job?_modJob_self _ (fun _ => rfl) hfound, rfl, ?_⟩
  show (j.parts.modify part fun x => x.started u.clock j op q unit)[part]? = _
  rw [List.getElem?_modify, hq]
  simp [JobPart.started]

/-- What a dispatch does once the fate of its draws is known. -/
def State.dispatchFate (u : State) (j : Job) (op : Op) (part : Nat) (q : JobPart) (unit : List Nat) (d : Draw) : State :=
  match d with
  | .failed => u.failAny j.id .entropyFailed false
  | .waits =>
    ({ u with rng.waiting := u.rng.waiting ++ [(j.id, part)] }).modJob j.id fun y =>
      { y with parts := y.parts.modify part fun z => { z with waits := true } }
  | .served =>
    if opFresh op j.aux && j.draws op part q.pool && q.draw.isNone && !u.freshKat then (u.fatalEntropy 3).failAny j.id .entropyFailed false
    else u.start j op part q unit

theorem bothFates_failed {a b : Draw} (h : a = .failed ∨ b = .failed) : bothFates a b = .failed := by
  rcases h with rfl | rfl <;> simp [bothFates]

theorem bothFates_waits {a b : Draw} (ha : a ≠ .failed) (hb : b ≠ .failed) (h : a = .waits ∨ b = .waits) : bothFates a b = .waits := by
  simp [bothFates, ha, hb, h]

/-- A part that may be dispatched, to a unit that takes it, goes by what its draws come to (R22, R91, R317). -/
theorem dispatch_eq {u : State} {j : Job} {op : Op} {part : Nat} {q : JobPart} {unit : List Nat} (hj : u.job? j.id = some j)
    (hop : j.op = some op) (hq : j.parts[part]? = some q) (hmay : u.dispatchable j part = true) (hshare : u.shareOk j q.pool = true)
    (hturn : u.turnOk j q.pool = true) (hpool : q.pool ≠ .noEngine) (hready : q.pool = .cooper ∨ u.unready j = false)
    (hunit : (u.runUnit q.pool j).or ((u.unitFor q.pool (opTeam op)).or (u.pieceUnit q.pool j)) = some unit) :
    u.dispatch j.id part =
      let pooled := ((u.engines.tiles[unit.headD 0]?).bind (·.seeds.head?)).isSome
      let seed := if j.masked q.pool && !pooled then u.drawFate false else .served
      let own := if j.draws op part q.pool && q.draw.isNone then u.drawFate (opFresh op j.aux) else .served
      u.dispatchFate j op part q unit (bothFates seed own) := by
  have hgo : ¬ (!u.dispatchable j part || !u.shareOk j q.pool || !u.turnOk j q.pool || q.pool == .noEngine) = true := by
    simp [hmay, hshare, hturn, hpool]
  have hneeds : ¬ (q.pool != .cooper && u.unready j) = true := by
    rcases hready with h | h <;> simp [h]
  rw [State.dispatch, hj]
  dsimp only
  rw [hop, hq]
  dsimp only
  rw [if_neg hgo, if_neg hneeds, hunit]
  rfl

/-! ### Commit and staging (R96, R103) -/

theorem commitPart_eq {u : State} {j : Job} {part : Nat} {q : JobPart} (hj : u.job? j.id = some j) (hq : j.parts[part]? = some q)
    (hdone : q.computed = true) (hnew : q.committed = false) :
    u.commitPart j.id part =
      let a := if j.op = some .mcelieceDecaps ∧ j.hit = false then u.cacheExpanded j else u
      let w := a.modJob j.id fun y => { y with parts := y.parts.modify part fun z => { z with committed := true, shares := [] } }
      if j.bigResult || w.stagingUsed < 16384 then w.stagePart j.id part q.pool else w := by
  have hcache : (if j.op == some .mcelieceDecaps && !j.hit then u.cacheExpanded j else u) =
      if j.op = some .mcelieceDecaps ∧ j.hit = false then u.cacheExpanded j else u := by
    simp only [Bool.and_eq_true, beq_iff_eq, Bool.not_eq_true']
  rw [State.commitPart, hj]
  dsimp only
  rw [hq]
  dsimp only
  rw [if_neg (by simp [hdone, hnew]), hcache]
  rfl

theorem stageHeld_eq {u : State} {j : Job} {part : Nat} {q : JobPart} (hj : u.job? j.id = some j) (hq : j.parts[part]? = some q)
    (hdone : q.committed = true) (hheld : q.staged = false) (hroom : u.stagingUsed < 16384) :
    u.stageHeld j.id part = u.stagePart j.id part q.pool := by
  have hplaces : u.stagingUsed < stagingPlaces := hroom
  rw [State.stageHeld, hj]
  dsimp only
  rw [hq]
  exact if_pos (by simp [hdone, hheld, hplaces])

/-- A bank that was being zeroed becomes free, and holds nothing (R85, R209). -/
theorem wiped_eq (u : State) (p : Pool) (i b : Nat) :
    u.wiped p i b = u.modEngine p i fun e =>
      if e.banks[b]? = some .wiping then { e with banks := e.banks.set b .free, contents := e.contents.filter fun x => x.1 != b } else e := by
  refine congrArg (u.modEngine p i) (funext fun e => ?_)
  by_cases h : e.banks[b]? = some .wiping <;> simp [h]

/-! ### The events before dispatch -/

theorem treeBuilt_eq {u : State} {slot level index : Nat} {l : TreeLevel} {ls : List TreeLevel} (hls : u.slotLevels slot = l :: ls)
    (hlevel : level ≤ ls.length) (hindex : index < 2 ^ (((l :: ls).take level).map (·.height)).sum)
    (hup : u.poolUp (if groupShake l.group then .keccak else .sha2) true = true)
    (hwanted : u.treeWanted slot level index = true ∨
      u.treeAhead slot level index (l :: ls) (if groupShake l.group then .keccak else .sha2) = true) :
    u.treeBuilt slot level index =
      (((u.cacheTree slot level index).fabric.jobs.filter fun j => j.phase == .waitTree && (u.cacheTree slot level index).treesReady j).foldl
        (fun s j => s.makeReady j.id) (u.cacheTree slot level index)) := by
  have hin : ¬ ((l :: ls).length ≤ level ∨ 2 ^ (((l :: ls).take level).map (·.height)).sum ≤ index) := by
    simp only [List.length_cons]
    omega
  have hneed : ¬ (!u.poolUp (if groupShake l.group then .keccak else .sha2) true ||
      !(u.treeWanted slot level index ||
        u.treeAhead slot level index (l :: ls) (if groupShake l.group then .keccak else .sha2))) = true := by
    rcases hwanted with h | h <;> simp [hup, h]
  rw [State.treeBuilt]
  dsimp only
  rw [hls, if_neg (by simpa using hin)]
  exact if_neg hneed

/-- Settles O32: each event under its guard, and a dispatch by the fates of its draws. -/
theorem jobPipeline : Obligations.JobPipeline := by
  unfold Obligations.JobPipeline
  rintro s u t rfl
  refine ⟨fun j hj hphase hmissing => ⟨_, rfl, ?_⟩, fun j hj hphase hexp => ⟨_, rfl, cacheExpanded_keyCached _ _, ?_, _, rfl, ?_⟩,
    fun slot hslot => ⟨_, rfl, ?_⟩, fun slot level index l ls hls hlevel hindex hup hwanted => ?_, ?dispatch,
    fun j part q hj hq hdone hnew => congrArg Host.Outcome.next (commitPart_eq hj hq hdone hnew),
    fun j part q hj hq hdone hheld hroom => congrArg Host.Outcome.next (stageHeld_eq hj hq hdone hheld hroom),
    fun tile bank => congrArg Host.Outcome.next (wiped_eq _ _ _ _), fun engine => congrArg Host.Outcome.next (wiped_eq _ _ _ _)⟩
  · rw [State.inputDone, hj]
    exact if_neg (by simp [hphase, hmissing])
  · rw [cacheExpanded_engines]
    exact freeExpansion_tiles _ _
  · rw [State.expanded, hj]
    exact if_neg (by simp [hphase, hexp])
  · exact if_neg (by simpa using hslot)
  · exact congrArg Host.Outcome.next (treeBuilt_eq hls hlevel hindex hup hwanted)
  case dispatch =>
    intro j op q part unit hj hop hq hmay hshare hturn hpool hready hunit seeded seed drawn own tested
    have heq : (s.advance t).kats.dispatch j.id part = (s.advance t).kats.dispatchFate j op part q unit (bothFates seed own) :=
      dispatch_eq hj hop hq hmay hshare hturn hpool hready hunit
    have htested : tested = !(opFresh op j.aux && j.draws op part q.pool && q.draw.isNone && !(s.advance t).kats.freshKat) := by
      simp only [tested, drawn, Bool.and_assoc, Bool.not_and, Bool.not_not, Bool.or_assoc]
    have hrow : exec (.jobDispatch t j.id part) s = .next ((s.advance t).kats.dispatch j.id part).settle := rfl
    have hstarts (hs : seed = .served) (ho : own = .served) (htest : tested = true) :
        (s.advance t).kats.dispatch j.id part = (s.advance t).kats.start j op part q unit := by
      rw [heq, hs, ho]
      rw [htested, Bool.not_eq_true'] at htest
      exact if_neg (by rw [htest]; decide)
    refine ⟨fun hfate => ⟨_, hrow, ?_⟩, fun hs ho hfate => ⟨_, hrow, ?_⟩, fun hs ho htest => ⟨_, hrow, ?_⟩,
      fun hs ho htest => ⟨_, hrow, hstarts hs ho htest, (hstarts hs ho htest) ▸ start_part hj hq unit⟩⟩
    · rw [heq, bothFates_failed hfate]
      rfl
    · rw [heq, bothFates_waits hs ho hfate]
      rfl
    · rw [heq, hs, ho]
      rw [htested, Bool.not_eq_false'] at htest
      exact if_pos htest

end Sys2Proof.Machine
end

/-! Admission of connections, their tokens and their end (13 R390 to R395). -/
section
namespace Sys2Proof.Machine

/-! ### The bucket of a port (R393) -/

theorem refill_frame (u : State) (p : Nat) : u.refill p = { u with ports := (u.refill p).ports } := by
  unfold State.refill
  split <;> rfl

theorem refill_clock (u : State) (p : Nat) : (u.refill p).clock = u.clock := by rw [refill_frame]
theorem refill_sent (u : State) (p : Nat) : (u.refill p).sent = u.sent := by rw [refill_frame]
theorem refill_repData (u : State) (p c : Nat) (mail : Bool) : (u.refill p).repData c mail = u.repData c mail := by
  rw [refill_frame]
  rfl
theorem refill_power (u : State) (p : Nat) : (u.refill p).power = u.power := by rw [refill_frame]

/-- The port after a refill, once the module has entered Service. -/
theorem refill_port {u : State} {p e : Nat} {x y : Port} (hx : u.port? p = some x) (he : u.power.serviceEntry = some e)
    (hy : (u.refill p).port? p = some y) :
    let rate := if u.power.softStartDone then 20000 else 2000
    let depth := if u.power.softStartDone then 2000 else 200
    let n := (u.clock.now - x.admitSince) * rate / 1000000000
    y = (if depth ≤ x.admitTokens + n then { x with admitTokens := depth, admitSince := u.clock.now }
      else { x with admitTokens := x.admitTokens + n, admitSince := x.admitSince + n * 1000000000 / rate }) := by
  have hsome : u.power.serviceEntry.isNone = false := by rw [he]; rfl
  have hports : u.ports[p]? = some x := hx
  rw [State.refill, hsome] at hy
  simp only [Bool.false_eq_true, if_false, State.port?, State.modPort, List.getElem?_modify, hports] at hy
  exact (Option.some.inj hy).symm

/-- Refills leave the power manager as it is. -/
theorem refills_power (l : List Nat) : ∀ u : State, (l.foldl (fun s p => s.refill p) u).power = u.power := by
  induction l with
  | nil => exact fun u => rfl
  | cons p l ih => exact fun u => (ih _).trans (refill_power u p)

theorem endSoftStart_due {u : State} {e : Nat} (he : u.power.serviceEntry = some e) (hdue : e + 5000000000 ≤ u.clock.now) :
    u.endSoftStart.power = { u.power with softStartDone := true } := by
  have hdue' : e + 5000 * ms ≤ u.clock.now := hdue
  rw [State.endSoftStart, he]
  dsimp only
  cases hdone : u.power.softStartDone with
  | true =>
    rw [if_neg (by simp), ← hdone]
  | false =>
    rw [if_pos (by simp [hdue'])]
    dsimp only
    rw [refills_power]

theorem endSoftStart_early {u : State} {e : Nat} (he : u.power.serviceEntry = some e) (hearly : u.clock.now < e + 5000000000) :
    u.endSoftStart = u := by
  have hearly' : ¬ e + 5000 * ms ≤ u.clock.now := Nat.not_le.mpr hearly
  rw [State.endSoftStart, he]
  exact if_neg (by simp [hearly'])

/-! ### The checks of a REQ (R392) -/

/-- What the checks of a REQ come to. -/
def State.judgeReq (w : State) (p : Nat) (req : CmReq) (mail : Bool) : State :=
  if !mail && req.serviceId != dataService then w.rejectReq p 8 1 0
  else if !w.admitsService p mail then w.rejectReq p 28 2 1000
  else if mail && 4 ≤ (w.fabric.conns.filter fun k => k.mailbox && k.ready).length then w.rejectReq p 28 3 0
  else if !w.pathMtuOk p req.pathMtu then w.rejectReq p 5 4 0
  else match w.freeConn with
    | none => w.rejectReq p 1 5 1000
    | some c => if !mail && w.tokens p == 0 then w.rejectToken p else w.admitReq p c req mail

theorem cmReq_judged {u : State} {p : Nat} {x : Port} (hx : u.port? p = some x) (hup : x.link = .up) (hboot : u.power.mode ≠ .boot)
    (htaste : u.power.mode ≠ .tasting) (req : CmReq) : u.cmReq p req = (u.refill p).judgeReq p req (req.serviceId == 0x8840FF) := by
  have hlink : u.linkIsUp p = true := by simp [State.linkIsUp, hx, hup]
  have hgo : ¬ (!u.linkIsUp p || u.power.mode == .boot || u.power.mode == .tasting) = true := by simp [hlink, hboot, htaste]
  rw [State.cmReq]
  exact if_neg hgo

theorem judgeReq_room {w : State} {mail : Bool}
    (hroom : mail = false ∨ (w.fabric.conns.filter fun k => k.mailbox && k.ready).length < 4) : (mail && decide (4 ≤ (w.fabric.conns.filter fun k => k.mailbox && k.ready).length)) = false := by
  rcases hroom with h | h
  · simp [h]
  · simp [Nat.not_le.mpr h]

section
variable {w : State} {p : Nat} {req : CmReq} {mail : Bool}

theorem judgeReq_unknown (h : ¬ (mail = true ∨ req.serviceId = 0x884001)) : w.judgeReq p req mail = w.rejectReq p 8 1 0 := by
  obtain ⟨hmail, hdata⟩ := not_or.mp h
  exact if_pos (by simp [hmail, dataService, hdata])

variable (hknown : mail = true ∨ req.serviceId = 0x884001)
include hknown

theorem judgeReq_known : (!mail && req.serviceId != dataService) = false := by
  rcases hknown with h | h <;> simp [h, dataService]

theorem judgeReq_mode (h : ¬ w.admitsService p mail = true) : w.judgeReq p req mail = w.rejectReq p 28 2 1000 := by
  rw [State.judgeReq, judgeReq_known hknown, if_neg Bool.false_ne_true]
  exact if_pos (by simp [h])

variable (hmode : w.admitsService p mail = true)
include hmode

theorem judgeReq_full (h : ¬ (mail = false ∨ (w.fabric.conns.filter fun k => k.mailbox && k.ready).length < 4)) :
    w.judgeReq p req mail = w.rejectReq p 28 3 0 := by
  obtain ⟨hmail, hfull⟩ := not_or.mp h
  have hfour : 4 ≤ (w.fabric.conns.filter fun k => k.mailbox && k.ready).length := Nat.not_lt.mp hfull
  rw [State.judgeReq, judgeReq_known hknown, if_neg Bool.false_ne_true, hmode, Bool.not_true, if_neg Bool.false_ne_true]
  exact if_pos (by simp [hmail, hfour])

variable (hroom : mail = false ∨ (w.fabric.conns.filter fun k => k.mailbox && k.ready).length < 4)
include hroom

theorem judgeReq_mtu (h : ¬ w.pathMtuOk p req.pathMtu = true) : w.judgeReq p req mail = w.rejectReq p 5 4 0 := by
  rw [State.judgeReq, judgeReq_known hknown, if_neg Bool.false_ne_true, hmode, Bool.not_true, if_neg Bool.false_ne_true,
    judgeReq_room hroom, if_neg Bool.false_ne_true]
  exact if_pos (by simp [h])

variable (hmtu : w.pathMtuOk p req.pathMtu = true)
include hmtu

theorem judgeReq_noConn (h : w.freeConn = none) : w.judgeReq p req mail = w.rejectReq p 1 5 1000 := by
  rw [State.judgeReq, judgeReq_known hknown, hmode, judgeReq_room hroom, hmtu, h]
  rfl

theorem judgeReq_free {c : Nat} (h : w.freeConn = some c) :
    w.judgeReq p req mail = if !mail && w.tokens p == 0 then w.rejectToken p else w.admitReq p c req mail := by
  rw [State.judgeReq, judgeReq_known hknown, hmode, judgeReq_room hroom, hmtu, h]
  rfl

end

/-! ### What a REQ leaves (R391, R394) -/

/-- A CONN_INDEX that is given is free (R391). -/
theorem freeConn_free {w : State} {c : Nat} (h : w.freeConn = some c) : c < 65536 ∧ w.connTaken c = false := by
  unfold State.freeConn at h
  dsimp only at h
  split at h
  · cases h
  · rename_i hfree
    obtain rfl := Option.some.inj h
    simp only [Bool.or_eq_true, decide_eq_true_eq, not_or, Bool.not_eq_true] at hfree
    exact ⟨Nat.not_le.mp hfree.1.1, hfree.1.2⟩

/-- A refusal for want of a token waits for the next one, and up to 999 ms more (R394). -/
theorem rejectToken_eq {w : State} {p : Nat} {y : Port} (hy : w.port? p = some y) :
    ∃ spread < 1000, w.rejectToken p =
      (w.modPort p fun z => { z with lfsr := z.lfsr + 1 }).rejectReq p 28 6 (w.retryMs y + spread) := by
  refine ⟨Config.freeNat "spread" (p * 2 ^ 64 + y.lfsr) % 1000, Nat.mod_lt _ (by decide), ?_⟩
  rw [State.rejectToken, hy]

section
variable {w : State} {p : Nat} {y : Port} (hy : w.port? p = some y)
include hy

theorem rejectReq_sent {reason cause retry : Nat} (hmany : y.rejs.1 < 100000) (hsome : y.rejs.1 ≠ 0)
    (hsince : w.clock.now < y.rejs.2 + 1000000000) :
    w.rejectReq p reason cause retry =
      { w with
        ports := w.ports.modify p fun z => { z with
          rejs := (y.rejs.1 + 1, y.rejs.2), counters := z.counters.modify 14 fun n => satAdd 64 n 1 }
        sent := w.sent ++ [.cmRej p reason (toLe 2 1 ++ toLe 1 cause ++ zeros 1 ++ toLe 4 retry)] } := by
  have hsame : ¬ (y.rejs.1 == 0 || decide (y.rejs.2 + 1000 * ms ≤ w.clock.now)) = true := by
    have : ¬ y.rejs.2 + 1000 * ms ≤ w.clock.now := Nat.not_le.mpr hsince
    simp [hsome, this]
  rw [State.rejectReq, hy]
  dsimp only
  rw [if_neg hsame, if_neg (Nat.not_le.mpr hmany)]
  simp only [State.countPort, State.modPort, State.emit, List.modify_modify_eq]
  rfl

theorem rejectReq_dropped {reason cause retry : Nat} (hmany : 100000 ≤ y.rejs.1) (hsince : w.clock.now < y.rejs.2 + 1000000000) :
    w.rejectReq p reason cause retry =
      { w with ports := w.ports.modify p fun z => { z with counters := z.counters.modify 15 fun n => satAdd 64 n 1 } } := by
  have hsame : ¬ (y.rejs.1 == 0 || decide (y.rejs.2 + 1000 * ms ≤ w.clock.now)) = true := by
    have hold : ¬ y.rejs.2 + 1000 * ms ≤ w.clock.now := Nat.not_le.mpr hsince
    have hsome : y.rejs.1 ≠ 0 := by omega
    simp [hsome, hold]
  rw [State.rejectReq, hy]
  dsimp only
  rw [if_neg hsame, if_pos hmany]
  rfl

/-- An admitted REQ: the connection, the port's token and count, and the REP (R391 to R393). -/
theorem admitReq_leaves {req : CmReq} {c : Nat} (mail : Bool) :
    let v := w.admitReq p c req mail
    v.conn? c = some { index := c, mailbox := mail, port := p, req := req, rate := 100000 * groupSize y.laneMode, firstOut := w.sent.length } ∧
    (∀ d, d ≠ c → v.conn? d = w.conn? d) ∧
    v.port? p = some { y with admitTokens := y.admitTokens - b2n (!mail), counters := y.counters.modify 13 fun n => satAdd 64 n 1 } ∧
    v.sent = w.sent ++ [.cmRep c (w.repData c mail)] := by
  have hrate : w.portRate p = 100000 * groupSize y.laneMode := by rw [State.portRate, hy]
  let k : Connection := { index := c, mailbox := mail, port := p, req := req, rate := w.portRate p, firstOut := w.sent.length }
  have hconns : (w.admitReq p c req mail).fabric.conns = (w.fabric.conns.filter fun y => y.index != c) ++ [k] := by
    cases mail <;> rfl
  refine ⟨?_, fun d hd => ?_, ?_, ?_⟩
  · have hold : (w.fabric.conns.filter fun y => y.index != c).find? (·.index == c) = none :=
      List.find?_eq_none.mpr fun y hy => by simpa using (List.mem_filter.mp hy).2
    rw [State.conn?, hconns, List.find?_append, hold, Option.none_or, ← hrate]
    simp [k]
  · have hnew : [k].find? (·.index == d) = none := by simp [k, Ne.symm hd]
    rw [State.conn?, hconns, List.find?_append, hnew, Option.or_none, List.find?_filter, State.conn?]
    refine congrArg (List.find? · _) (funext fun y => ?_)
    by_cases hyd : y.index = d
    · simp [hyd, hd]
    · simp [hyd]
  · have hports : w.ports[p]? = some y := hy
    cases mail <;> simp [State.admitReq, State.port?, State.countPort, State.modPort, State.emit, hports, b2n]
  · cases mail <;> rfl

end

/-! ### The end of a connection (R390, R395) -/

section
variable {u : State} {c : Nat} {k : Connection} (hk : u.conn? c = some k)
include hk

theorem cmRtu_leaves (hready : k.ready = true) :
    let v := u.modConn c fun k => { k with established := k.established || k.ready }
    v.conn? c = some { k with established := true } ∧ ∀ d, d ≠ c → v.conn? d = u.conn? d := by
  have hmod (d : Nat) := State.conn?_modConn u c d (fun k => { k with established := k.established || k.ready }) fun _ => rfl
  refine ⟨(hmod c).trans ?_, fun d hd => (hmod d).trans ?_⟩
  · rw [hk]
    simp [hready]
  · cases u.conn? d with
    | none => rfl
    | some y => simp [hd]

/-- A data connection that no queue names only ends. -/
theorem failConnection_unnamed (hready : k.ready = true) (hnone : ∀ q ∈ u.fabric.queues, q.conn ≠ c) (hdata : k.mailbox = false) :
    u.failConnection c = { u with
      fabric.conns := mapIf (·.index == c) (fun z => { z with
        ready := false, discarded := z.discarded + (k.heldOut.length + b2n k.notify.isSome), heldOut := [], notify := none
        outstanding := [], reads := [], readQueue := [] }) u.fabric.conns
      router.rings := mapIf (·.conn == c) (fun r => { r with dead := true, waiting := [] }) u.router.rings } := by
  have hqueues : u.fabric.queues.filter (fun q => q.conn == c) = [] :=
    List.filter_eq_nil_iff.mpr fun q hq => by simpa using hnone q hq
  rw [State.failConnection, hk]
  simp only [hready, hdata, Bool.not_true, Bool.false_eq_true, if_false]
  simp only [State.modConn, hqueues, List.foldl_nil]

end

theorem breakQueue_eq {v : State} {i : Nat} {q : WorkQueue} (hq : v.queue? i = some q) (hbroken : q.state ≠ .broken)
    (hdrain : q.state ≠ .draining) :
    v.breakQueue i = (v.modQueue i fun z => { z with state := .broken, target := none, cache := [] }).raise 228 [i, v.queueJobs i] := by
  rw [State.breakQueue, hq]
  exact if_neg (by simp [hbroken, hdrain])

/-- Settles O17: the checks of a REQ in their order, then what each outcome leaves. -/
theorem connectionManagement : Obligations.ConnectionManagement := by
  unfold Obligations.ConnectionManagement
  rintro s u w t p x y req rfl hx hup hboot htaste rfl hy mail known admitted room sized
  have hrow : exec (.cmReq t p req) s = .next (((s.advance t).refill p).judgeReq p req mail) :=
    congrArg Host.Outcome.next (cmReq_judged hx hup hboot htaste req)
  have hgives {v : State} (h : ((s.advance t).refill p).judgeReq p req mail = v) : Gives (exec (.cmReq t p req) s) v :=
    hrow.trans (congrArg Host.Outcome.next h)
  have hclock := refill_clock (s.advance t) p
  have hsent := refill_sent (s.advance t) p
  have htokens : ((s.advance t).refill p).tokens p = y.admitTokens := by rw [State.tokens, hy]
  refine ⟨fun h => hgives (judgeReq_unknown h), fun h₁ h => hgives (judgeReq_mode h₁ h), fun h₁ h₂ h => hgives (judgeReq_full h₁ h₂ h),
    fun h₁ h₂ h₃ h => hgives (judgeReq_mtu h₁ h₂ h₃ h), fun h₁ h₂ h₃ h₄ h => hgives (judgeReq_noConn h₁ h₂ h₃ h₄ h),
    fun h₁ h₂ h₃ h₄ h hmail hempty => ?_, fun c h₁ h₂ h₃ h₄ h htoken => ?_, fun reason cause retry hmany hsome hsince => ?_,
    fun reason cause retry hmany hsince => ?_, rfl, fun e he => ⟨refill_port hx he hy, fun hdue => ⟨_, rfl, endSoftStart_due he hdue⟩,
    fun hearly => congrArg Host.Outcome.next (endSoftStart_early he hearly)⟩, fun c k hk => ⟨fun hready => ⟨_, rfl, cmRtu_leaves hk hready⟩,
    ⟨_, rfl, ?_⟩, fun cause => ⟨_, rfl, rfl⟩, fun hready hnone hdata => failConnection_unnamed hk hready hnone hdata,
    fun v i q => breakQueue_eq⟩⟩
  · obtain ⟨c, hc⟩ := Option.isSome_iff_exists.mp h
    obtain ⟨spread, hspread, hreject⟩ := rejectToken_eq hy
    refine ⟨spread, hspread, hgives ((judgeReq_free h₁ h₂ h₃ h₄ hc).trans ((if_pos ?_).trans hreject))⟩
    simp [hmail, htokens, hempty]
  · obtain ⟨hlt, hfree⟩ := freeConn_free h
    refine ⟨hlt, hfree, _, hrow.trans (congrArg Host.Outcome.next ((judgeReq_free h₁ h₂ h₃ h₄ h).trans (if_neg ?_))), ?_⟩
    · rcases htoken with hmail | hsome
      · simp [hmail]
      · simp [htokens, Nat.ne_of_gt hsome]
    · have hleaves := admitReq_leaves hy (req := req) (c := c) mail
      rw [hsent, refill_repData] at hleaves
      exact hleaves
  · exact rejectReq_sent hy hmany hsome (by rw [hclock]; exact hsince)
  · exact rejectReq_dropped hy hmany (by rw [hclock]; exact hsince)
  · rw [State.cmDreq, hk]
    rfl

end Sys2Proof.Machine
end

/-! RDMA requests, responses, acknowledgements and rates (13 R385 to R398; 02 R69). -/
section
namespace Sys2Proof.Machine

/-! ### Carriage memory (R397 to R399) -/

theorem regionOf_memory {g : Nat} (h : g < 4096) : regionOf (0xC0000000 + g) = some (.memory g) := by
  have hring : (decide (0x40000000 ≤ 0xC0000000 + g) && decide (0xC0000000 + g < 0x40010000)) = false := by
    simp only [Bool.and_eq_false_iff, decide_eq_false_iff_not]; omega
  have hwindow : (decide (0x80000000 ≤ 0xC0000000 + g) && decide (0xC0000000 + g < 0x80010000)) = false := by
    simp only [Bool.and_eq_false_iff, decide_eq_false_iff_not]; omega
  have hmemory : (decide (0xC0000000 ≤ 0xC0000000 + g) && decide (0xC0000000 + g < 0xC0001000)) = true := by
    simp only [Bool.and_eq_true, decide_eq_true_eq]; omega
  rw [regionOf, if_neg (by rw [hring]; decide), if_neg (by rw [hwindow]; decide), if_pos hmemory, Nat.add_sub_cancel_left]

/-- An access of a bound carriage is allowed inside its memory. -/
theorem regionOffset_memory {u : State} {c g : Nat} {x : Carriage} (hx : u.carriage? g = some x) (hbound : u.boundTo c g = true)
    (addr len : Nat) :
    u.regionOffset c (.memory g) addr len = if addr + len ≤ x.params.memSize * 4096 then some addr else none := by
  rw [State.regionOffset]
  simp only [hbound, hx, Bool.not_true, Bool.false_eq_true, if_false, Nat.zero_le, decide_true, Bool.true_and, Nat.zero_add, Nat.sub_zero,
    decide_eq_true_eq]

theorem regionOffset_unbound {u : State} {c g : Nat} (h : u.boundTo c g = false) (addr len : Nat) :
    u.regionOffset c (.memory g) addr len = none := by
  rw [State.regionOffset]
  simp [h]

section
variable {u : State} {c : Nat} {k : Connection} (hk : u.conn? c = some k) (hready : k.ready = true)
include hk hready

/-- A mailbox connection takes no RDMA request (R386). -/
theorem rdmaWrite_mailbox (hmail : k.mailbox = true) (rkey addr : Nat) (data : Bytes) (put : State → Region → Nat → Bytes → State) :
    u.rdmaWrite c rkey addr data put = u.refuseRequest c true := by
  rw [State.rdmaWrite, hk]
  simp [hready, hmail]

theorem rdmaRead_mailbox (hmail : k.mailbox = true) (rkey addr len : Nat) : u.rdmaRead c rkey addr len = u.refuseRequest c true := by
  have hconn : u.mailConn c = true := by simp [State.mailConn, hk, hready, hmail]
  exact if_pos hconn

theorem rdmaConn_data (hdata : k.mailbox = false) : u.rdmaConn c = true := by simp [State.rdmaConn, hk, hready, hdata]

/-- A data connection reads packet by packet. -/
theorem rdmaRead_packets (hdata : k.mailbox = false) (rkey addr len : Nat) :
    u.rdmaRead c rkey addr len =
      let b := u.readPackets c rkey (len + 1) addr len
      let v := if b.2 || !b.1.isEmpty then u.emit (.readResponse c b.1) else u
      if b.2 then v else v.refuseRequest c false := by
  have hmail : u.mailConn c = false := by simp [State.mailConn, hk, hdata]
  rw [State.rdmaRead, hmail, rdmaConn_data hk hready hdata]
  rfl

end

/-- The packets of a read of one path MTU. -/
theorem readPackets_one {u : State} {c rkey addr len off : Nat} {r : Region} (hlen : 0 < len) (hmtu : len ≤ u.mtuOf c)
    (hr : regionOf rkey = some r) (hoff : u.regionOffset c r addr len = some off) :
    u.readPackets c rkey (len + 1) addr len = (u.regionBytes r off len, true) := by
  obtain ⟨n, rfl⟩ := Nat.exists_eq_succ_of_ne_zero (Nat.ne_of_gt hlen)
  have hsome : ¬ (n.succ == 0) = true := by simp
  rw [State.readPackets, if_neg hsome]
  simp only [Nat.min_eq_left hmtu, hr, Option.bind_some, hoff, Option.map_some, Nat.sub_self]
  rw [State.readPackets]
  simp

/-- A read whose first packet fails returns nothing. -/
theorem readPackets_none {u : State} {c rkey addr len : Nat} {r : Region} (hlen : 0 < len) (hr : regionOf rkey = some r)
    (hoff : u.regionOffset c r addr (min len (u.mtuOf c)) = none) : u.readPackets c rkey (len + 1) addr len = ([], false) := by
  have hsome : ¬ (len == 0) = true := by simpa using Nat.ne_of_gt hlen
  rw [State.readPackets, if_neg hsome]
  simp only [hr, Option.bind_some, hoff, Option.map_none]

/-- A write whose first packet fails places nothing. -/
theorem writePackets_none {u : State} {c rkey addr : Nat} {data : Bytes} {r : Region} (hlen : 0 < data.length) (hr : regionOf rkey = some r)
    (hoff : ∀ len, u.regionOffset c r addr len = none) (put : State → Region → Nat → Bytes → State) :
    State.writePackets c rkey put (data.length + 1) u addr data = u.refuseRequest c false := by
  have hsome : ¬ data.isEmpty = true := by simpa using List.ne_nil_of_length_pos hlen
  rw [State.writePackets, if_neg hsome]
  simp only [hr, Option.bind_some, hoff, Option.map_none]

/-! ### Answers to the module's requests (R69, R388) -/

/-- Outputs sent one after another. -/
theorem emit_all (l : List Out) : ∀ u : State, l.foldl (fun s o => s.emit o) u = { u with sent := u.sent ++ l } := by
  induction l with
  | nil => exact fun u => by rw [List.append_nil]; rfl
  | cons o l ih => exact fun u => by rw [List.foldl_cons, ih]; simp [State.emit]

/-- The bytes of a READ reach the job that waits for them. -/
theorem deliverRead_jobInput {v : State} {j : Nat} {q : Job} (hq : v.job? j = some q) (hphase : q.phase = .fetch) (off : Nat) (data : Bytes) :
    (v.deliverRead (.jobInput j off data.length) data).job? j = some { q with
      input := q.input.take off ++ data ++ q.input.drop (off + data.length), inputMissing := q.inputMissing - data.length } := by
  have harrived : v.deliverRead (.jobInput j off data.length) data = v.inputArrived j off data := if_pos (beq_self_eq_true _)
  rw [harrived]
  refine (job?_modJob_self _ (fun x => ?_) hq).trans ?_
  · split <;> rfl
  · simp [hphase]

section
variable {u : State} {c : Nat} {k : Connection} (hk : u.conn? c = some k)
include hk

/-- A connection after a change of its own record, and the others. -/
theorem conn?_modConn_self (g : Connection → Connection) (hg : ∀ x, (g x).index = x.index) : (u.modConn c g).conn? c = some (g k) := by
  rw [State.conn?_modConn u c c g hg, hk]
  simp

omit hk in
theorem conn?_modConn_other (g : Connection → Connection) (hg : ∀ x, (g x).index = x.index) {d : Nat} (hd : d ≠ c) :
    (u.modConn c g).conn? d = u.conn? d := by
  rw [State.conn?_modConn u c d g hg]
  cases u.conn? d with
  | none => rfl
  | some y => simp [hd]

/-- An ACK of a SEND that nothing waits behind. -/
theorem acked_free (hfree : k.notify = none) :
    u.acked c none = (u.modConn c fun k => { k with retries := 0 }).modConn c fun k => { k with outstanding := fromSend (k.outstanding.drop 1) } := by
  rw [State.acked, State.flushHeld, conn?_modConn_self hk (fun k => { k with retries := 0 }) fun _ => rfl]
  simp [hfree]

/-- An ACK of a SEND that others wait behind: they leave. -/
theorem acked_held (hheld : k.notify ≠ none) :
    u.acked c none =
      { (u.modConn c fun k => { k with retries := 0 }).modConn c fun y =>
          { y with notify := none, heldOut := [], outstanding := fromSend k.heldOut } with
        sent := u.sent ++ k.heldOut } := by
  have hsome : k.notify.isNone = false := by rwa [Option.isNone_eq_false_iff, Option.isSome_iff_ne_none]
  rw [State.acked, State.flushHeld, conn?_modConn_self hk (fun k => { k with retries := 0 }) fun _ => rfl]
  simp only [hsome, Bool.false_eq_true, if_false, emit_all]
  rfl

theorem acked_leaves :
    let v := u.acked c none
    v.sent = u.sent ++ (if k.notify = none then [] else k.heldOut) ∧
    v.conn? c = some (if k.notify = none then { k with retries := 0, outstanding := fromSend (k.outstanding.drop 1) }
      else { k with retries := 0, notify := none, heldOut := [], outstanding := fromSend k.heldOut }) ∧
    ∀ d, d ≠ c → v.conn? d = u.conn? d := by
  have hretries := conn?_modConn_self hk (fun k => { k with retries := 0 }) fun _ => rfl
  have hothers (d : Nat) (hd : d ≠ c) := conn?_modConn_other (u := u) (fun k : Connection => { k with retries := 0 }) (fun _ => rfl) hd
  intro v
  by_cases hnotify : k.notify = none
  · let accept (y : Connection) : Connection := { y with outstanding := fromSend (y.outstanding.drop 1) }
    have hv : v = (u.modConn c fun k => { k with retries := 0 }).modConn c accept := acked_free hk hnotify
    rw [hv, if_pos hnotify, if_pos hnotify, List.append_nil]
    exact ⟨rfl, conn?_modConn_self hretries accept fun _ => rfl, fun d hd =>
      (conn?_modConn_other accept (fun _ => rfl) hd).trans (hothers d hd)⟩
  · let flush (y : Connection) : Connection := { y with notify := none, heldOut := [], outstanding := fromSend k.heldOut }
    have hv : v = { (u.modConn c fun k => { k with retries := 0 }).modConn c flush with sent := u.sent ++ k.heldOut } := acked_held hk hnotify
    rw [hv, if_neg hnotify, if_neg hnotify]
    exact ⟨rfl, conn?_modConn_self hretries flush fun _ => rfl, fun d hd =>
      (conn?_modConn_other flush (fun _ => rfl) hd).trans (hothers d hd)⟩

/-- A response to a READ delivers its bytes, and its resource serves the next. -/
theorem readAnswered_eq {id : Nat} {use : ReadUse} (hread : k.reads.find? (·.1 == id) = some (id, use)) (data : Bytes) :
    u.readAnswered c id data =
      ((u.modConn c fun z => { z with reads := z.reads.filter (·.1 != id), retries := 0 }).deliverRead use data).pumpReads 16 c := by
  rw [State.readAnswered, hk]
  dsimp only
  rw [hread]

omit hk in
/-- The SEND that an RNR NAK answers. -/
theorem naked_eq {b : Bytes} {n : Nat} {rest : List Out}
    (h : k.notify = some (b, n) ∨ (k.notify = none ∧ n = 0 ∧ k.outstanding = .send c b :: rest)) : k.naked = some (b, n) := by
  rcases h with h | ⟨h, rfl, ho⟩
  · simp [Connection.naked, h]
  · simp [Connection.naked, h, ho]

variable (hready : k.ready = true)
include hready

/-- It is sent again as often as the REQ allows, and then the connection ends (R69). -/
theorem rnrNaked_eq {b : Bytes} {n : Nat} (hnaked : k.naked = some (b, n)) :
    u.rnrNaked c =
      if n < k.req.rnrRetryCount ∨ k.req.rnrRetryCount = 7 then
        (u.modConn c fun z => { z with notify := some (b, n + 1), heldOut := z.outstanding.drop 1 ++ z.heldOut, outstanding := [] }).emit
          (.send c b)
      else u.failConnection c := by
  rw [State.rnrNaked, hk]
  dsimp only
  rw [hnaked]
  simp [hready]

/-- A retry, or after the REQ's count the end (R388, R395). -/
theorem ackTimeout_eq :
    u.ackTimeout c = if k.retries < k.req.retryCount then u.modConn c fun z => { z with retries := z.retries + 1 } else u.failConnection c := by
  rw [State.ackTimeout, hk]
  simp [hready]

/-! ### Rates (R389) -/

theorem cnpIn_eq :
    u.cnpIn c =
      if spaced k.lastCnp 50000 u.clock.now then
        (u.countPort k.port 12 1).modConn c fun z => { z with rate := z.rate / 2, lastCnp := some u.clock.now, rateAt := u.clock.now }
      else u.countPort k.port 12 1 := by
  rw [State.cnpIn, hk]
  exact if_neg (by simp [hready])

theorem rateUp_rises (hrate : k.rate < u.portRate k.port) (hdue : k.rateAt + 55000 ≤ u.clock.now) :
    u.rateUp c = u.modConn c fun z => { z with rate := min (u.portRate k.port) (z.rate + 5000), rateAt := u.clock.now } := by
  have hstep : k.rateAt + rateStep ≤ u.clock.now := hdue
  rw [State.rateUp, hk]
  exact if_pos (by simp [hready, hrate, hstep])

theorem rateUp_stays (h : u.portRate k.port ≤ k.rate ∨ u.clock.now < k.rateAt + 55000) : u.rateUp c = u := by
  have hno : ¬ (k.rate < u.portRate k.port ∧ k.rateAt + rateStep ≤ u.clock.now) := by
    have : rateStep = 55000 := rfl
    omega
  rw [State.rateUp, hk]
  refine if_neg ?_
  simpa [hready] using hno

end

/-- Settles O18: requests by their region, answers by what waits on the connection. -/
theorem rdmaTraffic : Obligations.RdmaTraffic := by
  unfold Obligations.RdmaTraffic
  rintro s u t c k rfl hk hready
  refine ⟨fun hmail rkey addr len data => ⟨⟨_, rfl, rdmaWrite_mailbox hk hready hmail _ _ _ _⟩, ⟨_, rfl, rdmaRead_mailbox hk hready hmail _ _ _⟩⟩,
    fun hdata g x addr data hg hx hbound hlen hmtu => ?inside, fun hdata g addr data len hbound hg hdlen hlen => ?unbound,
    fun id use data hread => ⟨_, rfl, readAnswered_eq hk hread data⟩, fun v j q off data hq hphase => deliverRead_jobInput hq hphase off data,
    ⟨_, rfl, acked_leaves hk⟩, fun nak hnak => ⟨_, rfl, ?nak⟩, fun b n rest hsend => ⟨fun hmore => ⟨_, rfl, ?again⟩, fun hdone hseven => ⟨_, rfl, ?ends⟩⟩,
    fun hretry => ⟨_, rfl, (ackTimeout_eq hk hready).trans (if_pos hretry)⟩,
    fun hdone => ⟨_, rfl, (ackTimeout_eq hk hready).trans (if_neg (Nat.not_lt.mpr hdone))⟩, ⟨fun hspaced => ?halves, fun l hl hsoon => ?counts⟩,
    fun hrate hdue => congrArg Host.Outcome.next (rateUp_rises hk hready hrate hdue),
    fun h => congrArg Host.Outcome.next (rateUp_stays hk hready h)⟩
  case inside =>
    have hconn := rdmaConn_data hk hready hdata
    have hregion := regionOf_memory hg
    have hoff := regionOffset_memory hx hbound addr data.length
    intro inside
    refine ⟨fun hin => ⟨_, rfl, ?_⟩, fun hin => ⟨_, rfl, ?_⟩, fun hout => ⟨⟨_, rfl, ?_⟩, ⟨_, rfl, ?_⟩⟩⟩
    · exact rdmaWrite_placed hconn (List.ne_nil_of_length_pos hlen) hmtu hregion (hoff.trans (if_pos hin)) _
    · rw [rdmaRead_packets hk hready hdata, readPackets_one hlen hmtu hregion (hoff.trans (if_pos hin))]
      simp [State.regionBytes, hx]
    · refine rdmaWrite_refused hconn (List.ne_nil_of_length_pos hlen) hmtu (fun r hr => ?_) _
      obtain rfl := Option.some.inj (hregion.symm.trans hr)
      exact hoff.trans (if_neg hout)
    · rw [rdmaRead_packets hk hready hdata, readPackets_none hlen hregion (by rw [Nat.min_eq_left hmtu]; exact hoff.trans (if_neg hout))]
      rfl
  case unbound =>
    have hregion := regionOf_memory hg
    have hoff := regionOffset_unbound (u := s.advance t) hbound addr
    refine ⟨⟨_, rfl, ?_⟩, ⟨_, rfl, ?_⟩⟩
    · rw [rdmaWrite_packets (rdmaConn_data hk hready hdata), writePackets_none hdlen hregion hoff]
    · rw [rdmaRead_packets hk hready hdata, readPackets_none hlen hregion (hoff _)]
      rfl
  case nak =>
    rcases hnak with rfl | rfl <;> rfl
  case again => exact (rnrNaked_eq hk hready (naked_eq hsend)).trans (if_pos hmore)
  case ends => exact (rnrNaked_eq hk hready (naked_eq hsend)).trans (if_neg (by omega))
  case halves =>
    refine congrArg Host.Outcome.next ((cnpIn_eq hk hready).trans (if_pos ?_))
    rcases hspaced with hnone | ⟨l, hl, hdue⟩
    · rw [hnone]; rfl
    · rw [hl]; exact decide_eq_true hdue
  case counts =>
    refine congrArg Host.Outcome.next ((cnpIn_eq hk hready).trans (if_neg ?_))
    rw [hl]
    exact fun h => absurd (of_decide_eq_true h) (Nat.not_le.mpr hsoon)

end Sys2Proof.Machine
end

/-! Frames, pause, links and FEC of the Ethernet ports (13 R375 to R384, R389, R396, R403 to R409). -/
section
namespace Sys2Proof.Machine

/-! ### Ports -/

/-- A change of a port acts on that port's present value. -/
theorem modPort_congr {w : State} {p : Nat} {y : Port} (hy : w.port? p = some y) {g h : Port → Port} (heq : g y = h y) :
    w.modPort p g = w.modPort p h := by
  have hports : w.ports.modify p g = w.ports.modify p h := by
    refine List.ext_getElem? fun i => ?_
    rw [List.getElem?_modify, List.getElem?_modify]
    by_cases hi : p = i
    · subst hi
      have hp : w.ports[p]? = some y := hy
      simp [hp, heq]
    · simp [hi]
  rw [State.modPort, hports]
  rfl

theorem port?_modPort {w : State} {p : Nat} {y : Port} (hy : w.port? p = some y) (g : Port → Port) : (w.modPort p g).port? p = some (g y) := by
  have hp : w.ports[p]? = some y := hy
  simp [State.modPort, State.port?, hp]

/-! ### What leaves a port (R383, R384, R408, R476) -/

theorem outQueue_sorted (v : State) (p : Nat) : (v.outQueue p).Pairwise (· < ·) := List.Pairwise.filter _ List.pairwise_lt_range

/-- The first of a rising list that satisfies a test is the least one that does. -/
theorem find?_least {l : List Nat} (hl : l.Pairwise (· < ·)) {f : Nat → Bool} {i j : Nat} (hi : l.find? f = some i) (hj : j ∈ l)
    (hf : f j = true) : i ≤ j := by
  obtain ⟨hfi, as, bs, rfl, hbefore⟩ := List.find?_eq_some_iff_append.mp hi
  rcases List.mem_append.mp hj with hja | hjb
  · have := hbefore j hja
    rw [hf] at this
    exact absurd this (by decide)
  · rcases List.mem_cons.mp hjb with rfl | hjb
    · exact Nat.le_refl _
    · exact Nat.le_of_lt (List.rel_of_pairwise_cons (List.pairwise_append.mp hl).2.1 hjb)

theorem nextOut_empty {v : State} {p : Nat} {y : Port} (h : v.outQueue p = []) : v.nextOut p y = none := by
  rw [State.nextOut, h]
  rfl

/-- An output that is neither a pause frame nor a reply leaves when no pause frame waits, no reply may go, and its class is served next. -/
theorem nextOut_plain {v : State} {p i : Nat} {y : Port} (h : v.nextOut p y = some i) (hpause : (v.outAt i).isPause = false)
    (hreply : (v.outAt i).isReply = false) :
    ∃ k, let free := (v.outQueue p).filter fun i => !y.pauses (v.outClass (v.outAt i))
      (∀ j ∈ free, (v.outAt j).isReply = false) ∧ y.nextClass (free.map fun i => v.outClass (v.outAt i)) = some k ∧
      free.find? (fun i => v.outClass (v.outAt i) == k) = some i := by
  unfold State.nextOut at h
  simp only [] at h
  split at h
  · rename_i hfind
    cases h
    rw [List.find?_some hfind] at hpause
    cases hpause
  · split at h
    · rename_i hfind
      cases h
      rw [List.find?_some hfind] at hreply
      cases hreply
    · rename_i hnone
      split at h
      · rename_i k hk
        exact ⟨k, fun j hj => by simpa using List.find?_eq_none.mp hnone j hj, hk, h⟩
      · cases h

/-- Of the classes that wait, an output's own goes first, and of its class the oldest (R384). -/
theorem nextOut_first {v : State} {p i j : Nat} {y : Port} (h : v.nextOut p y = some i) (hpause : (v.outAt i).isPause = false)
    (hreply : (v.outAt i).isReply = false) (hj : j ∈ v.outQueue p) (hfree : y.pauses (v.outClass (v.outAt j)) = false) :
    (v.outAt j).isReply = false ∧
    (y.weight (v.outClass (v.outAt j)) = 0 →
      y.weight (v.outClass (v.outAt i)) = 0 ∧ v.outClass (v.outAt j) ≤ v.outClass (v.outAt i)) ∧
    (v.outClass (v.outAt j) = v.outClass (v.outAt i) → i ≤ j) := by
  obtain ⟨k, hreplies, hclass, hfirst⟩ := nextOut_plain h hpause hreply
  have hjfree : j ∈ (v.outQueue p).filter fun i => !y.pauses (v.outClass (v.outAt i)) := by simp [hj, hfree]
  obtain rfl : v.outClass (v.outAt i) = k := by simpa using List.find?_some hfirst
  refine ⟨hreplies j hjfree, fun hweight => (Port.nextClass_best hclass).2 _ (List.mem_map.mpr ⟨j, hjfree, rfl⟩) hweight, fun hsame => ?_⟩
  exact find?_least (List.Pairwise.filter _ (outQueue_sorted v p)) hfirst hjfree (by simp [hsame])

theorem transmit_eq {v : State} {p i : Nat} {y : Port} (hy : v.port? p = some y) (hup : y.link = .up) (hi : v.nextOut p y = some i) :
    let o := v.outAt i
    let n := o.size + Config.freeNat "frame headers" i
    v.transmit p = ((({ v with egress.left := v.egress.left ++ [i] } : State).countPort p 1 (v.outFrames o)).countPort p 3 n).modPort p
      fun z => { z with served := z.served.modify (v.outClass o) fun b => b + n } := by
  rw [State.transmit, hy]
  dsimp only
  rw [if_neg (by simp [hup]), hi]
  rfl

theorem transmit_idle {v : State} {p : Nat} {y : Port} (hy : v.port? p = some y) (h : y.link ≠ .up ∨ v.nextOut p y = none) :
    v.transmit p = v := by
  rw [State.transmit, hy]
  dsimp only
  by_cases hup : y.link = .up
  · rw [if_neg (by simp [hup]), h.resolve_left (not_not.mpr hup)]
  · exact if_pos (by simp [hup])

/-! ### The ingress buffer (R382) -/

/-- From `u` to `x` only ports have changed, and outputs have been sent. -/
def PortFrame (u x : State) : Prop := x = { u with ports := x.ports, sent := x.sent }

theorem PortFrame.refl (u : State) : PortFrame u u := rfl
theorem PortFrame.trans {u v x : State} (a : PortFrame u v) (b : PortFrame v x) : PortFrame u x := by
  unfold PortFrame at *
  rw [a] at b
  exact b
theorem PortFrame.clock {u x : State} (h : PortFrame u x) : x.clock = u.clock := by rw [h]
theorem PortFrame.train {u x : State} (h : PortFrame u x) : x.train = u.train := by rw [h]
theorem PortFrame.fabric {u x : State} (h : PortFrame u x) : x.fabric = u.fabric := by rw [h]

theorem emits_frame {α : Type} (g : α → Out) (l : List α) : ∀ u : State, PortFrame u (l.foldl (fun s e => s.emit (g e)) u) := by
  induction l with
  | nil => exact fun u => .refl u
  | cons a l ih => exact fun u => PortFrame.trans (v := u.emit (g a)) rfl (ih _)

theorem sendXon_frame (u : State) (p : Nat) : PortFrame u (u.sendXon p) := by
  unfold State.sendXon
  split
  · rfl
  · exact PortFrame.trans (v := u.modPort p _) rfl (emits_frame _ _ _)

theorem drainPort_frame (u : State) (p : Nat) : PortFrame u (u.drainPort p) := by
  unfold State.drainPort
  split
  · rfl
  · exact PortFrame.trans (v := u.modPort p _) rfl (sendXon_frame _ _)

theorem holdFrame_frame (u : State) (p pri len : Nat) : PortFrame u (u.holdFrame p pri len) := by
  unfold State.holdFrame
  split
  · rfl
  · dsimp only
    split <;> rfl

theorem buffer_frame (u : State) (p pri len : Nat) (m : Bool) : PortFrame u (u.buffer p pri len m).1 := by
  refine (drainPort_frame u p).trans ?_
  unfold State.buffer
  dsimp only
  split
  · rfl
  · split
    · split
      · exact holdFrame_frame _ _ _ _
      · rfl
    · split <;> rfl

/-- Outputs sent one after another are all sent. -/
theorem emits_sent {α : Type} (g : α → Out) (l : List α) : ∀ u : State, (l.foldl (fun s e => s.emit (g e)) u).sent = u.sent ++ l.map g := by
  induction l with
  | nil => exact fun u => (List.append_nil _).symm
  | cons a l ih => exact fun u => by rw [List.foldl_cons, ih]; simp [State.emit]

theorem emits_ports {α : Type} (g : α → Out) (l : List α) : ∀ u : State, (l.foldl (fun s e => s.emit (g e)) u).ports = u.ports := by
  induction l with
  | nil => exact fun u => rfl
  | cons a l ih => exact fun u => ih _

/-- XON goes to the priorities that are lossless no more or hold less than their threshold, and only to them. -/
theorem sendXon_leaves {v : State} {p : Nat} {y : Port} (hy : v.port? p = some y) {e : Nat × Nat} (he : e ∈ y.xoff) :
    let below := bit y.pfcMask e.1 = false ∨ y.held e.1 < (pfcLimit y.pfcMask - pfcHeadroom) * groupSize y.laneMode
    (below → .pfc p e.1 false ∈ (v.sendXon p).sent ∧ ∀ z, (v.sendXon p).port? p = some z → e ∉ z.xoff) ∧
    (¬ below → ∀ z, (v.sendXon p).port? p = some z → e ∈ z.xoff) := by
  intro below
  let low (pri : Nat) : Bool := !bit y.pfcMask pri || y.held pri < (pfcLimit y.pfcMask - pfcHeadroom) * groupSize y.laneMode
  have hlow : low e.1 = true ↔ below := by simp [low, below]
  have hx : v.sendXon p = (y.xoff.filter fun e => low e.1).foldl (fun s e => s.emit (.pfc p e.1 false))
      (v.modPort p fun x => { x with xoff := x.xoff.filter fun e => !low e.1 }) := by
    rw [State.sendXon, hy]
  have hport : (v.sendXon p).port? p = some { y with xoff := y.xoff.filter fun e => !low e.1 } := by
    rw [State.port?, hx, emits_ports (fun e : Nat × Nat => Out.pfc p e.1 false)]
    exact port?_modPort hy _
  refine ⟨fun hb => ⟨?_, fun z hz => ?_⟩, fun hb z hz => ?_⟩
  · rw [hx, emits_sent (fun e : Nat × Nat => Out.pfc p e.1 false)]
    exact List.mem_append_right _ (List.mem_map.mpr ⟨e, List.mem_filter.mpr ⟨he, hlow.mpr hb⟩, rfl⟩)
  · obtain rfl := Option.some.inj (hport.symm.trans hz)
    simp [hlow.mpr hb]
  · obtain rfl := Option.some.inj (hport.symm.trans hz)
    have hno : low e.1 = false := by rw [← Bool.not_eq_true, hlow]; exact hb
    simp [he, hno]

section
variable {v : State} {p : Nat} {y : Port} (hy : (v.drainPort p).port? p = some y)
include hy

/-- A frame of a lossless priority finds room in the priority's space and its headroom. -/
theorem buffer_lossless {pri len : Nat} (hbit : bit y.pfcMask pri = true) :
    v.buffer p pri len false =
      if y.held pri + len ≤ pfcLimit y.pfcMask * groupSize y.laneMode + 65536 * groupSize y.laneMode then
        ((v.drainPort p).holdFrame p pri len, true)
      else ((v.drainPort p).countPort p 9 1, false) := by
  rw [State.buffer, ← Nat.add_mul, hy]
  exact if_pos (by simp [hbit])

theorem holdFrame_eq {pri len : Nat} :
    let kept := (v.drainPort p).modPort p fun z => { z with lossless := (z.lossless.filter fun e => e.1 != pri) ++ [(pri, y.held pri + len)] }
    (v.drainPort p).holdFrame p pri len =
      if y.held pri + len ≤ pfcLimit y.pfcMask * groupSize y.laneMode ∨ y.xoff.any (·.1 == pri) = true then kept
      else ((kept.modPort p fun z => { z with xoff := z.xoff ++ [(pri, v.clock.now)] }).countPort p 8 1).emit (.pfc p pri true) := by
  rw [State.holdFrame, hy]
  dsimp only
  rw [← (drainPort_frame v p).clock]
  simp only [Bool.or_eq_true, decide_eq_true_eq]
  rfl

theorem buffer_shared {pri len : Nat} {m : Bool} (h : bit y.pfcMask pri = false ∨ m = true) :
    v.buffer p pri len m =
      if (v.drainPort p).sharedUsed p + len ≤ 1048576 then ((v.drainPort p).modPort p fun z => { z with shared := z.shared + len }, true)
      else ((v.drainPort p).countPort p 9 1, false) := by
  rw [State.buffer, hy]
  refine if_neg ?_
  rcases h with h | h <;> simp [h]

end

/-! ### A frame received (R379, R380, R389, R403 to R408) -/

/-- What becomes of a frame that the buffer keeps. -/
def State.kept (w : State) (p : Nat) (x : Port) (v : Nat) (f : Bytes) (marked : Option Nat) : State :=
  if frameRefused f then w.countPort p 23 1
  else if v == 0 || !w.vlanOk x f then w
  else if !w.pathAccepts p v f then (if v == 5 && framePath f == 5 then w else w.countPort p 23 1)
  else if v == 1 then w.congested p marked else w

section
variable {u : State} {p : Nat} {x : Port} (hx : u.port? p = some x)
include hx

theorem ingress_dropped (hup : x.link = .up) {len : Nat} {f : Bytes} {marked : Option Nat} {b : State}
    (hb : ((u.countPort p 0 1).countPort p 2 len).buffer p (framePcp f) len (u.verdict p x len f == 6) = (b, false)) :
    u.ingress p len f marked = b := by
  rw [State.ingress, hx]
  dsimp only
  rw [if_neg (by simp [hup]), hb]
  rfl

theorem ingress_kept (hup : x.link = .up) {len : Nat} {f : Bytes} {marked : Option Nat} {b : State}
    (hb : ((u.countPort p 0 1).countPort p 2 len).buffer p (framePcp f) len (u.verdict p x len f == 6) = (b, true)) :
    u.ingress p len f marked = (b.countPort p (16 + u.verdict p x len f) 1).kept p x (u.verdict p x len f) f marked := by
  rw [State.ingress, hx]
  dsimp only
  rw [if_neg (by simp [hup]), hb]
  rfl

end

/-- The buffer and the counters change no clock, roster or connection. -/
theorem kept_frame {u : State} {p len pri i : Nat} {m b : Bool} {w : State}
    (hw : ((u.countPort p 0 1).countPort p 2 len).buffer p pri len m = (w, b)) : PortFrame u (w.countPort p i 1) := by
  have hbuffer := buffer_frame ((u.countPort p 0 1).countPort p 2 len) p pri len m
  rw [hw] at hbuffer
  exact (PortFrame.trans (v := (u.countPort p 0 1).countPort p 2 len) rfl hbuffer).trans rfl

theorem PortFrame.vlanOk {u w : State} (h : PortFrame u w) (x : Port) (f : Bytes) : w.vlanOk x f = u.vlanOk x f := by
  rw [State.vlanOk, State.vlanOk, h.train]

section
variable {w : State} {p v : Nat} {x : Port} {f : Bytes} {marked : Option Nat}

theorem kept_refused (h : frameRefused f = true) : w.kept p x v f marked = w.countPort p 23 1 := if_pos h

variable (hf : frameRefused f = false)
include hf

theorem kept_dropped (h : v = 0 ∨ w.vlanOk x f = false) : w.kept p x v f marked = w := by
  rw [State.kept, hf]
  refine (if_neg Bool.false_ne_true).trans (if_pos ?_)
  rcases h with h | h <;> simp [h]

variable (hv : v ≠ 0) (hvlan : w.vlanOk x f = true)
include hv hvlan

theorem kept_judged : w.kept p x v f marked =
    if !w.pathAccepts p v f then (if v == 5 && framePath f == 5 then w else w.countPort p 23 1)
    else if v == 1 then w.congested p marked else w := by
  rw [State.kept, hf]
  exact (if_neg Bool.false_ne_true).trans (if_neg (by simp [hv, hvlan]))

theorem kept_counted (hpath : w.pathAccepts p v f = false) (h : v ≠ 5 ∨ framePath f ≠ 5) :
    w.kept p x v f marked = w.countPort p 23 1 := by
  rw [kept_judged hf hv hvlan, hpath]
  refine (if_pos rfl).trans (if_neg ?_)
  rcases h with h | h <;> simp [h]

theorem kept_accepted (hpath : w.pathAccepts p v f = true) (h : v ≠ 1 ∨ marked = none) : w.kept p x v f marked = w := by
  rw [kept_judged hf hv hvlan, hpath]
  refine (if_neg (by simp)).trans ?_
  rcases h with h | rfl
  · exact if_neg (by simpa using h)
  · exact ite_self w

theorem kept_marked (hone : v = 1) (hpath : w.pathAccepts p v f = true) : w.kept p x v f marked = w.congested p marked := by
  rw [kept_judged hf hv hvlan, hpath]
  exact (if_neg (by simp)).trans (if_pos (by simp [hone]))

end

/-- A packet marked CE is answered at most once in 50 us. -/
theorem congested_eq {w : State} {p c : Nat} {k : Connection} (hk : w.conn? c = some k) (hready : k.ready = true) (hport : k.port = p) :
    w.congested p (some c) =
      if spaced k.lastCnpSent 50000 w.clock.now then
        (((w.countPort p 10 1).modConn c fun z => { z with lastCnpSent := some w.clock.now }).countPort p 11 1).emit (.cnp c)
      else w.countPort p 10 1 := by
  obtain rfl : k.index = c := by simpa using List.find?_some hk
  rw [State.congested, Option.bind_some, hk]
  exact if_neg (by simp [hready, hport])

/-- A program whose first instruction returns decides by it. -/
theorem verdict_returns {u : State} {p : Nat} {x : Port} {i : BitVec 64} (hi : x.classifier[0]? = some i) (hop : insOp i = 0x30) (len : Nat)
    (f : Bytes) : u.verdict p x len f = if insK i % 256 ≤ 6 then insK i % 256 else 0 := by
  have hsome : x.classifier.isEmpty = false := by
    cases hc : x.classifier with
    | nil => simp [hc] at hi
    | cons => rfl
  rw [State.verdict, hsome]
  simp only [Bool.false_eq_true, if_false, runClassifier, hi, hop]

/-! ### Management, pause, links and FEC -/

theorem linkTrained_up {u : State} {p : Nat} {x : Port} (hx : u.port? p = some x) (hlink : x.link = .training)
    (hstuck : u.power.bootStuck = false) (hmode : u.power.mode ≠ .standby ∨ (u.power.parked = true ∧ p = 0)) :
    u.linkTrained p =
      if x.dhcp.state == .bound || x.dhcp.state == .renewing then u.setLink p .up else (u.setLink p .up).dhcpStart p := by
  rw [State.linkTrained, hx]
  refine if_pos ?_
  rcases hmode with h | ⟨h, rfl⟩ <;> simp [hlink, hstuck, h]

theorem linkTrained_stays {u : State} {p : Nat} {x : Port} (hx : u.port? p = some x)
    (h : x.link ≠ .training ∨ u.power.bootStuck = true ∨ (u.power.mode = .standby ∧ (u.power.parked = false ∨ p ≠ 0))) :
    u.linkTrained p = u := by
  rw [State.linkTrained, hx]
  refine if_neg ?_
  rcases h with h | h | ⟨h, h' | h'⟩ <;> simp [h] <;> simp [h']

section
variable {u : State} {p : Nat} {x : Port} (hx : u.port? p = some x) (hup : x.link = .up)
include hx hup

theorem mgmtFrame_eq (hsome : x.mgmt.1 ≠ 0) (hsince : u.clock.now < x.mgmt.2 + 1000000000) (f : Bytes) :
    u.mgmtFrame p f =
      if 10000 ≤ x.mgmt.1 then u.countPort p 24 1
      else (u.modPort p fun z => { z with mgmt := (x.mgmt.1 + 1, x.mgmt.2) }).manage p x f := by
  have hsame : ¬ (x.mgmt.1 == 0 || decide (x.mgmt.2 + 1000 * ms ≤ u.clock.now)) = true := by
    have hnot : ¬ x.mgmt.2 + 1000 * ms ≤ u.clock.now := Nat.not_le.mpr hsince
    simp [hsome, hnot]
  rw [State.mgmtFrame, hx]
  dsimp only
  rw [if_neg (by simp [hup]), if_neg hsame]

omit hx hup in
/-- An untagged ARP request for the port's address is answered (RFC 826). -/
theorem manage_arp {w : State} {f : Bytes} (htag : frameTag f = 0) (htype : frameType f = 0x0806) (hask : be f 20 2 = 1) (hsome : w.ipv4Of x ≠ 0)
    (haddr : be f 38 4 = w.ipv4Of x) :
    w.manage p x f = w.emit (.mgmt p (slice f 22 6 ++ toBe 6 (w.fuses.macBase + w.groupPort p) ++ toBe 2 0x0806 ++
      slice f 14 6 ++ toBe 2 2 ++ toBe 6 (w.fuses.macBase + w.groupPort p) ++ slice f 38 4 ++ slice f 22 10)) := by
  have hbody : frameBody f = 14 := by rw [frameBody, htag]
  have hreply : w.arpReply p f = slice f 22 6 ++ toBe 6 (w.fuses.macBase + w.groupPort p) ++ toBe 2 0x0806 ++
      slice f 14 6 ++ toBe 2 2 ++ toBe 6 (w.fuses.macBase + w.groupPort p) ++ slice f 38 4 ++ slice f 22 10 := by
    simp [State.arpReply, hbody, replyTag, htag, State.macOf]
  rw [State.manage, hbody, hreply]
  refine (if_pos (by simp [htype])).trans (if_pos ?_)
  simp [hask, State.answersArp, haddr, hsome]

theorem pfc_resume (pri : Nat) : u.pfc p pri false = u.modPort p fun z => { z with paused := z.paused.filter (·.1 != pri) } := by
  rw [State.pfc, hx]
  exact (if_neg (by simp [hup])).trans (if_pos rfl)

theorem pfc_pause (pri : Nat) :
    u.pfc p pri true =
      if bit x.pfcMask pri && !(x.ignoring.any (·.1 == pri)) && !(x.paused.any (·.1 == pri)) then
        (u.countPort p 7 1).modPort p fun z => { z with paused := z.paused ++ [(pri, u.clock.now)] }
      else u.countPort p 7 1 := by
  have hours : (!bit x.pfcMask pri || x.ignoring.any (·.1 == pri) || x.paused.any (·.1 == pri)) =
      !(bit x.pfcMask pri && !(x.ignoring.any (·.1 == pri)) && !(x.paused.any (·.1 == pri))) := by
    simp only [Bool.not_and, Bool.not_not]
  rw [State.pfc, hx]
  refine ((if_neg (by simp [hup])).trans (if_neg (by simp))).trans ?_
  dsimp only
  rw [hours, ite_bnot]
  rfl

theorem pfcStorm_own (pri : Nat) :
    u.pfcStorm p pri true =
      if x.xoff.any fun e => e.1 == pri && e.2 + 200000000 ≤ u.clock.now then
        (u.modPort p fun z => { z with xoff := mapIf (·.1 == pri) (fun _ => (pri, u.clock.now)) z.xoff }).raise (98 + 4 * p) [pri, 2]
      else u := by
  rw [State.pfcStorm, hx]
  exact (if_neg (by simp [hup])).trans (if_pos rfl)

theorem pfcStorm_partner {pri since : Nat} (hin : (pri, since) ∈ x.paused) (hdue : since + 200000000 ≤ u.clock.now) :
    u.pfcStorm p pri false =
      (u.modPort p fun z => { z with
        paused := z.paused.filter (·.1 != pri), ignoring := z.ignoring ++ [(pri, u.clock.now)] }).raise (98 + 4 * p) [pri, 1] := by
  have hdue' : since + 200 * ms ≤ u.clock.now := hdue
  rw [State.pfcStorm, hx]
  refine ((if_neg (by simp [hup])).trans (if_neg (by simp))).trans (if_pos ?_)
  exact List.any_eq_true.mpr ⟨_, hin, by simp [hdue']⟩

theorem linkLost_up : u.linkLost p = u.setLink p .training := by
  rw [State.linkLost, hx]
  exact if_pos (by simp [hup])

section
variable {lane : Nat} (hlow : p ≤ lane) (hhigh : lane < p + groupSize x.laneMode) (codewords corrected received bad : Nat)
include hlow hhigh

/-- A window of a lane that is not degraded. -/
theorem fecWindow_clean (hnone : ∀ n, (lane, n) ∉ x.fecLanes) :
    let w := ((u.countPort p 4 codewords).countPort p 5 corrected).countPort p 6 bad
    u.fecWindow p lane codewords corrected received bad =
      if bad ≠ 0 ∨ received < corrected * 10000 then
        (w.modPort p fun z => { z with fecLanes := z.fecLanes ++ [(lane, 0)] }).raise (97 + 4 * p) [lane, corrected, 1]
      else w := by
  have hfind : x.fecLanes.find? (·.1 == lane) = none := List.find?_eq_none.mpr fun e he h => by
    obtain rfl : e.1 = lane := by simpa using h
    exact hnone e.2 he
  rw [State.fecWindow, hx]
  dsimp only
  rw [if_neg (by simp [hup]; omega), hfind]
  simp

/-- A window of the one degraded lane. -/
theorem fecWindow_degraded {n : Nat} (hone : x.fecLanes = [(lane, n)]) :
    let w := ((u.countPort p 4 codewords).countPort p 5 corrected).countPort p 6 bad
    u.fecWindow p lane codewords corrected received bad =
      if bad ≠ 0 ∨ received < corrected * 10000 then w.modPort p fun z => { z with fecLanes := [(lane, 0)] }
      else if 9 ≤ n then (w.modPort p fun z => { z with fecLanes := [] }).raise (97 + 4 * p) [lane, corrected, 0]
      else w.modPort p fun z => { z with fecLanes := [(lane, n + 1)] } := by
  have hcount (v : State) (y : Port) (i m : Nat) (hy : v.port? p = some y) :
      (v.countPort p i m).port? p = some { y with counters := y.counters.modify i fun v => satAdd 64 v m } := port?_modPort hy _
  intro w
  have hw := hcount _ _ 6 bad (hcount _ _ 5 corrected (hcount _ _ 4 codewords hx))
  have hlanes (g : List (Nat × Nat) → List (Nat × Nat)) {l : List (Nat × Nat)} (hg : g x.fecLanes = l) :
      w.modPort p (fun z => { z with fecLanes := g z.fecLanes }) = w.modPort p fun z => { z with fecLanes := l } :=
    modPort_congr hw (by simp only [hg])
  have hfind : x.fecLanes.find? (·.1 == lane) = some (lane, n) := by simp [hone]
  rw [State.fecWindow, hx]
  dsimp only
  rw [if_neg (by simp [hup]; omega), hfind]
  dsimp only
  rw [hlanes (mapIf (·.1 == lane) fun _ => (lane, 0)) (l := [(lane, 0)]) (by simp [hone, mapIf]),
    hlanes (mapIf (·.1 == lane) fun _ => (lane, n + 1)) (l := [(lane, n + 1)]) (by simp [hone, mapIf]),
    hlanes (List.filter (·.1 != lane)) (l := []) (by simp [hone])]
  simp [w]

end
end

/-! ### The statement -/

theorem portsTransmit {v : State} {p : Nat} {y : Port} (hy : v.port? p = some y) :
    (y.link ≠ .up ∨ v.nextOut p y = none → v.transmit p = v) ∧ (v.outQueue p = [] → v.nextOut p y = none) ∧
    ∀ i, v.nextOut p y = some i →
      let o := v.outAt i
      let c := v.outClass o
      let n := o.size + Config.freeNat "frame headers" i
      (y.link = .up → v.transmit p = ((({ v with egress.left := v.egress.left ++ [i] } : State).countPort p 1 (v.outFrames o)).countPort p 3 n).modPort p
        fun z => { z with served := z.served.modify c fun b => b + n }) ∧
      i ∈ v.outQueue p ∧
      (o.isPause = false → y.pauses c = false ∧ ∀ j ∈ v.outQueue p, (v.outAt j).isPause = false) ∧
      (o.isPause = false → o.isReply = false → ∀ j ∈ v.outQueue p,
        let k := v.outClass (v.outAt j)
        y.pauses k = false → (v.outAt j).isReply = false ∧ (y.weight k = 0 → y.weight c = 0 ∧ k ≤ c) ∧ (k = c → i ≤ j)) := by
  refine ⟨transmit_idle hy, nextOut_empty, fun i hi => ?_⟩
  obtain ⟨hqueue, hcase⟩ := State.nextOut_cases hi
  refine ⟨fun hup => transmit_eq hy hup hi, hqueue, fun hpause => ?_, fun hpause hreply j hj hfree => nextOut_first hi hpause hreply hj hfree⟩
  rcases hcase with h | ⟨hquiet, hfree⟩
  · rw [hpause] at h
    cases h
  · exact ⟨hfree, hquiet⟩

theorem portsBuffer {v : State} {p : Nat} {y : Port} (hy : (v.drainPort p).port? p = some y) (pri len : Nat) :
    let w := v.drainPort p
    let most := min 262144 (1310720 / ((List.range 8).filter (bit y.pfcMask)).length - 65536) * groupSize y.laneMode
    let n := y.held pri + len
    let kept := w.modPort p fun z => { z with lossless := (z.lossless.filter fun e => e.1 != pri) ++ [(pri, n)] }
    let told := (y.xoff.any (·.1 == pri)) = true
    (bit y.pfcMask pri = true →
      (n ≤ most ∨ (n ≤ most + 65536 * groupSize y.laneMode ∧ told) → v.buffer p pri len false = (kept, true)) ∧
      (most < n → n ≤ most + 65536 * groupSize y.laneMode → ¬ told → v.buffer p pri len false =
        (((kept.modPort p fun z => { z with xoff := z.xoff ++ [(pri, v.clock.now)] }).countPort p 8 1).emit (.pfc p pri true), true)) ∧
      (most + 65536 * groupSize y.laneMode < n → v.buffer p pri len false = (w.countPort p 9 1, false))) ∧
    (∀ m, bit y.pfcMask pri = false ∨ m = true →
      (w.sharedUsed p + len ≤ 1048576 → v.buffer p pri len m = (w.modPort p fun z => { z with shared := z.shared + len }, true)) ∧
      (1048576 < w.sharedUsed p + len → v.buffer p pri len m = (w.countPort p 9 1, false))) := by
  intro w most n kept told
  have hlossless (hbit : bit y.pfcMask pri = true) : v.buffer p pri len false =
      if n ≤ most + 65536 * groupSize y.laneMode then (w.holdFrame p pri len, true) else (w.countPort p 9 1, false) := buffer_lossless hy hbit
  have hhold : w.holdFrame p pri len = if n ≤ most ∨ told then kept
      else ((kept.modPort p fun z => { z with xoff := z.xoff ++ [(pri, v.clock.now)] }).countPort p 8 1).emit (.pfc p pri true) := holdFrame_eq hy
  refine ⟨fun hbit => ⟨fun hroom => ?_, fun hover hin hfirst => ?_, fun hover => (hlossless hbit).trans (if_neg (Nat.not_le.mpr hover))⟩,
    fun m hm => ⟨fun hroom => (buffer_shared hy hm).trans (if_pos hroom), fun hfull => (buffer_shared hy hm).trans (if_neg (Nat.not_le.mpr hfull))⟩⟩
  · rw [hlossless hbit, if_pos (hroom.elim (fun h => Nat.le_add_right_of_le h) And.left), hhold, if_pos (hroom.imp_right And.right)]
  · rw [hlossless hbit, if_pos hin, hhold, if_neg (not_or.mpr ⟨Nat.not_le.mpr hover, hfirst⟩)]

/-- Settles O19: each command through the rule of its port. -/
theorem portsAndFrames : Obligations.PortsAndFrames := by
  unfold Obligations.PortsAndFrames
  rintro s u t p x rfl hx
  refine ⟨fun hlink hstuck hmode => ⟨fun hbound => ?_, fun hbound hrenew => ?_⟩, fun hlink hbar => ?_, fun v y hy => portsTransmit hy,
    fun v y pri len hy => portsBuffer hy pri len, fun v y e hy he => sendXon_leaves hy he, fun hup => ⟨?dropped, ?kept, fun f hsome hsince => ?mgmt, fun pri => ?pause,
    congrArg Host.Outcome.next (linkLost_up hx hup), congrArg Host.Outcome.next (linkTrained_stays hx (.inl (by simp [hup]))),
    fun lane codewords corrected received bad hlow hhigh => ?fec⟩⟩
  · exact congrArg Host.Outcome.next ((linkTrained_up hx hlink hstuck hmode).trans (if_pos (by simpa using hbound)))
  · exact congrArg Host.Outcome.next ((linkTrained_up hx hlink hstuck hmode).trans (if_neg (by simp [hbound, hrenew])))
  · exact congrArg Host.Outcome.next (linkTrained_stays hx (.inr hbar))
  case dropped =>
    rintro len f marked v b rfl hb
    exact congrArg Host.Outcome.next (ingress_dropped hx hup hb)
  case kept =>
    rintro len f marked v b w hv hb rfl
    subst hv
    have hframe := kept_frame (i := 16 + (s.advance t).verdict p x len f) hb
    have hvlan := hframe.vlanOk x f
    have hrow : exec (.ingressFrame t p len f marked) s = .next _ := congrArg Host.Outcome.next (ingress_kept hx hup hb)
    have hgives {z : State} (h : (b.countPort p (16 + (s.advance t).verdict p x len f) 1).kept p x ((s.advance t).verdict p x len f) f marked = z) :
        Gives (exec (.ingressFrame t p len f marked) s) z := hrow.trans (congrArg Host.Outcome.next h)
    refine ⟨fun h => hgives (kept_refused h), fun hf h => hgives (kept_dropped hf (by rwa [hvlan])),
      fun hf hv hok hpath h => hgives (kept_counted hf hv (by rwa [hvlan]) hpath h),
      fun hf hv hok h => hgives (kept_accepted hf hv (by rw [hvlan]; exact hok.1) hok.2 h), fun c k hf hv hok hc hk hready hport => ?_,
      fun i hi hop => verdict_returns hi hop len f⟩
    subst hc
    have hmarked := kept_marked (marked := some c) hf (by rw [hv]; decide) (by rw [hvlan]; exact hok.1) hv hok.2
    rw [congested_eq hk hready hport, hframe.clock] at hmarked
    refine ⟨fun hnone => hgives (hmarked.trans (if_pos ?_)), fun l hl hsoon => hgives (hmarked.trans (if_neg ?_))⟩
    · rw [hnone]; rfl
    · rw [hl]
      exact fun h => absurd (of_decide_eq_true h) (Nat.not_le.mpr hsoon)
  case mgmt =>
    refine ⟨fun hmany => ?_, fun hfew htag htype hask haddr hown => ?_⟩
    · exact congrArg Host.Outcome.next ((mgmtFrame_eq hx hup hsome hsince f).trans (if_pos hmany))
    · have hmanage := manage_arp (p := p) (w := (s.advance t).modPort p fun z => { z with mgmt := (x.mgmt.1 + 1, x.mgmt.2) })
        htag htype hask haddr hown
      exact congrArg Host.Outcome.next ((mgmtFrame_eq hx hup hsome hsince f).trans ((if_neg (Nat.not_le.mpr hfew)).trans hmanage))
  case pause =>
    have hpause := pfc_pause hx hup pri
    have hown := pfcStorm_own hx hup pri
    refine ⟨congrArg Host.Outcome.next (pfc_resume hx hup pri), fun hours => congrArg Host.Outcome.next (hpause.trans (if_pos hours)),
      fun hours => congrArg Host.Outcome.next (hpause.trans (if_neg hours)), fun since hin hdue => ?_, fun hearly => ?_,
      fun since hin hdue => congrArg Host.Outcome.next (pfcStorm_partner hx hup hin hdue), rfl⟩
    · refine congrArg Host.Outcome.next (hown.trans (if_pos (List.any_eq_true.mpr ⟨_, hin, ?_⟩)))
      simp [hdue]
    · refine congrArg Host.Outcome.next (hown.trans (if_neg fun hany => ?_))
      obtain ⟨⟨pri', since⟩, hin, hdue⟩ := List.any_eq_true.mp hany
      simp only [Bool.and_eq_true, beq_iff_eq, decide_eq_true_eq] at hdue
      obtain ⟨rfl, hdue⟩ := hdue
      exact absurd hdue (Nat.not_le.mpr (hearly since hin))
  case fec =>
    refine ⟨fun hpoor hnone => ?_, fun hfine hnone => ?_, fun n hone => ⟨fun hpoor => ?_, fun hfine hn => ?_, fun hfine hn => ?_⟩⟩
    · exact congrArg Host.Outcome.next ((fecWindow_clean hx hup hlow hhigh codewords corrected received bad hnone).trans (if_pos hpoor))
    · exact congrArg Host.Outcome.next ((fecWindow_clean hx hup hlow hhigh codewords corrected received bad hnone).trans (if_neg hfine))
    · exact congrArg Host.Outcome.next ((fecWindow_degraded hx hup hlow hhigh codewords corrected received bad hone).trans (if_pos hpoor))
    · exact congrArg Host.Outcome.next ((fecWindow_degraded hx hup hlow hhigh codewords corrected received bad hone).trans
        ((if_neg hfine).trans (if_neg (Nat.not_le.mpr hn))))
    · exact congrArg Host.Outcome.next ((fecWindow_degraded hx hup hlow hhigh codewords corrected received bad hone).trans
        ((if_neg hfine).trans (if_pos hn)))

end Sys2Proof.Machine
end

/-! Train time and its master (13 R401, R402; 14 R428, R429; 15 R459; 19 R554, R555). -/
section
namespace Sys2Proof.Machine

/-! ### Time states -/

theorem EventFrame.of_eq {u x y : State} (h : x = y) (hy : EventFrame u y) : EventFrame u x := h ▸ hy

/-- Events raised leave the clock alone, so a clock set before them may be set after. -/
theorem EventFrame.withClock {u x : State} (h : EventFrame u x) (c : Clock) : EventFrame { u with clock := c } { x with clock := c } := by
  rw [show x = _ from h]
  rfl

/-- The clock as a new time state leaves it: the consecutive counts start again. -/
def Clock.into (c : Clock) (x : TimeState) : Clock := { c with timeState := x, syncsAhead := 0, syncsBehind := 0, syncsWithin := 0 }

theorem setTime_events (u : State) (x : TimeState) : EventFrame { u with clock := u.clock.into x } (u.setTime x) := by
  unfold State.setTime
  dsimp only
  split
  · exact .refl _
  · exact raise_events _ _ _

theorem lockTime_events (u : State) : EventFrame { u with clock := ({ u.clock with reduced := false } : Clock).into .locked } u.lockTime :=
  setTime_events _ _

theorem stepTime_events {u : State} {m : Nat} (h : u.clock.train ≤ m) :
    EventFrame { u with clock := ({ u.clock with train := m, frac := 0, reduced := false } : Clock).into .locked } (u.stepTime m) := by
  have hm : u.clock.train + (m - u.clock.train) = m := Nat.add_sub_cancel' h
  unfold State.stepTime
  dsimp only
  rw [hm]
  have hr := (ensureMark_events { u with clock := { u.clock with train := m, frac := 0 } }).trans (raise_events _ 218 [m - u.clock.train])
  refine EventFrame.trans ?_ (lockTime_events _)
  rw [hr.clock]
  exact hr.withClock _

theorem aheadTime_events (u : State) (m : Nat) : EventFrame { u with clock := u.clock.into .ahead } (u.aheadTime m) := by
  have hr := raise_events u 219 [u.clock.train - m]
  refine EventFrame.trans ?_ (setTime_events _ _)
  rw [hr.clock]
  exact hr.withClock _

theorem caughtUp_of_ahead {u : State} (h : u.clock.timeState = .ahead) :
    (u.caughtUp.clock.timeState = .ahead ∨ u.caughtUp.clock.timeState = .locked) ∧
      (u.caughtUp.clock.timeState = .ahead → u.caughtUp = u ∧ u.clock.reached = false) := by
  unfold State.caughtUp
  cases hr : u.clock.reached with
  | false => simp [h]
  | true =>
    have hc := (lockTime_events u).clock
    simp [h, hc, Clock.into]

/-! ### Counting Syncs (R428) -/

theorem countSync_timeState (c : Clock) (m : Nat) : (c.countSync m).timeState = c.timeState := by
  unfold Clock.countSync
  dsimp only
  repeat' split
  all_goals rfl

theorem countSync_train (c : Clock) (m : Nat) : (c.countSync m).train = c.train := by
  unfold Clock.countSync
  dsimp only
  repeat' split
  all_goals rfl

theorem countSync_counts (c : Clock) (m : Nat) :
    let n := c.countSync m
    let far := c.syncsAhead + c.syncsBehind
    (c.train + 1000 < m →
      (n.syncsAhead, n.syncsBehind, n.syncsWithin) = ((if c.timeState = .locked then far else c.syncsAhead) + 1, 0, 0)) ∧
    (m + 1000 < c.train →
      (n.syncsAhead, n.syncsBehind, n.syncsWithin) = (0, (if c.timeState = .locked then far else c.syncsBehind) + 1, 0)) ∧
    (c.train ≤ m + 1000 → m ≤ c.train + 1000 → (n.syncsAhead, n.syncsBehind, n.syncsWithin) = (0, 0, c.syncsWithin + 1)) := by
  have hb : syncBound = 1000 := rfl
  intro n far
  refine ⟨fun h => ?_, fun h => ?_, fun h₁ h₂ => ?_⟩
  · have hn : n = _ := if_pos (by rw [hb]; exact h)
    by_cases hl : c.timeState = .locked <;> simp [hn, hl, far]
  · have hn : n = _ := (if_neg (by rw [hb]; omega)).trans (if_pos (by rw [hb]; exact h))
    by_cases hl : c.timeState = .locked <;> simp [hn, hl, far] <;> omega
  · have hn : n = _ := (if_neg (by rw [hb]; omega)).trans (if_neg (by rw [hb]; omega))
    simp [hn]

/-- A Sync counts as ahead only when the master's time is beyond Train time. -/
theorem countSync_ahead {c : Clock} {m : Nat} (h : 4 ≤ (c.countSync m).syncsAhead) : c.train ≤ m ∧ (c.countSync m).syncsBehind = 0 := by
  obtain ⟨hahead, hbehind, hwithin⟩ := countSync_counts c m
  by_cases h₁ : c.train + 1000 < m
  · have := hahead h₁
    simp only [Prod.mk.injEq] at this
    omega
  · by_cases h₂ : m + 1000 < c.train
    · have := hbehind h₂
      simp only [Prod.mk.injEq] at this
      omega
    · have := hwithin (by omega) (by omega)
      simp only [Prod.mk.injEq] at this
      omega

/-! ### A Sync (R428) -/

/-- The clock that has taken a Sync. -/
def Clock.took (c : Clock) (id m : Nat) : Clock := { c.countSync m with lastSync := some (c.now, m), lastMaster := id }

/-- A Sync acts by the time state, on the clock that has taken it. -/
theorem syncAt_eq (u : State) (id m : Nat) {d : Clock} (hd : u.clock.took id m = d) :
    u.syncAt id m = match d.timeState with
      | .ahead => if d.train ≤ m then State.lockTime { u with clock := d } else { u with clock := d }
      | .locked =>
        if 4 ≤ d.syncsAhead then State.stepTime { u with clock := d } m
        else if 4 ≤ d.syncsBehind then State.aheadTime { u with clock := d } m else { u with clock := d }
      | .unsynced | .holdover =>
        if 4 ≤ d.syncsAhead then State.stepTime { u with clock := d } m
        else if 4 ≤ d.syncsBehind then State.aheadTime { u with clock := d } m
        else if 16 ≤ d.syncsWithin then State.lockTime { u with clock := d }
        else { u with clock := d } := by
  subst hd
  rfl

/-- The table of R428, with what each row leaves. -/
theorem syncAt_table (u : State) (id m : Nat) :
    let c := u.clock.countSync m
    let d := u.clock.took id m
    let v := u.syncAt id m
    (u.clock.timeState = .ahead → m < u.clock.train → v = { u with clock := d }) ∧
    (u.clock.timeState = .ahead → u.clock.train ≤ m → EventFrame { u with clock := ({ d with reduced := false } : Clock).into .locked } v) ∧
    (u.clock.timeState ≠ .ahead → 4 ≤ c.syncsAhead →
      EventFrame { u with clock := ({ d with train := m, frac := 0, reduced := false } : Clock).into .locked } v) ∧
    (u.clock.timeState ≠ .ahead → 4 ≤ c.syncsBehind → EventFrame { u with clock := d.into .ahead } v) ∧
    (u.clock.timeState = .locked → c.syncsAhead < 4 → c.syncsBehind < 4 → v = { u with clock := d }) ∧
    (u.clock.timeState = .unsynced ∨ u.clock.timeState = .holdover → c.syncsAhead < 4 → c.syncsBehind < 4 →
      if 16 ≤ c.syncsWithin then EventFrame { u with clock := ({ d with reduced := false } : Clock).into .locked } v
      else v = { u with clock := d }) := by
  intro c d v
  have hts : d.timeState = u.clock.timeState := countSync_timeState _ _
  have htr : d.train = u.clock.train := countSync_train _ _
  have hv : v = _ := syncAt_eq u id m (d := d) rfl
  have hca : d.syncsAhead = c.syncsAhead := rfl
  have hcb : d.syncsBehind = c.syncsBehind := rfl
  have hcw : d.syncsWithin = c.syncsWithin := rfl
  rw [hts, htr, hca, hcb, hcw] at hv
  refine ⟨fun ht hm => ?_, fun ht hm => ?_, fun ht ha => ?_, fun ht hb => ?_, fun ht ha hb => ?_, fun ht ha hb => ?_⟩
  · rw [ht] at hv
    exact hv.trans (if_neg (by omega))
  · rw [ht] at hv
    rw [hv]
    dsimp only
    rw [if_pos hm]
    exact lockTime_events { u with clock := d }
  · have hstep : v = ({ u with clock := d } : State).stepTime m := by
      cases hs : u.clock.timeState with
      | ahead => exact absurd hs ht
      | unsynced | holdover | locked =>
        rw [hs] at hv
        exact hv.trans <| if_pos ha
    rw [hstep]
    exact stepTime_events (u := { u with clock := d }) (by rw [htr]; exact (countSync_ahead ha).1)
  · have hn : ¬ 4 ≤ c.syncsAhead := fun ha => by
      have hzero : c.syncsBehind = 0 := (countSync_ahead ha).2
      omega
    have hlead : v = ({ u with clock := d } : State).aheadTime m := by
      cases hs : u.clock.timeState with
      | ahead => exact absurd hs ht
      | unsynced | holdover | locked =>
        rw [hs] at hv
        exact hv.trans <| (if_neg hn).trans (if_pos hb)
    rw [hlead]
    exact aheadTime_events { u with clock := d } m
  · rw [ht] at hv
    exact hv.trans ((if_neg (by omega)).trans (if_neg (by omega)))
  · have hw : v = if 16 ≤ c.syncsWithin then ({ u with clock := d } : State).lockTime else { u with clock := d } := by
      obtain ht | ht := ht <;> rw [ht] at hv <;> exact hv.trans ((if_neg (by omega)).trans (if_neg (by omega)))
    rw [hw]
    split
    · exact lockTime_events { u with clock := d }
    · rfl

/-! ### Train time passes (R428, R429) -/

theorem pass_train {c : Clock} (dt : Nat) (hr : c.running = true) :
    let ns := (c.pass dt).train * 1000 + (c.pass dt).frac
    (c.timeState ≠ .ahead → c.reduced = false → ns = c.train * 1000 + c.frac + dt * 1000) ∧
    (c.timeState = .ahead ∨ c.reduced = true → ∀ last lm, c.lastSync = some (last, lm) →
      let lead := c.train * 1000 + c.frac - (lm + (c.now - last)) * 1000
      ns = c.train * 1000 + c.frac + dt * 999 + (dt - lead)) := by
  intro ns
  have hns : ns = c.train * 1000 + (c.frac + dt * 1000 - c.slowNs dt) := by
    simp only [ns, Clock.pass, hr, if_true]
    omega
  clear_value ns
  refine ⟨fun ha hd => ?_, fun hslow last lm hl => ?_⟩
  · have hfull : c.slowNs dt = 0 := by simp [Clock.slowNs, ha, hd]
    rw [hns, hfull, Nat.sub_zero, Nat.add_assoc]
  · have hlead : c.slowNs dt = min dt (c.train * 1000 + c.frac - (lm + (c.now - last)) * 1000) := by
      obtain h | h := hslow <;> simp [Clock.slowNs, h, hl]
    intro lead
    have hlead : c.slowNs dt = min dt lead := hlead
    rw [hns, hlead]
    clear_value lead
    clear hns hlead
    omega

theorem advance_of_running {s : State} (t : Nat) (hr : s.clock.running = true) :
    ∃ v : State, s.advance t = v.caughtUp ∧ v.clock.timeState = s.clock.timeState := by
  have hpass : (s.clock.pass (t - s.clock.now)).running = true ∧
      (s.clock.pass (t - s.clock.now)).timeState = s.clock.timeState := by
    unfold Clock.pass
    rw [if_pos hr]
    exact ⟨hr, rfl⟩
  refine ⟨_, if_pos hpass.1, ?_⟩
  rw [(ensureMark_events _).clock]
  exact hpass.2

/-- AHEAD lasts until the master's time has reached Train time. -/
theorem advance_of_ahead {s : State} (t : Nat) (hr : s.clock.running = true) (ha : s.clock.timeState = .ahead) :
    let u := s.advance t
    (u.clock.timeState = .ahead ∨ u.clock.timeState = .locked) ∧
      (u.clock.timeState = .ahead → ∀ last lm, u.clock.lastSync = some (last, lm) → lm + (u.clock.now - last) < u.clock.train) := by
  obtain ⟨v, hv, hts⟩ := advance_of_running t hr
  intro u
  have hu : u = v.caughtUp := hv
  obtain ⟨hkind, hstay⟩ := caughtUp_of_ahead (hts.trans ha)
  refine ⟨hu ▸ hkind, fun h last lm hl => ?_⟩
  obtain ⟨hsame, hnot⟩ := hstay (hu ▸ h)
  rw [hu, hsame] at hl ⊢
  simpa [Clock.reached, hl] using hnot

/-! ### PTP and PPS (R401, R402, R459, R554, R555) -/

theorem stamped_free {u : State} {p type : Nat} {x : Port} (hp : u.port? p = some x) (hx : x.stamps < 64) : u.stamped p type = (u, true) := by
  unfold State.stamped
  rw [hp]
  exact if_pos hx

theorem stamped_full {u : State} {p type : Nat} {x : Port} (hp : u.port? p = some x) (hx : 64 ≤ x.stamps) :
    u.stamped p type = ((u.countPort p 25 1).raise (99 + 4 * p) [type], false) := by
  unfold State.stamped
  rw [hp]
  exact if_neg (Nat.not_lt.mpr hx)

theorem setMaster_same {u : State} {p id : Nat} (h : u.clock.master = some id) :
    u.setMaster p id = { u with clock.master := some id, clock.ptpPort := some p } := by
  unfold State.setMaster
  exact if_pos (by simp [h])

theorem setMaster_other {u : State} {p id : Nat} (h : u.clock.master ≠ some id) :
    u.setMaster p id = State.raise { u with clock.master := some id, clock.ptpPort := some p } 217 [id % 2 ^ 32] := by
  unfold State.setMaster
  exact if_neg (by simpa using h)

theorem setMaster_kept {u : State} {p id : Nat} (hm : u.clock.master = some id) (hp : u.clock.ptpPort = some p) : u.setMaster p id = u := by
  rw [setMaster_same hm, ← hm, ← hp]

theorem ptpSync_unaccepted {u : State} {p id time : Nat} {member : Option Nat} (h : u.ptpRuns p = false ∨ u.fromMaster p id member = false) :
    u.ptpSync p id time member = u := by
  unfold State.ptpSync
  exact if_pos (by obtain h | h := h <;> simp [h])

theorem ptpSync_full {u : State} {p id time : Nat} {member : Option Nat} {x : Port} (hp : u.port? p = some x) (hx : 64 ≤ x.stamps)
    (hr : u.ptpRuns p = true) (hm : u.fromMaster p id member = true) :
    u.ptpSync p id time member = (u.countPort p 25 1).raise (99 + 4 * p) [0] := by
  unfold State.ptpSync
  rw [stamped_full hp hx]
  exact if_neg (by simp [hr, hm])

theorem ptpSync_taken {u : State} {p id time : Nat} {member : Option Nat} {x : Port} (hp : u.port? p = some x) (hx : x.stamps < 64)
    (hr : u.ptpRuns p = true) (hm : u.fromMaster p id member = true) (hid : u.clock.master = some id) (hport : u.clock.ptpPort = some p) :
    u.ptpSync p id time member = (u.syncAt id (time + u.clock.linkDelay)).sendDelayReq p member := by
  unfold State.ptpSync
  rw [stamped_free hp hx]
  refine (if_neg (by simp [hr, hm])).trans ?_
  dsimp only
  rw [setMaster_kept hid hport]

theorem ptpDelayReq_answers {u : State} {p who i : Nat} {x : Port} {y : Peer} (hp : u.port? p = some x) (hr : u.ptpRuns p = true)
    (hg : u.isGm = true) (hy : u.peer? i = some y) (hk : y.keyed = true) :
    (x.stamps < 64 → u.ptpDelayReq p who (some i) = (u.sendPeer i 0x30 0 (std .ptp 9 [toLe 8 u.clock.train, toLe 8 who] 54)).1) ∧
      (64 ≤ x.stamps → u.ptpDelayReq p who (some i) = (u.countPort p 25 1).raise (99 + 4 * p) [1]) := by
  have hserves : ¬ (!u.isGm || !u.ptpRuns p || !(match u.peer? i with | some x => x.keyed | none => false)) = true := by
    simp [hg, hr, hy, hk]
  refine ⟨fun hx => ?_, fun hx => ?_⟩ <;> unfold State.ptpDelayReq
  · rw [stamped_free hp hx]
    exact if_neg hserves
  · rw [stamped_full hp hx]
    exact if_neg hserves

theorem ptpAnnounce_cases {u : State} {p id rank : Nat} (hr : u.ptpRuns p = true) (hg : u.gmIndex = 0xFFFF) :
    let better := u.clock.masterRank = none ∨ (∃ r, u.clock.masterRank = some r ∧ rank < r)
    let w : State := { u with clock.masterRank := some rank, clock.master := some id, clock.ptpPort := some p }
    (u.clock.master = some id → u.ptpAnnounce p id rank = w) ∧
    (better → u.clock.master ≠ some id → u.ptpAnnounce p id rank = w.raise 217 [id % 2 ^ 32]) ∧
    (¬ better → u.clock.master ≠ some id → u.ptpAnnounce p id rank = u) := by
  intro better w
  have hb : (match u.clock.masterRank with | some r => decide (rank < r) | none => true) = true ↔ better := by
    cases hrank : u.clock.masterRank <;> simp [better, hrank]
  have hruns : ¬ (!u.ptpRuns p || u.gmIndex != 0xFFFF) = true := by simp [hr, hg]
  refine ⟨fun hm => ?_, fun hbet hm => ?_, fun hbet hm => ?_⟩ <;> unfold State.ptpAnnounce <;> refine (if_neg hruns).trans ?_
  · exact (if_pos (by simp [hm])).trans (setMaster_same (u := { u with clock.masterRank := some rank }) hm)
  · exact (if_pos (by rw [Bool.or_eq_true]; exact .inl (hb.mpr hbet))).trans
      (setMaster_other (u := { u with clock.masterRank := some rank }) hm)
  · refine if_neg ?_
    rw [Bool.or_eq_true]
    rintro (h | h)
    · exact hbet (hb.mp h)
    · exact hm (by simpa using h)

theorem syncTimeout_cases {u : State} {last m : Nat} (hl : u.clock.lastSync = some (last, m)) :
    (u.clock.now < last + 3000000000 → u.syncTimeout = u) ∧
    (last + 3000000000 ≤ u.clock.now → u.clock.timeState = .locked ∨ u.clock.timeState = .ahead →
      EventFrame { u with clock := { u.clock with
        masterRank := none, timeState := .holdover, reduced := u.clock.reduced || u.clock.timeState == .ahead
        syncsAhead := 0, syncsBehind := 0, syncsWithin := 0 } } u.syncTimeout) := by
  refine ⟨fun h => ?_, fun h ht => ?_⟩ <;> unfold State.syncTimeout <;> rw [hl]
  · exact if_pos h
  · have hlate : ¬ u.clock.now < last + 3000 * ms := Nat.not_lt.mpr h
    refine EventFrame.of_eq (if_neg hlate) ?_
    obtain ht | ht := ht <;> rw [ht]
    · rw [show (u.clock.reduced || TimeState.locked == .ahead) = u.clock.reduced from Bool.or_false _]
      exact setTime_events { u with clock.masterRank := none } .holdover
    · rw [show (u.clock.reduced || TimeState.ahead == .ahead) = true from Bool.or_true _]
      exact setTime_events { u with clock.masterRank := none, clock.reduced := true } .holdover

theorem reducedEnd_of_holdover {u : State} {last m : Nat} (hl : u.clock.lastSync = some (last, m)) (ht : u.clock.timeState = .holdover)
    (hr : u.clock.reduced = true) :
    u.reducedEnd = if u.clock.train ≤ m + (u.clock.now - last) then { u with clock.reduced := false } else u := by
  unfold State.reducedEnd
  simp [ht, hr, Clock.reached, hl]

theorem ppsOut_eq (u : State) :
    u.ppsOut = let r := u.clock.train % 1000000000
      if u.clock.running = true ∧ (r ≤ 5 ∨ 999999995 ≤ r) then { u with sent := u.sent ++ [.pps] } else u := by
  have hnear : (u.clock.running && (u.clock.train % second ≤ 5 || second ≤ u.clock.train % second + 5)) = true ↔
      u.clock.running = true ∧ (u.clock.train % 1000000000 ≤ 5 ∨ 999999995 ≤ u.clock.train % 1000000000) := by
    have hs : second = 1000000000 := rfl
    have hend : 1000000000 ≤ u.clock.train % 1000000000 + 5 ↔ 999999995 ≤ u.clock.train % 1000000000 := by
      generalize u.clock.train % 1000000000 = r
      omega
    simp only [Bool.and_eq_true, Bool.or_eq_true, decide_eq_true_eq, hend, hs]
  unfold State.ppsOut
  dsimp only
  simp only [hnear]
  rfl

/-- Settles O20: each row of the table of R428, and what surrounds it, on the clock that has taken the Sync. -/
theorem trainTime : Obligations.TrainTime := by
  unfold Obligations.TrainTime
  intro s u t hu
  subst hu
  intro sync
  have hsync : ∀ (f : State → State) (id m : Nat), sync (.next (f ((s.advance t).syncAt id m))) f id m := by
    intro f id m
    obtain ⟨hkeep, hlock, hstep, hlead, hlocked, hother⟩ := syncAt_table (s.advance t) id m
    refine ⟨fun h h' => congrArg (fun v => Host.Outcome.next (f v)) (hkeep h h'), fun h h' => ⟨_, rfl, _, rfl, hlock h h'⟩,
      fun h h' => ⟨_, rfl, _, rfl, hstep h h'⟩, fun h h' => ⟨_, rfl, _, rfl, hlead h h'⟩,
      fun h h' h'' => congrArg (fun v => Host.Outcome.next (f v)) (hlocked h h' h''), fun h h' h'' => ?_⟩
    have ho := hother h h' h''
    split at ho
    · rw [if_pos ‹_›]
      exact ⟨_, rfl, _, rfl, ho⟩
    · rw [if_neg ‹_›]
      exact congrArg (fun v => Host.Outcome.next (f v)) ho
  refine ⟨fun p x id time member hp hr hm => ⟨fun hx hid hport => ?_, fun hx => congrArg _ (ptpSync_full hp hx hr hm)⟩,
    fun p id time delay member h => ⟨congrArg _ (ptpSync_unaccepted h), ?_⟩, fun p id delay member hr hm => ?_,
    fun p x y who i hp hr hg hy hk => ?_, fun p id rank hr hg => ?_, fun last m hl => ⟨?_, ?_, fun ht hr => ?_⟩, fun hg hr => ?_,
    fun h => ?_, congrArg _ (ppsOut_eq _), fun hr ha => advance_of_ahead t hr ha, fun c dt hr => pass_train dt hr, countSync_counts⟩
  · have he : exec (.ptpSync t p id time member) s =
        .next (((s.advance t).syncAt id (time + (s.advance t).clock.linkDelay)).sendDelayReq p member) :=
      congrArg _ (ptpSync_taken hp hx hr hm hid hport)
    rw [he]
    exact hsync (fun x => x.sendDelayReq p member) id _
  · refine congrArg Host.Outcome.next (if_neg ?_)
    obtain h | h := h <;> simp [h]
  · exact congrArg Host.Outcome.next (if_pos (by simp [hr, hm]))
  · obtain ⟨hfree, hfull⟩ := ptpDelayReq_answers (who := who) hp hr hg hy hk
    exact ⟨fun hx => congrArg _ (hfree hx), fun hx => congrArg _ (hfull hx)⟩
  · obtain ⟨hsame, hbet, hworse⟩ := ptpAnnounce_cases (id := id) (rank := rank) hr hg
    exact ⟨fun h => congrArg _ (hsame h), fun h h' => congrArg _ (hbet h h'), fun h h' => congrArg _ (hworse h h')⟩
  · exact fun h => congrArg _ ((syncTimeout_cases hl).1 h)
  · exact fun h h' => ⟨_, rfl, (syncTimeout_cases hl).2 h h'⟩
  · exact congrArg _ (reducedEnd_of_holdover hl ht hr)
  · have he : exec (.ppsInEdge t) s =
        .next ((s.advance t).syncAt ownClock (nearestSecond (s.advance t).clock.train)).sendSyncs :=
      congrArg Host.Outcome.next (if_pos (by simp [hg, hr]))
    rw [he]
    exact hsync State.sendSyncs ownClock _
  · refine congrArg Host.Outcome.next (if_neg ?_)
    obtain h | h := h <;> simp [h]

end Sys2Proof.Machine
end

/-! The mark, CONS_INDEX and the Book's checkpoints (09 R298, R301; 14 R418, R421, R427). -/
section
namespace Sys2Proof.Machine

/-! ### Numbers in bytes -/

theorem length_toLe (n v : Nat) : (toLe n v).length = n := by
  induction n generalizing v with
  | zero => rfl
  | succ n ih => simp [toLe, ih]

theorem leNat_toLe (n v : Nat) : leNat (toLe n v) = v % 256 ^ n := by
  induction n generalizing v with
  | zero => simp [toLe, leNat, Nat.mod_one]
  | succ n ih =>
    have hmod : v % (256 * 256 ^ n) = v % 256 + 256 * (v / 256 % 256 ^ n) := Nat.mod_mul
    rw [toLe, leNat, ih, BitVec.toNat_ofNat, show 256 ^ (n + 1) = 256 * 256 ^ n from Nat.pow_succ', hmod]

/-- A number that fits reads back. -/
theorem le_toLe {n v : Nat} (h : v < 256 ^ n) : le (toLe n v) 0 n = v := by
  have hall : slice (toLe n v) 0 n = toLe n v := List.take_of_length_le (Nat.le_of_eq (length_toLe n v))
  rw [le, hall, leNat_toLe, Nat.mod_eq_of_lt h]

/-! ### The mark (R427) -/

theorem markTimer_of_running {u : State} (h : u.clock.running = true) :
    u.markTimer = { u with clock.markPending := some (u.clock.train + 20000000) } := if_pos h

theorem markDurable_of_pending {u : State} {m : Nat} (h : u.clock.markPending = some m) :
    u.markDurable = { u with journal.timeMark := max u.journal.timeMark m, clock.markPending := none } := by
  unfold State.markDurable
  rw [h]

/-! ### CONS_INDEX (R418, R421) -/

theorem spaced_iff (last : Option Nat) (d now : Nat) : spaced last d now = true ↔ last = none ∨ ∃ l, last = some l ∧ l + d ≤ now := by
  cases last <;> simp [spaced]

theorem polling_of_idle {u : State} {x : EventRing} {k : Connection} (hk : u.conn? x.conn = some k)
    (hr : ∀ r ∈ k.reads, r.2 ≠ .consIndex x.index) (hq : ∀ r ∈ k.readQueue, r.2.2.2.2 ≠ .consIndex x.index) : u.polling x = false := by
  unfold State.polling
  rw [hk]
  simp only [Bool.or_eq_false_iff, List.any_eq_false, beq_iff_eq]
  exact ⟨fun r h => hr r h, fun r h => hq r h⟩

/-- A ring no READ of whose CONS_INDEX is outstanding is read when places run short or the Book waits for credit. -/
theorem pollRing_idle {u : State} {i : Nat} {x : EventRing} (hx : u.ering? i = some x) (hd : x.dead = false) (hp : u.polling x = false) :
    u.pollRing i =
      if (x.room < x.size / 4 && spaced x.lastPoll 10000 u.clock.now) ||
          (u.book.exportRing == some i && !u.book.placed.isEmpty && spaced x.lastPoll ms u.clock.now) then
        (u.modEring i fun y => { y with lastPoll := some u.clock.now }).issueRead x.conn x.rkey (x.base + x.size * u.ringUnit i + 8) 4
          (.consIndex i)
      else u := by
  unfold State.pollRing
  rw [hx]
  dsimp only
  rw [hd, hp, Bool.false_or, Bool.false_or, ite_bnot]

theorem consRead_outstanding {u : State} {i id value : Nat} {x : EventRing} {k : Connection} (hx : u.ering? i = some x)
    (hk : u.conn? x.conn = some k) (hf : (k.reads.find? fun r => r.2 == .consIndex i) = some (id, .consIndex i))
    (huniq : ∀ r ∈ k.reads, r.1 = id → r = (id, .consIndex i)) (hv : value < 2 ^ 32) :
    u.consRead i value =
      ((u.modConn x.conn fun z => { z with reads := z.reads.filter (·.1 != id), retries := 0 }).consIndex i value).pumpReads 16 x.conn := by
  have hindex : k.index = x.conn := by simpa using List.find?_some hk
  have hread : k.reads.find? (·.1 == id) = some (id, .consIndex i) := by
    obtain ⟨r, hr⟩ : ∃ r, k.reads.find? (·.1 == id) = some r :=
      Option.isSome_iff_exists.mp (List.find?_isSome.mpr ⟨_, List.mem_of_find?_eq_some hf, by simp⟩)
    rw [hr, huniq r (List.mem_of_find?_eq_some hr) (by simpa using List.find?_some hr)]
  have hle : le (toLe 4 value) 0 4 = value := le_toLe (by simpa using hv)
  unfold State.consRead
  rw [hx]
  dsimp only [Option.bind_some]
  rw [hk]
  dsimp only
  rw [hf]
  dsimp only
  rw [hindex, readAnswered_eq hk hread, State.deliverRead, hle]

/-- A CONS_INDEX read back moves the ring's on, unless it moves backwards or beyond PROD_INDEX. -/
theorem consIndex_cases {w : State} {i : Nat} {x : EventRing} (value : Nat) (hx : w.ering? i = some x) :
    let moved := (value + 2 ^ 32 - x.cons) % 2 ^ 32
    let unread := (x.prod + 2 ^ 32 - x.cons) % 2 ^ 32
    let y := w.modEring i fun z => { z with cons := value }
    (unread < moved → w.consIndex i value = w.modConn x.conn fun z => { z with consIgnored := satAdd 64 z.consIgnored 1 }) ∧
    (moved ≤ unread → w.book.exportRing ≠ some i → w.consIndex i value = y.drainRing 257 i) ∧
    (moved ≤ unread → w.book.exportRing = some i →
      let z := y.creditUnits moved
      w.consIndex i value = z.pumpExport (exportFuel z)) := by
  intro moved unread y
  have he : w.consIndex i value =
      if unread < moved then w.modConn x.conn fun z => { z with consIgnored := satAdd 64 z.consIgnored 1 }
      else if w.book.exportRing == some i then (y.creditUnits moved).pumpExport (exportFuel (y.creditUnits moved))
      else y.drainRing 257 i := by
    unfold State.consIndex
    rw [hx]
    rfl
  exact ⟨fun h => he.trans (if_pos h), fun h h' => he.trans ((if_neg (Nat.not_lt.mpr h)).trans (if_neg (by simpa using h'))),
    fun h h' => he.trans ((if_neg (Nat.not_lt.mpr h)).trans (if_pos (by simpa using h')))⟩

/-! ### Checkpoints (R298) -/

/-- A checkpoint entry may be appended or held now. -/
def State.takesCheckpoint (u : State) : Prop :=
  (∀ b ∈ u.book.held, entryKind b ≠ 4) ∧ u.bookOpen = true ∧ ¬ (u.power.mode = .boot ∨ u.power.mode = .recovery) ∧
    (u.power.mode = .hold → ∀ m, u.power.held = some m → ¬ (m = .boot ∨ m = .recovery))

theorem beforeRecovery_iff (u : State) : u.beforeRecovery = false ↔ ¬ (u.power.mode = .boot ∨ u.power.mode = .recovery) ∧
    (u.power.mode = .hold → ∀ m, u.power.held = some m → ¬ (m = .boot ∨ m = .recovery)) := by
  unfold State.beforeRecovery
  cases hm : u.power.mode <;> cases hh : u.power.held <;> simp

theorem dueCheckpoint_taken {u : State} (h : u.takesCheckpoint) : u.dueCheckpoint = u.appendBook { kind := 4 } := by
  obtain ⟨hheld, hopen, hmode, hhold⟩ := h
  have hnone : u.book.held.any (entryKind · == 4) = false := by simpa using hheld
  unfold State.dueCheckpoint
  rw [(beforeRecovery_iff u).mpr ⟨hmode, hhold⟩]
  have hopens : ¬ (!u.bookOpen || u.book.held.any (entryKind · == 4)) = true := by
    rw [hopen, hnone]
    decide
  exact if_neg hopens

theorem dueCheckpoint_not_taken {u : State} (h : ¬ u.takesCheckpoint) : u.dueCheckpoint = u := by
  unfold State.dueCheckpoint
  cases hb : u.beforeRecovery with
  | true => rfl
  | false =>
    obtain ⟨hmode, hhold⟩ := (beforeRecovery_iff u).mp hb
    have hkeeps : (!u.bookOpen || u.book.held.any (entryKind · == 4)) = true := by
      by_contra hc
      simp only [Bool.or_eq_true, not_or, Bool.not_eq_true, Bool.not_eq_false', List.any_eq_false, beq_iff_eq] at hc
      exact h ⟨hc.2, hc.1, hmode, hhold⟩
    exact if_pos hkeeps

theorem dueCheckpoint_if {u : State} {c : Bool} {due : Prop} (hc : c = true ↔ due) :
    (due → u.takesCheckpoint → (if c then u.dueCheckpoint else u) = u.appendBook { kind := 4 }) ∧
    (¬ due ∨ ¬ u.takesCheckpoint → (if c then u.dueCheckpoint else u) = u) := by
  refine ⟨fun hd ht => (if_pos (hc.mpr hd)).trans (dueCheckpoint_taken ht), fun h => ?_⟩
  by_cases hd : due
  · exact (if_pos (hc.mpr hd)).trans (dueCheckpoint_not_taken (h.resolve_left (not_not.mpr hd)))
  · exact if_neg fun h => hd (hc.mp h)

theorem checkpointSigned_none {u : State} (h : u.book.signing = []) (ok : Bool) : u.checkpointSigned ok = u := by
  unfold State.checkpointSigned
  rw [h]

theorem checkpointSigned_ok {u : State} {e : Bytes} {rest : List Bytes} (h : u.book.signing = e :: rest) :
    let w : State := { u with
      book.signing := rest, book.anchor := toLe 8 (entrySeq e) ++ sha3 e
      book.signatures := u.book.signatures ++ [(entrySeq e, u.identitySign e (zeros 32) [])] }
    u.checkpointSigned true = w.pumpExport (exportFuel w) := by
  unfold State.checkpointSigned State.checkpointDone
  rw [h]
  rfl

theorem checkpointSigned_fault {u : State} {e : Bytes} {rest : List Bytes} (h : u.book.signing = e :: rest) :
    u.checkpointSigned false = u.raise 180 [entrySeq e] := by
  unfold State.checkpointSigned
  rw [h]
  rfl

/-- Settles O21: each row by what the operation it runs does. -/
theorem marksAndCheckpoints : Obligations.MarksAndCheckpoints := by
  unfold Obligations.MarksAndCheckpoints
  intro s u t hu
  subst hu
  refine ⟨fun h => congrArg _ (markTimer_of_running h), fun m h => congrArg _ (markDurable_of_pending h), fun i x k hx hd hk hr hq => ?poll,
    fun i x k id value hx hk hf huniq hv => ⟨_, rfl, consRead_outstanding hx hk hf huniq hv⟩, fun w i x value hx => consIndex_cases value hx, ?checks,
    fun h ok => congrArg _ (checkpointSigned_none h ok),
    fun e rest h => ⟨congrArg _ (checkpointSigned_ok h), congrArg _ (checkpointSigned_fault h)⟩⟩
  case poll =>
    have he := pollRing_idle hx hd (polling_of_idle hk hr hq)
    refine ⟨fun hlow hlast => congrArg Host.Outcome.next (he.trans (if_pos ?_)), fun hroom hbook => congrArg Host.Outcome.next (he.trans (if_neg ?_))⟩
    · simp [hlow, (spaced_iff _ _ _).mpr hlast]
    · have hlow : ¬ x.room < x.size / 4 := Nat.not_lt.mpr hroom
      obtain h | h := hbook <;> simp [hlow, h]
  case checks =>
    intro due full early takes
    obtain ⟨hdue, hnotDue⟩ := dueCheckpoint_if (u := s.advance t) (due := due)
      (c := (s.advance t).clock.running && 1 ≤ (s.advance t).book.sinceCheckpoint &&
        (s.advance t).book.checkpointAt + 1000 * ms ≤ (s.advance t).clock.now)
      (by simp only [Bool.and_eq_true, decide_eq_true_eq, and_assoc]; rfl)
    obtain ⟨hfull, hnotFull⟩ := dueCheckpoint_if (u := s.advance t) (due := full)
      (c := (s.advance t).clock.running && 4096 ≤ (s.advance t).book.sinceCheckpoint)
      (by simp only [Bool.and_eq_true, decide_eq_true_eq]; rfl)
    exact ⟨fun h h' => congrArg _ (hdue h h'), fun h => congrArg _ (hnotDue h), fun h h' => congrArg _ (hfull h h'),
      fun h => congrArg _ (hnotFull h)⟩

end Sys2Proof.Machine
end

/-! The passages between the modes, and what a reset keeps (01 R25 to R27; 14 R432 to R440; 18 R508, R511, R533, R535). -/
section
namespace Sys2Proof.Machine

/-! ### Start and reset (R435, R439, R508) -/

theorem withVin_covered {vin : Nat} (h : vin ≤ 60000) (s : State) : withVin vin s = .next s := if_neg (Nat.not_lt.mpr h)

theorem vinRise_low {u : State} {vin : Nat} (h : vin < 6000) : u.vinRise vin = u := if_pos h

theorem vinRise_off {u : State} {vin : Nat} (h : 6000 ≤ vin) (hm : u.power.mode = .off) :
    u.vinRise vin = if u.power.nResetLow then u.noteVin vin else (u.noteVin vin).enterPassage := by
  have hlow : ¬ vin < vinStart := Nat.not_lt.mpr h
  unfold State.vinRise
  rw [if_neg hlow, hm]

theorem vinRise_standby {u : State} {vin : Nat} (h : 6000 ≤ vin) (hm : u.power.mode = .standby) : u.vinRise vin = u.noteVin vin := by
  have hlow : ¬ vin < vinStart := Nat.not_lt.mpr h
  unfold State.vinRise
  rw [if_neg hlow, hm]

theorem resetReleased_starts {u : State} {vin : Nat} (h : 6000 ≤ vin) (hm : u.power.mode = .off) :
    u.resetReleased vin = (State.noteVin { u with power.nResetLow := false } vin).enterPassage := by
  have hfull : vinStart ≤ vin := h
  unfold State.resetReleased
  exact if_pos (by simp [hm, hfull])

theorem resetReleased_stays {u : State} {vin : Nat} (h : vin < 6000 ∨ u.power.mode ≠ .off) :
    u.resetReleased vin = { u with power.nResetLow := false } := by
  have hnot : ¬ (u.power.mode = .off ∧ vinStart ≤ vin) := fun ⟨hm, hv⟩ => h.elim (fun h => Nat.not_lt.mpr hv h) fun h => h hm
  unfold State.resetReleased
  exact if_neg (by simpa using hnot)

theorem vinFall_above {u : State} {vin : Nat} (h : 4800 ≤ vin) : u.vinFall vin = u := if_pos h

theorem vinFall_below {u : State} {vin : Nat} (h : vin < 4800) (hm : u.power.mode ≠ .off) :
    u.vinFall vin = { u.powerOff with power.vin := vin, power.vinGoodSince := none } := by
  have hlow : ¬ vinReset ≤ vin := Nat.not_le.mpr h
  unfold State.vinFall
  rw [if_neg hlow, if_neg (by simpa using hm)]

theorem resetAsserted_off {u : State} (hm : u.power.mode = .off) : u.resetAsserted = { u with power.nResetLow := true } := by
  unfold State.resetAsserted
  exact if_pos (by simp [hm])

theorem resetAsserted_on {u : State} (hm : u.power.mode ≠ .off) :
    u.resetAsserted = (State.recordCause { u with power.nResetLow := true } 2).powerOff := by
  unfold State.resetAsserted
  exact if_neg (by simpa using hm)

theorem beyondStandby_iff (m : Mode) : beyondStandby m = true ↔ m ≠ .off ∧ m ≠ .standby := by
  cases m <;> simp [beyondStandby]

theorem faultReset_beyond {u : State} (h : beyondStandby u.power.mode = true) (cause : Nat) :
    u.faultReset cause = (u.recordCause cause).internalReset := if_pos h

theorem faultReset_not_beyond {u : State} (h : ¬ beyondStandby u.power.mode = true) (cause : Nat) : u.faultReset cause = u := if_neg h

/-! ### PLLs (R25 to R27, R545) -/

/-- What the passage waits for beside the lock of the PLLs. -/
def State.mayBoot (u : State) : Prop :=
  u.power.mode = .standby ∧ u.power.parked = false ∧ u.power.zeroising = false ∧ u.power.hot = false ∧ u.power.vinWait = false ∧
    5700 ≤ u.power.vin

theorem pllsLocked_eq (u : State) [Decidable u.mayBoot] : u.pllsLocked = if u.mayBoot then u.enterBoot else u := by
  have hwarn : vinWarnReset = 5700 := rfl
  unfold State.pllsLocked
  refine if_congr ?_ rfl rfl
  rw [hwarn]
  simp only [State.mayBoot, Bool.and_eq_true, beq_iff_eq, Bool.not_eq_true', decide_eq_true_eq, and_assoc]

/-- A Boot whose life-cycle copies name no state is stuck, with nALARM. -/
theorem enterBoot_stuck {u : State} (h : u.lc = none) :
    let y := u.enterBoot
    y.power.mode = .boot ∧ y.power.bootStuck = true ∧ 2 ∈ y.power.alarm ∧ y.journal.bootCount = u.journal.bootCount + 1 ∧
      y.clock.train = u.journal.timeMark ∧ y.power.domains = [0, 1, 2, 3, 44] := by
  let w : State := { u with
    power.mode := .boot, power.parked := false, power.pllLocked := true, power.pllPorts := true, power.bootAt := u.clock.now, power.vinWarn := vinWarnReset
    power.domains := [0, 1, 2, 3, 44]
    clock := { now := u.clock.now, train := u.journal.timeMark, running := true }
    journal.bootCount := u.journal.bootCount + 1 }
  have hw := ensureMark_events w
  have hlc : w.ensureMark.lc.isNone = true := by
    rw [show w.ensureMark.lc = u.lc by unfold State.lc; rw [hw.fuses], h]
    rfl
  have hcount : w.ensureMark.journal.bootCount = u.journal.bootCount + 1 := by
    unfold State.ensureMark
    split <;> rfl
  intro y
  have hy : y = w.ensureMark.stick 2 := if_pos hlc
  rw [hy, State.stick, State.assertAlarm]
  dsimp only
  rw [hw.power]
  split
  · refine ⟨rfl, rfl, ?_, hcount, congrArg Clock.train hw.clock, rfl⟩
    rename_i halarm
    simpa using halarm
  · exact ⟨rfl, rfl, List.mem_append_right _ (List.mem_singleton.mpr rfl), hcount, congrArg Clock.train hw.clock, rfl⟩

theorem pllLost_beyond {u : State} (h : beyondStandby u.power.mode = true) (kept : Bool) :
    u.pllLost kept = (State.recordCause { u with journal.orderly := false } 3).internalReset := by
  unfold State.pllLost
  rw [if_pos h]
  exact faultReset_beyond (u := { u with journal.orderly := false }) h 3

theorem pllLost_parked {u : State} (hm : u.power.mode = .standby) (hp : u.power.parked = true) :
    u.pllLost true = u.mailbox.sessions.foldl (fun r x => r.raise 243 [x.id, 3]) u.afterReset.enterPassage := by
  unfold State.pllLost
  rw [hm, hp]
  rfl

theorem pllLost_nothing {u : State} {kept : Bool}
    (h : u.power.mode = .off ∨ (u.power.mode = .standby ∧ (u.power.parked = false ∨ kept = false))) : u.pllLost kept = u := by
  unfold State.pllLost
  obtain hm | ⟨hm, hp | hp⟩ := h
  · rw [hm]
    rfl
  · rw [hm, hp]
    rfl
  · rw [hm, hp, Bool.and_false]
    rfl

/-! ### Boot, Recovery and Express (R319, R438, R440, R474) -/

/-- Boot may end. -/
def State.bootReady (u : State) : Prop := u.power.mode = .boot ∧ u.power.bootStuck = false ∧ u.rng.state = .seeded

theorem bootEnd_ready {u : State} (h : u.bootReady) :
    u.bootEnd =
      if u.makeCarriage0.journal.orderly then
        { u.makeCarriage0.recoveryEntry.recoverCarriages.leafEvents.clearJournal.handOver with journal.orderly := false }
      else { u.makeCarriage0.clearJournal with power.mode := .recovery } := by
  obtain ⟨hm, hs, hr⟩ := h
  unfold State.bootEnd
  exact if_neg (by simp [hm, hs, hr])

theorem bootEnd_not_ready {u : State} (h : ¬ u.bootReady) : u.bootEnd = u := by
  unfold State.bootEnd
  refine if_pos ?_
  by_contra hc
  simp only [Bool.or_eq_true, bne_iff_ne, not_or, ne_eq, not_not, Bool.not_eq_true] at hc
  obtain ⟨⟨hm, hs⟩, hr⟩ := hc
  exact h ⟨hm, hs, hr⟩

theorem recoveryEnd_in {u : State} (h : u.power.mode = .recovery) : u.recoveryEnd = u.recover.handOver := if_pos (by simp [h])

theorem recoveryEnd_out {u : State} (h : u.power.mode ≠ .recovery) : u.recoveryEnd = u := if_neg (by simpa using h)

/-- Express may resume now. -/
def State.expressMay (u : State) : Prop :=
  (u.power.mode = .boot ∨ u.power.mode = .recovery ∨ u.power.mode = .service ∨ u.power.mode = .derated ∨ u.power.mode = .trainJoin) ∧
    u.power.bootStuck = false ∧ u.journal.expressMask ≠ 0

theorem expressNow_may {u : State} (h : u.expressMay) :
    u.expressNow = State.reserveExpress { u with power.expressReady := true, express.enabled := true, express.closing := false } := by
  obtain ⟨hm, hs, hmask⟩ := h
  have hopen : ¬ (u.power.bootStuck || u.journal.expressMask == 0) = true := by simp [hs, hmask]
  unfold State.expressNow
  obtain hm | hm | hm | hm | hm := hm <;> rw [hm] <;> exact if_neg hopen

theorem expressNow_may_not {u : State} (h : ¬ u.expressMay) : u.expressNow = u := by
  by_cases hopen : (u.power.bootStuck || u.journal.expressMask == 0) = true
  · unfold State.expressNow
    split
    case h_6 => rfl
    all_goals exact if_pos hopen
  · simp only [Bool.or_eq_true, beq_iff_eq, not_or, Bool.not_eq_true] at hopen
    unfold State.expressNow
    split
    case h_6 => rfl
    all_goals exact absurd ⟨by simp [*], hopen.1, hopen.2⟩ h

/-! ### Zeroisation (R532 to R535) -/

theorem tamperOff_sealed {u : State} (hm : u.power.mode = .off) (hs : u.sealEnabled = true) :
    u.tamperOff = { u with power.sealShare := false, power.sealLost := true } := if_pos (by simp [hm, hs])

theorem tamper_off {u : State} (hm : u.power.mode = .off) (src : Nat) (d : List Nat) : u.tamper src d = u := if_pos (by simp [hm])

/-- What a zeroisation leaves behind it. -/
def Wiped (u y : State) : Prop :=
  y.cellar.dir = [] ∧ y.cellar.records = [] ∧ y.cellar.ledgers = [] ∧ y.fabric.carriages = [] ∧ y.fabric.jobs = [] ∧ y.train.roster = none ∧
    y.mailbox.sessions = [] ∧ y.power.mode = .standby ∧ y.power.zeroising = true ∧ y.power.sealShare = false ∧ 4 ∈ y.power.alarm ∧
    y.journal.zeroisePending = true ∧ y.journal.cause = 5 ∧ y.fuses = u.fuses ∧ y.book.seq = u.book.seq ∧ y.cellar.identity = u.cellar.identity

/-- Nothing of a zeroised module but nALARM depends on the alarms before it. -/
theorem Wiped.assertAlarm {u v : State} (h : ∀ a, 4 ∈ a → Wiped u { v with power.alarm := a }) : Wiped u (v.assertAlarm 4) := by
  unfold State.assertAlarm
  split
  · rename_i ha
    exact h v.power.alarm (by simpa using ha)
  · exact h _ (List.mem_append_right _ (List.mem_singleton.mpr rfl))

theorem tamper_wipes {u : State} (hm : u.power.mode ≠ .off) (hz : u.power.zeroising = false) (src : Nat) (d : List Nat) :
    Wiped u (u.tamper src d) := by
  have hr := raise_events u src d
  unfold State.tamper
  rw [if_neg (by simp [hm, hz])]
  generalize u.raise src d = w at hr
  have hseq : w.book.seq = u.book.seq := by rw [hr.book]
  have hid : w.cellar.identity = u.cellar.identity := by rw [hr.cellar]
  refine Wiped.assertAlarm fun a ha => ?_
  exact ⟨rfl, rfl, rfl, rfl, rfl, rfl, rfl, rfl, rfl, rfl, ha, rfl, rfl, hr.fuses, hseq, hid⟩

/-! ### What a reset keeps (R336, R437) -/

theorem afterReset_carriages {x : State} {c : Carriage} (h : c ∈ x.fabric.carriages) :
    ∃ d ∈ x.afterReset.fabric.carriages, d.number = c.number ∧ d.gen = c.gen ∧ d.key = c.key :=
  ⟨c.kept, List.mem_map_of_mem h, rfl, rfl, rfl⟩

theorem afterReset_ledgers {x : State} {l : Ledger} (h : l ∈ x.cellar.ledgers) :
    ∃ n ∈ x.afterReset.cellar.ledgers, n.highWater = l.highWater ∧ l.highWater ≤ n.next :=
  ⟨l.resumed, List.mem_map_of_mem h, rfl, Nat.le_max_right _ _⟩

/-- Settles O22: each passage by the operation that makes it. -/
theorem powerPassages : Obligations.PowerPassages := by
  unfold Obligations.PowerPassages
  intro s u t hu
  subst hu
  intro m passage resets off beyond
  have hbeyond : beyond ↔ beyondStandby (s.advance t).power.mode = true := (beyondStandby_iff _).symm
  refine ⟨fun vin hvin => ?supply, ⟨fun h => congrArg _ (resetAsserted_off h), fun h => congrArg _ (resetAsserted_on h)⟩, ?locks,
    fun kept => ⟨fun h => congrArg _ (pllLost_beyond (hbeyond.mp h) kept), fun h => congrArg _ (pllLost_nothing h), fun hm hp _ =>
      congrArg _ (pllLost_parked hm hp)⟩, ?bootEnd, fun h => ⟨_, rfl, recoveryEnd_in h⟩, fun h => ⟨_, rfl, recoveryEnd_out h⟩,
    fun hm hp => ?nwake, fun h => ?asleep, ?express, fun h => ?faults, fun h => ?noFaults, fun hm => ?hot, ?tamper, fun h => congrArg _ (if_pos h),
    fun x => ⟨rfl, rfl, rfl, rfl, rfl, rfl, rfl, rfl, fun c hc => afterReset_carriages hc, fun l hl => afterReset_ledgers hl,
      rfl, rfl, rfl, rfl, rfl, rfl, rfl, rfl, rfl⟩⟩
  case supply =>
    have hnext (y : State) : withVin vin y = .next y := withVin_covered hvin y
    refine ⟨fun h => ?_, fun h hm hn => ?_, fun h hm hn => ?_, fun h hm => ?_, ⟨fun h hm => ?_, fun h => ?_⟩, fun h => ?_, fun h hm => ?_⟩
    · exact (hnext _).trans (congrArg _ (vinRise_low h))
    · exact (hnext _).trans (congrArg _ ((vinRise_off h hm).trans (if_neg (by simp [hn]))))
    · exact (hnext _).trans (congrArg _ ((vinRise_off h hm).trans (if_pos hn)))
    · exact (hnext _).trans (congrArg _ (vinRise_standby h hm))
    · exact (hnext _).trans (congrArg _ (resetReleased_starts h hm))
    · exact (hnext _).trans (congrArg _ (resetReleased_stays h))
    · exact (hnext _).trans (congrArg _ (vinFall_above h))
    · exact (hnext _).trans (congrArg _ (vinFall_below h hm))
  case locks =>
    have he : (s.advance t).pllsLocked = _ := @pllsLocked_eq (s.advance t) (Classical.dec _)
    intro locks
    exact ⟨fun h => congrArg _ (he.trans (if_pos h)), fun h => congrArg _ (he.trans (if_neg h)),
      fun h hlc => ⟨_, congrArg Host.Outcome.next (he.trans (if_pos h)), enterBoot_stuck hlc⟩⟩
  case bootEnd =>
    intro ready v
    exact ⟨fun h ho => ⟨_, rfl, (bootEnd_ready h).trans (if_pos ho)⟩, fun h ho => ⟨_, rfl, (bootEnd_ready h).trans (if_neg (by simpa using ho))⟩,
      fun h => ⟨_, rfl, bootEnd_not_ready h⟩⟩
  case nwake =>
    exact congrArg Host.Outcome.next (if_pos (by simp [show (s.advance t).power.mode = .standby from hm, hp]))
  case asleep =>
    refine congrArg Host.Outcome.next (if_neg ?_)
    obtain h | h := h
    · simp [show (s.advance t).power.mode ≠ .standby from h]
    · simp [h]
  case express =>
    intro may
    exact ⟨fun h => ⟨_, rfl, expressNow_may h⟩, fun h => ⟨_, rfl, expressNow_may_not h⟩⟩
  case faults =>
    have hb := hbeyond.mp h
    refine ⟨congrArg _ (faultReset_beyond hb 4), congrArg _ (faultReset_beyond hb 6), congrArg Host.Outcome.next ?_⟩
    refine (if_neg ?_).trans (faultReset_beyond (u := { s.advance t with power.hot := true }) hb 6)
    simpa using h.1
  case noFaults =>
    have hb := fun hb => h (hbeyond.mpr hb)
    exact ⟨congrArg _ (faultReset_not_beyond hb 4), congrArg _ (faultReset_not_beyond hb 6)⟩
  case hot =>
    have hb : ¬ beyondStandby (s.advance t).power.mode = true := fun hb => (hbeyond.mpr hb).2 hm
    have hon : ¬ ((s.advance t).power.mode == .off) = true := by simp [show (s.advance t).power.mode = .standby from hm]
    exact congrArg Host.Outcome.next ((if_neg hon).trans (faultReset_not_beyond (u := { s.advance t with power.hot := true }) hb 6))
  case tamper =>
    intro cleared wiped
    refine ⟨fun hm hs => ?_, fun hm hz => ?_, fun hm => congrArg _ (tamper_off hm _ _), fun hs => congrArg _ (if_pos hs),
      fun hs => congrArg _ (if_neg (by simp [hs]))⟩
    · have hoff : ((s.advance t).power.mode == .off) = true := by simp [show (s.advance t).power.mode = .off from hm]
      exact ⟨congrArg Host.Outcome.next ((if_pos hoff).trans (tamperOff_sealed hm hs)), fun n hn =>
        congrArg Host.Outcome.next ((if_neg (Nat.not_le.mpr hn)).trans ((if_pos hoff).trans (tamperOff_sealed hm hs)))⟩
    · have hon : ¬ ((s.advance t).power.mode == .off) = true := by simpa using hm
      have hmesh : exec (.tamperMesh t) s = .next ((s.advance t).tamper 193 [1]) := congrArg Host.Outcome.next (if_neg hon)
      have hin (n : Nat) (hn : n < 4) : exec (.tamperIn t n) s = .next ((s.advance t).tamper 194 [n]) :=
        congrArg Host.Outcome.next ((if_neg (Nat.not_le.mpr hn)).trans (if_neg hon))
      exact ⟨⟨_, hmesh, tamper_wipes hm hz _ _⟩, fun n hn => ⟨_, hin n hn, tamper_wipes hm hz _ _⟩, ⟨_, rfl, tamper_wipes hm hz _ _⟩,
        hmesh, hin, rfl⟩

end Sys2Proof.Machine
end

/-! Hold, Derated, the ladder, rails and temperatures (18 R508 to R523; 19 R536 to R545). -/
section
namespace Sys2Proof.Machine

/-! ### What leaves the power manager, the clock and the mailbox alone -/

/-- The parts of the state that no end of a job touches. -/
def State.still (u : State) : Power × Clock × Mailbox := (u.power, u.clock, u.mailbox)

theorem EventFrame.still {u x : State} (h : EventFrame u x) : x.still = u.still := by rw [h]; rfl

theorem BookFrame.still {u x : State} (h : BookFrame u x) : x.still = u.still := by rw [h]; rfl

theorem power_of_still {u x : State} (h : x.still = u.still) : x.power = u.power := congrArg Prod.fst h

theorem foldl_still {α : Type} {f : State → α → State} (h : ∀ u a, (f u a).still = u.still) (l : List α) :
    ∀ u, (l.foldl f u).still = u.still := by
  induction l with
  | nil => exact fun u => rfl
  | cons a l ih => exact fun u => (ih _).trans (h u a)

theorem ite_still {c : Prop} [Decidable c] {a b : State} {p : Power × Clock × Mailbox} (ha : a.still = p)
    (hb : b.still = p) : (if c then a else b).still = p := by
  split <;> assumption

theorem setPool_still (u : State) (p : Pool) (l : List Engine) : (u.setPool p l).still = u.still := by cases p <;> rfl

theorem modEngine_still (u : State) (p : Pool) (i : Nat) (g : Engine → Engine) : (u.modEngine p i g).still = u.still := setPool_still _ _ _

theorem freeBanks_still (u : State) (p : Pool) (id part : Nat) (after : Bank) : (u.freeBanks p id part after).still = u.still :=
  setPool_still _ _ _

theorem post_still (u : State) (c : Nat) (o : Out) : (u.post c o).still = u.still := (post_events u c o).still

theorem appendReserved_still (u : State) (f : BookFields) : (u.appendReserved f).still = u.still := (commitEntry_book _ _).still

theorem appendReserved_of_still {α : Type} {c : Prop} [Decidable c] (u : State) (f : BookFields) (a b : α) :
    (if c then (u.appendReserved f, a) else (u, b)).1.still = u.still := by
  split
  · dsimp only
    exact appendReserved_still u f
  · rfl

theorem appendJob_still (u : State) (j : Job) : (u.appendJob j).1.still = u.still := by
  unfold State.appendJob
  split
  · rfl
  · split
    · rfl
    · dsimp only
      refine (appendHeld_book _ _).still.trans ((tailEvent_book _ _).still.trans ?_)
      have hbook (v : State) (b : Book) : ({ v with book := b } : State).still = v.still := rfl
      rw [hbook, appendReserved_of_still, appendReserved_of_still]

theorem placeOutput_still (u : State) (j : Job) (off : Nat) (b : Bytes) : (u.placeOutput j off b).still = u.still := by
  unfold State.placeOutput
  split
  · rfl
  · dsimp only
    split
    · split
      · exact post_still _ _ _
      · rfl
    · rfl

theorem complete_still (u : State) (j : Job) (written : Nat) (logged : Bool) : (u.complete j written logged).still = u.still := by
  unfold State.complete
  split
  · rfl
  · split
    · rfl
    · dsimp only
      split
      · exact (post_still _ _ _).trans (post_still _ _ _)
      · exact post_still _ _ _

theorem unreserve_still (u : State) (q : Nat) : (u.unreserve q).still = u.still := by
  unfold State.unreserve
  split <;> rfl

theorem freeJobBanks_still (u : State) (id : Nat) : (u.freeJobBanks id).still = u.still := by
  unfold State.freeJobBanks
  split
  · rfl
  · exact (setPool_still _ _ _).trans (foldl_still (fun v x => freeBanks_still v _ _ _ _) _ _)

theorem dropJob_still (u : State) (id : Nat) : (u.dropJob id).still = u.still := freeJobBanks_still u id

theorem releaseJob_still (u : State) (id : Nat) : (u.releaseJob id).still = u.still := by
  unfold State.releaseJob
  split
  · rfl
  · have hlogged (j : Job) : (u.ensureMark.appendJob j).1.still = u.still := (appendJob_still _ _).trans (ensureMark_events u).still
    refine (dropJob_still _ _).trans (ite_still ?_ (ite_still ?_ ?_))
    · exact (unreserve_still _ _).trans (hlogged _)
    · exact (unreserve_still _ _).trans (hlogged _)
    · exact (complete_still _ _ _ _).trans ((placeOutput_still _ _ _ _).trans ((placeOutput_still _ _ _ _).trans (hlogged _)))

theorem releaseRecord_still (u : State) (id : Nat) : (u.releaseRecord id).still = u.still := by
  have hlogged (j : Job) : (u.ensureMark.appendJob j).1.still = u.still := (appendJob_still _ _).trans (ensureMark_events u).still
  unfold State.releaseRecord
  split
  · rfl
  · split
    · exact dropJob_still u id
    · have hplaced (c : Prop) [Decidable c] (j p : Job) (off : Nat) (b : Bytes) :
          (if c then (u.ensureMark.appendJob j).1 else (u.ensureMark.appendJob j).1.placeOutput p off b).still = u.still :=
        ite_still (hlogged j) ((placeOutput_still _ _ _ _).trans (hlogged j))
      exact ite_still ((dropJob_still _ _).trans (hplaced _ _ _ _ _)) ((dropJob_still _ _).trans (hplaced _ _ _ _ _))

theorem failAny_still (u : State) (id : Nat) (st : Status) (trailer : Bool) : (u.failAny id st trailer).still = u.still := by
  unfold State.failAny State.release
  split
  · rfl
  · split
    · exact releaseRecord_still _ _
    · exact releaseJob_still _ _

theorem stagePart_still (u : State) (id part : Nat) (p : Pool) : (u.stagePart id part p).still = u.still := freeBanks_still _ _ _ _ _

theorem crossEngine_still (u : State) (p : Pool) (i : Nat) : (u.crossEngine p i).still = u.still := by
  unfold State.crossEngine
  split
  · rfl
  · refine foldl_still (fun v b => ?_) _ _
    split
    · split
      · rfl
      · exact stagePart_still _ _ _ _
    · rfl

theorem abandonPart_still (u : State) (id part : Nat) (fault hold : Bool) : (u.abandonPart id part fault hold).still = u.still := by
  unfold State.abandonPart
  split
  · rfl
  · split
    · rfl
    · split
      · rfl
      · dsimp only
        split
        · exact (failAny_still _ _ _ _).trans (freeBanks_still _ _ _ _ _)
        · exact freeBanks_still _ _ _ _ _

theorem uncoupleEngine_still (u : State) (p : Pool) (i : Nat) (hold : Bool) : (u.uncoupleEngine p i hold).still = u.still := by
  unfold State.uncoupleEngine State.abandonEngine
  dsimp only
  rw [modEngine_still, modEngine_still, foldl_still fun v x => abandonPart_still v _ _ _ _, crossEngine_still]

/-! ### The ladder (R31, R32, R519 to R521) -/

theorem verifyPatch_still (u : State) (k : MicroKind) : (u.verifyPatch k).still = u.still := by
  unfold State.verifyPatch
  dsimp only
  split
  · cases k <;> exact setPool_still _ _ _
  · rfl

theorem powerTest_still (u : State) (x : Pool × Nat) : (u.powerTest x).still = u.still := by
  unfold State.powerTest
  split
  · exact modEngine_still _ _ _ _
  · rfl

theorem verifyPatches_still (u : State) : u.verifyPatches.still = u.still :=
  (verifyPatch_still _ _).trans ((verifyPatch_still _ _).trans (verifyPatch_still _ _))

theorem domainOff_still (u : State) (d : Nat) (hold : Bool) :
    (u.domainOff d hold).still = ({ u.power with domains := u.power.domains.filter (· != d) }, u.clock, u.mailbox) := by
  have hengines := foldl_still (fun v (x : Pool × Nat) => uncoupleEngine_still v x.1 x.2 hold) (domainEngines d) u
  obtain ⟨hpower, hrest⟩ := Prod.ext_iff.mp hengines
  obtain ⟨hclock, hmailbox⟩ := Prod.ext_iff.mp hrest
  refine (verifyPatches_still _).trans ?_
  exact Prod.ext (congrArg (fun p : Power => { p with domains := p.domains.filter (· != d) }) hpower) (Prod.ext hclock hmailbox)

theorem domainOff_power (u : State) (d : Nat) (hold : Bool) :
    (u.domainOff d hold).power = { u.power with domains := u.power.domains.filter (· != d) } := congrArg Prod.fst (domainOff_still u d hold)

theorem domainOnNow_ladderCap (u : State) (d : Nat) : (u.domainOnNow d).power.ladderCap = u.power.ladderCap := by
  unfold State.domainOnNow
  split
  · rfl
  · have hkats (v : State) : v.kats.still = v.still := (setPool_still _ _ _).trans ((setPool_still _ _ _).trans (setPool_still _ _ _))
    rw [power_of_still (hkats _), power_of_still (foldl_still powerTest_still _ _)]

theorem foldl_ladderCap {α : Type} {f : State → α → State} (h : ∀ u a, (f u a).power.ladderCap = u.power.ladderCap) (l : List α) :
    ∀ u, (l.foldl f u).power.ladderCap = u.power.ladderCap := by
  induction l with
  | nil => exact fun u => rfl
  | cons a l ih => exact fun u => (ih _).trans (h u a)

theorem setLadder_ladderCap (u : State) (n : Nat) : (u.setLadder n).power.ladderCap = u.power.ladderCap := by
  unfold State.setLadder
  dsimp only
  rw [foldl_ladderCap fun v x => foldl_ladderCap (fun v d => domainOnNow_ladderCap v d) _ v,
    foldl_ladderCap fun v x => foldl_ladderCap (fun v d => ?_) _ v]
  split
  · rw [domainOff_power]
  · rfl

/-! ### Hold (R508, R516 to R518) -/

theorem vinWarned_above {u : State} {vin : Nat} (h : u.power.vinWarn ≤ vin) : u.vinWarned vin = u := by
  unfold State.vinWarned
  split
  · exact if_neg (Nat.not_lt.mpr h)
  · exact if_pos h

theorem vinWarned_holds {u : State} {vin : Nat} (h : vin < u.power.vinWarn) (hm : holdable u.power.mode = true) :
    u.vinWarned vin = u.enterHold vin := by
  have htasting : ¬ (u.power.mode == .tasting) = true := by
    intro hc
    rw [beq_iff_eq.mp hc] at hm
    exact absurd hm (by decide)
  exact (if_neg htasting).trans ((if_neg (Nat.not_le.mpr h)).trans (if_pos hm))

/-- Below VIN_WARN a mode that Hold does not interrupt acts by itself. -/
theorem vinWarned_mode {u : State} {vin : Nat} {m : Mode} (h : vin < u.power.vinWarn) (hm : u.power.mode = m) (hh : holdable m = false) :
    u.vinWarned vin =
      if m = .tasting then { u.endTasting 3 with power.vin := vin, power.vinGoodSince := none }
      else if m = .boot then { u.internalReset with power.vin := vin, power.vinGoodSince := none, power.vinWait := true }
      else if m = .standby ∧ u.power.parked = false then { u with power.vin := vin, power.vinGoodSince := none, power.vinWait := true }
      else u := by
  have hn : ¬ u.power.vinWarn ≤ vin := Nat.not_le.mpr h
  unfold State.vinWarned State.vinWarnCrossing
  rw [if_neg hn, hm, hh]
  cases m <;> simp [h]

theorem exitHold_stays {u : State} {vin : Nat} (h : u.power.mode ≠ .hold ∨ vin < u.power.vinWarn + 250) : u.exitHold vin = u := by
  unfold State.exitHold
  exact if_pos (by obtain h | h := h <;> simp [h])

/-- The end of a Hold that interrupted mode `m`, once VIN has been noted; `dips` when it is the third in 100 ms. -/
def State.resumeMode (v : State) (m : Mode) (dips : Prop) [Decidable dips] : State :=
  let s : State := { v with journal.holdEntered := none, power.held := none, power.dipLatch := v.power.dipLatch || dips, power.mode := m }
  let s := if m == .entropyTest then s.outerOff else s
  let s := if ladderMode m then s.setLadder (if s.deratedNow then 1 else s.ladderLimit) else s
  let s := s.restartFrames.raise 146 []
  let s := if dips then s.raise 149 [] else s
  let s := if m == .service || m == .derated then s.decideAfresh (m == .derated) else s
  s.conditions

theorem exitHold_eq {u : State} {vin : Nat} {m : Mode} (hm : u.power.mode = .hold) (hv : u.power.vinWarn + 250 ≤ vin)
    (hh : u.power.held = some m) :
    let x := (u.noteVin vin).resumeMode m (3 ≤ u.power.holdBegins.length)
    u.exitHold vin = x.flushPushes x.train.heldPushes.length := by
  have hexit : ¬ (u.power.mode != .hold || vin < u.power.vinWarn + 250) = true := by simp [hm, hv]
  have hheld : m = (u.noteVin vin).power.held.getD .service := (congrArg (·.getD Mode.service) hh).symm
  rw [hheld]
  exact if_neg hexit

theorem resumeMode_service {v w : State} (dips : Prop) [Decidable dips] (hlow : v.power.vinLow = false) (hth : v.power.thermal = false)
    (hdip : v.power.dipLatch = false)
    (hw : w = { v with journal.holdEntered := none, power.held := none, power.dipLatch := decide dips, power.mode := .service }) :
    v.resumeMode .service dips =
      (if dips then ((w.setLadder 1).restartFrames.raise 146 []).raise 149 []
       else (w.setLadder w.ladderLimit).restartFrames.raise 146 []).returnToService.conditions := by
  have hder : w.deratedNow = decide dips := by
    rw [hw, State.deratedNow]
    dsimp only
    rw [hlow, hth]
    rfl
  have he : v.resumeMode .service dips =
      (if dips then ((w.setLadder (if w.deratedNow then 1 else w.ladderLimit)).restartFrames.raise 146 []).raise 149 []
       else (w.setLadder (if w.deratedNow then 1 else w.ladderLimit)).restartFrames.raise 146 []).returnToService.conditions := by
    rw [hw, State.resumeMode, hdip, Bool.false_or]
    rfl
  rw [he, hder]
  by_cases h : dips <;> simp only [h, decide_true, decide_false, if_true, if_false, Bool.false_eq_true]

/-! ### Derated and the ladder (R508, R520, R521, R538) -/

theorem conditions_of_service {x : State} (hd : x.deratedNow = true) (hm : x.power.mode = .service) :
    x.conditions = (State.raise { x with power.clearSince := none, power.mode := .derated } 147 []).fitLadder := by
  have hservice : (x.power.mode == .service) = true := by simp [hm]
  exact (if_pos hd).trans (congrArg State.fitLadder (if_pos hservice))

theorem leaveDerated_whole {x : State} (hm : x.power.mode = .derated) (hc : x.clearLong = true) (hl : x.ladderLimit ≤ x.power.ladder) :
    x.leaveDerated = State.raise { x with power.mode := .service } 148 [] := if_pos (by simp [hm, hc, hl])

theorem deratedTimer_derated {u : State} {vin : Nat} (h : (u.noteVin vin).deratedNow = true) : u.deratedTimer vin = (u.noteVin vin).conditions :=
  if_pos h

theorem deratedTimer_clear {u : State} {vin : Nat} (h : (u.noteVin vin).deratedNow = false) (hl : u.power.vinLow = false)
    (hc : u.power.clearSince.isSome = true) : u.deratedTimer vin = (u.noteVin vin).leaveDerated := by
  have hderated : ¬ (u.noteVin vin).deratedNow = true := by simp [h]
  have hsince : ¬ (u.power.vinLow || (u.noteVin vin).power.clearSince.isNone) = true := by
    obtain ⟨c, hc⟩ := Option.isSome_iff_exists.mp hc
    rw [show (u.noteVin vin).power.clearSince = u.power.clearSince from rfl, hl, hc]
    exact Bool.false_ne_true
  exact (if_neg hderated).trans (congrArg State.leaveDerated (if_neg hsince))

/-- A step up is allowed. -/
def State.maySteps (w : State) : Prop := w.power.mode ≠ .derated ∨ w.deratedNow = true ∨ w.clearLong = true

theorem maySteps_iff (w : State) : (w.power.mode != .derated || w.deratedNow || w.clearLong) = true ↔ w.maySteps := by
  simp [State.maySteps, or_assoc]

theorem ladderUp_off {u w : State} {vin : Nat} (hw : w = (u.noteVin vin).conditions) (h : ladderMode w.power.mode = false) :
    u.ladderUp vin = w := by
  subst hw
  exact if_pos (by simp [h])

theorem ladderUp_on {u w : State} {vin : Nat} (hw : w = (u.noteVin vin).conditions) (h : ladderMode w.power.mode = true) :
    (w.maySteps → w.power.ladder < w.ladderLimit → u.ladderUp vin = (w.setLadder (w.power.ladder + 1)).leaveDerated) ∧
      (¬ w.maySteps ∨ w.ladderLimit ≤ w.power.ladder → u.ladderUp vin = w.leaveDerated) := by
  subst hw
  have hmode : ¬ (!ladderMode (u.noteVin vin).conditions.power.mode) = true := by simp [h]
  refine ⟨fun hm hl => (if_neg hmode).trans (congrArg State.leaveDerated (if_pos ?_)),
    fun hn => (if_neg hmode).trans (congrArg State.leaveDerated (if_neg ?_))⟩
  · exact Bool.and_eq_true_iff.mpr ⟨(maySteps_iff _).mpr hm, decide_eq_true hl⟩
  · intro hc
    obtain ⟨hm, hl⟩ := Bool.and_eq_true_iff.mp hc
    exact hn.elim (fun hn => hn ((maySteps_iff _).mp hm)) fun hn => Nat.not_lt.mpr hn (of_decide_eq_true hl)

/-- The input current exceeds what the Derated conditions allow. -/
def State.overCurrent (w : State) (current : Nat) : Prop := w.deratedNow = true ∧ ladderMode w.power.mode = true ∧ 20000 < current

theorem powerOver_cases (w : State) (current vin : Nat) :
    (w.overCurrent current → 1 < w.power.ladder → w.powerOver current vin = (w.setLadder (w.power.ladder - 1)).raise 152 [current, vin]) ∧
    (w.overCurrent current → w.power.ladder ≤ 1 → w.powerOver current vin = w.raise 152 [current, vin]) ∧
    (¬ w.overCurrent current → w.powerOver current vin = w) := by
  have hiff : (w.deratedNow && ladderMode w.power.mode && decide (20000 < current)) = true ↔ w.overCurrent current := by
    simp [State.overCurrent, and_assoc]
  refine ⟨fun h hl => (if_pos (hiff.mpr h)).trans (congrArg (fun x : State => x.raise 152 [current, vin]) (if_pos hl)),
    fun h hl => (if_pos (hiff.mpr h)).trans (congrArg (fun x : State => x.raise 152 [current, vin]) (if_neg (Nat.not_lt.mpr hl))),
    fun h => if_neg fun hc => h (hiff.mp hc)⟩

theorem currentLimit_rail {w : State} (h : w.power.mode ≠ .off) (rail : Option Nat) (current vin : Nat) :
    w.currentLimit rail current vin =
      match rail with
      | some d => (w.raise 152 [current, vin]).railFault d 1
      | none => { w.raise 152 [current, vin] with power.currentLimited := true } := by
  unfold State.currentLimit
  rw [if_neg (by simpa using h)] <;> rfl

/-- After the current limit has acted, the ladder follows the current. -/
theorem currentStep_cases (u : State) (current : Nat) :
    let acts := u.power.currentLimited = true ∧ ladderMode u.power.mode = true
    (¬ acts → u.currentStep current = u) ∧
    (acts → 21000 ≤ current → 1 < u.power.ladder →
      u.currentStep current = (State.fitLadder { u with power.ladderCap := u.power.ladder - 1 }).raise 152 [current, u.power.vin]) ∧
    (acts → 21000 ≤ current → u.power.ladder ≤ 1 → u.currentStep current = u) ∧
    (acts → current < 21000 → u.power.ladderCap < 32 →
      let v : State := { u with power.ladderCap := u.power.ladderCap + 1 }
      u.currentStep current = if v.power.ladder < v.ladderLimit then v.setLadder (v.power.ladder + 1) else v) := by
  intro acts
  have hiff : ¬ (!u.power.currentLimited || !ladderMode u.power.mode) = true ↔ acts := by simp [acts]
  refine ⟨fun h => if_pos (not_not.mp fun hc => h (hiff.mp hc)), fun h hc hl => ?_, fun h hc hl => ?_, fun h hc hcap => ?_⟩
  · exact (if_neg (hiff.mpr h)).trans ((if_pos hc).trans (if_neg (Nat.not_le.mpr hl)))
  · exact (if_neg (hiff.mpr h)).trans ((if_pos hc).trans (if_pos hl))
  · intro v
    have hmin : min ladderUnits (u.power.ladderCap + 1) = u.power.ladderCap + 1 := Nat.min_eq_right (Nat.le_of_lt_succ (Nat.lt_succ_of_lt (Nat.succ_lt_succ hcap)))
    have hpart (y : State) (hy : y.power.ladderCap = u.power.ladderCap + 1) :
        (if y.power.ladderCap == ladderUnits then ({ y with power.currentLimited := false } : State) else y) = y := by
      have hne : ¬ y.power.ladderCap = 33 := by omega
      exact if_neg (by rw [beq_iff_eq]; exact hne)
    refine (if_neg (hiff.mpr h)).trans ((if_neg (Nat.not_le.mpr hc)).trans ?_)
    dsimp only
    rw [hmin]
    refine hpart _ ?_
    split
    · exact setLadder_ladderCap v _
    · rfl

/-! ### Rails (R542) -/

theorem railFault_off {u : State} {d : Nat} (h : u.domainOn d = false) (cause : Nat) : u.railFault d cause = u := if_pos (by simp [h])

theorem railFault_engine {u : State} {d : Nat} (h : u.domainOn d = true) (hd : 4 ≤ d ∧ d < 44) (cause : Nat) :
    let v := u.raise 153 [cause, d]
    u.railFault d cause = ((State.domainOff { v with power.domainFaults := v.power.domainFaults ++ [d] }) d false).reserveExpress :=
  (if_neg (by simp [h])).trans (if_pos (by simp [hd]))

theorem railFault_ports {u : State} (h : u.domainOn 45 = true) (cause : Nat) :
    let v := u.raise 153 [cause, 45]
    let y := [4, 5, 6, 7].foldl (fun s p => s.setLink p .fault) v
    let z : State := { y with
      power.domainFaults := y.power.domainFaults ++ [45], power.domains := y.power.domains.filter (· != 45) }
    u.railFault 45 cause = (z.fabric.conns.filter fun c => 4 ≤ c.port).foldl (fun s c => s.failConnection c.index) z :=
  (if_neg (by simp [h])).trans ((if_neg (by decide)).trans (if_pos (by decide)))

theorem railFault_other {u : State} {d : Nat} (h : u.domainOn d = true) (hd : d < 4 ∨ d = 44 ∨ 46 ≤ d) (cause : Nat) :
    u.railFault d cause = (u.raise 153 [cause, d]).faultReset 6 :=
  (if_neg (by simp [h])).trans ((if_neg (by simp; omega)).trans (if_neg (by simp; omega)))

/-! ### Temperatures (R523, R544) -/

theorem thermalLimit_cold {u : State} {temp : Nat} (h : temp < 100000 ∨ u.power.mode = .off) (sensor : Nat) : u.thermalLimit sensor temp = u :=
  if_pos (by obtain h | h := h <;> simp [h])

theorem thermalLimit_throttled {u : State} {temp : Nat} (h : 100000 ≤ temp) (hm : u.power.mode ≠ .off) (ht : u.power.thermal = true)
    (sensor : Nat) :
    u.thermalLimit sensor temp =
      if 105000 ≤ temp then State.fitLadder { u with power.junction := temp, power.ladderCap := min u.power.ladderCap 2 }
      else { u with power.junction := temp } := by
  have hhot : ¬ (decide (temp < 100000) || u.power.mode == .off) = true := by simp [hm, h]
  unfold State.thermalLimit
  rw [if_neg hhot]
  simp only [ht, if_true]

theorem thermalLimit_begins {u : State} {temp : Nat} (h : 100000 ≤ temp) (hm : u.power.mode = .service) (ht : u.power.thermal = false)
    (hmax : temp < 105000) (sensor : Nat) :
    u.thermalLimit sensor temp =
      (State.raise { u with
        power.junction := temp, power.thermal := true
        power.ladderCap := min u.power.ladderCap (max 1 u.power.ladder) } 151 [sensor, temp]).conditions := by
  have hhot : ¬ (decide (temp < 100000) || u.power.mode == .off) = true := by simp [hm, h]
  unfold State.thermalLimit
  rw [if_neg hhot]
  simp only [ht, hm, ladderMode, if_true, Nat.not_le.mpr hmax, if_false, Bool.false_eq_true]

/-- Throttling goes on with each measurement. -/
theorem thermalStep_cases (u : State) (temp : Nat) :
    let v : State := { u with power.junction := temp, power.hot := u.power.hot && decide (95000 ≤ temp) }
    (u.power.thermal = false → u.thermalStep temp = v) ∧
    (u.power.thermal = true →
      (105000 ≤ temp → u.thermalStep temp = State.fitLadder { v with power.ladderCap := min v.power.ladderCap 2 }) ∧
      (100000 ≤ temp → temp < 105000 → u.thermalStep temp = State.fitLadder { v with power.ladderCap := max 1 (v.power.ladder - 1) }) ∧
      (95000 ≤ temp → temp < 100000 → u.thermalStep temp = v) ∧
      (temp < 95000 →
        let w : State := { v with power.ladderCap := 33 }
        let back := w.ladderLimit ≤ v.power.ladder ∨ ladderMode u.power.mode = false
        (back → u.thermalStep temp = State.conditions { w with power.thermal := false }) ∧
        (¬ back →
          let x : State := { v with power.ladderCap := min 33 (v.power.ladder + 1) }
          u.thermalStep temp = if x.power.ladder < x.ladderLimit then x.setLadder (x.power.ladder + 1) else x))) := by
  intro v
  refine ⟨fun ht => if_pos (by simp [ht]), fun ht => ?_⟩
  have hon : ¬ (!u.power.thermal) = true := by simp [ht]
  refine ⟨fun h => (if_neg hon).trans (if_pos h), fun h h' => ?_, fun h h' => ?_, fun h => ?_⟩
  · exact (if_neg hon).trans ((if_neg (Nat.not_le.mpr h')).trans (if_pos h))
  · exact (if_neg hon).trans ((if_neg (by omega)).trans ((if_neg (Nat.not_le.mpr h')).trans (if_pos h)))
  · have hcool (y : State) (hy : (if (decide (State.ladderLimit { v with power.ladderCap := 33 } ≤ v.power.ladder) || !ladderMode u.power.mode) = true
        then State.conditions { v with power.thermal := false, power.ladderCap := 33 }
        else
          let x : State := { v with power.ladderCap := min 33 (v.power.ladder + 1) }
          if x.power.ladder < x.ladderLimit then x.setLadder (x.power.ladder + 1) else x) = y) : u.thermalStep temp = y :=
      (if_neg hon).trans ((if_neg (by omega)).trans ((if_neg (by omega)).trans ((if_neg (Nat.not_le.mpr h)).trans hy)))
    intro w back
    have hiff : (decide (State.ladderLimit { v with power.ladderCap := 33 } ≤ v.power.ladder) || !ladderMode u.power.mode) = true ↔ back := by
      simp [back, w]
    exact ⟨fun hb => hcool _ (if_pos (hiff.mpr hb)), fun hb => hcool _ (if_neg fun hc => hb (hiff.mp hc))⟩

theorem lidWarn_cases (u : State) (temp : Nat) :
    let v : State := { u with power.lid := temp }
    (temp < 75000 → u.lidWarn temp = { v with power.lidWarned := false }) ∧
    (80000 ≤ temp → u.power.lidWarned = false → u.power.mode ≠ .off →
      u.lidWarn temp = State.raise { v with power.lidWarned := true } 150 [temp]) ∧
    (75000 ≤ temp → temp < 80000 ∨ u.power.lidWarned = true ∨ u.power.mode = .off → u.lidWarn temp = v) := by
  intro v
  refine ⟨fun h => if_pos h, fun h hw hm => (if_neg (by omega)).trans (if_pos (by simp [h, hw, hm])), fun h hn =>
    (if_neg (Nat.not_lt.mpr h)).trans (if_neg ?_)⟩
  obtain hn | hn | hn := hn
  · simp [Nat.not_le.mpr hn]
  · simp [hn]
  · simp [hn]

/-- Settles O23: each row by what its operation leaves, under a supply that the spec covers. -/
theorem powerConditions : Obligations.PowerConditions := by
  unfold Obligations.PowerConditions
  intro s u t hu
  subst hu
  intro m atVin
  have hat {vin : Nat} {y : State} (e : Host.Outcome State Fault Refusal) (x : State) (he : e = withVin vin x.settle) (hx : x = y) : atVin vin e y :=
    fun hvin => ⟨x, he.trans (withVin_covered hvin _), hx⟩
  refine ⟨fun vin => ?warn, fun vin hvin => ?exit, fun vin => ?derated, fun x hd hm => conditions_of_service hd hm,
    fun x hm hc hl => leaveDerated_whole hm hc hl, fun current => ?current, fun d excess => ?rail, fun sensor temp => ?limit, fun temp => ?step,
    fun temp => ?lid⟩
  case warn =>
    refine ⟨fun h => hat _ _ rfl (vinWarned_above h), fun h => ⟨fun hm => hat _ _ rfl (vinWarned_holds h hm), fun hm => ?_, fun hm => ?_,
      fun hm hp => ?_, fun hm => ?_⟩⟩
    · exact hat _ _ rfl (vinWarned_mode h hm rfl)
    · exact hat _ _ rfl (vinWarned_mode h hm rfl)
    · exact hat _ _ rfl ((vinWarned_mode h hm rfl).trans ((if_neg (by decide)).trans ((if_neg (by decide)).trans (if_pos ⟨rfl, hp⟩))))
    · obtain hm | hm | ⟨hm, hp⟩ := hm
      · exact hat _ _ rfl (vinWarned_mode h hm rfl)
      · exact hat _ _ rfl (vinWarned_mode h hm rfl)
      · exact hat _ _ rfl ((vinWarned_mode h hm rfl).trans ((if_neg (by decide)).trans ((if_neg (by decide)).trans (if_neg fun hc => by simp [hp] at hc))))
  case exit =>
    have hr (x : State) : withVin vin x = .next x := withVin_covered hvin x
    refine ⟨fun h => ⟨_, hr _, exitHold_stays h⟩, fun hm hv hh hfull hth hdip => ?_⟩
    have he := exitHold_eq hm hv hh
    have hs := resumeMode_service (v := (s.advance t).noteVin vin) (3 ≤ (s.advance t).power.holdBegins.length) (if_pos hfull) hth hdip rfl
    exact ⟨fun hn => ⟨_, hr _, by rw [he, hs, if_neg hn]⟩, fun hy => ⟨_, hr _, by rw [he, hs, if_pos hy]⟩⟩
  case derated =>
    refine ⟨fun h hm => ?_, fun h hvin => ?_, fun h => hat _ _ rfl (deratedTimer_derated h),
      fun h hl hc => hat _ _ rfl (deratedTimer_clear h hl hc), fun h => hat _ _ rfl (ladderUp_off rfl h),
      fun h hm hl => hat _ _ rfl ((ladderUp_on rfl h).1 hm hl), fun h hn => hat _ _ rfl ((ladderUp_on rfl h).2 hn), fun current => ?_⟩
    · refine hat _ _ (congrArg (withVin vin) (if_pos ?_)) rfl
      exact Bool.and_eq_true_iff.mpr ⟨decide_eq_true h, bne_iff_ne.mpr hm⟩
    · refine (withVin_covered hvin _).trans (congrArg _ (if_neg fun hc => ?_))
      obtain ⟨hlow, hon⟩ := Bool.and_eq_true_iff.mp hc
      exact h.elim (fun h => Nat.not_lt.mpr h (of_decide_eq_true hlow)) fun h => bne_iff_ne.mp hon h
    · obtain ⟨hdown, hlast, hnone⟩ := powerOver_cases ((s.advance t).noteVin vin).conditions current vin
      exact ⟨fun h hl => hat _ _ rfl (hdown h hl), fun h hl => hat _ _ rfl (hlast h hl), fun h => hat _ _ rfl (hnone h),
        fun hm => ⟨hat _ _ rfl (currentLimit_rail hm none _ _), fun d => hat _ _ rfl (currentLimit_rail hm (some d) _ _)⟩⟩
  case current =>
    obtain ⟨hnot, hdown, hlast, hup⟩ := currentStep_cases (s.advance t) current
    exact ⟨fun h => ⟨_, rfl, hnot h⟩, fun h hc hl => ⟨_, rfl, hdown h hc hl⟩, fun h hc hl => ⟨_, rfl, hlast h hc hl⟩,
      fun h hc hl => ⟨_, rfl, hup h hc hl⟩⟩
  case rail =>
    refine ⟨fun h => ⟨_, rfl, railFault_off h _⟩, fun h hd hd' => ⟨_, rfl, railFault_engine h ⟨hd, hd'⟩ _⟩, fun h hd => ?_,
      fun h hd => ⟨_, rfl, railFault_other h hd _⟩⟩
    subst hd
    exact ⟨_, rfl, railFault_ports h _⟩
  case limit =>
    refine ⟨fun h => ⟨_, rfl, thermalLimit_cold h _⟩, fun h hm ht hmax => ?_, fun h hm ht hmax => ⟨_, rfl, thermalLimit_begins h hm ht hmax _⟩,
      fun h hm ht => ⟨_, rfl, (thermalLimit_throttled (by omega) hm ht _).trans (if_pos h)⟩⟩
    exact ⟨_, rfl, (thermalLimit_throttled h hm ht _).trans (if_neg (Nat.not_le.mpr hmax))⟩
  case step =>
    obtain ⟨hoff, hon⟩ := thermalStep_cases (s.advance t) temp
    refine ⟨fun h => ⟨_, rfl, hoff h⟩, fun h => ?_⟩
    obtain ⟨hmax, hdown, hstay, hback⟩ := hon h
    exact ⟨fun h => ⟨_, rfl, hmax h⟩, fun h h' => ⟨_, rfl, hdown h h'⟩, fun h h' => ⟨_, rfl, hstay h h'⟩,
      fun h => ⟨fun hb => ⟨_, rfl, (hback h).1 hb⟩, fun hb => ⟨_, rfl, (hback h).2 hb⟩⟩⟩
  case lid =>
    obtain ⟨hcool, hwarn, hkeep⟩ := lidWarn_cases (s.advance t) temp
    exact ⟨fun h => congrArg _ (hcool h), fun h hw hm => congrArg _ (hwarn h hw hm), fun h hn => congrArg _ (hkeep h hn)⟩

end Sys2Proof.Machine
end

/-! Keying, liveness and replication between Train members (15 R445 to R457, R460; 09 R292). -/
section
namespace Sys2Proof.Machine

/-! ### Peers -/

section
variable {u : State} {i : Nat} {p : Peer} (hp : u.peer? i = some p)
include hp

theorem peer?_index : p.index = i := by simpa using List.find?_some hp

theorem peer?_modPeer_self (g : Peer → Peer) (hg : ∀ x, (g x).index = x.index) : (u.modPeer i g).peer? i = some (g p) := by
  rw [State.peer?_modPeer u i i g hg, hp]
  simp

omit hp in
theorem peer?_modPeer_other (g : Peer → Peer) (hg : ∀ x, (g x).index = x.index) {k : Nat} (hk : k ≠ i) :
    (u.modPeer i g).peer? k = u.peer? k := by
  rw [State.peer?_modPeer u i k g hg]
  cases u.peer? k with
  | none => rfl
  | some y => simp [hk]

omit hp in
theorem modPeer_modPeer (f g : Peer → Peer) (hf : ∀ x, (f x).index = x.index) :
    (u.modPeer i f).modPeer i g = u.modPeer i fun x => g (f x) := by
  have hlist : mapIf (fun x : Peer => x.index == i) g (mapIf (fun x => x.index == i) f u.train.peers) =
      mapIf (fun x => x.index == i) (fun x => g (f x)) u.train.peers := by
    unfold mapIf
    rw [List.map_map]
    refine List.map_congr_left fun x _ => ?_
    by_cases hx : x.index = i <;> simp [hx, hf]
  unfold State.modPeer
  dsimp only
  rw [hlist]

/-! ### Keying (R448) -/

variable {m : TrainMsg} (hsrc : msgSrc m = i)
include hsrc

/-- A HELLO in form is answered: the same one with the same reply, another with a reply just made. -/
theorem hello_taken (hok : u.trainMsgOk m 1 = true) (hi : i < u.deviceIndex) (hlen : m.body.length = 4345) (hkeys : u.helloKeysOk i m.body = true) :
    u.hello m =
      if p.hello == m.body && !p.reply.isEmpty then u.sendBoot m.port i 2 p.reply
      else match u.drawNow 64 with
        | (s, none) => s
        | (s, some r) =>
          let ek := helloEk m.body
          let reply := s.helloBody (r.take 32) ++ kemEncC 3 ek (r.drop 32)
          (s.modPeer i fun x => { x with
            hello := m.body, reply := reply, k1 := kemEncK 3 ek (r.drop 32), identity := helloIdentity m.body }).sendBoot m.port i 2 reply := by
  subst hsrc
  have htaken : ¬ (!u.trainMsgOk m 1 || u.deviceIndex ≤ msgSrc m || m.body.length != helloLen || !u.helloKeysOk (msgSrc m) m.body) = true := by
    simp [hok, hi, hlen, hkeys, helloLen]
  unfold State.hello
  dsimp only
  rw [if_neg htaken, hp] <;> rfl

theorem helloReply_taken (hok : u.trainMsgOk m 2 = true) (hi : u.deviceIndex < i) (hlen : m.body.length = 5913)
    (hkeys : u.helloKeysOk i m.body = true) :
    u.helloReply m =
      if p.hello.isEmpty then u
      else match u.drawNow 32 with
        | (s, none) => s
        | (s, some r) =>
          let ek := helloEk m.body
          let c := kemEncC 3 ek r
          let k := kemDecK 3 s.linkSeed (m.body.drop helloLen) ++ kemEncK 3 ek r
          let th := sha3 (p.hello ++ m.body)
          let s := s.sendBoot m.port i 3 (c ++ trainFin k th c)
          let s := s.modPeer i fun x => { x with identity := helloIdentity m.body }
          s.installPair i m.port (trainSk k th) := by
  subst hsrc
  have htaken : ¬ (!u.trainMsgOk m 2 || msgSrc m ≤ u.deviceIndex || m.body.length != helloLen + 1568 || !u.helloKeysOk (msgSrc m) m.body) = true := by
    simp [hok, hi, hlen, hkeys, helloLen]
  unfold State.helloReply
  dsimp only
  rw [if_neg htaken, hp] <;> rfl

theorem helloConfirm_taken (hok : u.trainMsgOk m 3 = true) (hi : i < u.deviceIndex) (hlen : m.body.length = 1600) (hreply : p.reply ≠ []) :
    let c := m.body.take 1568
    let k := p.k1 ++ kemDecK 3 u.linkSeed c
    let th := sha3 (p.hello ++ p.reply)
    u.helloConfirm m = if m.body.drop 1568 = trainFin k th c then u.installPair i m.port (trainSk k th) else u := by
  subst hsrc
  have htaken : ¬ (!u.trainMsgOk m 3 || u.deviceIndex ≤ msgSrc m || m.body.length != 1600) = true := by simp [hok, hi, hlen]
  have hr : ¬ p.reply.isEmpty = true := by simpa using hreply
  intro c k th
  unfold State.helloConfirm
  dsimp only
  rw [if_neg htaken, hp]
  refine (if_neg hr).trans (if_congr ?_ rfl rfl)
  exact beq_iff_eq

omit hp hsrc in
theorem hello_refused (h : u.trainMsgOk m 1 = false ∨ u.deviceIndex ≤ msgSrc m) : u.hello m = u := by
  unfold State.hello
  exact if_pos (by obtain h | h := h <;> simp [h])

omit hp hsrc in
theorem helloReply_refused (h : u.trainMsgOk m 2 = false ∨ msgSrc m ≤ u.deviceIndex) : u.helloReply m = u := by
  unfold State.helloReply
  exact if_pos (by obtain h | h := h <;> simp [h])

omit hp hsrc in
theorem helloConfirm_refused (h : u.trainMsgOk m 3 = false ∨ u.deviceIndex ≤ msgSrc m) : u.helloConfirm m = u := by
  unfold State.helloConfirm
  exact if_pos (by obtain h | h := h <;> simp [h])

omit hp hsrc in
/-- A keying message goes out under the bootstrap association. -/
theorem sendBoot_eq (port type : Nat) (body : Bytes) :
    u.sendBoot port i type body =
      ({ u.ensureMark with train.bootPn := u.train.bootPn + 1 } : State).emit (.train port i (u.bootSec port)
        (trainHeader type 0 u.deviceIndex i body.length 0 u.clock.train 0) body) := by
  unfold State.sendBoot State.ensureMark
  dsimp only
  split <;> rfl

/-! ### Timers (R448, R450, R451) -/

omit hsrc

theorem helloTimer_eq :
    let due := p.lastHello = none ∨ ∃ l, p.lastHello = some l ∧ l + 100000000 ≤ u.clock.now
    let unfinished := p.keyed = false ∨ p.hello ≠ []
    (due → unfinished → u.helloTimer i = u.startKeying i) ∧ (¬ due ∨ ¬ unfinished → u.helloTimer i = u) := by
  intro due unfinished
  have hdue : (match p.lastHello with | some t => u.elapsed t (100 * ms) | none => true) = true ↔ due := by
    cases hl : p.lastHello with
    | none => simp [due, hl]
    | some l =>
      have hlast : due ↔ l + 100000000 ≤ u.clock.now := by simp [due, hl]
      exact decide_eq_true_iff.trans hlast.symm
  have hopen : (!p.keyed || !p.hello.isEmpty) = true ↔ unfinished := by simp [unfinished]
  have he : u.helloTimer i =
      if (match p.lastHello with | some t => u.elapsed t (100 * ms) | none => true) && (!p.keyed || !p.hello.isEmpty) then u.startKeying i
      else u := by
    unfold State.helloTimer
    rw [hp] <;> rfl
  refine ⟨fun h h' => he.trans (if_pos (Bool.and_eq_true_iff.mpr ⟨hdue.mpr h, hopen.mpr h'⟩)), fun h => he.trans (if_neg fun hc => ?_)⟩
  obtain ⟨hd, ho⟩ := Bool.and_eq_true_iff.mp hc
  exact h.elim (fun h => h (hdue.mp hd)) fun h => h (hopen.mp ho)

theorem rekeyTimer_eq :
    let due := p.keyedAt + 86400000000000 ≤ u.clock.now ∨ 2 ^ 62 ≤ p.txPn ∨ 2 ^ 62 ≤ p.rxPn
    (p.keyed = true → due → u.rekeyTimer i = u.startKeying i) ∧ (p.keyed = false ∨ ¬ due → u.rekeyTimer i = u) := by
  intro due
  have hday : 86400000 * ms = 86400000000000 := rfl
  have hiff : (p.keyed && (u.elapsed p.keyedAt (86400000 * ms) || 2 ^ 62 ≤ p.txPn || 2 ^ 62 ≤ p.rxPn)) = true ↔ p.keyed = true ∧ due := by
    rw [hday]
    simp only [due, State.elapsed, Bool.and_eq_true, Bool.or_eq_true, decide_eq_true_eq, or_assoc]
  have he : u.rekeyTimer i =
      if p.keyed && (u.elapsed p.keyedAt (86400000 * ms) || 2 ^ 62 ≤ p.txPn || 2 ^ 62 ≤ p.rxPn) then u.startKeying i else u := by
    unfold State.rekeyTimer
    rw [hp]
  refine ⟨fun h h' => he.trans (if_pos (hiff.mpr ⟨h, h'⟩)), fun h => he.trans (if_neg fun hc => ?_)⟩
  obtain ⟨hk, hd⟩ := hiff.mp hc
  exact h.elim (fun h => by simp [h] at hk) fun h => h hd

theorem oldSaExpiry_peers {a since : Nat} (ho : p.oldAssoc = some (a, since)) :
    (u.oldSaExpiry i).peer? i = some (if since + 100000000 ≤ u.clock.now then { p with oldAssoc := none } else p) ∧
      ∀ k, k ≠ i → (u.oldSaExpiry i).peer? k = u.peer? k := by
  let drop (p : Peer) : Peer :=
    match p.oldAssoc with
    | some (_, at') => if u.elapsed at' (100 * ms) then { p with oldAssoc := none } else p
    | none => p
  have hdrop (x : Peer) : (drop x).index = x.index := by
    simp only [drop]
    split
    · split <;> rfl
    · rfl
  have hself : drop p = if since + 100000000 ≤ u.clock.now then { p with oldAssoc := none } else p := by
    have hms : 100 * ms = 100000000 := rfl
    simp only [drop, ho, State.elapsed, hms, decide_eq_true_eq]
  exact ⟨(peer?_modPeer_self hp drop hdrop).trans (congrArg some hself), fun k hk => peer?_modPeer_other drop hdrop hk⟩

theorem liveTimer_eq :
    (p.keyed = true → p.lastTx + 100000000 ≤ u.clock.now → u.liveTimer i = (u.sendPeer i 0x10 0 []).1) ∧
      (p.keyed = false ∨ ¬ p.lastTx + 100000000 ≤ u.clock.now → u.liveTimer i = u) := by
  have he : u.liveTimer i = if p.keyed && u.elapsed p.lastTx (100 * ms) then (u.sendPeer i 0x10 0 []).1 else u := by
    unfold State.liveTimer
    rw [hp]
    rfl
  have hms : 100 * ms = 100000000 := rfl
  refine ⟨fun h h' => he.trans (if_pos ?_), fun h => he.trans (if_neg ?_)⟩
  · simp only [State.elapsed, hms, h, h', decide_true, Bool.and_self]
  · obtain h | h := h <;> simp [State.elapsed, hms, h]

theorem silence_eq :
    (p.keyed = true → p.lastRx + 300000000 ≤ u.clock.now → u.silence i = u.peerDown i 1) ∧
      (p.keyed = false ∨ ¬ p.lastRx + 300000000 ≤ u.clock.now → u.silence i = u) := by
  have he : u.silence i = if p.keyed && u.elapsed p.lastRx (300 * ms) then u.peerDown i 1 else u := by
    unfold State.silence
    rw [hp]
  have hms : 300 * ms = 300000000 := rfl
  refine ⟨fun h h' => he.trans (if_pos ?_), fun h => he.trans (if_neg ?_)⟩
  · simp only [State.elapsed, hms, h, h', decide_true, Bool.and_self]
  · obtain h | h := h <;> simp [State.elapsed, hms, h]

theorem keyingTimeout_eq :
    let due := u.train.state = .joining ∧ p.keyed = false ∧ u.train.joinSince + 1500000000 ≤ u.clock.now
    (due → u.keyingTimeout i = u.peerDown i 3) ∧ (¬ due → u.keyingTimeout i = u) := by
  intro due
  have hms : 1500 * ms = 1500000000 := rfl
  have hiff : (u.train.state == .joining && !p.keyed && u.elapsed u.train.joinSince (1500 * ms)) = true ↔ due := by
    rw [hms]
    simp only [due, State.elapsed, Bool.and_eq_true, beq_iff_eq, Bool.not_eq_true', decide_eq_true_eq, and_assoc]
  have he : u.keyingTimeout i =
      if u.train.state == .joining && !p.keyed && u.elapsed u.train.joinSince (1500 * ms) then u.peerDown i 3 else u := by
    unfold State.keyingTimeout
    rw [hp]
  exact ⟨fun h => he.trans (if_pos (hiff.mpr h)), fun h => he.trans (if_neg fun hc => h (hiff.mp hc))⟩

end

theorem joining_iff (u : State) : u.joining = true ↔ u.train.state = .joining ∧ u.power.mode = .trainJoin := by
  simp [State.joining]

/-! ### Messages inside an association (R447, R450, R451) -/

theorem receive_index (p : Peer) (m : TrainMsg) (now : Nat) : (p.receive m now).index = p.index := by
  unfold Peer.receive Peer.hears
  dsimp only
  split <;> rfl

theorem receive_down (p : Peer) (m : TrainMsg) (now : Nat) : (p.receive m now).down = p.down := by
  unfold Peer.receive Peer.hears
  dsimp only
  split <;> rfl

theorem receive_current {p : Peer} {m : TrainMsg} (now : Nat) (h : m.assocNo = p.assoc) :
    let q := p.receive m now
    q.lastRx = now ∧ (m.port, now) ∈ q.heard ∧ q.pushes = p.pushes.filter (fun x => msgAck m < x.seq) ∧
      q.rxSeq = (if msgSeq m = p.rxSeq + 1 then msgSeq m else p.rxSeq) := by
  intro q
  have hq : q = { p.hears m.port now with
      pushes := p.pushes.filter fun x => msgAck m < x.seq, rxPn := max p.rxPn m.pn
      rxSeq := if msgSeq m == p.rxSeq + 1 then msgSeq m else p.rxSeq } := if_neg (by simp [Peer.hears, h])
  rw [hq]
  refine ⟨rfl, List.mem_append_right _ (List.mem_singleton.mpr rfl), rfl, ?_⟩
  exact if_congr beq_iff_eq rfl rfl

section
variable {u : State} {i : Nat} {p : Peer} {m : TrainMsg} (hp : u.peer? i = some p) (hsrc : msgSrc m = i) (hassoc : u.assocOk p m = true)
include hp

/-- The peer as a message from it leaves it. -/
theorem peer?_received : (u.modPeer i fun x => x.receive m u.clock.now).peer? i = some (p.receive m u.clock.now) :=
  peer?_modPeer_self hp (fun x => x.receive m u.clock.now) fun x => receive_index x m _

include hsrc hassoc

theorem receive_accepted {type : Nat} (hok : u.trainMsgOk m type = true) :
    u.receive m type = some (p, u.modPeer i fun x => x.receive m u.clock.now) := by
  subst hsrc
  unfold State.receive
  rw [hp]
  dsimp only
  rw [hok, hassoc, peer?_index hp]
  rfl

omit hsrc hassoc in
theorem peerBack_received :
    let v := u.modPeer i fun x => x.receive m u.clock.now
    v.peerBack i = if p.down then (v.modPeer i fun x => { x with down := false }).startDigest i else v := by
  intro v
  unfold State.peerBack
  rw [peer?_received hp]
  dsimp only
  rw [receive_down]

theorem live_received {type : Nat} (hok : u.trainMsgOk m type = true) :
    let v := u.modPeer i fun x => x.receive m u.clock.now
    u.live m type = if p.down then (v.modPeer i fun x => { x with down := false }).startDigest i else v := by
  unfold State.live
  rw [receive_accepted hp hsrc hassoc hok]
  dsimp only
  rw [peer?_index hp, peerBack_received hp]

theorem leaveMsg_received (hok : u.trainMsgOk m 0x11 = true) :
    u.leaveMsg m = (u.modPeer i fun x => x.receive m u.clock.now).peerDown i 4 := by
  unfold State.leaveMsg
  rw [receive_accepted hp hsrc hassoc hok]
  dsimp only
  rw [peer?_index hp]

end

/-- Settles O25: the messages of an exchange by their form, the timers by what is due, a message in an association by what it shows. -/
theorem trainAssociations : Obligations.TrainAssociations := by
  unfold Obligations.TrainAssociations
  intro s u t i p hu hp
  subst hu
  intro long
  refine ⟨fun m hsrc hok hi hlen hkeys => ?hello, fun m hsrc hok hi hlen hkeys => ?reply, fun m hsrc hok hi hlen hr => ?confirm,
    fun port type body => ⟨_, sendBoot_eq port type body⟩, fun m h => congrArg _ (hello_refused h), fun m h => ⟨_, rfl, helloReply_refused h⟩,
    fun m h => ⟨_, rfl, helloConfirm_refused h⟩, ?helloTimer, ?rekey, fun a since ho => ⟨_, rfl, oldSaExpiry_peers hp ho⟩,
    fun m hsrc hassoc => ?inside, fun m h => receive_current _ h, fun h h' => congrArg _ ((liveTimer_eq hp).1 h h'),
    fun h => congrArg _ ((liveTimer_eq hp).2 h), fun h h' => congrArg _ ((silence_eq hp).1 h h'), fun h => congrArg _ ((silence_eq hp).2 h), ?keying,
    ?join⟩
  case hello =>
    have he := hello_taken hp hsrc hok hi hlen hkeys
    have hknown : (p.hello == m.body && !p.reply.isEmpty) = true ↔ p.hello = m.body ∧ p.reply ≠ [] := by simp
    refine ⟨fun h => congrArg _ (he.trans (if_pos (hknown.mpr h))), fun v h hd => ?_, fun v r h hd => ?_⟩
    · refine congrArg Host.Outcome.next (he.trans ((if_neg fun hc => h (hknown.mp hc)).trans ?_))
      rw [hd]
    · refine congrArg Host.Outcome.next (he.trans ((if_neg fun hc => h (hknown.mp hc)).trans ?_))
      rw [hd]
      rfl
  case reply =>
    have he := helloReply_taken hp hsrc hok hi hlen hkeys
    refine ⟨fun h => ⟨_, rfl, he.trans (if_pos (by simp [h]))⟩, fun v r h hd => ⟨_, rfl, he.trans ((if_neg (by simpa using h)).trans ?_)⟩⟩
    rw [hd]
    rfl
  case confirm =>
    exact ⟨_, rfl, helloConfirm_taken hp hsrc hok hi hlen hr⟩
  case helloTimer =>
    obtain ⟨hdue, hnot⟩ := helloTimer_eq hp
    exact ⟨fun h h' => congrArg _ (hdue h h'), fun h => congrArg _ (hnot h)⟩
  case rekey =>
    obtain ⟨hdue, hnot⟩ := rekeyTimer_eq hp
    exact ⟨fun h h' => congrArg _ (hdue h h'), fun h => congrArg _ (hnot h)⟩
  case inside =>
    exact ⟨fun hok => ⟨_, rfl, live_received hp hsrc hassoc hok⟩, fun hok => congrArg _ (live_received hp hsrc hassoc hok),
      fun hok => congrArg _ (leaveMsg_received hp hsrc hassoc hok)⟩
  case keying =>
    obtain ⟨hdue, hnot⟩ := keyingTimeout_eq hp
    exact ⟨fun h => congrArg _ (hdue h), fun h => congrArg _ (hnot h)⟩
  case join =>
    have hms : 2000 * ms = 2000000000 := rfl
    intro joining done ends
    have hjoin : (s.advance t).joining = true ↔ joining := joining_iff _
    refine ⟨fun hj hl => ⟨_, congrArg Host.Outcome.next (if_pos ?_), rfl⟩, fun h => congrArg Host.Outcome.next (if_neg ?_),
      fun hj hall => ⟨_, congrArg Host.Outcome.next (if_pos ?_), rfl⟩, fun h => congrArg Host.Outcome.next (if_neg ?_)⟩
    · exact Bool.and_eq_true_iff.mpr ⟨hjoin.mpr hj, decide_eq_true hl⟩
    · intro hc
      obtain ⟨hj, hl⟩ := Bool.and_eq_true_iff.mp hc
      exact h.elim (fun h => h (hjoin.mp hj)) fun h => h (of_decide_eq_true hl)
    · exact Bool.and_eq_true_iff.mpr ⟨hjoin.mpr hj, List.all_eq_true.mpr hall⟩
    · intro hc
      obtain ⟨hj, hall⟩ := Bool.and_eq_true_iff.mp hc
      refine h.elim (fun h => h (hjoin.mp hj)) fun ⟨x, hx, hn⟩ => ?_
      rw [List.all_eq_true.mp hall x hx] at hn
      exact absurd hn (by decide)

end Sys2Proof.Machine
end

/-! Digests and pushes between Train members (09 R292; 15 R447, R452 to R455). -/
section
namespace Sys2Proof.Machine

/-! ### A digest (R452) -/

section
variable {u : State} {i : Nat} {p : Peer} {m : TrainMsg} (hp : u.peer? i = some p) (hup : p.down = false) (hsrc : msgSrc m = i)
  (hassoc : u.assocOk p m = true)
include hp hup hsrc hassoc

omit hsrc hassoc in
/-- What a message in an association adds, from a peer that is up. -/
theorem peerBack_up : (u.modPeer i fun x => x.receive m u.clock.now).peerBack i = u.modPeer i fun x => x.receive m u.clock.now := by
  rw [peerBack_received hp, hup]
  rfl

/-- A part of a digest, with what a new exchange forgets. -/
def Peer.addDigest (x : Peer) (es : List (Nat × (Nat × Nat))) : Peer :=
  let y := if x.digestRecv then { x with digestRecv := false, digestSent := false, digest := [] } else x
  { y with digest := y.digest ++ es }

theorem digest_received (hok : u.trainMsgOk m 0x21 = true) :
    let v := u.modPeer i fun x => x.receive m u.clock.now
    let got := v.modPeer i fun x => x.addDigest (digestOf m.body)
    u.digest m =
      if m.assocNo = p.assoc ∧ msgSeq m ≤ p.rxSeq then v
      else if 370 ≤ (digestOf m.body).length then got
      else ((got.modPeer i fun x => { x with digestRecv := true }).startDigest i).catchUp i := by
  intro v got
  have hold : (m.assocNo == p.assoc && decide (msgSeq m ≤ p.rxSeq)) = true ↔ m.assocNo = p.assoc ∧ msgSeq m ≤ p.rxSeq := by simp
  unfold State.digest
  rw [receive_accepted hp hsrc hassoc hok]
  dsimp only
  rw [peer?_index hp, peerBack_up hp hup]
  exact if_congr hold rfl rfl

/-! ### A push arrives (R454, R455) -/

theorem push_received (hok : u.trainMsgOk m 0x20 = true) :
    let v := u.modPeer i fun x => x.receive m u.clock.now
    let x := pushOfBody m.body (msgSeq m)
    let held : State := { v with train.heldPushes := v.train.heldPushes ++ [(i, x)] }
    let next := m.assocNo = p.assoc ∧ msgSeq m = p.rxSeq + 1
    (¬ next → u.push m = v.ackPeer i) ∧
    (next → (∃ h ∈ u.train.heldPushes, h.1 = i) → u.push m = held) ∧
    (next → (∀ h ∈ u.train.heldPushes, h.1 ≠ i) →
      u.push m = match v.takePush x with
        | (s, true) => s.ackPeer i
        | (s, false) => { s with train.heldPushes := s.train.heldPushes ++ [(i, x)] }) := by
  intro v x held next
  have he : u.push m =
      if m.assocNo != p.assoc || msgSeq m != p.rxSeq + 1 then v.ackPeer i
      else if u.train.heldPushes.any (·.1 == i) then held
      else match v.takePush x with
        | (s, true) => s.ackPeer i
        | (s, false) => { s with train.heldPushes := s.train.heldPushes ++ [(i, x)] } := by
    unfold State.push
    rw [receive_accepted hp hsrc hassoc hok]
    dsimp only
    rw [peer?_index hp, peerBack_up hp hup] <;> rfl
  have hother : (m.assocNo != p.assoc || msgSeq m != p.rxSeq + 1) = true ↔ ¬ next := by
    simp only [next, Bool.or_eq_true, bne_iff_ne]
    exact not_and_or.symm
  refine ⟨fun h => he.trans (if_pos (hother.mpr h)), fun h hheld => ?_, fun h hnone => ?_⟩
  · exact he.trans ((if_neg fun hc => hother.mp hc h).trans (if_pos (by simpa using hheld)))
  · refine he.trans ((if_neg fun hc => hother.mp hc h).trans (if_neg ?_))
    rw [List.any_eq_true]
    exact fun ⟨h, hmem, hi⟩ => hnone h hmem (beq_iff_eq.mp hi)

end

theorem takePush_hold {v : State} {x : Push} (h : v.pushFate x = .hold) : v.takePush x = (v, false) := by
  unfold State.takePush
  rw [h]

theorem takePush_ignore {v : State} {x : Push} (h : v.pushFate x = .ignore) : v.takePush x = (v, true) := by
  unfold State.takePush
  rw [h]

theorem takePush_refuse {v : State} {x : Push} {cause : Nat} (h : v.pushFate x = .refuse cause) :
    v.takePush x = (v.raise 213 [x.object, cause], true) := by
  unfold State.takePush
  rw [h]

theorem takePush_apply {v : State} {x : Push} (h : v.pushFate x = .apply) :
    v.takePush x = (if x.object < 2 ^ 14 then v.applySlotPush x.object x else v.applyKeyPush (x.object - 2 ^ 30) x, true) := by
  unfold State.takePush
  rw [h]

/-! ### The fate of a push (R292, R453, R454) -/

section
variable {v : State} {x : Push} (hm : v.power.mode ≠ .hold)
include hm

theorem pushFate_slot (h : x.object < 2 ^ 14) : v.pushFate x = v.slotPushFate x.object x := by
  unfold State.pushFate
  rw [if_neg (by simpa using hm), if_pos h]

theorem pushFate_key {c : Nat} (hc : c < 4096) (h : x.object = 2 ^ 30 + c) : v.pushFate x = v.keyPushFate c x := by
  have hslot : ¬ x.object < 2 ^ 14 := by omega
  have hkey : (decide (2 ^ 30 ≤ x.object) && decide (x.object < 2 ^ 30 + 4096)) = true := by
    rw [Bool.and_eq_true, decide_eq_true_eq, decide_eq_true_eq]
    omega
  have hindex : x.object - 2 ^ 30 = c := by omega
  unfold State.pushFate
  rw [if_neg (by simpa using hm), if_neg hslot, if_pos hkey, hindex]

end

/-- A slot push that is not above the slot's version is ignored. -/
theorem slotPushFate_old {v : State} {slot : Nat} {x : Push} (h : ¬ versionAbove x.version (v.slotVersion slot) = true) :
    v.slotPushFate slot x = .ignore := by
  unfold State.slotPushFate
  exact if_pos (by simpa using h)

/-- A slot push above the slot's version, where the slot has a record. -/
theorem slotPushFate_record {v : State} {slot : Nat} {x : Push} {r : SlotRecord} (h : versionAbove x.version (v.slotVersion slot) = true)
    (hr : v.slotRecord? slot = some r) :
    (r.header.state = .corked → v.slotPushFate slot x = .refuse 2) ∧
    (r.header.state ≠ .corked → bit r.header.masters 3 = false → v.slotPushFate slot x = .refuse 1) ∧
    (r.header.state ≠ .corked → bit r.header.masters 3 = true → x.destroy = true →
      v.slotPushFate slot x = if v.placeFree then .apply else .hold) ∧
    (r.header.state ≠ .corked → bit r.header.masters 3 = true → x.destroy = false → sameAttributes r.header (headerOf x.header) = false →
      v.slotPushFate slot x = .refuse 3) := by
  have hnew : ¬ (!versionAbove x.version (v.slotVersion slot)) = true := by simp [h]
  have htrain : r.header.train = bit r.header.masters 3 := rfl
  refine ⟨fun hc => ?_, fun hc ht => ?_, fun hc ht hd => ?_, fun hc ht hd hs => ?_⟩ <;> unfold State.slotPushFate <;> refine (if_neg hnew).trans ?_ <;>
    rw [hr] <;> dsimp only
  · exact if_pos (by simp [hc])
  · exact (if_neg (by simpa using hc)).trans (if_pos (by simp [htrain, ht]))
  · exact (if_neg (by simpa using hc)).trans ((if_neg (by simp [htrain, ht])).trans (if_pos hd))
  · exact (if_neg (by simpa using hc)).trans ((if_neg (by simp [htrain, ht])).trans ((if_neg (by simp [hd])).trans (if_pos (by simp [hs]))))

theorem slotPushFate_gone {v : State} {slot : Nat} {x : Push} (h : versionAbove x.version (v.slotVersion slot) = true)
    (hr : v.slotRecord? slot = none) (hd : x.destroy = true) : v.slotPushFate slot x = .apply := by
  unfold State.slotPushFate
  refine (if_neg (by simp [h])).trans ?_
  rw [hr]
  exact if_pos hd

theorem keyPushFate_absent {v : State} {c : Nat} {x : Push} (h : v.carriage? c = none) : v.keyPushFate c x = .refuse 4 := by
  unfold State.keyPushFate
  rw [h]

theorem keyPushFate_present {v : State} {c : Nat} {x : Push} {k : Carriage} (h : v.carriage? c = some k) :
    v.keyPushFate c x =
      if versionAbove x.version k.keyVersion = false then .ignore else if v.placeFree then .apply else .hold := by
  unfold State.keyPushFate
  rw [h]
  exact if_congr (by simp) rfl rfl

/-! ### Messages to a peer (R447, R449, R455) -/

/-- What the frames to a peer take from the module: its index and time, its ports, its pushes held. -/
structure SameLink (u x : State) : Prop where
  clock : x.clock = u.clock
  fuses : x.fuses = u.fuses
  ports : x.ports = u.ports
  index : x.train.lastIndex = u.train.lastIndex
  roster : x.train.roster = u.train.roster
  held : x.train.heldPushes = u.train.heldPushes

theorem SameLink.refl (u : State) : SameLink u u := ⟨rfl, rfl, rfl, rfl, rfl, rfl⟩

theorem SameLink.trans {u v x : State} (a : SameLink u v) (b : SameLink v x) : SameLink u x :=
  ⟨b.clock.trans a.clock, b.fuses.trans a.fuses, b.ports.trans a.ports, b.index.trans a.index, b.roster.trans a.roster, b.held.trans a.held⟩

theorem ensureMark_sameLink (u : State) : SameLink u u.ensureMark := by
  have h := ensureMark_events u
  exact ⟨h.clock, h.fuses, h.ports, by rw [h.train], by rw [h.train], by rw [h.train]⟩

theorem modPeer_sameLink (u : State) (i : Nat) (g : Peer → Peer) : SameLink u (u.modPeer i g) := ⟨rfl, rfl, rfl, rfl, rfl, rfl⟩

theorem postPair_sameLink (u : State) (i : Nat) (h b : Bytes) : SameLink u (u.postPair i h b) := by
  unfold State.postPair
  split
  · exact .refl u
  · split
    · exact .refl u
    · exact ⟨rfl, rfl, rfl, rfl, rfl, rfl⟩

theorem SameLink.ackSeq {u x : State} (h : SameLink u x) (p : Peer) : x.ackSeq p = u.ackSeq p := by
  unfold State.ackSeq
  rw [h.held]

theorem SameLink.trainPorts {u x : State} (h : SameLink u x) : x.trainPorts = u.trainPorts := by
  have hown : x.ownMember = u.ownMember := by
    unfold State.ownMember State.ownEntry
    rw [h.roster, h.fuses]
  unfold State.trainPorts State.port?
  rw [hown, h.ports]

theorem SameLink.peerPort {u x : State} (h : SameLink u x) {p q : Peer} (hq : q.heard = p.heard) : x.peerPort q = u.peerPort p := by
  unfold State.peerPort
  rw [h.trainPorts, h.clock, hq]

theorem SameLink.macOf {u x : State} (h : SameLink u x) (port : Nat) : x.macOf port = u.macOf port := by
  have hmember (n : Nat) : x.portMember n = u.portMember n := by
    unfold State.portMember State.memberUnder State.port?
    rw [h.ports]
  unfold State.macOf State.groupPort
  rw [h.fuses, hmember, hmember]

theorem SameLink.pairSec {u x : State} (h : SameLink u x) (port : Nat) {p q : Peer} (hi : q.index = p.index) (ha : q.assoc = p.assoc)
    (hn : q.txPn = p.txPn) (hs : q.sk = p.sk) : x.pairSec port q = u.pairSec port p := by
  unfold State.pairSec State.trainSci State.deviceIndex
  rw [h.macOf, h.index, hi, ha, hn, hs]

/-- Unacknowledged pushes go out again under their numbers. -/
theorem resend_keyed {u : State} {i : Nat} {p : Peer} (hp : u.peer? i = some p) (hup : p.down = false) (hk : p.keyed = true)
    (hport : u.peerPort p ≠ none) :
    let send (x : State) (y : Push) : State :=
      x.ensureMark.postPair i (trainHeader 0x20 1 u.deviceIndex i (pushBody y).length y.seq u.clock.train (u.ackSeq p)) (pushBody y)
    u.resend i = p.pushes.foldl send u := by
  intro send
  have hsends : ¬ (!p.keyed || p.down || (u.peerPort p).isNone) = true := by simpa [hk, hup] using hport
  have hfold (l : List Push) : ∀ x : State, SameLink u x →
      l.foldl (fun s y => s.ensureMark.postPair i
        (trainHeader 0x20 1 s.ensureMark.deviceIndex i (pushBody y).length y.seq s.ensureMark.clock.train (s.ensureMark.ackSeq p)) (pushBody y)) x =
        l.foldl send x := by
    induction l with
    | nil => exact fun x _ => rfl
    | cons y l ih =>
      intro x hx
      have hmark := hx.trans (ensureMark_sameLink x)
      have hindex : x.ensureMark.deviceIndex = u.deviceIndex := hmark.index
      rw [List.foldl_cons, List.foldl_cons, hindex, hmark.clock, hmark.ackSeq]
      exact ih _ (hmark.trans (postPair_sameLink _ _ _ _))
  unfold State.resend
  rw [hp]
  exact (if_neg hsends).trans (hfold p.pushes u (.refl u))

theorem resend_unkeyed {u : State} {i : Nat} {p : Peer} (hp : u.peer? i = some p) (h : p.keyed = false ∨ u.peerPort p = none) : u.resend i = u := by
  unfold State.resend
  rw [hp]
  exact if_pos (by obtain h | h := h <;> simp [h])

/-- A message to a peer, in full: the next numbers, the peer's port, the pair's protection. -/
theorem sendPeer_eq {v : State} {i : Nat} {q : Peer} {port : Nat} (hq : v.peer? i = some q) (hport : v.peerPort q = some port)
    (type flags : Nat) (body : Bytes) :
    v.sendPeer i type flags body =
      ((v.ensureMark.modPeer i fun x => { x with txSeq := q.txSeq + 1, txPn := x.txPn + 1, lastTx := v.clock.now }).emit (.train port i
        (v.pairSec port q) (trainHeader type flags v.deviceIndex i body.length (q.txSeq + 1) v.clock.train (v.ackSeq q)) body), q.txSeq + 1) := by
  have hmark := ensureMark_sameLink v
  let number (x : Peer) : Peer := { x with txSeq := q.txSeq + 1, lastTx := v.ensureMark.clock.now }
  let w := v.ensureMark.modPeer i number
  have hlink : SameLink v w := hmark.trans (modPeer_sameLink _ _ _)
  have hpeer : w.peer? i = some (number q) := by
    refine peer?_modPeer_self (p := q) ?_ number fun _ => rfl
    unfold State.peer?
    rw [(ensureMark_events v).train]
    exact hq
  have hpost (h : Bytes) : w.postPair i h body =
      (w.modPeer i fun x => { x with txPn := x.txPn + 1, lastTx := w.clock.now }).emit (.train port i (v.pairSec port q) h body) := by
    have hto : w.peerPort (number q) = some port := (hlink.peerPort (p := q) rfl).trans hport
    unfold State.postPair
    rw [hpeer]
    dsimp only
    rw [hto]
    dsimp only
    rw [show w.pairSec port (number q) = v.pairSec port q from hlink.pairSec port rfl rfl rfl rfl]
  have hindex : v.ensureMark.deviceIndex = v.deviceIndex := hmark.index
  have hboth : (w.modPeer i fun x => { x with txPn := x.txPn + 1, lastTx := w.clock.now }) =
      v.ensureMark.modPeer i fun x => { x with txSeq := q.txSeq + 1, txPn := x.txPn + 1, lastTx := v.clock.now } := by
    refine (modPeer_modPeer number (fun x : Peer => { x with txPn := x.txPn + 1, lastTx := w.clock.now }) fun _ => rfl).trans ?_
    rw [hlink.clock]
  unfold State.sendPeer
  rw [hq]
  dsimp only
  rw [hindex, hmark.ackSeq]
  refine Prod.ext ((hpost _).trans ?_) rfl
  rw [hboth, hmark.clock]

/-- Settles O26: a digest and a push by what was received of the pair before, a push's fate by version and object. -/
theorem trainReplication : Obligations.TrainReplication := by
  unfold Obligations.TrainReplication
  intro s u t i p hu hp hup
  subst hu
  refine ⟨fun m hsrc hok hassoc => ?digest, fun m hsrc hok hassoc => ?push, fun v x hm => ?fate, fun hk hport =>
    congrArg _ (resend_keyed hp hup hk hport), fun h => congrArg _ (resend_unkeyed hp h), fun v q port type flags body hq hport => ?message⟩
  case digest =>
    have he := digest_received hp hup hsrc hassoc hok
    exact ⟨fun h => ⟨_, rfl, he.trans (if_pos h)⟩, fun h hl => ⟨_, rfl, he.trans ((if_neg h).trans (if_pos hl))⟩,
      fun h hl => ⟨_, rfl, he.trans ((if_neg h).trans (if_neg (Nat.not_le.mpr hl)))⟩⟩
  case push =>
    obtain ⟨hagain, hbehind, hnext⟩ := push_received hp hup hsrc hassoc hok
    refine ⟨fun h => ⟨_, rfl, hagain h⟩, fun h h' => ⟨_, rfl, hbehind h h'⟩, fun h h' => ?_⟩
    have he := hnext h h'
    refine ⟨fun hf => ?_, fun hf => ?_, fun cause hf => ?_, fun hf hs => ?_, fun hf hk => ?_⟩
    · rw [takePush_hold hf] at he
      exact ⟨_, rfl, he⟩
    · rw [takePush_ignore hf] at he
      exact ⟨_, rfl, he⟩
    · rw [takePush_refuse hf] at he
      exact ⟨_, rfl, he⟩
    · rw [takePush_apply hf, if_pos hs] at he
      exact ⟨_, rfl, he⟩
    · rw [takePush_apply hf, if_neg (by omega)] at he
      exact ⟨_, rfl, he⟩
  case fate =>
    refine ⟨fun hs ha => (pushFate_slot hm hs).trans (slotPushFate_old ha), fun r hs ha hr => ?_, fun hs ha hr hd =>
      (pushFate_slot hm hs).trans (slotPushFate_gone ha hr hd), fun c hc ho => ?_⟩
    · obtain ⟨hcorked, hno, hdestroy, hdiffers⟩ := slotPushFate_record ha hr
      rw [pushFate_slot hm hs]
      exact ⟨hcorked, hno, hdestroy, hdiffers⟩
    · rw [pushFate_key hm hc ho]
      exact ⟨fun h => keyPushFate_absent h, fun k h ha => (keyPushFate_present h).trans (if_pos ha),
        fun k h ha => (keyPushFate_present h).trans (if_neg (by simp [ha]))⟩
  case message =>
    intro hi
    have he := sendPeer_eq hq hport type flags body
    unfold State.pairSec State.trainSci at he
    rw [peer?_index hq] at he
    exact he

end Sys2Proof.Machine
end

/-! Maldin frames: drops, refusals, results and replies (16 R464 to R477). -/
section
namespace Sys2Proof.Machine

/-! ### What an accepted frame leaves (R468, R469, R475, R476) -/

/-- From `w` to `y` frame `f` has been accepted with outcome `out`, and waits for its reply; `engine` tells whether an engine runs it. -/
def Taken (w : State) (f : MaldinFrame) (out : MaldinOut) (engine : Bool) (y : State) : Prop :=
  ∃ x : MaldinJob,
    y.express.frames = w.express.frames ++ [x] ∧ x.id = w.express.nextFrame ∧ y.express.nextFrame = w.express.nextFrame + 1 ∧
    x.frame = f ∧ x.tRx = w.clock.train ∧ x.nRx = w.clock.now ∧ x.status = out.status ∧ x.data = out.data ∧ x.counterRefusal = out.counter ∧
    x.engine.isSome = engine ∧ w.clock.now < x.readyAt ∧ y.ports = w.ports ∧ y.fabric = w.fabric ∧ y.cellar = w.cellar ∧ y.sent = w.sent

theorem stageDelay_ge (tag : String) (use least most : Nat) : least ≤ stageDelay tag use least most := Nat.le_add_right _ _

theorem modExpress_nextFrame (s : State) (p : Nat) (g : ExpressPort → ExpressPort) : (s.modExpress p g).express.nextFrame = s.express.nextFrame := by
  unfold State.modExpress
  split <;> rfl

theorem countExpress_nextFrame (s : State) (p i : Nat) : (s.countExpress p i).express.nextFrame = s.express.nextFrame := modExpress_nextFrame s p _

theorem ensureMark_express (s : State) : s.ensureMark.express = s.express := (ensureMark_events s).express

theorem acceptFrame_nextFrame (s : State) (f : MaldinFrame) (out : MaldinOut) :
    (s.acceptFrame f out).1.express.nextFrame = s.express.nextFrame + 1 := by
  have hexcess (x : State) (b : Bool) : (if b then x.countExpress f.port 8 else x).express.nextFrame = x.express.nextFrame := by
    split
    · exact countExpress_nextFrame _ _ _
    · rfl
  refine congrArg (· + 1) ?_
  rw [modExpress_nextFrame, hexcess, countExpress_nextFrame, ensureMark_express]

/-- The frame as accepted. -/
theorem acceptFrame_job (s : State) (f : MaldinFrame) (out : MaldinOut) :
    let x := (s.acceptFrame f out).2
    x.id = s.express.nextFrame ∧ x.frame = f ∧ x.tRx = s.clock.train ∧ x.nRx = s.clock.now ∧ x.status = out.status ∧ x.data = out.data ∧
      x.counterRefusal = out.counter ∧ x.engine = none := by
  have hm := ensureMark_events s
  exact ⟨congrArg Express.nextFrame hm.express, rfl, congrArg Clock.train hm.clock, congrArg Clock.now hm.clock, rfl, rfl, rfl, rfl⟩

theorem AcceptanceFrame.rest {u x : State} (h : AcceptanceFrame u x) :
    x.clock = u.clock ∧ x.ports = u.ports ∧ x.fabric = u.fabric ∧ x.cellar = u.cellar ∧ x.sent = u.sent := by
  rw [h]
  exact ⟨rfl, rfl, rfl, rfl, rfl⟩

/-- An accepted frame is kept as it is, but for its engine, its records and the instant of its reply. -/
theorem keepFrame_taken (w : State) (f : MaldinFrame) (out : MaldinOut) (engine : Option Nat) (records : List Nat) {ready : Nat}
    (h : w.clock.now < ready) :
    Taken w f out engine.isSome
      ((w.acceptFrame f out).1.keepFrame { (w.acceptFrame f out).2 with engine := engine, records := records, readyAt := ready }) := by
  obtain ⟨hclock, hports, hfabric, hcellar, hsent⟩ := (acceptFrame_acceptance w f out).rest
  obtain ⟨hid, hframe, htrain, hnow, hstatus, hdata, hcounter, _⟩ := acceptFrame_job w f out
  have hframes := (acceptFrame_acceptance w f out).frames
  have hnext := acceptFrame_nextFrame w f out
  generalize w.acceptFrame f out = r at *
  exact ⟨_, congrArg (· ++ [_]) hframes, hid, hnext, hframe, htrain, hnow, hstatus, hdata, hcounter, rfl, h, hports, hfabric, hcellar, hsent⟩

theorem refuseFrame_taken (u : State) (f : MaldinFrame) (st : Status) : Taken u f { status := st } false (u.refuseFrame f st) := by
  have hclock := (acceptFrame_acceptance u f { status := st }).rest.1
  obtain ⟨_, _, _, _, _, _, _, hnone⟩ := acceptFrame_job u f { status := st }
  have hlate := stageDelay_ge "express check" (u.acceptFrame f { status := st }).2.id 300 1000
  have hkept := keepFrame_taken u f { status := st } none (u.acceptFrame f { status := st }).2.records
    (ready := (u.acceptFrame f { status := st }).1.clock.now + stageDelay "express check" (u.acceptFrame f { status := st }).2.id 300 1000 +
      stageDelay "express reply" (u.acceptFrame f { status := st }).2.id 200 300) (by rw [hclock]; omega)
  rw [← hnone] at hkept
  exact hkept

theorem dispatchFrame_ready {s : State} {x : MaldinJob} (h : s.expressEngines (framePool x.frame) ≠ []) (start : Nat) :
    ∃ i ready, s.dispatchFrame start x = { x with engine := some i, readyAt := ready } ∧ start + 200 ≤ ready := by
  obtain ⟨⟨i, free⟩, hi⟩ := Option.isSome_iff_exists.mp (frameEngine_isSome h)
  have hbuilt := stageDelay_ge "express reply" x.id 200 300
  refine ⟨i, max start free + resultDelay (frameCmd x.frame) x.id + stageDelay "express reply" x.id 200 300, ?_, ?_⟩
  · simp only [State.dispatchFrame, hi]
  · have := Nat.le_max_left start free
    omega

theorem dispatchFrame_none {s : State} {x : MaldinJob} (h : s.expressEngines (framePool x.frame) = []) (start : Nat) :
    s.dispatchFrame start x = { x with
      engine := none, readyAt := start + stageDelay "express reply" x.id 200 300, status := .engineUnavailable, data := [], counterRefusal := false } := by
  have hnone : s.frameEngine (framePool x.frame) = none := by
    unfold State.frameEngine
    rw [h]
    rfl
  simp only [State.dispatchFrame, hnone]

/-- With a reserved engine in service, the command runs, on the state its draw leaves. -/
theorem runFrame_taken {v w : State} {f : MaldinFrame} {keys : List JobKey} {run : State → State × MaldinOut} {out : MaldinOut}
    (h : v.expressEngines (framePool f) ≠ []) (hrun : run v = (w, out)) (hw : w.expressEngines (framePool f) = v.expressEngines (framePool f)) :
    Taken w f out true (v.runFrame f keys run) := by
  have hbusy : (v.expressEngines (framePool f)).isEmpty = false := by simpa using h
  have ha := acceptFrame_acceptance w f out
  have hclock := ha.rest.1
  obtain ⟨i, ready, hx, hready⟩ := dispatchFrame_ready (s := (w.acceptFrame f out).1)
    (x := { (w.acceptFrame f out).2 with records := keys.map (·.record) }) (by rw [ha.expressEngines]; exact fun hc => h (hw.symm.trans hc))
    ((w.acceptFrame f out).1.clock.now + stageDelay "express dispatch" (w.acceptFrame f out).2.id 400 1300)
  simp only [State.runFrame, hbusy, Bool.false_eq_true, if_false, hrun, hx]
  exact keepFrame_taken w f out (some i) (keys.map (·.record)) (ready := ready) (by rw [hclock] at hready; omega)

/-- Without one, it is answered with ENGINE_UNAVAILABLE before any draw. -/
theorem runFrame_idle {v : State} {f : MaldinFrame} {keys : List JobKey} (run : State → State × MaldinOut)
    (h : v.expressEngines (framePool f) = []) : Taken v f { status := .engineUnavailable } false (v.runFrame f keys run) := by
  have hbusy : (v.expressEngines (framePool f)).isEmpty = true := by simpa using h
  have ha := acceptFrame_acceptance v f { status := .engineUnavailable }
  have hclock := ha.rest.1
  obtain ⟨_, _, _, _, hstatus, hdata, hcounter, _⟩ := acceptFrame_job v f { status := .engineUnavailable }
  have hx := dispatchFrame_none (s := (v.acceptFrame f { status := .engineUnavailable }).1)
    (x := { (v.acceptFrame f { status := .engineUnavailable }).2 with records := keys.map (·.record) }) (by rw [ha.expressEngines]; exact h)
    ((v.acceptFrame f { status := .engineUnavailable }).1.clock.now +
      stageDelay "express dispatch" (v.acceptFrame f { status := .engineUnavailable }).2.id 400 1300)
  have hlate := stageDelay_ge "express dispatch" (v.acceptFrame f { status := .engineUnavailable }).2.id 400 1300
  have hkept := keepFrame_taken v f { status := .engineUnavailable } none (keys.map (·.record))
    (ready := (v.acceptFrame f { status := .engineUnavailable }).1.clock.now +
      stageDelay "express dispatch" (v.acceptFrame f { status := .engineUnavailable }).2.id 400 1300 +
      stageDelay "express reply" (v.acceptFrame f { status := .engineUnavailable }).2.id 200 300) (by rw [hclock]; omega)
  simp only [State.runFrame, hbusy, if_true, hx]
  generalize v.acceptFrame f { status := .engineUnavailable } = r at *
  obtain ⟨s, x⟩ := r
  simp only at hstatus hdata hcounter hkept ⊢
  have hsame (ready : Nat) : ({ x with
      engine := none, readyAt := ready, records := keys.map (·.record), status := .engineUnavailable, data := [], counterRefusal := false } : MaldinJob) =
      { x with engine := none, readyAt := ready, records := keys.map (·.record) } := by
    rw [← hstatus, ← hdata, ← hcounter]
  rw [hsame]
  exact hkept

/-! ### The rows (R468, R471) -/

/-- What a defined command runs. -/
def frameRun (c : Nat) : State → Option JobKey → Option JobKey → Bytes → State × MaldinOut :=
  match c with
  | 1 => State.ecdsaSignFrame | 2 => State.ecdsaVerifyFrame | 3 => State.ecdhFrame | 4 => State.protectFrame | 5 => State.unprotectFrame
  | _ => State.deriveFrame

/-- The row of a frame's command. -/
noncomputable def frameRow (t : Nat) (f : MaldinFrame) : Instr :=
  match frameCmd f with
  | 1 => .maldinEcdsaSign t f | 2 => .maldinEcdsaVerify t f | 3 => .maldinEcdh t f | 4 => .maldinDlmsProtect t f
  | 5 => .maldinDlmsUnprotect t f | 6 => .maldinKeyDerive t f | _ => .maldinBadCommand t f

/-- A frame that passes steps 1 to 7. -/
def State.acceptCmd (s : State) (f : MaldinFrame) : State :=
  if cmdDefined (frameCmd f) then s.serveFrame f (frameRun (frameCmd f)) else s.refuseFrame f .unknownOpcode

theorem exec_frameRow (t : Nat) (f : MaldinFrame) (s : State) :
    exec (frameRow t f) s = .next ((s.advance t).receiveFrame f true fun s => s.acceptCmd f) := by
  unfold frameRow State.acceptCmd
  generalize hc : frameCmd f = c
  have hmine : (frameCmd f == c) = true := by simp [hc]
  match c with
  | 0 | n + 7 =>
    have hbad : (!cmdDefined (frameCmd f)) = true := by simp [hc, cmdDefined]
    exact congrArg (fun b => Host.Outcome.next ((s.advance t).receiveFrame f b fun s => s.refuseFrame f .unknownOpcode)) hbad
  | 1 => exact congrArg (fun b => Host.Outcome.next ((s.advance t).receiveFrame f b fun s => s.serveFrame f State.ecdsaSignFrame)) hmine
  | 2 => exact congrArg (fun b => Host.Outcome.next ((s.advance t).receiveFrame f b fun s => s.serveFrame f State.ecdsaVerifyFrame)) hmine
  | 3 => exact congrArg (fun b => Host.Outcome.next ((s.advance t).receiveFrame f b fun s => s.serveFrame f State.ecdhFrame)) hmine
  | 4 => exact congrArg (fun b => Host.Outcome.next ((s.advance t).receiveFrame f b fun s => s.serveFrame f State.protectFrame)) hmine
  | 5 => exact congrArg (fun b => Host.Outcome.next ((s.advance t).receiveFrame f b fun s => s.serveFrame f State.unprotectFrame)) hmine
  | 6 => exact congrArg (fun b => Host.Outcome.next ((s.advance t).receiveFrame f b fun s => s.serveFrame f State.deriveFrame)) hmine

section
variable {u : State} {f : MaldinFrame} (hlink : u.linkIsUp f.port = true)
include hlink

theorem receiveFrame_foreign (h : u.frameAddressed f = false) (accept : State → State) : u.receiveFrame f true accept = u.countPort f.port 23 1 := by
  simp [State.receiveFrame, hlink, h]

theorem receiveFrame_dropped {n : Nat} (h : u.frameAddressed f = true) (hd : u.frameDrop f = some n) (accept : State → State) :
    u.receiveFrame f true accept = u.countExpress f.port n := by
  simp [State.receiveFrame, hlink, h, hd]

theorem receiveFrame_passes (h : u.frameAddressed f = true) (hd : u.frameDrop f = none) (accept : State → State) :
    u.receiveFrame f true accept = accept u := by
  simp [State.receiveFrame, hlink, h, hd]

end

theorem acceptCmd_undefined {u : State} {f : MaldinFrame} (h : frameCmd f = 0 ∨ 6 < frameCmd f) : u.acceptCmd f = u.refuseFrame f .unknownOpcode := by
  refine if_neg ?_
  simp only [cmdDefined, Bool.and_eq_true, decide_eq_true_eq]
  omega

theorem acceptCmd_defined {u : State} {f : MaldinFrame} (h₁ : 1 ≤ frameCmd f) (h₆ : frameCmd f ≤ 6) :
    u.acceptCmd f = u.serveFrame f (frameRun (frameCmd f)) := if_pos (by simp [cmdDefined, h₁, h₆])

theorem serveFrame_length {u : State} {f : MaldinFrame} (h : ¬ dataLenOk (frameCmd f) (frameSlot f) (frameLen f) = true)
    (run : State → Option JobKey → Option JobKey → Bytes → State × MaldinOut) : u.serveFrame f run = u.refuseFrame f .lengthMismatch :=
  if_pos (by simpa using h)

section
variable {u v : State} {f : MaldinFrame} (hlen : dataLenOk (frameCmd f) (frameSlot f) (frameLen f) = true)
  (run : State → Option JobKey → Option JobKey → Bytes → State × MaldinOut)
include hlen

theorem serveFrame_noKey {st : Status} (h : u.maldinKeys f = (v, .error st)) : u.serveFrame f run = v.refuseFrame f st := by
  refine (if_neg (by simp [hlen])).trans ?_
  rw [h]

theorem serveFrame_keys {key ak : Option JobKey} (h : u.maldinKeys f = (v, .ok (key, ak))) :
    u.serveFrame f run = v.runFrame f (key.toList ++ ak.toList) fun s => run s key ak (frameData f) := by
  refine (if_neg (by simp [hlen])).trans ?_
  rw [h]

end

/-! ### The drop steps (R468) -/

theorem frameDrop_length {u : State} {f : MaldinFrame} (h : be f.payload 6 2 ≠ 512) : u.frameDrop f = some 2 := by
  refine if_pos ?_
  have hne : (be f.payload 6 2 == 512) = false := by simpa using h
  simp [hne]

/-- A frame of the right length is dropped by its magic, its checks, or the mode. -/
theorem frameDrop_sized {u : State} {f : MaldinFrame} (hbe : be f.payload 6 2 = 512) (hudp : f.udpLen = 520) (hlen : f.payload.length = 512) :
    let magic := be f.payload 0 2 = 0x4D44 ∧ byteAt f.payload 2 = 2
    let sound := be f.payload 508 4 = (crc32c (f.payload.take 508)).toNat ∧ f.checksumOk = true
    (¬ magic → u.frameDrop f = some 3) ∧ (magic → ¬ sound → u.frameDrop f = some 4) ∧
      (magic → sound → u.servesExpress = false → u.frameDrop f = some 5) := by
  intro magic sound
  have hsized : ¬ (!(be f.payload 6 2 == f.udpLen - 8 && be f.payload 6 2 == 0x0200 && f.payload.length == 512)) = true := by
    simp [hbe, hudp, hlen]
  have hmagic : (!(be f.payload 0 2 == 0x4D44 && byteAt f.payload 2 == 2)) = true ↔ ¬ magic := by
    rw [Bool.not_eq_true', ← Bool.not_eq_true]
    simp only [magic, Bool.and_eq_true, beq_iff_eq]
  have hsound : (!(be f.payload 0x1FC 4 == (crc32c (f.payload.take 0x1FC)).toNat && f.checksumOk)) = true ↔ ¬ sound := by
    rw [Bool.not_eq_true', ← Bool.not_eq_true]
    simp only [sound, Bool.and_eq_true, beq_iff_eq]
  refine ⟨fun h => (if_neg hsized).trans (if_pos (hmagic.mpr h)), fun h h' => ?_, fun h h' hserves => ?_⟩
  · exact (if_neg hsized).trans ((if_neg fun hc => hmagic.mp hc h).trans (if_pos (hsound.mpr h')))
  · exact (if_neg hsized).trans ((if_neg fun hc => hmagic.mp hc h).trans ((if_neg fun hc => hsound.mp hc h').trans (if_pos (by simp [hserves]))))

/-! ### What each command answers (R471 to R473) -/

theorem blinded_served {v : State} (h : v.drawFate false = .served) (out : MaldinOut) : v.blinded out = ((v.serveDraw false 1).1, out) := by
  unfold State.blinded State.drawBlinding
  rw [h]

theorem blinded_waits {v : State} (h : v.drawFate false = .waits) (out : MaldinOut) : v.blinded out = (v, { status := .entropyNotReady }) := by
  unfold State.blinded State.drawBlinding
  rw [h]

theorem blinded_failed {v : State} (h : v.drawFate false = .failed) (out : MaldinOut) : v.blinded out = (v, { status := .entropyFailed }) := by
  unfold State.blinded State.drawBlinding
  rw [h]

theorem maldinProtect_refused {key ak : Option JobKey} {d : Bytes} {st : Status} (h : dlmsCheck true 4 0 (maldinRecord d) = some st) :
    maldinProtect key ak d = { status := st } := by
  have hc : dlmsCheck true maldinSuite 0 (maldinRecord d) = some st := h
  unfold maldinProtect
  rw [hc]

theorem maldinProtect_ok {key ak : Option JobKey} {d : Bytes} (h : dlmsCheck true 4 0 (maldinRecord d) = none) :
    maldinProtect key ak d = { status := .success, data := dlmsProtect (maldinDlms key ak d) (maldinRecord d) } := by
  have hc : dlmsCheck true maldinSuite 0 (maldinRecord d) = none := h
  unfold maldinProtect
  rw [hc]

theorem maldinUnprotect_refused {key ak : Option JobKey} {d : Bytes} {st : Status} (h : dlmsCheck false 4 0 (maldinRecord d) = some st) :
    maldinUnprotect key ak d = { status := st } := by
  have hc : dlmsCheck false maldinSuite 0 (maldinRecord d) = some st := h
  unfold maldinUnprotect
  dsimp only
  rw [hc]

theorem maldinUnprotect_checked {key ak : Option JobKey} {d : Bytes} (h : dlmsCheck false 4 0 (maldinRecord d) = none) :
    maldinUnprotect key ak d =
      match dlmsUnprotect (maldinDlms key ak d) (maldinRecord d) with
      | .ok out => { status := .success, data := out }
      | .error st => { status := st, counter := !dlmsCounterOk (maldinRecord d) } := by
  have hc : dlmsCheck false maldinSuite 0 (maldinRecord d) = none := h
  unfold maldinUnprotect
  dsimp only
  rw [hc] <;> rfl

/-! ### The reply (R466, R467, R470, R477) -/

theorem expressPort_modExpress (s : State) (p : Nat) (g : ExpressPort → ExpressPort) : (s.modExpress p g).expressPort p = g (s.expressPort p) := by
  unfold State.modExpress State.expressPort
  by_cases h : (p == 0) = true
  · simp only [h, if_true]
  · simp only [h, if_false, Bool.false_eq_true]

theorem modExpress_frames (s : State) (p : Nat) (g : ExpressPort → ExpressPort) :
    (s.modExpress p g).express.frames = s.express.frames ∧ (s.modExpress p g).sent = s.sent := by
  unfold State.modExpress
  split <;> exact ⟨rfl, rfl⟩

/-- What the first byte of a reply leaves. -/
theorem sendReply_leaves (w : State) (j : MaldinJob) :
    let p := j.frame.port
    let latency := w.clock.now - j.nRx
    let y := w.sendReply j
    y.sent = w.sent ++ [maldinDatagram j.frame (maldinReply j)] ∧
    y.express.frames = w.express.frames.filter (fun x => x.id != j.id) ∧
    (y.expressPort p).maxLatency = min (max (w.expressPort p).maxLatency latency) (2 ^ 32 - 1) ∧
    (y.expressPort p).counters =
      (let c := (w.expressPort p).counters.modify 1 fun n => satAdd 64 n 1
       if 35000 < latency then c.modify 9 fun n => satAdd 64 n 1 else c) := by
  intro p latency y
  let a := w.emit (maldinDatagram j.frame (maldinReply j))
  let measure (x : ExpressPort) : ExpressPort := { x with maxLatency := min (max x.maxLatency latency) (2 ^ 32 - 1) }
  let b := (a.countExpress p 1).modExpress p measure
  let c := if 35000 < latency then b.countExpress p 9 else b
  have hy : y = ({ c with express.frames := c.express.frames.filter fun (x : MaldinJob) => x.id != j.id } : State).sweepRecords := rfl
  have hb : b.express.frames = w.express.frames ∧ b.sent = a.sent := by
    obtain ⟨hf₁, hs₁⟩ := modExpress_frames (a.countExpress p 1) p measure
    obtain ⟨hf₂, hs₂⟩ := modExpress_frames a p fun x => { x with counters := x.counters.modify 1 fun v => satAdd 64 v 1 }
    exact ⟨hf₁.trans hf₂, hs₁.trans hs₂⟩
  have hc : c.express.frames = w.express.frames ∧ c.sent = a.sent := by
    simp only [c]
    split
    · obtain ⟨hf, hs⟩ := modExpress_frames b p fun x => { x with counters := x.counters.modify 9 fun v => satAdd 64 v 1 }
      exact ⟨hf.trans hb.1, hs.trans hb.2⟩
    · exact hb
  have hport : b.expressPort p = measure { w.expressPort p with counters := (w.expressPort p).counters.modify 1 fun v => satAdd 64 v 1 } :=
    (expressPort_modExpress _ _ _).trans (congrArg measure (expressPort_modExpress a p _))
  have hlate : c.expressPort p = if 35000 < latency then
      { b.expressPort p with counters := (b.expressPort p).counters.modify 9 fun v => satAdd 64 v 1 } else b.expressPort p := by
    simp only [c]
    split
    · exact expressPort_modExpress b p _
    · rfl
  have hyport : y.expressPort p = c.expressPort p := rfl
  refine ⟨hc.2, congrArg (List.filter fun x : MaldinJob => x.id != j.id) hc.1, ?_, ?_⟩ <;> rw [hyport, hlate, hport]
  · split <;> rfl
  · split <;> rfl

theorem replyDue_iff (w : State) (j : MaldinJob) :
    w.replyDue j = true ↔ j.abandoned = false ∧ j.readyAt ≤ w.clock.now ∧ w.linkIsUp j.frame.port = true ∧ ∀ x ∈ w.sourceFrames j.frame, j.id ≤ x.id := by
  simp only [State.replyDue, Bool.and_eq_true, Bool.not_eq_true', decide_eq_true_eq, List.all_eq_true, and_assoc]

theorem beNat_toBe {n v : Nat} (h : v < 256 ^ n) : beNat (toBe n v) = v := by
  rw [beNat, toBe, List.reverse_reverse, leNat_toLe, Nat.mod_eq_of_lt h]

theorem slice_append (a b c : Bytes) : slice (a ++ (b ++ c)) a.length b.length = b := by
  simp [slice]

/-- Parts of a reply at their offsets. -/
theorem maldinReply_parts {j : MaldinJob} (hq : j.frame.payload.length = 512) (hd : j.data.length ≤ 476) :
    let r := maldinReply j
    r.length = 512 ∧ r.take 3 = j.frame.payload.take 3 ∧ byteAt r 3 = frameCmd j.frame % 128 + 128 ∧ slice r 0x0C 4 = slice j.frame.payload 0x0C 4 ∧
      slice r 0x20 j.data.length = j.data ∧ be r 508 4 = (crc32c (r.take 508)).toNat := by
  let q := j.frame.payload
  let start := slice q 0 3
  let middle := slice q 4 2 ++ toBe 2 0x0200 ++ slice q 8 2 ++ toBe 2 j.data.length
  let status := toBe 4 (j.tRx / 1000) ++ toBe 1 (mStatus j.status j.counterRefusal) ++ zeros 1 ++ toBe 2 (statusCode j.status) ++ zeros 8
  let cmd := toBe 1 (frameCmd j.frame % 128 + 128)
  let pad := zeros (476 - j.data.length)
  let head := start ++ (cmd ++ (middle ++ (slice q 0x0C 4 ++ (status ++ (j.data ++ pad)))))
  intro r
  have hr : r = head ++ toBe 4 (crc32c head).toNat := by
    have hpad : padTo 476 j.data = j.data ++ pad := by rw [padTo, List.take_of_length_le hd]
    simp only [r, maldinReply, hpad, head, start, cmd, middle, status, q, List.append_assoc]
  have hq : q.length = 512 := hq
  have hstart : start.length = 3 := slice_length_of_le (by omega)
  have hcmd : cmd.length = 1 := toBe_length _ _
  have hseq : (slice q 0x0C 4).length = 4 := slice_length_of_le (by omega)
  have hmiddle : middle.length = 8 := by
    have h₄ : (slice q 4 2).length = 2 := slice_length_of_le (by omega)
    have h₈ : (slice q 8 2).length = 2 := slice_length_of_le (by omega)
    simp [middle, h₄, h₈]
  have hstatus : status.length = 16 := by simp [status, zeros]
  have hpads : pad.length = 476 - j.data.length := List.length_replicate
  have hhead : head.length = 508 := by
    simp only [head, List.length_append, hstart, hcmd, hmiddle, hseq, hstatus, hpads]
    omega
  have htake : r.take 508 = head := by rw [hr, ← hhead, List.take_left]
  have hcrc : (crc32c head).toNat < 256 ^ 4 := (crc32c head).isLt
  refine ⟨by rw [hr, List.length_append, hhead, toBe_length], ?_, ?_, ?_, ?_, ?_⟩
  · rw [hr, List.append_assoc, ← hstart, List.take_left]
    exact congrArg (q.take ·) hstart.symm
  · rw [hr, List.append_assoc, List.append_assoc, ← hstart]
    exact byteAt_append_toBe _ _ (by omega)
  · have hoff : (start ++ (cmd ++ middle)).length = 0x0C := by simp only [List.length_append, hstart, hcmd, hmiddle]
    have hsplit : r = (start ++ (cmd ++ middle)) ++ (slice q 0x0C 4 ++ ((status ++ (j.data ++ pad)) ++ toBe 4 (crc32c head).toNat)) := by
      rw [hr]
      simp only [head, List.append_assoc]
    have hcut := slice_append (start ++ (cmd ++ middle)) (slice q 0x0C 4) ((status ++ (j.data ++ pad)) ++ toBe 4 (crc32c head).toNat)
    rw [← hsplit, hoff, hseq] at hcut
    exact hcut
  · have hoff : (start ++ (cmd ++ (middle ++ (slice q 0x0C 4 ++ status)))).length = 0x20 := by
      simp only [List.length_append, hstart, hcmd, hmiddle, hseq, hstatus]
    have hsplit : r = (start ++ (cmd ++ (middle ++ (slice q 0x0C 4 ++ status)))) ++ (j.data ++ (pad ++ toBe 4 (crc32c head).toNat)) := by
      rw [hr]
      simp only [head, List.append_assoc]
    have hcut := slice_append (start ++ (cmd ++ (middle ++ (slice q 0x0C 4 ++ status)))) j.data (pad ++ toBe 4 (crc32c head).toNat)
    rw [← hsplit, hoff] at hcut
    exact hcut
  · have hcut := slice_append head (toBe 4 (crc32c head).toNat) []
    rw [List.append_nil, ← hr, hhead, toBe_length] at hcut
    rw [htake, be, hcut, beNat_toBe hcrc]

/-- Settles O27: the frame's drops by the steps of R468, its outcome by what its command answers, its reply by what leaves. -/
theorem maldinFrames : Obligations.MaldinFrames := by
  unfold Obligations.MaldinFrames
  intro s u t f hu hlink
  subst hu
  intro cmd row e passes takes lenOk d
  have he : e = .next ((s.advance t).receiveFrame f true fun s => s.acceptCmd f) := exec_frameRow t f s
  have hpass : passes → e = .next ((s.advance t).acceptCmd f) := fun hp =>
    he.trans (congrArg _ (receiveFrame_passes hlink hp.1 hp.2 _))
  have hserve (h : passes) (h₁ : 1 ≤ cmd) (h₆ : cmd ≤ 6) : e = .next ((s.advance t).serveFrame f (frameRun cmd)) :=
    (hpass h).trans (congrArg _ (acceptCmd_defined h₁ h₆))
  have htakes {w y : State} {out : MaldinOut} {engine : Bool} (hy : e = .next y) (ht : Taken w f out engine y) : takes w out engine := ⟨y, hy, ht⟩
  refine ⟨fun h => he.trans (congrArg _ (receiveFrame_foreign hlink h _)), fun n h hd => he.trans (congrArg _ (receiveFrame_dropped hlink h hd _)),
    frameDrop_length, fun hbe hudp hlen => frameDrop_sized hbe hudp hlen, fun hp hc => ?undefined, fun hp h₁ h₆ hl => ?length,
    fun v st hp h₁ h₆ hl hk => ?noKey, fun v key ak hp h₁ h₆ hl hk => ?run, fun w n j hw hj => ?reply, fun j hq hd => maldinReply_parts hq hd⟩
  case undefined =>
    have ht := refuseFrame_taken (s.advance t) f .unknownOpcode
    refine ⟨htakes ((hpass hp).trans (congrArg _ (acceptCmd_undefined hc))) ht, (s.advance t).refuseFrame f .unknownOpcode, ?_, ?_⟩
    · have hbad : (!cmdDefined (frameCmd f)) = true := by
        have hn : ¬ cmdDefined (frameCmd f) = true := by
          simp only [cmdDefined, Bool.and_eq_true, decide_eq_true_eq]
          omega
        simpa using hn
      exact congrArg Host.Outcome.next ((congrArg (fun b => (s.advance t).receiveFrame f b fun s => s.refuseFrame f .unknownOpcode) hbad).trans
        (receiveFrame_passes hlink hp.1 hp.2 _))
    · obtain ⟨x, hframes, _, _, hframe, _, _, hstatus, hdata, _, hengine, _⟩ := ht
      exact ⟨x, hframes, hframe, hstatus, hdata, by simpa using hengine⟩
  case length => exact htakes ((hserve hp h₁ h₆).trans (congrArg _ (serveFrame_length hl _))) (refuseFrame_taken _ f _)
  case noKey => exact htakes ((hserve hp h₁ h₆).trans (congrArg _ (serveFrame_noKey hl _ hk))) (refuseFrame_taken v f st)
  case run =>
    intro drawn signed agreed
    have hrun := (hserve hp h₁ h₆).trans (congrArg _ (serveFrame_keys hl _ hk))
    refine ⟨fun hidle => htakes hrun (runFrame_idle _ hidle), fun hbusy => ?_⟩
    have hanswers {w : State} {out : MaldinOut} (ho : frameRun cmd v key ak d = (w, out))
        (hw : w.expressEngines (framePool f) = v.expressEngines (framePool f)) : takes w out true :=
      htakes hrun (runFrame_taken (run := fun s => frameRun cmd s key ak d) hbusy ho hw)
    have hcmd {c : Nat} (hc : cmd = c) : frameRun cmd v key ak d = frameRun c v key ak d := by rw [hc]
    have hblind (out : MaldinOut) {c : Nat} (hc : cmd = c) (hb : frameRun c v key ak d = v.blinded out) :
        (v.drawFate false = .served → takes drawn out true) ∧ (v.drawFate false = .waits → takes v { status := .entropyNotReady } true) ∧
          (v.drawFate false = .failed → takes v { status := .entropyFailed } true) :=
      ⟨fun h => hanswers ((hcmd hc).trans (hb.trans (blinded_served h out))) rfl,
        fun h => hanswers ((hcmd hc).trans (hb.trans (blinded_waits h out))) rfl,
        fun h => hanswers ((hcmd hc).trans (hb.trans (blinded_failed h out))) rfl⟩
    have hsign (hc : cmd = 1) := hblind signed hc rfl
    have hagree (hc : cmd = 3) := hblind agreed hc rfl
    refine ⟨fun h => ⟨fun hc => (hsign hc).1 h, fun hc => (hagree hc).1 h⟩,
      fun h hc => hc.elim (fun hc => (hsign hc).2.1 h) fun hc => (hagree hc).2.1 h,
      fun h hc => hc.elim (fun hc => (hsign hc).2.2 h) fun hc => (hagree hc).2.2 h, fun hc => hanswers (hcmd hc) rfl,
      fun st hc hd => ?_, fun hc hd => ?_, fun st hc hd => ?_, fun out hc hd ho => ?_, fun st hc hd ho => ?_, fun hc => hanswers (hcmd hc) rfl⟩
    · exact hanswers ((hcmd hc).trans (congrArg (Prod.mk v) (maldinProtect_refused hd))) rfl
    · exact hanswers ((hcmd hc).trans (congrArg (Prod.mk v) (maldinProtect_ok hd))) rfl
    · exact hanswers ((hcmd hc).trans (congrArg (Prod.mk v) (maldinUnprotect_refused hd))) rfl
    · have hu := maldinUnprotect_checked (key := key) (ak := ak) hd
      rw [ho] at hu
      exact hanswers ((hcmd hc).trans (congrArg (Prod.mk v) hu)) rfl
    · have hu := maldinUnprotect_checked (key := key) (ak := ak) hd
      rw [ho] at hu
      exact hanswers ((hcmd hc).trans (congrArg (Prod.mk v) hu)) rfl
  case reply =>
    subst hw
    intro p latency due
    have hid : j.id = n := by simpa using List.find?_some hj
    have hexec : exec (.maldinReplySend t n) s =
        .next (if (s.advance t).replyDue j then ((s.advance t).sendReply j).resume else s.advance t) := by
      refine congrArg Host.Outcome.next ?_
      rw [hj]
    have hdue := replyDue_iff (s.advance t) j
    refine ⟨fun h => hexec.trans (congrArg _ (if_neg fun hc => h (hdue.mp hc))), fun h => ?_⟩
    obtain ⟨hsent, hframes, hmax, hcounters⟩ := sendReply_leaves (s.advance t) j
    rw [hid] at hframes
    exact ⟨_, hexec.trans (congrArg _ (if_pos (hdue.mpr h))), hsent, hframes, hmax, hcounters⟩

end Sys2Proof.Machine
end

/-! Commands of the mailbox that read (01 R38; 09 R303; 10 R322, R326; 12 R361 to R373). -/
section
namespace Sys2Proof.Machine

/-! ### A command and its body -/

/-- A command in session is answered with what its body answers, SHUTDOWN_WAKE apart. -/
theorem body_replies {u w : State} {code conn : Nat} {msg : Bytes} {x : Session} {extra : List Nat} {o : MbOut}
    (body : State → MbCommand → State × MbReply) (h : Comes u code conn msg x)
    (hbody : ∀ c : MbCommand, c.code = code → mbBody (u.taken x) c = body (u.taken x) c)
    (hb : body (u.taken x) (mbCommand conn msg extra x) = (w, .answer o))
    (hc : mbDefined code = true := by rfl) (hh : helloCode code = false := by rfl) (hw : code ≠ 0x0502 := by decide)
    (hp : mbKeyChange code = false ∨ u.placeFree = true := by exact .inl rfl) :
    Replies (.next (u.mbRow code conn msg extra).resume) (mbCommand conn msg extra x) w o :=
  row_replies h hc hh hw hp ((hbody (mbCommand conn msg extra x) h.isCode).trans hb)

theorem mbWqInfo_of_queue {v : State} {c : MbCommand} {q : WorkQueue} (h : v.queue? (c.par 8 2) = some q) :
    mbWqInfo v c = (v, .info (mbFields [(0x08, toLe 1 (queueStateCode q.state)), (0x0A, toLe 2 q.cons), (0x0C, toLe 4 q.submitSeq),
      (0x10, toLe 8 q.droppedWrites), (0x18, toLe 8 q.invIgnored)])) := by
  unfold mbWqInfo
  rw [h]

theorem mbConnInfo_of_conn {v : State} {c : MbCommand} {k : Connection} (h : v.conn? (c.par 8 2) = some k) :
    mbConnInfo v c = (v, .info (mbFields [(0x08, toLe 1 (b2n k.mailbox)), (0x09, toLe 1 (b2n k.ready)), (0x0A, toLe 1 k.port),
      (0x10, toLe 8 k.windowDropped), (0x18, toLe 8 k.creditsIgnored), (0x20, toLe 8 k.consIgnored)])) := by
  unfold mbConnInfo
  rw [h]

theorem mbCarriageInfo_of_field {v : State} {c : MbCommand} (h : c.par 8 2 < 4096) :
    mbCarriageInfo v c = (v, .info (v.statusRecord (c.par 8 2))) := by
  have hf : carriageField (c.par 8 2) = true := by simp [carriageField, h]
  unfold mbCarriageInfo
  exact if_neg (by simp [hf])

theorem mbSlotInfo_of_record {v : State} {c : MbCommand} {r : SlotRecord} (h : v.slotRecord? c.slot = some r) :
    mbSlotInfo v c = (v, .answer { bulk := r.header.bytes }) := by
  unfold mbSlotInfo
  rw [h]

theorem mbPortStatus_of_port {v : State} {c : MbCommand} {y : Port} (h : (v.refill (c.par 8 1)).port? (c.par 8 1) = some y) :
    mbPortStatus v c = (v.refill (c.par 8 1), .answer { bulk := (v.refill (c.par 8 1)).portRecord (c.par 8 1) y }) := by
  unfold mbPortStatus
  dsimp only
  rw [h]

/-- Settles O36: each reading command by the fields its body gives. -/
theorem mailboxReads : Obligations.MailboxReads := by
  unfold Obligations.MailboxReads
  rintro s _ _ t conn msg x rfl rfl
  intro c p word bulk fields
  refine ⟨fun h => body_replies mbVintageGet h (fun c hc => ?_) ?word, fun h => body_replies mbModuleInfo h (fun c hc => ?_) rfl,
    fun h => body_replies mbRngInfo h (fun c hc => ?_) rfl,
    fun h q hq => body_replies mbWqInfo h (fun c hc => ?_) (mbWqInfo_of_queue hq),
    fun h k hk => body_replies mbConnInfo h (fun c hc => ?_) (mbConnInfo_of_conn hk),
    fun h hn => body_replies mbCarriageInfo h (fun c hc => ?_) (mbCarriageInfo_of_field hn),
    fun h => body_replies mbCellarStatus h (fun c hc => ?_) rfl,
    fun h r hr => body_replies mbSlotInfo h (fun c hc => ?_) (mbSlotInfo_of_record hr),
    fun h => body_replies mbTrainStatus h (fun c hc => ?_) rfl, fun h => body_replies mbRosterGet h (fun c hc => ?_) rfl,
    fun mw mc h => body_replies mbPowerStatus h (fun c hc => ?_) rfl, fun h => body_replies mbFwStatus h (fun c hc => ?_) rfl,
    fun h => body_replies mbExpressStatus h (fun c hc => ?_) rfl,
    fun h y hy => body_replies mbPortStatus h (fun c hc => ?_) (mbPortStatus_of_port hy),
    fun h => body_replies mbTastingResults h (fun c hc => ?_) rfl⟩
  case word => simp [mbVintageGet, MbReply.info]
  all_goals
    unfold mbBody mbBodyLow mbBodyHigh
    rw [hc]
    rfl

end Sys2Proof.Machine
end

/-! Reads of Book entries, certificates, release objects, quotes and entropy samples (06 R195; 09 R303, R306; 10 R326; 12 R361, R364). -/
section
namespace Sys2Proof.Machine

section
variable {v : State} {c : MbCommand}

/-- Entries of the Book from a number on, oldest first, from the oldest still kept. -/
theorem mbBookRead_cases (h₁ : 1 ≤ c.par 0x10 1) (h₂ : c.par 0x10 1 ≤ 64) :
    let oldest := match v.book.ring.getLast? with | some e => entrySeq e | none => v.book.seq + 1
    let first := max (c.par 8 8) oldest
    let es := (v.book.ring.filter fun e => first ≤ entrySeq e && entrySeq e < first + c.par 0x10 1).reverse
    (v.book.seq < c.par 8 8 ∨ v.book.ring = [] → mbBookRead v c = (v, .info (mbFields [(0x08, toLe 8 (c.par 8 8))]))) ∧
    (c.par 8 8 ≤ v.book.seq → v.book.ring ≠ [] →
      mbBookRead v c = (v, .answer { result := mbFields [(0x08, toLe 8 first), (0x10, toLe 1 es.length)], bulk := es.flatten })) := by
  intro oldest first es
  have hlen : ¬ (c.par 0x10 1 == 0 || 64 < c.par 0x10 1) = true := by
    simp only [Bool.or_eq_true, beq_iff_eq, decide_eq_true_eq]
    omega
  refine ⟨fun h => (if_neg hlen).trans (if_pos ?_), fun h h' => (if_neg hlen).trans (if_neg ?_)⟩
  · simpa using h
  · simpa using ⟨h, h'⟩

theorem mbIdentityCertGet_cases (h : c.par 8 1 = 1 ∨ c.par 8 1 = 2) :
    let cert := if v.lc = some .moduleTest then v.selfCert else if c.par 8 1 = 1 then v.cellar.certMldsa else v.cellar.certEcdsa
    (cert = [] → mbIdentityCertGet v c = (v, .refuse .keyNotFound)) ∧
    (cert ≠ [] → mbIdentityCertGet v c = (v, .answer { bulk := cert })) := by
  intro cert
  have hwhich : ¬ (c.par 8 1 != 1 && c.par 8 1 != 2) = true := by obtain h | h := h <;> simp [h]
  have hcert : (if v.lc == some .moduleTest then v.selfCert else if c.par 8 1 == 1 then v.cellar.certMldsa else v.cellar.certEcdsa) = cert := by
    simp only [beq_iff_eq, cert]
  unfold mbIdentityCertGet
  dsimp only
  rw [hcert]
  exact ⟨fun h => (if_neg hwhich).trans (if_pos (by simp [h])), fun h => (if_neg hwhich).trans (if_neg (by simpa using h))⟩

theorem mbLeafReleaseGet_found {r : SlotRecord} {l : Ledger} {b : Bytes} (hr : v.slotRecord? c.slot = some r)
    (hm : r.header.controlMaster = true) (hl : v.ledger? c.slot = some l) (hb : (l.releases.find? fun b => le b 8 8 == c.par 0x10 8) = some b)
    (hq : v.quotes = true) : mbLeafReleaseGet v c = (v, .answer { bulk := b ++ v.identitySign b (zeros 32) [] }) := by
  have hfault : slotFault (v.slotRecord? c.slot) false false = none := by
    rw [hr]
    simp [slotFault, hm]
  unfold mbLeafReleaseGet
  rw [hfault, hl]
  dsimp only
  rw [hb]
  exact if_pos hq

theorem mbQuoteGet_served (hmode : v.power.mode ≠ .standby) (hhold : v.power.mode ≠ .hold) (h₈ : 8 ≤ c.bulk.length) (h₆₄ : c.bulk.length ≤ 64)
    (hq : v.quotes = true) (hd : v.drawFate false = .served) :
    let w := (v.serveDraw false 2).1
    let payload := w.quoteClaims c.bulk
    let rand := drawBytes (v.serveDraw false 2).2 64
    mbQuoteGet v c = if (w.quoteRounds payload rand).isSome then (w, .answer { bulk := w.quoteOver payload rand }) else (w, .refuse .mbStateConflict) := by
  have hm : ¬ (v.power.mode == .standby || v.power.mode == .hold) = true := by simp [hmode, hhold]
  have hl : ¬ (decide (c.bulk.length < 8) || decide (64 < c.bulk.length)) = true := by
    simp only [Bool.or_eq_true, decide_eq_true_eq]
    omega
  refine (if_neg hm).trans ((if_neg hl).trans ((if_neg (by simp [hq])).trans ?_))
  rw [hd]

/-- A tap of a cell that has stopped reads zeros; any other the samples captured. -/
theorem mbEntropyTestRead_cases (hmode : v.power.mode = .entropyTest) (hcell : c.par 8 1 ≤ 15) (htap : c.par 9 1 ≤ 2) :
    let stopped := c.par 9 1 ≠ 2 ∧ ∀ y, v.rng.cells[c.par 8 1]? = some y → y.stopped = true
    (stopped → mbEntropyTestRead v c = (v, .answer
      { result := mbFields [(0x08, toLe 4 0xFFFFFFFF), (0x0C, toLe 4 0xFFFFFFFF)], bulk := zeros tapBytes })) ∧
    (¬ stopped → mbEntropyTestRead v c = (v, .answer
      { result := mbFields [(0x08, toLe 4 (c.extra.getD 0 0)), (0x0C, toLe 4 (c.extra.getD 1 0))]
        bulk := padTo tapBytes ((c.extra.drop 2).map fun n => BitVec.ofNat 8 n) })) := by
  intro stopped
  have hrange : ¬ (decide (15 < c.par 8 1) || decide (2 < c.par 9 1)) = true := by
    simp only [Bool.or_eq_true, decide_eq_true_eq]
    omega
  have hstopped : (c.par 9 1 != 2 && (match v.rng.cells[c.par 8 1]? with | some x => x.stopped | none => true)) = true ↔ stopped := by
    cases h : v.rng.cells[c.par 8 1]? <;> simp [stopped, h]
  refine ⟨fun h => (if_neg (by simp [hmode])).trans ((if_neg hrange).trans (if_pos (hstopped.mpr h))),
    fun h => (if_neg (by simp [hmode])).trans ((if_neg hrange).trans (if_neg fun hc => h (hstopped.mp hc)))⟩

end

/-- Settles O37: each piece of evidence by what its command's body reads. -/
theorem mailboxEvidence : Obligations.MailboxEvidence := by
  unfold Obligations.MailboxEvidence
  rintro s _ _ t conn msg x rfl rfl
  intro c p oldest
  refine ⟨fun h h₁ h₂ => ?book, fun h hw => ?cert, fun h r l b hr hm hl hb hq =>
    body_replies mbLeafReleaseGet h (fun c hc => ?_) (mbLeafReleaseGet_found hr hm hl hb hq), fun h hm h₈ h₆₄ hq hd => ?quote,
    fun samples rep prop h hm hcell htap => ?samples⟩
  case book =>
    obtain ⟨hnone, hsome⟩ := mbBookRead_cases (v := (s.advance t).taken x) (c := mbCommand conn msg [] x) h₁ h₂
    refine ⟨fun hn => body_replies mbBookRead h (fun c hc => ?_) (hnone hn), fun hn hr => body_replies mbBookRead h (fun c hc => ?_) (hsome hn hr)⟩
    all_goals
      unfold mbBody mbBodyLow
      rw [hc]
      rfl
  case cert =>
    obtain ⟨hnone, hsome⟩ := mbIdentityCertGet_cases (v := (s.advance t).taken x) (c := mbCommand conn msg [] x) hw
    refine ⟨fun hn => body_replies mbIdentityCertGet h (fun c hc => ?_) (hnone hn),
      fun hn => body_replies mbIdentityCertGet h (fun c hc => ?_) (hsome hn)⟩
    all_goals
      unfold mbBody mbBodyLow
      rw [hc]
      rfl
  case quote =>
    intro w payload rand
    have he := mbQuoteGet_served (v := (s.advance t).taken x) (c := mbCommand conn msg [] x) hm h.mode.2.1 h₈ h₆₄ hq hd
    have hsigned (hs : (w.quoteRounds payload rand).isSome = true) := he.trans (if_pos hs)
    have hunsigned (hn : w.quoteRounds payload rand = none) := he.trans (if_neg (ne_true_of_eq_false (congrArg Option.isSome hn)))
    refine ⟨fun hs => body_replies mbQuoteGet h (fun c hc => ?_) (hsigned hs),
      fun hn => body_replies mbQuoteGet h (fun c hc => ?_) (hunsigned hn)⟩
    all_goals
      unfold mbBody mbBodyLow
      rw [hc]
      rfl
  case samples =>
    have hbytes : ((samples.map (·.toNat)).map fun n => BitVec.ofNat 8 n) = samples := by
      rw [List.map_map]
      exact List.map_id'' (fun b => (BitVec.ofNat_toNat 8 b).trans (BitVec.setWidth_eq b)) samples
    obtain ⟨hstopped, hruns⟩ := mbEntropyTestRead_cases (v := (s.advance t).taken x)
      (c := mbCommand conn msg (rep :: prop :: samples.map (·.toNat)) x) hm hcell htap
    have hsamples : ((mbCommand conn msg (rep :: prop :: samples.map (·.toNat)) x).extra.drop 2).map (fun n => BitVec.ofNat 8 n) = samples := hbytes
    rw [hsamples] at hruns
    refine ⟨fun hs => body_replies mbEntropyTestRead h (fun c hc => ?_) (hstopped hs),
      fun hs => body_replies mbEntropyTestRead h (fun c hc => ?_) (hruns hs)⟩
    all_goals
      unfold mbBody mbBodyHigh
      rw [hc]
      rfl
  all_goals
    unfold mbBody mbBodyLow
    rw [hc]
    rfl

end Sys2Proof.Machine
end

/-! Sessions of the mailbox: the hellos of a sender without a session, and the end of a session (12 R348 to R353, R360, R361). -/
section
namespace Sys2Proof.Machine

/-! ### A command from a connection without a session -/

/-- A SEND in form arrives on a mailbox connection that has no session (R349, R351). -/
structure ComesBare (u : State) (conn : Nat) (msg : Bytes) : Prop where
  quiet : Quiet u
  answers : u.mbAnswers = true ∧ u.mailConn conn = true ∧ u.rdmaConn conn = false
  session : u.sessionOn conn = none
  hold : u.power.mode ≠ .hold
  form : 128 ≤ msg.length ∧ MbCommand.formOk { conn := conn, msg := msg } = true

section
variable {u : State} {conn : Nat} {msg : Bytes} (h : ComesBare u conn msg)
include h

/-- The command waits alone, with no session. -/
theorem mbReceive_bare : u.mbReceive conn msg [] = { u with mailbox.waiting := [{ conn := conn, msg := msg }] } := by
  obtain ⟨ha, hmail, hrdma⟩ := h.answers
  have harrival : u.mbArrival conn msg [] = (u, { conn := conn, msg := msg }) := by simp [State.mbArrival, h.session]
  simp [State.mbReceive, hrdma, ha, hmail, h.quiet.mailbox.2, harrival, h.hold]

/-- In a quiet module the command that comes alone is the next to run, and nothing stands behind it. -/
theorem resume_bare (hrec : u.power.mode = .recovery → le msg 0 2 / 256 = 0) :
    ∃ w : State, (u.mbReceive conn msg []).resume = w.mbPump 2 ∧ w.mbNext = some { conn := conn, msg := msg } ∧
      w.power = u.power ∧ w.mailbox.running = none ∧ w.mbAnswers = true ∧
      ({ w with mailbox.waiting := w.mailbox.waiting.erase { conn := conn, msg := msg } } : State) = u := by
  refine ⟨_, (congrArg _ (mbReceive_bare h)).trans (resume_waiting h.quiet h.hold _), mbNext_alone rfl hrec, rfl, h.quiet.mailbox.1,
    h.answers.1, ?_⟩
  rw [List.erase_cons_head, ← h.quiet.mailbox.2]

/-- A command that its checks refuse leaves what they leave. -/
theorem runs_refused {r : State} (hrec : u.power.mode = .recovery → le msg 0 2 / 256 = 0)
    (hd : u.mbAdmit { conn := conn, msg := msg } = (r, false)) : Runs (.next (u.mbReceive conn msg []).resume) (· = r) := by
  obtain ⟨w, hrun, hnext, hpower, hidle, ha, hback⟩ := resume_bare h hrec
  exact ⟨r, 1, congrArg _ (hrun.trans (mbPump_not_admitted 1 ha (hpower ▸ h.hold) hidle hnext hback hd)), rfl⟩

/-- A hello that its mode accepts is answered with what its body answers (R351). -/
theorem hello_replies {w : State} {code : Nat} {o : MbOut} (hcode : le msg 0 2 = code) (hhello : code ≤ 1)
    (hmode : u.mbModeOk code = true) (hb : mbBody u { conn := conn, msg := msg } = (w, .answer o)) :
    Replies (.next (u.mbRow code conn msg []).resume) { conn := conn, msg := msg } w o := by
  have hzero : le msg 0 2 / 256 = 0 := by omega
  have hadmit : u.mbAdmit { conn := conn, msg := msg } = (u, true) := by
    have hlen : ¬ msg.length < 128 := Nat.not_lt.mpr h.form.1
    have hc : MbCommand.code { conn := conn, msg := msg } = code := hcode
    have hscrapped : (code != 0 && code != 1) = false := by
      obtain rfl | rfl : code = 0 ∨ code = 1 := by omega
      all_goals rfl
    simp [State.mbAdmit, hlen, h.form.2, hc, Bool.and_assoc, hscrapped, helloCode, hhello, hmode]
  have hdone : w.mbDone { conn := conn, msg := msg } o = w.mbAnswer { conn := conn, msg := msg } o := by
    have hc : (MbCommand.code { conn := conn, msg := msg } == 0x0502) = false := by
      simp only [MbCommand.code, hcode, beq_eq_false_iff_ne]
      omega
    simp [State.mbDone, hc]
  have hkey : mbKeyChange (MbCommand.code { conn := conn, msg := msg }) = false := by
    simp [mbKeyChange, MbCommand.code, hzero]
  obtain ⟨v, hrun, hnext, hpower, hidle, ha, hback⟩ := resume_bare h fun _ => hzero
  have hhold : (v.power.mode == .hold) = false := hpower ▸ beq_eq_false_iff_ne.mpr h.hold
  refine ⟨_, 1, ?_, hdone⟩
  rw [State.mbRow, if_pos (beq_iff_eq.mpr hcode), hrun, pump_one 1 ha hhold hidle hnext hback hadmit,
    attempt_answers h.quiet.mailbox.1 (.inl hkey) hb]

/-- A CODE of no table, with no session, is answered with MB_NO_SESSION (R351, R360). -/
theorem mbAdmit_bare_undefined (hcode : mbDefined (le msg 0 2) = false) (hlife : u.lc ≠ some .scrapped)
    (hzero : u.mbSession? 0 = none) :
    u.mbAdmit { conn := conn, msg := msg } = (u.mbSend { conn := conn, msg := msg } { status := .mbNoSession }, false) := by
  have hlen : ¬ msg.length < 128 := Nat.not_lt.mpr h.form.1
  have hc : helloCode (MbCommand.code { conn := conn, msg := msg }) = false := by
    by_contra hh
    have hle : le msg 0 2 ≤ 1 := of_decide_eq_true (Bool.eq_true_of_not_eq_false hh)
    obtain h0 | h0 : le msg 0 2 = 0 ∨ le msg 0 2 = 1 := by omega
    all_goals
      rw [h0] at hcode
      exact absurd hcode (by decide)
  simp [State.mbAdmit, hlen, h.form.2, hc, hlife, hzero]

end

/-! ### The hellos -/

/-- HELLO_CHALLENGE where the DRBG serves its draw (R351). -/
theorem mbHelloChallenge_served {u : State} {c : MbCommand} (h : u.drawFate false = .served) :
    mbHelloChallenge u c =
      (let w := (u.serveDraw false 1).1
       let b := drawBytes (u.serveDraw false 1).2 96
       let hello : Hello :=
         { conn := c.conn, masterNonce := slice c.msg 8 32, moduleNonce := b.drop 64, seed := b.take 64, since := w.clock.now }
       let fs := [(0x08, w.fuses.uniqueId), (0x18, toLe 2 3), (0x1A, toLe 1 w.fuses.lcA), (0x1B, toLe 1 (modeCode w.power.mode)),
         (0x1C, toLe 1 w.mailbox.sessions.length), (0x20, b.drop 64)]
       ({ w with mailbox.hellos := (w.mailbox.hellos.filter fun (y : Hello) => y.conn != c.conn) ++ [hello] },
        .answer { result := mbFields fs, bulk := kemEk 2 (b.take 64), effect := true })) := by
  unfold mbHelloChallenge
  rw [h] <;> rfl

/-- Transcript hash of a hello (R352). -/
def Hello.transcript (h : Hello) (uniqueId b : Bytes) : Bytes :=
  sha3 (h.masterNonce ++ h.moduleNonce ++ uniqueId ++ kemEk 2 h.seed ++ b.take 1088)

/-- The proof that HELLO_PROVE carries holds: both signatures over the transcript, under keys of the control-key hash (R351). -/
def State.provenBy (u : State) (h : Hello) (b : Bytes) : Prop :=
  let keys := slice b 1088 1952 ++ slice b 3040 97
  let th := h.transcript u.fuses.uniqueId b
  dsaHolds 2 (slice b 1088 1952) th (slice b 3137 3309) = true ∧ ecdsaHolds (slice b 3040 97) th (slice b 6446 96) = true ∧
    sha384 keys = u.controlHash

/-- The state once HELLO_PROVE has spent the key pair of its connection (R351). -/
def State.helloSpent (u : State) (conn : Nat) : State :=
  { u with mailbox.hellos := u.mailbox.hellos.filter fun (y : Hello) => y.conn != conn }

/-- The check of a proof of the right length says what `provenBy` says. -/
theorem helloUnproven_iff (u : State) (conn : Nat) (h : Hello) (b : Bytes) :
    ((!bothHold 2 (slice b 1088 1952) (slice b 3040 97) (h.transcript (u.helloSpent conn).fuses.uniqueId b) (slice b 3137 3309)
        (slice b 6446 96) || sha384 (slice b 1088 1952 ++ slice b 3040 97) != (u.helloSpent conn).controlHash) = true) ↔
      ¬ u.provenBy h b := by
  have hhash : (u.helloSpent conn).controlHash = u.controlHash := rfl
  have hid : (u.helloSpent conn).fuses.uniqueId = u.fuses.uniqueId := rfl
  rw [hhash, hid]
  simp only [State.provenBy, bothHold]
  generalize dsaHolds .. = p, ecdsaHolds .. = q
  rw [Bool.or_eq_true, bne_iff_ne, Bool.not_eq_true', Bool.and_eq_false_iff]
  cases p <;> cases q <;> simp

section
variable {u : State} {c : MbCommand} {h : Hello} (hh : (u.mailbox.hellos.find? fun y => y.conn == c.conn) = some h)
include hh

theorem mbHelloProve_length (hl : c.bulk.length ≠ 6542) : mbHelloProve u c = (u.helloSpent c.conn, .refuse .lengthMismatch) := by
  unfold mbHelloProve
  rw [hh]
  exact if_pos (by simpa using hl)

theorem mbHelloProve_unproven (hl : c.bulk.length = 6542) (hg : ¬ u.provenBy h c.bulk) :
    mbHelloProve u c = (u.helloSpent c.conn, .refuse .signatureInvalid) := by
  unfold mbHelloProve
  rw [hh]
  exact (if_neg (by simp [hl])).trans (if_pos ((helloUnproven_iff ..).mpr hg))

theorem mbHelloProve_full (hl : c.bulk.length = 6542) (hg : u.provenBy h c.bulk) (hfull : 4 ≤ u.mailbox.sessions.length) :
    mbHelloProve u c = (u.helloSpent c.conn, .refuse .quotaExceeded) := by
  unfold mbHelloProve
  rw [hh]
  exact (if_neg (by simp [hl])).trans ((if_neg (not_not_intro hg ∘ (helloUnproven_iff ..).mp)).trans (if_pos hfull))

/-- A proof that holds opens a session (R351, R352). -/
theorem mbHelloProve_opens (hl : c.bulk.length = 6542) (hg : u.provenBy h c.bulk) (hroom : u.mailbox.sessions.length < 4)
    (hlife : u.lc ≠ some .scrapped) (hon : u.sessionOn c.conn = none) :
    mbHelloProve u c =
      (let w := u.helloSpent c.conn
       let id := w.freeSessionId
       let key := kmac (kemDecK 2 h.seed (c.bulk.take 1088)) (h.transcript u.fuses.uniqueId c.bulk) 32 "ZMMBOX3"
       let new : Session := { id := id, conn := c.conn, key := key, control := slice c.bulk 1088 1952 ++ slice c.bulk 3040 97 }
       let fs := [(0x08, toLe 2 id), (0x0A, toLe 2 (u.mailbox.sessions.length + 1))]
       (({ w with mailbox.sessions := w.mailbox.sessions ++ [new] } : State).raise 242 [id],
        .answer { result := mbFields fs, effect := true, key := some key })) := by
  have hlife' : ¬ ((u.helloSpent c.conn).lc == some .scrapped) = true := fun h => hlife (eq_of_beq h)
  have hon' : ¬ ((u.helloSpent c.conn).sessionOn c.conn).isSome = true := by
    have : (u.helloSpent c.conn).sessionOn c.conn = none := hon
    simp [this]
  unfold mbHelloProve
  rw [hh]
  refine (if_neg (by simp [hl])).trans ((if_neg (not_not_intro hg ∘ (helloUnproven_iff ..).mp)).trans
    ((if_neg (Nat.not_le.mpr hroom)).trans ((if_neg hlife').trans ((if_neg hon').trans ?_))))
  dsimp only
  rw [List.length_append]
  rfl

end

/-! ### The end of a session -/

theorem mbSessionClose_own {v : State} {c : MbCommand} (h : c.par 8 2 = 0xFFFF ∨ c.par 8 2 = c.session) :
    mbSessionClose v c = (v, .answer { effect := true, ends := some c.session }) :=
  if_pos (by simpa using h)

theorem mbSessionClose_other {v : State} {c : MbCommand} (hf : c.par 8 2 ≠ 0xFFFF) (hown : c.par 8 2 ≠ c.session)
    (h : (v.mbSession? (c.par 8 2)).isSome = true) : mbSessionClose v c = (v.endSession (c.par 8 2) 1, .ok) := by
  obtain ⟨y, hy⟩ := Option.isSome_iff_exists.mp h
  unfold mbSessionClose
  refine (if_neg (by simp [hf, hown])).trans ?_
  rw [hy]

theorem mbSessionClose_unknown {v : State} {c : MbCommand} (hf : c.par 8 2 ≠ 0xFFFF) (hown : c.par 8 2 ≠ c.session)
    (h : v.mbSession? (c.par 8 2) = none) : mbSessionClose v c = (v, .refuse .keyNotFound) := by
  unfold mbSessionClose
  refine (if_neg (by simp [hf, hown])).trans ?_
  rw [h]

/-- Settles O38: SESSION_CLOSE by its three cases, the hellos by their bodies on the state that holds no session of the sender. -/
theorem mailboxSessions : Obligations.MailboxSessions := by
  unfold Obligations.MailboxSessions
  rintro s _ t conn msg rfl
  refine ⟨fun x h => ?close, fun hq ha hmail hrdma hon hhold hlen hform => ?hellos, rfl⟩
  case close =>
    have hbody : ∀ c : MbCommand, c.code = 0x0004 → mbBody ((s.advance t).taken x) c = mbSessionClose ((s.advance t).taken x) c := by
      intro c hc
      unfold mbBody mbBodyLow
      rw [hc]
      rfl
    exact ⟨fun hn => body_replies mbSessionClose h hbody (mbSessionClose_own hn),
      fun hf hown hy => body_replies mbSessionClose h hbody (mbSessionClose_other hf hown hy),
      fun hf hown hy => body_replies mbSessionClose h hbody (mbSessionClose_unknown hf hown hy)⟩
  have h : ComesBare (s.advance t) conn msg := ⟨hq, ⟨ha, hmail, hrdma⟩, hon, hhold, hlen, hform⟩
  intro c
  refine ⟨fun hcode hmode hdraw => ?challenge, fun y hcode hmode hy => ?prove, fun hcode hlife hrec hzero => ?unknown⟩
  case challenge =>
    have hbody : mbBody (s.advance t) c = mbHelloChallenge (s.advance t) c := by
      have hc : c.code = 0 := hcode
      unfold mbBody mbBodyLow
      rw [hc]
      rfl
    exact hello_replies h hcode (Nat.zero_le 1) hmode (hbody.trans (mbHelloChallenge_served hdraw))
  case prove =>
    have hbody : mbBody (s.advance t) c = mbHelloProve (s.advance t) c := by
      have hc : c.code = 1 := hcode
      unfold mbBody mbBodyLow
      rw [hc]
      rfl
    have replies {w : State} {o : MbOut} (hb : mbHelloProve (s.advance t) c = (w, .answer o)) :
        Replies (exec (.helloProve t conn msg) s) c w o := hello_replies h hcode le_rfl hmode (hbody.trans hb)
    exact ⟨fun hl => replies (mbHelloProve_length hy hl), fun hl hg => replies (mbHelloProve_unproven hy hl hg),
      fun hl hg hfull => replies (mbHelloProve_full hy hl hg hfull),
      fun hl hg hroom hlife => replies (mbHelloProve_opens hy hl hg hroom hlife hon)⟩
  case unknown =>
    have hrow : exec (.mbUnknownCommand t conn msg) s = .next ((s.advance t).mbReceive conn msg []).resume := by
      show Host.Outcome.next (State.resume (if mbDefined (le msg 0 2) = true then _ else _)) = _
      rw [if_neg (by simp [hcode])]
    rw [hrow]
    exact runs_refused h (fun hm => absurd hm hrec) (mbAdmit_bare_undefined h hcode hlife hzero)

end Sys2Proof.Machine
end

/-! Queues, completion rings and event rings by mailbox command (02 R41, R42, R80, R81; 12 R362, R372; 14 R417, R420, R424). -/
section
namespace Sys2Proof.Machine

/-! ### A command by its body -/

/-- `body_replies` where the body is that of the table (R361 to R373). -/
theorem command_replies {u w : State} {code conn : Nat} {msg : Bytes} {x : Session} {extra : List Nat} {o : MbOut}
    (body : State → MbCommand → State × MbReply) (h : Comes u code conn msg x)
    (hb : body (u.taken x) (mbCommand conn msg extra x) = (w, .answer o))
    (hp : mbKeyChange code = false ∨ u.placeFree = true := by exact .inl rfl)
    (hbody : ∀ c : MbCommand, c.code = code → mbBody (u.taken x) c = body (u.taken x) c := by
      intro c hc
      unfold mbBody mbBodyLow mbBodyHigh
      rw [hc]
      rfl)
    (hc : mbDefined code = true := by rfl) (hh : helloCode code = false := by rfl) (hw : code ≠ 0x0502 := by decide) :
    Replies (.next (u.mbRow code conn msg extra).resume) (mbCommand conn msg extra x) w o :=
  body_replies body h hbody hb hc hh hw hp

/-- A command in session whose body goes on later is kept, or, as WQ_DESTROY, drains without the mailbox (R356). -/
theorem command_waits {u w : State} {code conn : Nat} {msg : Bytes} {x : Session} {extra : List Nat} {r : MbWait}
    (body : State → MbCommand → State × MbReply) (h : Comes u code conn msg x)
    (hb : body (u.taken x) (mbCommand conn msg extra x) = (w, .waits r))
    (hp : mbKeyChange code = false ∨ u.placeFree = true := by exact .inl rfl)
    (hbody : ∀ c : MbCommand, c.code = code → mbBody (u.taken x) c = body (u.taken x) c := by
      intro c hc
      unfold mbBody mbBodyLow mbBodyHigh
      rw [hc]
      rfl)
    (hc : mbDefined code = true := by rfl) (hh : helloCode code = false := by rfl) :
    Runs (.next (u.mbRow code conn msg extra).resume) (· = w.mbHold (mbCommand conn msg extra x) r) := by
  obtain ⟨y, n, hy, rfl⟩ := row_runs extra h hc hh
  refine ⟨_, n, hy, ?_⟩
  have hcode : (mbCommand conn msg extra x).code = code := h.isCode
  have hidle : ({ u.taken x with mailbox.running := none } : State) = u.taken x := by
    have back : ∀ r, r = (u.taken x).mailbox.running → ({ u.taken x with mailbox.running := r } : State) = u.taken x := by
      rintro _ rfl
      rfl
    exact back none h.quiet.mailbox.1.symm
  have hplace : ¬ (mbKeyChange code && !(u.taken x).placeFree) = true := by
    rcases hp with hp | hp
    · simp [hp]
    · have : (u.taken x).placeFree = true := hp
      simp [this]
  show (u.taken x).mbAttempt _ = _
  rw [State.mbAttempt]
  dsimp only at hidle ⊢
  rw [hidle, hcode, if_neg hplace, hbody _ hcode, hb]

/-! ### Queues and completion rings -/

theorem log2Ok_of_bounds {n : Nat} (hlow : 6 ≤ n) (hhigh : n ≤ 16) : log2Ok n = true := by
  simp [log2Ok, hlow, hhigh]

theorem mbWqCreate_on_ring {v : State} {c : MbCommand} {r : CompletionRing} (hlow : 6 ≤ c.par 0x0C 1) (hhigh : c.par 0x0C 1 ≤ 16)
    (hfree : v.queue? (c.par 8 2) = none) (hconn : v.ringConn (c.par 0x0A 2) = true) (hr : v.cring? (c.par 0x0E 2) = some r)
    (hon : r.conn = c.par 0x0A 2) :
    mbWqCreate v c =
      (let q : WorkQueue := { index := c.par 8 2, conn := c.par 0x0A 2, cr := c.par 0x0E 2, size := 2 ^ c.par 0x0C 1 }
       let fs := [(0x08, toLe 4 (0x40000000 + c.par 8 2)), (0x10, toLe 8 (0x10000000000 + c.par 8 2 * 0x400000))]
       ({ v with fabric.queues := v.fabric.queues ++ [q] }, .answer { result := mbFields fs, effect := true })) := by
  unfold mbWqCreate
  dsimp only
  rw [hr]
  exact (if_neg (by simp [hfree, hon, hconn])).trans (if_neg (by simp [log2Ok_of_bounds hlow hhigh]))

theorem mbCrCreate_free {v : State} {c : MbCommand} (hlow : 6 ≤ c.par 0x0C 1) (hhigh : c.par 0x0C 1 ≤ 16)
    (hfree : v.cring? (c.par 8 2) = none) (hconn : v.ringConn (c.par 0x0A 2) = true) :
    mbCrCreate v c =
      (let r : CompletionRing :=
         { index := c.par 8 2, conn := c.par 0x0A 2, base := c.par 0x10 8, rkey := c.par 0x18 4, size := 2 ^ c.par 0x0C 1 }
       ({ v with fabric.rings := v.fabric.rings ++ [r] }, .ok)) :=
  (if_neg (by simp [hfree, hconn])).trans (if_neg (by simp [log2Ok_of_bounds hlow hhigh]))

theorem mbCrDestroy_used {v : State} {c : MbCommand} (hused : ∃ q ∈ v.fabric.queues, q.cr = c.par 8 2) :
    mbCrDestroy v c = (v, .refuse .mbStateConflict) := by
  obtain ⟨q, hq, hcr⟩ := hused
  have hany : v.fabric.queues.any (·.cr == c.par 8 2) = true := List.any_eq_true.mpr ⟨q, hq, beq_iff_eq.mpr hcr⟩
  exact if_pos (by simp [hany])

theorem mbCrDestroy_unused {v : State} {c : MbCommand} (hring : (v.cring? (c.par 8 2)).isSome = true)
    (hunused : ∀ q ∈ v.fabric.queues, q.cr ≠ c.par 8 2) :
    mbCrDestroy v c = ({ v with fabric.rings := v.fabric.rings.filter fun (r : CompletionRing) => r.index != c.par 8 2 }, .ok) := by
  have hany : v.fabric.queues.any (·.cr == c.par 8 2) = false := List.any_eq_false.mpr fun q hq => by simpa using hunused q hq
  have hnone : (v.cring? (c.par 8 2)).isNone = false := Option.isNone_eq_false_iff.mpr hring
  exact if_neg (by simp [hany, hnone])

theorem mbWqDestroy_of_queue {v : State} {c : MbCommand} {q : WorkQueue} (hq : v.queue? (c.par 8 2) = some q) (hd : q.state ≠ .draining) :
    mbWqDestroy v c =
      (let w := v.modQueue (c.par 8 2) fun q => { q with state := .draining, target := none, cache := [] }
       ((w.withdraw .notExecuted fun j => j.queue == c.par 8 2).settle, .waits .drain)) := by
  unfold mbWqDestroy
  dsimp only
  rw [hq]
  exact if_neg (by simpa using hd)

/-- The drain of a queue that nothing keeps has ended (R81). -/
theorem drainDone_drained {u : State} {n : Nat} {q : WorkQueue} (hq : u.queue? n = some q) (hd : q.state = .draining)
    (hj : u.queueJobs n = 0) (hc : u.completionHeld q.cr = false) (hm : u.power.mode ≠ .hold) :
    u.drainDone n =
      (let fs := [(0x08, toLe 2 q.cons), (0x0C, toLe 4 ((q.submitSeq + 2 ^ 32 - 1) % 2 ^ 32))]
       let w := match u.mailbox.drains.find? (·.1 == n) with
         | some (_, c) => u.mbSend c { result := mbFields fs, effect := true }
         | none => u
       { w with
         mailbox.drains := w.mailbox.drains.filter fun (d : Nat × MbCommand) => d.1 != n
         fabric.queues := w.fabric.queues.filter fun (q : WorkQueue) => q.index != n }) := by
  unfold State.drainDone
  rw [hq]
  refine (if_neg (by simp [hd, hj, hc, hm])).trans ?_
  cases u.mailbox.drains.find? (·.1 == n) with
  | none => rfl
  | some d => rfl

/-! ### Event rings -/

theorem ringOwner_of_carriage {v : State} {r : Nat} (h : 2 ≤ r → (v.carriage? (r - 2)).isSome = true) : v.ringOwner r = true := by
  unfold State.ringOwner
  by_cases hr : r < 2
  · simp [hr]
  · simp [h (Nat.le_of_not_lt hr)]

theorem mbEringCreate_free {v : State} {c : MbCommand} (hr : c.par 8 2 ≤ 4097) (hlow : 6 ≤ c.par 0x0C 1) (hhigh : c.par 0x0C 1 ≤ 16)
    (hfree : v.ering? (c.par 8 2) = none) (hconn : v.ringConn (c.par 0x0A 2) = true)
    (howner : 2 ≤ c.par 8 2 → (v.carriage? (c.par 8 2 - 2)).isSome = true) :
    mbEringCreate v c =
      (let r : EventRing :=
         { index := c.par 8 2, conn := c.par 0x0A 2, base := c.par 0x10 8, rkey := c.par 0x18 4, size := 2 ^ c.par 0x0C 1 }
       let w := { v with router.rings := v.router.rings ++ [r] }
       (if c.par 8 2 < 2 then w.deliverEarly (c.par 8 2) else w, .ok)) :=
  (if_neg (by simp; omega)).trans (if_neg (by simp [hfree, hconn, ringOwner_of_carriage howner]))

theorem mbEringDestroy_free {v : State} {c : MbCommand} (hr : c.par 8 2 ≤ 4097) (hring : (v.ering? (c.par 8 2)).isSome = true)
    (hexport : v.book.exportRing ≠ some (c.par 8 2)) :
    mbEringDestroy v c = ({ v with router.rings := v.router.rings.filter fun (r : EventRing) => r.index != c.par 8 2 }, .ok) := by
  have hnone : (v.ering? (c.par 8 2)).isNone = false := Option.isNone_eq_false_iff.mpr hring
  exact (if_neg (Nat.not_lt.mpr hr)).trans (if_neg (by simp [hnone, hexport]))

section
variable {v : State} {c : MbCommand} (hr : c.par 8 2 ≤ 4097) (hring : (v.ering? (c.par 8 2)).isSome = true) (hlow : 1 ≤ c.par 0x0A 1)
  (hhigh : c.par 0x0A 1 ≤ 32) (hlen : c.bulk.length = 8 * c.par 0x0A 1)
include hr hring hlow hhigh hlen

/-- A filter program of the stated length is judged by `filterOk` alone (R424). -/
theorem mbEfilterLoad_of_length :
    mbEfilterLoad v c =
      (let prog := programOf c.bulk (c.par 0x0A 1)
       if filterOk prog then (v.modEring (c.par 8 2) fun r => { r with program := prog, buckets := fullBuckets prog v.clock.now }, .ok)
       else (v, .refuse .malformedEncoding)) := by
  have hnone : (v.ering? (c.par 8 2)).isNone = false := Option.isNone_eq_false_iff.mpr hring
  have hzero : c.par 0x0A 1 ≠ 0 := Nat.ne_of_gt hlow
  exact (if_neg (Nat.not_lt.mpr hr)).trans ((if_neg (by simp [hnone])).trans
    ((if_neg (by simp [hlen, hzero, hhigh])).trans (ite_bnot ..)))

end

/-- Settles O39: each command by what its body does under the clause's conditions, the end of a drain by its own row. -/
theorem mailboxRings : Obligations.MailboxRings := by
  unfold Obligations.MailboxRings
  rintro s _ _ t conn msg x rfl rfl
  intro c p log done
  refine ⟨fun h hlow hhigh hfree hconn r hr hon => ?wqCreate, fun h hlow hhigh hfree hconn => ?crCreate, fun h hring => ?crDestroy,
    fun h q hq hd => ?wqDestroy, fun h hr hlow hhigh hfree hconn howner => ?eringCreate, fun h hr hring hexport => ?eringDestroy,
    fun h hr hring hlow hhigh hlen => ?efilterLoad, fun n q hq hd hj hc hm => congrArg Host.Outcome.next (drainDone_drained hq hd hj hc hm)⟩
  case wqCreate => exact command_replies mbWqCreate h (mbWqCreate_on_ring hlow hhigh hfree hconn hr hon)
  case crCreate => exact command_replies mbCrCreate h (mbCrCreate_free hlow hhigh hfree hconn)
  case crDestroy =>
    exact ⟨fun hused => command_replies mbCrDestroy h (mbCrDestroy_used hused),
      fun hunused => command_replies mbCrDestroy h (mbCrDestroy_unused hring hunused)⟩
  case wqDestroy => exact command_waits mbWqDestroy h (mbWqDestroy_of_queue hq hd)
  case eringCreate => exact command_replies mbEringCreate h (mbEringCreate_free hr hlow hhigh hfree hconn howner)
  case eringDestroy => exact command_replies mbEringDestroy h (mbEringDestroy_free hr hring hexport)
  case efilterLoad =>
    have hb := mbEfilterLoad_of_length (c := c) hr hring hlow hhigh hlen
    exact ⟨fun hok => command_replies mbEfilterLoad h (hb.trans (if_neg (ne_true_of_eq_false hok))),
      fun hok => command_replies mbEfilterLoad h (hb.trans (if_pos hok))⟩

end Sys2Proof.Machine
end

/-! Carriages, the Process Map and host windows by mailbox command (11 R327 to R345; 12 R363). -/
section
namespace Sys2Proof.Machine

theorem carriageField_of_lt {n : Nat} (h : n < 4096) : carriageField n = true := decide_eq_true h

/-! ### Creation and RESIZE -/

section
variable {v : State} {c : MbCommand} (hlen : c.bulk.length = 112) (hn : le c.bulk 0 2 < 4096)
  (hfree : v.carriage? (le c.bulk 0 2) = none) (hrange : (paramsOf c.bulk).inRange (le c.bulk 0 2) = true)
include hlen hn hfree hrange

theorem mbCarriageCreate_beyond_pools (hpools : v.poolsOk (paramsOf c.bulk) (le c.bulk 0 2) = false) :
    mbCarriageCreate v c = (v, .refuse .quotaExceeded) :=
  (if_neg (by simp [hlen])).trans ((if_neg (by simp [carriageField_of_lt hn])).trans ((if_neg (by simp [hfree])).trans
    ((if_neg (by simp [hrange])).trans (if_pos (by simp [hpools])))))

/-- A carriage starts with generation 1, full budgets and a drawn K_C, which is pushed (R278, R330, R454). -/
theorem mbCarriageCreate_served (hpools : v.poolsOk (paramsOf c.bulk) (le c.bulk 0 2) = true) (hd : v.drawFate false = .served) :
    mbCarriageCreate v c =
      (let w := (v.serveDraw false 1).1
       let new : Carriage := { number := le c.bulk 0 2, params := paramsOf c.bulk, key := (1, drawBytes (v.serveDraw false 1).2 32),
                               keyVersion := (w.clock.train, w.deviceIndex), budgets := (paramsOf c.bulk).ceilings.map budgetCap }
       (({ w with fabric.carriages := w.fabric.carriages ++ [new] } : State).pushKey (le c.bulk 0 2),
        .answer { result := mbFields [(0x08, toLe 4 1)], effect := true })) := by
  refine (if_neg (by simp [hlen])).trans ((if_neg (by simp [carriageField_of_lt hn])).trans ((if_neg (by simp [hfree])).trans
    ((if_neg (by simp [hrange])).trans ((if_neg (by simp [hpools])).trans ?_))))
  rw [hd]

end

theorem mbCarriageResize_fit {v : State} {c : MbCommand} (h : v.resizeFault c.bulk = none) :
    mbCarriageResize v c = (v, .waits .epoch) := by
  unfold mbCarriageResize
  rw [h]

/-! ### DISABLE, RESET and DESTROY -/

/-- GENERATION of the answer of a carriage command (R363). -/
def State.genOf (s : State) (n : Nat) : Nat := match s.carriage? n with | some y => y.gen | none => 0

theorem genAnswer_eq (v : State) (n : Nat) :
    v.genAnswer n true = (v, .answer { result := mbFields [(0x08, toLe 4 (v.genOf n))], effect := true }) := rfl

section
variable {v : State} {c : MbCommand} (hn : c.par 8 2 < 4096)
include hn

theorem mbCarriageDisable_active (hs : v.carState (c.par 8 2) = .active) :
    mbCarriageDisable v c =
      ((v.bumpGeneration (c.par 8 2) 1).modCarriage (c.par 8 2) fun y => { y with state := .disabled }).settle.genAnswer (c.par 8 2) true :=
  (if_neg (by simp [carriageField_of_lt hn])).trans ((if_neg (by simp [State.liveCarriage, hs])).trans (if_neg (by simp [hs])))

theorem mbCarriageReset_live (hlive : v.liveCarriage (c.par 8 2) = true) :
    mbCarriageReset v c =
      (let w := v.modCarriage (c.par 8 2) fun y => { y with dropped := 0, quotaRefusals := 0, translationFaults := 0, state := .active }
       (w.bumpGeneration (c.par 8 2) 2).settle.genAnswer (c.par 8 2) true) :=
  (if_neg (by simp [carriageField_of_lt hn])).trans (if_neg (by simp [hlive]))

theorem mbCarriageDestroy_kept (h : c.par 8 2 = 0 ∨ v.ownsSlots (c.par 8 2) = true) :
    mbCarriageDestroy v c = (v, .refuse .mbStateConflict) := by
  refine (if_neg (by simp [carriageField_of_lt hn])).trans (if_pos ?_)
  rcases h with h | h <;> simp [h]

theorem mbCarriageDestroy_free (hlive : v.liveCarriage (c.par 8 2) = true) (hzero : c.par 8 2 ≠ 0)
    (howns : v.ownsSlots (c.par 8 2) = false) :
    mbCarriageDestroy v c =
      (let w := (v.bumpGeneration (c.par 8 2) 3).modCarriage (c.par 8 2) fun y => { y with state := .destroying }
       ({ w with fabric.pmap := w.fabric.pmap.filter fun (e : PMapEntry) => e.carriage != c.par 8 2 } : State).settle.genAnswer
         (c.par 8 2) true) :=
  (if_neg (by simp [carriageField_of_lt hn])).trans (if_neg (by simp [hzero, howns, hlive]))

end

/-! ### The Process Map and windows -/

/-- Entries of a PMAP_SET. -/
def MbCommand.pmapEntries (c : MbCommand) : List Bytes := (List.range (c.par 8 1)).map fun i => slice c.bulk (16 * i) 16

theorem mbPmapSet_good {v : State} {c : MbCommand} (hlow : 1 ≤ c.par 8 1) (hhigh : c.par 8 1 ≤ 6) (hlen : c.bulk.length = 16 * c.par 8 1)
    (hes : ∀ e ∈ c.pmapEntries, le e 8 2 < 4096 ∧ v.liveCarriage (le e 8 2) = true)
    (hfit : (c.pmapEntries.foldl State.pmapWrite v).fabric.pmap.length ≤ 1048576) :
    mbPmapSet v c = (c.pmapEntries.foldl State.pmapWrite v, .ok) := by
  have hfield : c.pmapEntries.all (fun e => carriageField (le e 8 2)) = true :=
    List.all_eq_true.mpr fun e he => carriageField_of_lt (hes e he).1
  have hlive : c.pmapEntries.all (fun e => v.liveCarriage (le e 8 2)) = true := List.all_eq_true.mpr fun e he => (hes e he).2
  have hzero : c.par 8 1 ≠ 0 := Nat.ne_of_gt hlow
  exact (if_neg (by simp [hlen, hzero, hhigh])).trans ((if_neg (by rw [← MbCommand.pmapEntries, hfield]; decide)).trans
    ((if_neg (by rw [← MbCommand.pmapEntries, hlive]; decide)).trans (if_neg (Nat.not_lt.mpr hfit))))

/-- The window that a WINDOW_SET names (R339). -/
def MbCommand.window (c : MbCommand) : Window :=
  { rkey := c.par 0x10 4, conn := c.par 0x14 2, access := c.par 0x16 1 % 4, base := c.par 0x18 8 % 2 ^ 63, length := c.par 0x20 8 }

/-- Windows of a carriage other than `w`. -/
def Carriage.otherWindows (y : Carriage) (w : Window) : List Window :=
  y.windows.filter fun (z : Window) => !(z.rkey == w.rkey && z.conn == w.conn)

section
variable {v : State} {c : MbCommand} {y : Carriage} (hy : v.carriage? (c.par 8 2) = some y) (hs : y.state ≠ .destroying)
include hy hs

theorem mbWindowSet_removes (ha : c.window.access = 0) :
    mbWindowSet v c = (v.modCarriage (c.par 8 2) fun z => { z with windows := y.otherWindows c.window }, .ok) := by
  unfold mbWindowSet
  dsimp only
  rw [hy]
  exact (if_neg (by simp [hs])).trans (if_pos (beq_iff_eq.mpr ha))

theorem mbWindowSet_sets (ha : c.window.access ≠ 0) (hlow : 1 ≤ c.window.length) (hhigh : c.window.length ≤ 2 ^ 40)
    (hroom : (y.otherWindows c.window).length < y.params.windowLimit) :
    mbWindowSet v c = (v.modCarriage (c.par 8 2) fun z => { z with windows := y.otherWindows c.window ++ [c.window] }, .ok) := by
  unfold mbWindowSet
  dsimp only
  rw [hy]
  have hlen : ¬ (c.window.length == 0 || 2 ^ 40 < c.window.length) = true := by
    simp only [Bool.or_eq_true, beq_iff_eq, decide_eq_true_eq]
    omega
  exact (if_neg (by simp [hs])).trans ((if_neg (fun h => ha (eq_of_beq h))).trans ((if_neg hlen).trans (if_neg (Nat.not_lt.mpr hroom))))

end

/-- Settles O40: each command by what its body does under the clause's conditions; RESIZE waits for the boundary. -/
theorem mailboxCarriages : Obligations.MailboxCarriages := by
  unfold Obligations.MailboxCarriages
  rintro s _ _ t conn msg x rfl rfl
  intro c p b n gen after
  have moved {i : Instr} {w : State} (body : State → MbCommand → State × MbReply)
      (hb : body ((s.advance t).taken x) c = w.genAnswer n true)
      (reply : ∀ {w : State} {o : MbOut}, body ((s.advance t).taken x) c = (w, .answer o) → Replies (exec i s) c w o) : after i w :=
    reply (hb.trans (genAnswer_eq w n))
  refine ⟨fun h hlen hn hfree hrange => ?create, fun h hfit => command_waits mbCarriageResize h (mbCarriageResize_fit hfit),
    fun h hn hs => moved mbCarriageDisable (mbCarriageDisable_active hn hs) (command_replies mbCarriageDisable h),
    fun h hn hlive => moved mbCarriageReset (mbCarriageReset_live hn hlive) (command_replies mbCarriageReset h), fun h hn hlive => ?destroy,
    fun h hlow hhigh hlen hes hfit => command_replies mbPmapSet h (mbPmapSet_good hlow hhigh hlen hes hfit), fun h y hy hs => ?window⟩
  case create =>
    exact ⟨fun hpools => command_replies mbCarriageCreate h (mbCarriageCreate_beyond_pools hlen hn hfree hrange hpools),
      fun hpools hd => command_replies mbCarriageCreate h (mbCarriageCreate_served hlen hn hfree hrange hpools hd)⟩
  case destroy =>
    exact ⟨fun hkept => command_replies mbCarriageDestroy h (mbCarriageDestroy_kept hn hkept),
      fun hzero howns => moved mbCarriageDestroy (mbCarriageDestroy_free hn hlive hzero howns) (command_replies mbCarriageDestroy h)⟩
  case window =>
    exact ⟨fun ha => command_replies mbWindowSet h (mbWindowSet_removes hy hs ha),
      fun ha hlow hhigh hroom => command_replies mbWindowSet h (mbWindowSet_sets hy hs ha hlow hhigh hroom)⟩

end Sys2Proof.Machine
end

/-! Header changes, destruction of slots and rolls of wrapping keys by mailbox command (09 R268, R281, R289, R291, R293, R560). -/
section
namespace Sys2Proof.Machine

theorem modLedger_id (w : State) (slot : Nat) : w.modLedger slot id = w := by
  have hid : ∀ l : List Ledger, mapIf (·.slot == slot) id l = l := by
    intro l
    simp [mapIf]
  unfold State.modLedger
  rw [hid]

/-! ### A header change (R268, R289) -/

/-- What a KEY_CHANGE entry records of a slot: the slot, its owner, and the record in force (R560). -/
def State.keyRecord (w : State) (slot : Nat) : MbOut :=
  { slot := some slot, carriage := w.slotOwner slot, record := (w.slotRecord? slot).map (·.index) }

theorem slotRefuse_eq (w : State) (slot : Nat) (st : Status) : w.slotRefuse slot st = .answer { w.keyRecord slot with status := st } := rfl

/-- The state once a slot's material stands under a changed header in record `k`. -/
def State.headerChanged (v : State) (r : SlotRecord) (g : SlotHeader → SlotHeader) (k : Nat) : State :=
  let excess := (v.cellar.oversized.filter fun (y : Nat × Bytes) => y.1 == r.index).map fun y => (k, y.2)
  (({ v with cellar.oversized := v.cellar.oversized ++ excess } : State).install r.header.slot k (g r.header) r.material).pushSlot r.header.slot

/-- With no job before it the mailbox takes the free record at once (R268). -/
theorem mbRecord_free {v : State} {k : Nat} (hq : v.cellar.recordQueue = []) (hk : v.freeRecord? = some k) : v.mbRecord = (v, some k) := by
  have back : ∀ q, q = v.cellar.recordQueue → ({ v with cellar.recordQueue := q } : State) = v := by
    rintro _ rfl
    rfl
  unfold State.mbRecord
  rw [hk, hq]
  exact Prod.ext (back _ hq.symm) rfl

theorem changeHeader_free {v : State} {r : SlotRecord} {g : SlotHeader → SlotHeader} {k : Nat} (hq : v.cellar.recordQueue = [])
    (hk : v.freeRecord? = some k) (hroom : granules r.material.length ≤ v.freeGranules) :
    v.changeHeader r g =
      (v.headerChanged r g k, .answer { (v.headerChanged r g k).keyRecord r.header.slot with effect := true }) := by
  unfold State.changeHeader
  rw [mbRecord_free hq hk]
  exact if_neg (Nat.not_lt.mpr hroom)

/-! ### SLOT_SHARE, SLOT_UNSHARE, LOW_THRESHOLD_SET and SLOT_DESTROY -/

section
variable {v : State} {c : MbCommand} {r : SlotRecord} (hr : v.slotRecord? c.slot = some r)
include hr

theorem mbSlotShare_fault {st : Status} (h : slotFault (some r) true false = some st) :
    mbSlotShare v c = (v, .answer { v.keyRecord c.slot with status := st }) := by
  unfold mbSlotShare
  rw [hr, h, ← slotRefuse_eq]

theorem mbSlotShare_sound (h : slotFault (some r) true false = none) (hcar : c.par 0x0A 2 < 4096)
    (hnew : c.par 0x0A 2 ∉ r.header.shareList) :
    mbSlotShare v c =
      if 8 ≤ r.header.shareList.length then (v, .answer { v.keyRecord c.slot with status := .quotaExceeded })
      else v.changeHeader r fun h => { h with shareList := h.shareList ++ [c.par 0x0A 2] } := by
  unfold mbSlotShare
  rw [hr, h]
  exact (if_neg (Nat.not_le.mpr hcar)).trans (if_neg (by simpa using hnew))

theorem mbSlotUnshare_sound (h : slotFault (some r) true false = none) (hcar : c.par 0x0A 2 < 4096)
    (hold : c.par 0x0A 2 ∈ r.header.shareList) :
    mbSlotUnshare v c = v.changeHeader r fun h => { h with shareList := h.shareList.filter (· != c.par 0x0A 2) } := by
  unfold mbSlotUnshare
  rw [hr, h]
  exact (if_neg (Nat.not_le.mpr hcar)).trans (if_neg (by simpa using hold))

theorem mbLowThresholdSet_fault {st : Status} (h : slotFault (some r) true true = some st) :
    mbLowThresholdSet v c = (v, .answer { v.keyRecord c.slot with status := st }) := by
  unfold mbLowThresholdSet
  rw [hr, h, ← slotRefuse_eq]

theorem mbLowThresholdSet_sound {w : State} {o : MbOut} (h : slotFault (some r) true true = none)
    (hw : (v.changeHeader r fun h => { h with lowThreshold := if c.par 0x0C 4 = 0 then 65536 else c.par 0x0C 4 }) = (w, .answer o))
    (ho : o.effect = true) :
    mbLowThresholdSet v c =
      (w.modLedger c.slot fun l => { l with low := decide (l.left ≤ if c.par 0x0C 4 = 0 then 65536 else c.par 0x0C 4) }, .answer o) := by
  have hlow : (if (c.par 0x0C 4 == 0) = true then 65536 else c.par 0x0C 4) = if c.par 0x0C 4 = 0 then 65536 else c.par 0x0C 4 := by
    simp only [beq_iff_eq]
  unfold mbLowThresholdSet
  rw [hr, h]
  dsimp only
  rw [hlow, hw]
  simp only [ho, if_true]

theorem mbSlotDestroy_of_firmware (h : bit r.header.masters 4 = true) :
    mbSlotDestroy v c = (v, .answer { v.keyRecord c.slot with status := .keyUseDenied }) := by
  unfold mbSlotDestroy
  rw [hr]
  exact if_pos h

theorem mbSlotDestroy_of_record (h : bit r.header.masters 4 = false) :
    mbSlotDestroy v c =
      ((v.destroySlot c.slot).settle, .answer { effect := true, slot := some c.slot, carriage := r.header.owner }) := by
  unfold mbSlotDestroy
  rw [hr]
  exact if_neg (ne_true_of_eq_false h)

end

theorem mbSlotDestroy_empty {v : State} {c : MbCommand} (h : v.slotRecord? c.slot = none) :
    mbSlotDestroy v c = (v, .answer { v.keyRecord c.slot with status := .keyNotFound }) := by
  unfold mbSlotDestroy
  rw [h, slotRefuse_eq]

/-! ### What R293 checks of a slot -/

section
variable {r : SlotRecord} {stateful : Bool}

theorem slotFault_corked (h : r.header.state = .corked) : slotFault (some r) true stateful = some .mbStateConflict :=
  if_pos (by simp [h])

variable (hs : r.header.state ≠ .corked)
include hs

theorem slotFault_foreign (hm : r.header.controlMaster = false) : slotFault (some r) true stateful = some .keyUseDenied :=
  (if_neg (by simp [hs])).trans (if_pos (by simp [hm]))

variable (hm : r.header.controlMaster = true)
include hm

theorem slotFault_stateless (hu : hasUsage r.header.usage "stateful" = false) : slotFault (some r) true true = some .keyUseDenied :=
  (if_neg (by simp [hs])).trans ((if_neg (by simp [hm])).trans (if_pos (by simp [hu])))

theorem slotFault_sound (hu : stateful = true → hasUsage r.header.usage "stateful" = true) : slotFault (some r) true stateful = none :=
  (if_neg (by simp [hs])).trans ((if_neg (by simp [hm])).trans (if_neg (by cases stateful <;> simp_all)))

end

/-! ### WRAPKEY_ROLL (R281) -/

theorem mbWrapkeyRoll_served {v : State} {c : MbCommand} {y : Carriage} (hn : c.par 8 2 < 4096) (hy : v.carriage? (c.par 8 2) = some y)
    (hd : v.drawFate false = .served) :
    mbWrapkeyRoll v c =
      (let w := (v.serveDraw false 1).1
       let w' := w.modCarriage (c.par 8 2) fun z => { z with
         key := (y.key.1 + 1, drawBytes (v.serveDraw false 1).2 32), prevKey := some z.key, keyVersion := (w.clock.train, w.deviceIndex) }
       (w'.pushKey (c.par 8 2),
        .answer { result := mbFields [(0x08, toLe 4 (y.key.1 + 1))], effect := true, carriage := c.par 8 2 })) := by
  refine (if_neg (Nat.not_le.mpr hn)).trans ?_
  rw [hy]
  dsimp only
  rw [hd]

/-- Settles O42: the checks of R293 by `slotFault`, a change of a header by `changeHeader_free`, and the roll by its body. -/
theorem mailboxSlots : Obligations.MailboxSlots := by
  unfold Obligations.MailboxSlots
  rintro s _ _ t conn msg x rfl rfl hplace
  intro c p slot car named refuses changes
  have changed (hq : Quiet (s.advance t)) {r : SlotRecord} (hslot : r.header.slot = slot) {k : Nat}
      (hk : ((s.advance t).taken x).freeRecord? = some k) (hgran : granules r.material.length ≤ ((s.advance t).taken x).freeGranules)
      (g : SlotHeader → SlotHeader) :
      ((s.advance t).taken x).changeHeader r g =
        (((s.advance t).taken x).headerChanged r g k, .answer { named (((s.advance t).taken x).headerChanged r g k) with effect := true }) := by
    have hchange := changeHeader_free (v := (s.advance t).taken x) (g := g) hq.records hk hgran
    rwa [hslot] at hchange
  refine ⟨fun r hr hslot => ⟨fun h => ?share, fun h hs hm hcar hold => ?unshare, fun h hs hm => ?low, fun h => ?destroy⟩,
    fun h hr => command_replies mbSlotDestroy h (mbSlotDestroy_empty hr) (.inr hplace),
    fun h hn y hy hd => command_replies mbWrapkeyRoll h (mbWrapkeyRoll_served hn hy hd) (.inr hplace)⟩
  case share =>
    have faulty {st : Status} (hf : slotFault (some r) true false = some st) : refuses (.slotShare t conn msg) st :=
      command_replies mbSlotShare h (mbSlotShare_fault hr hf) (.inr hplace)
    refine ⟨fun hs => faulty (slotFault_corked hs), fun hs hm => faulty (slotFault_foreign hs hm), fun hs hm hcar hnew => ?_⟩
    have hbody := mbSlotShare_sound (c := c) hr (slotFault_sound hs hm (by simp)) hcar hnew
    refine ⟨fun hfull => command_replies mbSlotShare h (hbody.trans (if_pos hfull)) (.inr hplace), fun hroom k hk hgran => ?_⟩
    intro excess w
    rw [modLedger_id]
    exact command_replies mbSlotShare h
      (hbody.trans ((if_neg (Nat.not_le.mpr hroom)).trans (changed h.quiet hslot hk hgran _))) (.inr hplace)
  case unshare =>
    intro k hk hgran excess w
    rw [modLedger_id]
    exact command_replies mbSlotUnshare h
      ((mbSlotUnshare_sound (c := c) hr (slotFault_sound hs hm (by simp)) hcar hold).trans (changed h.quiet hslot hk hgran _)) (.inr hplace)
  case low =>
    exact ⟨fun hu => command_replies mbLowThresholdSet h (mbLowThresholdSet_fault hr (slotFault_stateless hs hm hu)) (.inr hplace),
      fun hu k hk hgran => command_replies mbLowThresholdSet h
        (mbLowThresholdSet_sound hr (slotFault_sound hs hm fun _ => hu) (changed h.quiet hslot hk hgran _) rfl) (.inr hplace)⟩
  case destroy =>
    exact ⟨fun hf => command_replies mbSlotDestroy h (mbSlotDestroy_of_firmware hr hf) (.inr hplace),
      fun hf => command_replies mbSlotDestroy h (mbSlotDestroy_of_record hr hf) (.inr hplace)⟩

end Sys2Proof.Machine
end

/-! Leaves, the ring the Book goes to and provisioning by mailbox command (06 R193 to R197; 09 R285, R299; 12 R352, R364; 14 R421; 15 R458). -/
section
namespace Sys2Proof.Machine

theorem slotFault_of_master {r : SlotRecord} (h : r.header.controlMaster = true) : slotFault (some r) false false = none := by
  simp [slotFault, h]

/-! ### LEAF_RELEASE (R195) -/

section
variable {v : State} {c : MbCommand} {r : SlotRecord} {l : Ledger} {m : Bytes} {y : Nat × Nat × Nat}

/-- The state once the top part of a range, from `x` on, has gone to another module. -/
def State.leafReleased (v : State) (slot : Nat) (r : SlotRecord) (l : Ledger) (y : Nat × Nat × Nat) (x : Nat) (body : Bytes) : State :=
  let cut := l.ranges.flatMap fun z => if z == y then (if y.1 < x then [(y.1, y.2.1, x)] else []) else [z]
  let w := v.modLedger slot fun z => { z with ranges := cut, releases := z.releases ++ [body], serial := l.serial + 1 }
  w.leafEvent slot r.header.lowThreshold r.header.owner

/-- The index `x` does not start the top part of the range: it may have been used, or it is not at a boundary (R194, R195). -/
def leafKept (r : SlotRecord) (l : Ledger) (y : Nat × Nat × Nat) (x : Nat) : Prop :=
  x < l.highWater ∨ x < y.2.1 ∨ x % leafUnit r.header r.material ≠ 0

theorem leafKept_iff (x : Nat) :
    (decide (x < l.highWater) || decide (x < y.2.1) || x % leafUnit r.header r.material != 0) = true ↔ leafKept r l y x := by
  simp [leafKept, or_assoc]

variable (hr : v.slotRecord? c.slot = some r) (hm : r.header.controlMaster = true) (hl : v.ledger? c.slot = some l) (hq : v.quotes = true)
  (hmember : v.member? (c.par 0x0A 2) = some m)
  (hy : (l.ranges.find? fun y => y.1 ≤ c.par 0x10 8 && c.par 0x10 8 < y.2.2) = some y)
include hr hm hl hq hmember hy

theorem mbLeafRelease_kept (h : leafKept r l y (c.par 0x10 8)) :
    mbLeafRelease v c =
      (v, .answer { v.keyRecord c.slot with status := .outOfRange, result := mbFields [(0x08, toLe 8 l.highWater)] }) := by
  unfold mbLeafRelease
  rw [hr, slotFault_of_master hm, hl]
  refine (if_neg (by simp [hq])).trans ?_
  rw [hmember]
  dsimp only
  rw [hy]
  exact if_pos (leafKept_iff _ |>.mpr h)

theorem mbLeafRelease_full (h : ¬ leafKept r l y (c.par 0x10 8)) (hfull : 64 ≤ l.releases.length) :
    mbLeafRelease v c =
      (v, .answer { v.keyRecord c.slot with status := .quotaExceeded, result := mbFields [(0x08, toLe 8 l.highWater)] }) := by
  unfold mbLeafRelease
  rw [hr, slotFault_of_master hm, hl]
  refine (if_neg (by simp [hq])).trans ?_
  rw [hmember]
  dsimp only
  rw [hy]
  exact (if_neg (h ∘ (leafKept_iff _).mp)).trans (if_pos hfull)

theorem mbLeafRelease_releases (h : ¬ leafKept r l y (c.par 0x10 8)) (hroom : l.releases.length < 64) :
    mbLeafRelease v c =
      (let body := releaseBody v.deviceIndex (memIndex m) (l.serial + 1) l.keyId (c.par 0x10 8) y.2.2 v.fuses.uniqueId (memUid m) v.clock.train
       let w := v.leafReleased c.slot r l y (c.par 0x10 8) body
       (w.compareRanges, .answer { w.keyRecord c.slot with bulk := body ++ w.identitySign body (zeros 32) [], effect := true })) := by
  unfold mbLeafRelease
  rw [hr, slotFault_of_master hm, hl]
  refine (if_neg (by simp [hq])).trans ?_
  rw [hmember]
  dsimp only
  rw [hy]
  exact (if_neg (h ∘ (leafKept_iff _).mp)).trans (if_neg (Nat.not_le.mpr hroom))

end

/-! ### LEAF_ACCEPT (R196, R197) -/

theorem leafEvent_cellar (w : State) (slot low owner : Nat) :
    (w.leafEvent slot low owner).cellar.dir = w.cellar.dir ∧ (w.leafEvent slot low owner).cellar.records = w.cellar.records := by
  unfold State.leafEvent
  split
  · exact ⟨rfl, rfl⟩
  · rename_i l _
    have hmod : ∀ b : Bool, (if b then w else w.modLedger slot fun z => { z with low := decide (l.left ≤ low) }).cellar.dir = w.cellar.dir ∧
        (if b then w else w.modLedger slot fun z => { z with low := decide (l.left ≤ low) }).cellar.records = w.cellar.records := by
      intro b
      cases b <;> exact ⟨rfl, rfl⟩
    dsimp only
    split
    · rw [(raiseFor_events _ _ _ _).cellar]
      exact hmod _
    · exact hmod _

/-- Ledgers and events leave the slots as they are. -/
theorem slotRecord?_leafEvent (v : State) (a b low owner k : Nat) (g : Ledger → Ledger) :
    ((v.modLedger a g).leafEvent b low owner).slotRecord? k = v.slotRecord? k := by
  obtain ⟨hdir, hrecords⟩ := leafEvent_cellar (v.modLedger a g) b low owner
  unfold State.slotRecord? State.dir? State.record?
  rw [hdir, hrecords]
  rfl

/-- A release object arrives for a key that this module holds, from a listed member whose identity keys verify it (R196). -/
structure LeafOffered (v : State) (b m : Bytes) (q : Peer) (l : Ledger) (r : SlotRecord) : Prop where
  length : b.length = 4851
  version : le b 0 2 = 1
  member : v.member? (le b 2 2) = some m
  uid : memUid m = slice b 0x40 16
  peer : v.peer? (le b 2 2) = some q
  identity : q.identity ≠ []
  signed : bothHold 3 (q.identity.take 2592) (slice q.identity 2592 97) (b.take 128) (slice b 0x80 4627) (slice b 0x1293 96) = true
  recipient : slice b 0x50 16 = v.fuses.uniqueId
  ledger : (v.cellar.ledgers.find? fun l => l.keyId == slice b 0x10 32) = some l
  record : v.slotRecord? l.slot = some r

/-- A release object that the ledger refuses: its serial is old, or its range has no boundaries of the key's unit, is empty, overlaps one held
or regains one released (R196, R197). -/
def Ledger.refuses (l : Ledger) (r : SlotRecord) (b : Bytes) : Prop :=
  let first := le b 0x30 8
  let last := le b 0x38 8
  let n := leafUnit r.header r.material
  le b 8 8 ≤ l.lastAccepted (slice b 0x40 16) ∨ first % n ≠ 0 ∨ last % n ≠ 0 ∨ last ≤ first ∨
    (∃ y ∈ l.ranges, first < y.2.2 ∧ y.1 < last) ∨ ∃ d ∈ l.releases, first < le d 0x38 8 ∧ le d 0x30 8 < last

theorem ledgerRefuses_iff (l : Ledger) (r : SlotRecord) (b : Bytes) :
    (decide (le b 8 8 ≤ l.lastAccepted (slice b 0x40 16)) || le b 0x30 8 % leafUnit r.header r.material != 0 ||
      le b 0x38 8 % leafUnit r.header r.material != 0 || decide (le b 0x38 8 ≤ le b 0x30 8) ||
      (l.ranges.any fun y => le b 0x30 8 < y.2.2 && y.1 < le b 0x38 8) || l.regains (le b 0x30 8) (le b 0x38 8)) = true ↔ l.refuses r b := by
  simp only [Ledger.refuses, Ledger.regains, Bool.or_eq_true, List.any_eq_true, Bool.and_eq_true, decide_eq_true_eq, bne_iff_ne, or_assoc]

/-- The state once a ledger holds the range of a release object. -/
def State.leafTaken (v : State) (l : Ledger) (r : SlotRecord) (b : Bytes) : State :=
  let below := l.ranges.filter fun (y : Nat × Nat × Nat) => y.1 < le b 0x30 8
  let above := l.ranges.filter fun (y : Nat × Nat × Nat) => le b 0x30 8 < y.1
  let taken := (l.accepted.filter fun (y : Bytes × Nat) => y.1 != slice b 0x40 16) ++ [(slice b 0x40 16, le b 8 8)]
  let w := v.modLedger l.slot fun l => { l with ranges := below ++ [(le b 0x30 8, le b 0x30 8, le b 0x38 8)] ++ above, accepted := taken }
  w.leafEvent l.slot r.header.lowThreshold r.header.owner

theorem leafTaken_slotRecord? (v : State) (l : Ledger) (r : SlotRecord) (b : Bytes) (k : Nat) :
    (v.leafTaken l r b).slotRecord? k = v.slotRecord? k := slotRecord?_leafEvent ..

section
variable {v : State} {c : MbCommand} {m : Bytes} {q : Peer} {l : Ledger} {r : SlotRecord} (h : LeafOffered v c.bulk m q l r)
include h

/-- What LEAF_ACCEPT answers of an object that verifies depends on its serial, its range and the ranges held alone. -/
theorem mbLeafAccept_offered :
    let o : MbOut := { carriage := v.slotOwner l.slot, record := some r.index }
    (l.refuses r c.bulk → mbLeafAccept v c = (v, .answer { o with status := .outOfRange })) ∧
    (¬ l.refuses r c.bulk → 16 ≤ l.ranges.length → mbLeafAccept v c = (v, .answer { o with status := .quotaExceeded })) ∧
    (¬ l.refuses r c.bulk → l.ranges.length < 16 →
      mbLeafAccept v c = ((v.leafTaken l r c.bulk).compareRanges, .answer { o with effect := true })) := by
  intro o
  obtain ⟨hlen, hver, hmember, huid, hpeer, hid, hsigned, hrecipient, hledger, hrecord⟩ := h
  unfold mbLeafAccept
  dsimp only
  rw [if_neg (by simp [hlen]), if_neg (by simp [hver]), hmember, hpeer]
  dsimp only
  rw [if_neg (by simp [huid, hid]), if_neg (by simp [hsigned]), if_neg (by simp [hrecipient]), hledger]
  dsimp only
  rw [hrecord]
  dsimp only
  have hmod : ∀ g, (v.modLedger l.slot g).slotRecord? l.slot = some r := fun _ => hrecord
  rw [hmod]
  refine ⟨fun hbad => if_pos ((ledgerRefuses_iff l r c.bulk).mpr hbad),
    fun hgood hfull => (if_neg (hgood ∘ (ledgerRefuses_iff l r c.bulk).mp)).trans (if_pos hfull),
    fun hgood hroom => (if_neg (hgood ∘ (ledgerRefuses_iff l r c.bulk).mp)).trans ((if_neg (Nat.not_le.mpr hroom)).trans ?_)⟩
  have howner : (v.leafTaken l r c.bulk).slotOwner l.slot = v.slotOwner l.slot := by
    unfold State.slotOwner
    rw [leafTaken_slotRecord?]
  have hindex : ((v.leafTaken l r c.bulk).slotRecord? l.slot).map (·.index) = some r.index := by
    rw [leafTaken_slotRecord?, hrecord]
    rfl
  show ((v.leafTaken l r c.bulk).compareRanges, MbReply.answer
    { effect := true, carriage := (v.leafTaken l r c.bulk).slotOwner l.slot
      record := ((v.leafTaken l r c.bulk).slotRecord? l.slot).map (·.index) }) = _
  rw [howner, hindex]

end

/-! ### BOOK_EXPORT_SET (R299) -/

section
variable {v : State} {c : MbCommand} (hx : v.book.exportRing = none)
include hx

theorem mbBookExportSet_leaves (h : c.par 8 2 = 0xFFFF) : mbBookExportSet v c = (v.restartExport none, .ok) := by
  unfold mbBookExportSet
  rw [hx]
  exact if_pos (by simp [h])

theorem mbBookExportSet_absent (hr : c.par 8 2 < 2) (h : v.ering? (c.par 8 2) = none) :
    mbBookExportSet v c = (v, .refuse .mbStateConflict) := by
  have hlast : ¬ (c.par 8 2 == 0xFFFF) = true := by
    simp only [beq_iff_eq]
    omega
  unfold mbBookExportSet
  rw [hx]
  exact (if_neg hlast).trans ((if_neg (by omega)).trans (if_pos (by simp [h])))

theorem mbBookExportSet_sets (hr : c.par 8 2 < 2) (h : (v.ering? (c.par 8 2)).isSome = true) :
    mbBookExportSet v c =
      (let w := v.modEring (c.par 8 2) fun y => { y with prod := 0, cons := 0, waiting := [] }
       (w.restartExport (some (c.par 8 2)), .ok)) := by
  have hlast : ¬ (c.par 8 2 == 0xFFFF) = true := by
    simp only [beq_iff_eq]
    omega
  have hsome : ¬ (v.ering? (c.par 8 2)).isNone = true := ne_true_of_eq_false (Option.isNone_eq_false_iff.mpr h)
  unfold mbBookExportSet
  rw [hx]
  exact (if_neg hlast).trans ((if_neg (by omega)).trans (if_neg hsome))

end

/-! ### PROVISION_IMPORT (R285, R352) -/

/-- Material of a PROVISION_IMPORT, deciphered with the session's key (R352). -/
def MbCommand.material (c : MbCommand) (key : Bytes) : Bytes :=
  aesCtr (kmac key [] 32 "ZMMBOX-ENC") (toLe 4 c.seq ++ zeros 12) (c.bulk.drop 16)

/-- Header of a slot filled with new material. -/
def State.importHeader (v : State) (a : Attrs) (slot : Nat) (m : Bytes) : SlotHeader :=
  v.newHeader a .live (formOf a.keyClass a.param m) slot 0 (if a.keyClass = 0x0D then rsaExpOf m else 0) (heapPart a.keyClass m)
    (overPart a.keyClass m)

/-- The state once record `k` holds new material for a slot. -/
def State.imported (v : State) (a : Attrs) (slot k : Nat) (m : Bytes) : State :=
  let h := v.importHeader a slot m
  let part := if overPart a.keyClass m = [] then none else some (v.wrapFor h.owner h.object (partCek (v.useNo k)) (overPart a.keyClass m))
  v.fillSlot slot k h (heapPart a.keyClass m) part

theorem mbProvisionImport_elsewhere {v : State} {c : MbCommand} (h : v.power.mode ≠ .provisioning) :
    mbProvisionImport v c = (v, .answer { v.keyRecord c.slot with status := .mbNotInMode }) :=
  if_pos (by simpa using h)

theorem mbProvisionImport_fills {v : State} {c : MbCommand} {y : Session} {k : Nat} (hy : v.mbSession? c.session = some y)
    (hmode : v.power.mode = .provisioning) (hlow : 17 ≤ c.bulk.length) (hhigh : c.bulk.length ≤ 4112)
    (hempty : v.slotRecord? c.slot = none) (hnew : bit (c.par 0x0A 1) 0 = false) (hok : (attrsOf c.bulk).ok true = true)
    (hquota : hasUsage (attrsOf c.bulk).usage "stateful" = true → v.statefulSlots < 256)
    (himport : importOk (attrsOf c.bulk).keyClass (attrsOf c.bulk).param (c.material y.key) = true)
    (hpair : pairwiseClass (attrsOf c.bulk).keyClass = false) (hq : v.cellar.recordQueue = []) (hk : v.freeRecord? = some k)
    (hroom : granules (heapPart (attrsOf c.bulk).keyClass (c.material y.key)).length ≤ v.freeGranules) :
    mbProvisionImport v c =
      (v.imported (attrsOf c.bulk) c.slot k (c.material y.key),
       .answer { (v.imported (attrsOf c.bulk) c.slot k (c.material y.key)).keyRecord c.slot with effect := true }) := by
  have hfive : ¬ ((attrsOf c.bulk).keyClass == 5) = true := by
    intro h
    rw [eq_of_beq h] at hpair
    exact absurd hpair (by decide)
  have hlen : ¬ (decide (c.bulk.length < 17) || decide (4112 < c.bulk.length)) = true := by
    simp only [Bool.or_eq_true, decide_eq_true_eq]
    omega
  have hfull : ¬ (hasUsage (attrsOf c.bulk).usage "stateful" && decide (256 ≤ v.statefulSlots)) = true := by
    rw [Bool.and_eq_true, decide_eq_true_eq]
    rintro ⟨hu, hle⟩
    exact absurd (hquota hu) (Nat.not_lt.mpr hle)
  have hsound : pairwiseOk (attrsOf c.bulk).keyClass (attrsOf c.bulk).param (c.material y.key) [] = true := by simp [pairwiseOk, hpair]
  have hmaterial : aesCtr (kmac y.key [] 32 "ZMMBOX-ENC") (toLe 4 c.seq ++ zeros 12) (c.bulk.drop 16) = c.material y.key := rfl
  unfold mbProvisionImport
  rw [hy]
  dsimp only
  rw [hmaterial]
  generalize c.material y.key = m at *
  rw [if_neg (by simp [hmode]), if_neg hlen, hempty, hnew]
  dsimp only [importTarget]
  rw [if_neg Bool.false_ne_true]
  dsimp only
  rw [if_neg (by simp [hok]), if_neg hfull, if_neg (by simp [himport]), if_neg hfive, hpair, if_neg Bool.false_ne_true]
  dsimp only
  rw [if_neg (Nat.not_lt.mpr hroom), mbRecord_free hq hk]
  dsimp only
  rw [if_neg Bool.false_ne_true, if_neg (by simp [hsound])]
  simp only [List.isEmpty_iff, beq_iff_eq]
  rfl

/-! ### The four commands -/

/-- The session of a command that has been taken still has its key. -/
theorem mbSession?_taken {u : State} {code conn : Nat} {msg : Bytes} {x : Session} (h : Comes u code conn msg x) :
    ∃ y, (u.taken x).mbSession? x.id = some y ∧ y.key = x.key := by
  refine ⟨{ x with nextSeq := (x.nextSeq + 1) % 2 ^ 32 }, ?_, rfl⟩
  refine (find?_mapIf Session.id (fun y => { y with nextSeq := (y.nextSeq + 1) % 2 ^ 32 }) (fun _ => rfl) x.id x.id u.mailbox.sessions).trans ?_
  have hx : u.mailbox.sessions.find? (fun y => y.id == x.id) = some x := h.session.2
  rw [hx]
  simp

/-- Settles O43: each command by what its body does under the clause's conditions. -/
theorem mailboxLeavesAndBook : Obligations.MailboxLeavesAndBook := by
  unfold Obligations.MailboxLeavesAndBook
  rintro s _ _ t conn msg x rfl rfl hplace
  intro c p b slot named
  refine ⟨fun h r l m y hr hm hl hq hmember hy => ?release,
    fun h hlen hver m q l r hmember huid hpeer hid hsigned hrecipient hledger hrecord => ?accept, fun h hx => ?outlet, fun h => ?provision⟩
  case release =>
    exact ⟨fun hbad => command_replies mbLeafRelease h (mbLeafRelease_kept hr hm hl hq hmember hy hbad) (.inr hplace),
      fun hgood hfull => command_replies mbLeafRelease h (mbLeafRelease_full hr hm hl hq hmember hy hgood hfull) (.inr hplace),
      fun hgood hroom => command_replies mbLeafRelease h (mbLeafRelease_releases hr hm hl hq hmember hy hgood hroom) (.inr hplace)⟩
  case accept =>
    have hoffer : LeafOffered ((s.advance t).taken x) c.bulk m q l r :=
      ⟨hlen, hver, hmember, huid, hpeer, hid, hsigned, hrecipient, hledger, hrecord⟩
    obtain ⟨hrefused, hfull, htaken⟩ := mbLeafAccept_offered hoffer
    exact ⟨fun hbad => command_replies mbLeafAccept h (hrefused hbad) (.inr hplace),
      fun hgood hlimit => command_replies mbLeafAccept h (hfull hgood hlimit) (.inr hplace),
      fun hgood hroom => command_replies mbLeafAccept h (htaken hgood hroom) (.inr hplace)⟩
  case outlet =>
    exact ⟨fun hn => command_replies mbBookExportSet h (mbBookExportSet_leaves hx hn) (.inr hplace),
      fun hn hr => command_replies mbBookExportSet h (mbBookExportSet_absent hx hn hr) (.inr hplace),
      fun hn hr => command_replies mbBookExportSet h (mbBookExportSet_sets hx hn hr) (.inr hplace)⟩
  case provision =>
    obtain ⟨y, hy, hkey⟩ := mbSession?_taken h
    intro a m
    refine ⟨fun hmode => command_replies mbProvisionImport h (mbProvisionImport_elsewhere hmode) (.inr hplace),
      fun k hmode hlow hhigh hempty hnew hok hquota himport hpair hk hroom => ?_⟩
    have hm : m = c.material y.key := by rw [hkey]; rfl
    rw [hm] at himport hroom ⊢
    exact command_replies mbProvisionImport h
      (mbProvisionImport_fills hy hmode hlow hhigh hempty hnew hok hquota himport hpair h.quiet.records hk hroom) (.inr hplace)

end Sys2Proof.Machine
end

/-! Rosters and Train membership, and the commands of power and entropy (12 R365, R366; 15 R443, R444, R452; 18 R508, R515, R524). -/
section
namespace Sys2Proof.Machine

/-! ### The Train (R365) -/

section
variable {v : State} {c : MbCommand} {y : Session} (hy : v.mbSession? c.session = some y)
include hy

theorem mbRosterSet_unsigned (h : ¬ rosterSigned y.control c.bulk = true) : mbRosterSet v c = (v, .refuse .signatureInvalid) := by
  unfold mbRosterSet
  rw [hy]
  exact if_pos (by simp [h])

variable (hsigned : rosterSigned y.control c.bulk = true)
include hsigned

theorem mbRosterSet_old (h : ¬ v.train.serial < rosSerial c.bulk) : mbRosterSet v c = (v, .refuse .outOfRange) := by
  unfold mbRosterSet
  rw [hy]
  exact (if_neg (by simp [hsigned])).trans (if_pos (Nat.not_lt.mp h))

variable (hfresh : v.train.serial < rosSerial c.bulk)
include hfresh

theorem mbRosterSet_malformed (h : ¬ (rosterForm c.bulk = true ∧ v.rosterAgrees c.bulk = true)) :
    mbRosterSet v c = (v, .refuse .malformedEncoding) := by
  unfold mbRosterSet
  rw [hy]
  refine (if_neg (by simp [hsigned])).trans ((if_neg (Nat.not_le.mpr hfresh)).trans (if_pos ?_))
  rwa [Bool.or_eq_true, Bool.not_eq_true', Bool.not_eq_true', ← Bool.not_eq_true, ← Bool.not_eq_true, ← not_and_or]

theorem mbRosterSet_accepted (hform : rosterForm c.bulk = true) (hagrees : v.rosterAgrees c.bulk = true) :
    mbRosterSet v c = (v.acceptRoster c.bulk, .answer { result := mbFields [(0x08, toLe 8 (rosSerial c.bulk))], effect := true }) := by
  unfold mbRosterSet
  rw [hy]
  exact (if_neg (by simp [hsigned])).trans ((if_neg (Nat.not_le.mpr hfresh)).trans (if_neg (by simp [hform, hagrees])))

end

section
variable {v : State} {c : MbCommand}

theorem mbTrainJoin_unlisted (hm : v.power.mode = .service ∨ v.power.mode = .derated) (h : v.train.state ≠ .listed) :
    mbTrainJoin v c = (v, .refuse .mbStateConflict) :=
  (if_neg (by rcases hm with hm | hm <;> simp [hm])).trans (if_pos (by simp [h]))

theorem mbTrainJoin_listed (hm : v.power.mode = .service ∨ v.power.mode = .derated) (h : v.train.state = .listed) :
    mbTrainJoin v c = (v.enterJoining, .ok) :=
  (if_neg (by rcases hm with hm | hm <;> simp [hm])).trans (if_neg (by simp [h]))

theorem mbTrainLeave_outside (hj : v.train.state ≠ .joining) (hm : v.train.state ≠ .member) :
    mbTrainLeave v c = (v, .refuse .mbStateConflict) := if_pos (by simp [hj, hm])

theorem mbTrainLeave_inside (h : v.train.state = .joining ∨ v.train.state = .member) :
    mbTrainLeave v c = (let w := v.leaveTrain 1 .noRoster; ({ w with train.roster := none }, .ok)) :=
  if_neg (by rcases h with h | h <;> simp [h])

end

/-- Settles O44: a roster by the checks in their order, joining and leaving by the Train state. -/
theorem mailboxTrain : Obligations.MailboxTrain := by
  unfold Obligations.MailboxTrain
  rintro s _ _ t conn msg x rfl rfl
  intro c b
  refine ⟨fun h y hy => ?roster,
    fun h hm => ⟨fun hs => command_replies mbTrainJoin h (mbTrainJoin_unlisted hm hs),
      fun hs => command_replies mbTrainJoin h (mbTrainJoin_listed hm hs)⟩,
    fun h => ⟨fun hj hm => command_replies mbTrainLeave h (mbTrainLeave_outside hj hm),
      fun hs => command_replies mbTrainLeave h (mbTrainLeave_inside hs)⟩⟩
  case roster =>
    exact ⟨fun hsigned => command_replies mbRosterSet h (mbRosterSet_unsigned hy hsigned),
      fun hsigned hfresh => command_replies mbRosterSet h (mbRosterSet_old hy hsigned hfresh),
      fun hsigned hfresh hform => command_replies mbRosterSet h (mbRosterSet_malformed hy hsigned hfresh hform),
      fun hsigned hfresh hform => command_replies mbRosterSet h (mbRosterSet_accepted hy hsigned hfresh hform.1 hform.2)⟩

/-! ### VIN_WARN_SET and DERATED_CLEAR (R366, R515, R518, R520) -/

/-- A level that VIN_WARN_SET takes. -/
def State.vinWarnOk (v : State) (w : Nat) : Prop := 5700 ≤ w ∧ w ≤ 50000 ∧ w % 10 = 0 ∧ w + 1000 ≤ v.power.vin

section
variable {v : State} {c : MbCommand}

theorem vinWarnRefused_iff (w : Nat) :
    (decide (w < 5700) || decide (50000 < w) || w % 10 != 0 || decide (v.power.vin < w + 1000)) = true ↔ ¬ v.vinWarnOk w := by
  simp only [State.vinWarnOk, Bool.or_eq_true, decide_eq_true_eq, bne_iff_ne]
  omega

theorem mbVinWarnSet_refused (h : ¬ v.vinWarnOk (c.par 8 4)) : mbVinWarnSet v c = (v, .refuse .mbRange) :=
  if_pos ((vinWarnRefused_iff _).mpr h)

theorem mbVinWarnSet_set (h : v.vinWarnOk (c.par 8 4)) : mbVinWarnSet v c = ({ v with power.vinWarn := c.par 8 4 }, .ok) :=
  if_neg fun hbad => (vinWarnRefused_iff _).mp hbad h

theorem mbDeratedClear_low (h : v.power.vin < vinFull) : mbDeratedClear v c = (v, .refuse .mbVinLow) := if_pos h

theorem mbDeratedClear_hot (hv : vinFull ≤ v.power.vin) (h : v.power.thermal = true) : mbDeratedClear v c = (v, .refuse .mbStateConflict) :=
  (if_neg (Nat.not_lt.mpr hv)).trans (if_pos h)

theorem mbDeratedClear_clears (hv : vinFull ≤ v.power.vin) (h : v.power.thermal = false) :
    mbDeratedClear v c = (({ v with power.dipLatch := false } : State).conditions, .ok) :=
  (if_neg (Nat.not_lt.mpr hv)).trans (if_neg (ne_true_of_eq_false h))

/-! ### SHUTDOWN_WAKE (R366, R508, R524) -/

theorem mbWake_parked (ha : c.par 8 1 = 2) (hm : v.power.mode = .standby) (hp : v.power.parked = true) : mbWake v c = (v, .ok) :=
  (if_neg (by omega)).trans (if_pos (by simp [hm, hp]))

theorem drainEnd_drained {action taste : Nat} {y : MbCommand} (hs : v.power.shutdown = some (action, taste)) (hj : v.fabric.jobs = [])
    (hf : v.express.frames = []) (hm : v.power.mode ≠ .hold) (hy : v.mailbox.running = some y) :
    v.drainEnd =
      (let a : State := { v with journal.orderly := true, power.shutdown := none, mailbox.running := none }
       let w : State := { (a.mbSend y { effect := true }).endSession y.session 4 with tasting.criticalDone := false }
       if taste = 1 then w.startTasting action else if action = 0 then w.park else w.internalReset) := by
  unfold State.drainEnd
  rw [hs]
  refine (if_neg (by simp [State.drained, hj, hf, hm])).trans ?_
  dsimp only
  rw [hy]
  unfold State.endShutdown
  simp only [beq_iff_eq]

/-! ### PRESS_SHARE_SET and ENTROPY_TEST_ENTER (R158, R325) -/

theorem mbPressShareSet_waits (hlow : 1 ≤ c.par 8 1) (hhigh : c.par 8 1 ≤ 32) :
    mbPressShareSet v c = ({ v with engines.nextLimit := some (c.par 8 1) }, .waits .epoch) := by
  refine if_neg ?_
  simp only [Bool.or_eq_true, decide_eq_true_eq]
  omega

theorem mbEntropyTestEnter_refused {st : Status} (h : v.entropyFault = some st) : mbEntropyTestEnter v c = (v, .refuse st) := by
  unfold mbEntropyTestEnter
  rw [h]

theorem mbEntropyTestEnter_enters (h : v.entropyFault = none) : mbEntropyTestEnter v c = (v.enterEntropyTest, .ok) := by
  unfold mbEntropyTestEnter
  rw [h]

theorem entropyFault_mode (hs : v.power.mode ≠ .service) (hd : v.power.mode ≠ .derated) (hp : v.power.mode ≠ .provisioning) :
    v.entropyFault = some .mbNotInMode := by
  unfold State.entropyFault
  split <;> simp_all

variable (hm : v.power.mode = .service ∨ v.power.mode = .derated ∨ v.power.mode = .provisioning)
include hm

theorem entropyFault_rights (hl : v.lc = some .zawardProvisioned ∨ v.lc = some .oemField ∨ v.lc = some .returned)
    (hr : v.hasRight rRawEntropy = false) : v.entropyFault = some .mbRightsDenied := by
  unfold State.entropyFault
  rcases hm with hm | hm | hm <;> rcases hl with hl | hl | hl <;> simp [hm, hl, hr]

theorem entropyFault_early (hl : v.lc = some .wafer ∨ v.lc = some .moduleTest) : v.entropyFault = none := by
  unfold State.entropyFault
  rcases hm with hm | hm | hm <;> rcases hl with hl | hl <;> simp [hm, hl]

end

/-! ### The row of SHUTDOWN_WAKE -/

/-- The body of CODE 0x0502, by its ACTION (R366). -/
def mbShutdownWake (s : State) (c : MbCommand) : State × MbReply := if c.par 8 1 == 2 then mbWake s c else mbShutdown s c

theorem mbBody_shutdownWake (s : State) (c : MbCommand) (h : c.code = 0x0502) : mbBody s c = mbShutdownWake s c := by
  unfold mbBody mbBodyHigh
  rw [h]
  rfl

theorem mbShutdownWake_of_wake {s : State} {c : MbCommand} (h : c.par 8 1 = 2) : mbShutdownWake s c = mbWake s c := if_pos (beq_iff_eq.mpr h)

theorem mbShutdownWake_of_shutdown {s : State} {c : MbCommand} (h : c.par 8 1 ≠ 2) : mbShutdownWake s c = mbShutdown s c :=
  if_neg (by simpa using h)

section
variable {v : State} {c : MbCommand} {action : Nat} (hx : c.par 8 1 = action) (ha : action ≤ 1) (ht : c.par 9 1 ≤ 1)
include hx ha ht

theorem mbShutdownWake_starts (hm : shutdownMode action v.power.mode = true) :
    mbShutdownWake v c = (v.startShutdown action (c.par 9 1), .waits .drain) := by
  subst hx
  refine (mbShutdownWake_of_shutdown (by omega)).trans ((if_neg ?_).trans (if_neg (by simp [hm])))
  simp only [Bool.or_eq_true, decide_eq_true_eq]
  omega

theorem mbShutdownWake_elsewhere (hm : shutdownMode action v.power.mode = false) : mbShutdownWake v c = (v, .refuse .mbNotInMode) := by
  subst hx
  refine (mbShutdownWake_of_shutdown (by omega)).trans ((if_neg ?_).trans (if_pos (by simp [hm])))
  simp only [Bool.or_eq_true, decide_eq_true_eq]
  omega

end

section
variable {u w : State} {conn : Nat} {msg : Bytes} {x : Session} (h : Comes u 0x0502 conn msg x)
include h

theorem shutdownRow_waits {r : MbWait} (hb : mbShutdownWake (u.taken x) (mbCommand conn msg [] x) = (w, .waits r)) :
    Runs (.next (u.mbRow 0x0502 conn msg []).resume) (· = w.mbHold (mbCommand conn msg [] x) r) :=
  command_waits mbShutdownWake h hb (hbody := mbBody_shutdownWake _)

theorem shutdownRow_answers {o : MbOut} (hb : mbShutdownWake (u.taken x) (mbCommand conn msg [] x) = (w, .answer o)) :
    Runs (.next (u.mbRow 0x0502 conn msg []).resume) (· = w.mbDone (mbCommand conn msg [] x) o) := by
  obtain ⟨y, n, hy, rfl⟩ := row_runs [] h rfl rfl
  have hcode : (mbCommand conn msg [] x).code = 0x0502 := h.isCode
  exact ⟨_, n, hy, attempt_answers h.quiet.mailbox.1 (.inl (by rw [hcode]; rfl)) ((mbBody_shutdownWake _ _ hcode).trans hb)⟩

end

theorem shutdownRow_of_action (u : State) (conn : Nat) {msg : Bytes} {p : Nat → Bool} (hp : p (le msg 8 1) = true) : u.shutdownRow p conn msg = u.mbRow 0x0502 conn msg [] :=
  if_pos hp

/-- A refusal wakes nothing. -/
theorem mbDone_refused (w : State) (c : MbCommand) {st : Status} (h : st ≠ .success) :
    w.mbDone c { status := st } = w.mbAnswer c { status := st } := by
  simp [State.mbDone, h]

/-- The answer of ACTION 2 is followed by the wake (R366). -/
theorem mbDone_wake {w : State} {c : MbCommand} (hc : c.code = 0x0502) (ha : c.par 8 1 = 2) :
    w.mbDone c { effect := true } = (w.mbAnswer c { effect := true }).wake := by
  simp [State.mbDone, hc, ha]

/-- Settles O45: each command by what its body does under the clause's conditions, SHUTDOWN_WAKE by its ACTION. -/
theorem mailboxPower : Obligations.MailboxPower := by
  unfold Obligations.MailboxPower
  rintro s _ _ t conn msg x rfl rfl
  intro c p m
  refine ⟨fun h => ⟨fun hbad => command_replies mbVinWarnSet h (mbVinWarnSet_refused hbad),
      fun hok => command_replies mbVinWarnSet h (mbVinWarnSet_set hok)⟩,
    fun h => ⟨fun hv => command_replies mbDeratedClear h (mbDeratedClear_low hv),
      fun hv ht => command_replies mbDeratedClear h (mbDeratedClear_hot hv ht),
      fun hv ht => command_replies mbDeratedClear h (mbDeratedClear_clears hv ht)⟩,
    fun h ht => ?shutdown,
    fun action taste y hs hj hf hm hy => ⟨_, rfl, drainEnd_drained hs hj hf hm hy⟩,
    fun h hlow hhigh => command_waits mbPressShareSet h (mbPressShareSet_waits hlow hhigh), fun h => ?entropy⟩
  case shutdown =>
    have hcode : c.code = 0x0502 := h.isCode
    have row {i : Instr} {P : State → Prop} {q : Nat → Bool} (hi : exec i s = .next ((s.advance t).shutdownRow q conn msg).resume)
        (hq : q (p 8 1) = true) (hrun : Runs (.next ((s.advance t).mbRow 0x0502 conn msg []).resume) P) : Runs (exec i s) P := by
      rwa [hi, shutdownRow_of_action _ _ hq]
    refine ⟨fun ha hm => ?standby, fun ha hm => ?reset, fun ha hm => ?refused, fun ha hm hp => ?wake⟩
    case standby =>
      have hmode : shutdownMode 0 m = true := by rcases hm with hm | hm | hm | hm <;> rw [hm] <;> rfl
      exact row rfl (by rw [ha]; rfl) (shutdownRow_waits h (mbShutdownWake_starts ha (Nat.zero_le 1) ht hmode))
    case reset =>
      have hmode : shutdownMode 1 m = true := by rcases hm with hm | hm | hm | hm | hm | hm <;> rw [hm] <;> rfl
      exact row rfl (by rw [ha]; rfl) (shutdownRow_waits h (mbShutdownWake_starts ha le_rfl ht hmode))
    case refused =>
      have hmode : shutdownMode 0 m = false := by rcases hm with hm | hm <;> rw [hm] <;> rfl
      have hrun := shutdownRow_answers h (mbShutdownWake_elsewhere ha (Nat.zero_le 1) ht hmode)
      rw [mbDone_refused _ _ (by decide)] at hrun
      exact row rfl (by rw [ha]; rfl) hrun
    case wake =>
      have hrun := shutdownRow_answers h ((mbShutdownWake_of_wake (c := c) ha).trans (mbWake_parked ha hm hp))
      rw [mbDone_wake hcode ha] at hrun
      exact row rfl (by rw [ha]; rfl) hrun
  case entropy =>
    exact ⟨fun hs hd hp => command_replies mbEntropyTestEnter h (mbEntropyTestEnter_refused (entropyFault_mode hs hd hp)),
      fun hm hl hr => command_replies mbEntropyTestEnter h (mbEntropyTestEnter_refused (entropyFault_rights hm hl hr)),
      fun hm hl => ⟨command_replies mbEntropyTestEnter h (mbEntropyTestEnter_enters (entropyFault_early hm hl)), rfl⟩⟩

end Sys2Proof.Machine
end

/-! Life-cycle transitions and debug authorisation by mailbox command (12 R367; 17 R483 to R490, R502 to R506). -/
section
namespace Sys2Proof.Machine

/-! ### A command that blows fuses goes on (R487, R495) -/

theorem mbSend_events (u : State) (c : MbCommand) (o : MbOut) : EventFrame u (u.mbSend c o) := by
  unfold State.mbSend
  dsimp only
  split
  · rfl
  · exact post_events u _ _

/-- An answer that ends no session leaves the mailbox, the clock and the power manager as they are. -/
theorem mbAnswer_still (u : State) (c : MbCommand) {o : MbOut} (h : o.ends = none) : (u.mbAnswer c o).still = u.still := by
  unfold State.mbAnswer
  rw [h]
  dsimp only
  refine (mbSend_events _ _ _).still.trans ?_
  split
  · exact (keyChange_book u _ _ _ _ _ _ _).still
  · rfl

/-- While a command that tries nothing again runs, the mailbox does nothing else. -/
theorem mbServe_busy {x : State} {c : MbCommand} (hm : x.power.mode ≠ .hold) (hc : x.mailbox.running = some c)
    (hr : c.wait.retries = false) : x.mbServe = x := by
  unfold State.mbServe
  rw [if_neg (by simpa using hm), hc]
  dsimp only
  rw [hr, Bool.and_false, if_neg Bool.false_ne_true, State.mbPump, if_pos (by simp [hc])]

section
variable {w : State} {y : MbCommand} {stage : Nat} {secret : Bytes} (hy : w.mailbox.running = some y) (hwait : y.wait = .fuses stage secret)
  (hkey : mbKeyChange y.code = false) (ha : w.mbAnswers = true) (hm : w.power.mode ≠ .hold)
include hy hwait hkey ha hm

theorem idleFuses_attempts {z : State} {r : MbReply} (hbody : mbBody { w with mailbox.running := none } y = (z, r)) :
    w.idleFuses = (match r with | .answer o => z.mbDone y o | .waits k => z.mbHold y k).mbServe := by
  have hgoes : (y.wait.blows && w.mbAnswers && w.power.mode != .hold) = true := by simp [hwait, MbWait.blows, ha, hm]
  unfold State.idleFuses
  rw [hy]
  dsimp only
  rw [if_pos hgoes, State.mbAttempt]
  dsimp only
  rw [hkey, Bool.false_and, if_neg Bool.false_ne_true, hbody]
  cases r <;> rfl

/-- With fuses still to blow the command keeps the mailbox (R356). -/
theorem idleFuses_goes {z : State} {k : Nat} (hcode : y.code ≠ 0x0101)
    (hbody : mbBody { w with mailbox.running := none } y = ({ z with mailbox.running := none }, .waits (.fuses k [])))
    (hmode : z.power.mode = w.power.mode) (hclock : z.clock = w.clock) :
    w.idleFuses = { z with
      mailbox.running := some { y with wait := .fuses k [], since := if y.wait = .fuses k [] then y.since else w.clock.now } } := by
  refine (idleFuses_attempts hy hwait hkey ha hm hbody).trans ?_
  dsimp only [State.mbHold]
  rw [if_neg (by simpa using hcode)]
  refine (mbServe_busy ?_ rfl rfl).trans ?_
  · show z.power.mode ≠ .hold
    rwa [hmode]
  · simp only [beq_iff_eq, ← hclock]

/-- A command that has blown its last fuse is answered, and the commands behind it run. -/
theorem idleFuses_answers {z : State} {o : MbOut} (hcode : y.code ≠ 0x0502)
    (hbody : mbBody { w with mailbox.running := none } y = (z, .answer o)) (ho : o.ends = none) (hmode : z.power.mode = w.power.mode)
    (hidle : z.mailbox.running = none) : ∃ n, w.idleFuses = (z.mbAnswer y o).mbPump n := by
  have hstill := mbAnswer_still z y ho
  have hpower : (z.mbAnswer y o).power = z.power := congrArg Prod.fst hstill
  have hmailbox : (z.mbAnswer y o).mailbox = z.mailbox := congrArg (fun p : Power × Clock × Mailbox => p.2.2) hstill
  have hdone : z.mbDone y o = z.mbAnswer y o := by simp [State.mbDone, hcode]
  refine ⟨(z.mbAnswer y o).mailbox.waiting.length + 1, (idleFuses_attempts hy hwait hkey ha hm hbody).trans ?_⟩
  dsimp only
  rw [hdone]
  exact serve_idle (beq_eq_false_iff_ne.mpr (by rwa [hpower, hmode])) (by rw [hmailbox, hidle])

end

/-! ### Stages of a transition (R483, R487, R490) -/

/-- The mailbox with another command running, or none. -/
def State.withRunning (w : State) (r : Option MbCommand) : State := { w with mailbox.running := r }

theorem prepare_withRunning (w : State) (r : Option MbCommand) (b : Bytes) (target : Nat) (secret : Bytes) :
    (w.withRunning r).prepare b target secret = (w.prepare b target secret).withRunning r := by
  unfold State.prepare
  dsimp only
  split
  · rfl
  · rfl
  · split <;> rfl
  · unfold State.transitionWipe
    split <;> rfl

theorem prepare_mode (w : State) (b : Bytes) (target : Nat) (secret : Bytes) :
    (w.prepare b target secret).power.mode = w.power.mode ∧ (w.prepare b target secret).clock = w.clock := by
  unfold State.prepare
  dsimp only
  split
  · exact ⟨rfl, rfl⟩
  · exact ⟨rfl, rfl⟩
  · split <;> exact ⟨rfl, rfl⟩
  · unfold State.transitionWipe
    split <;> exact ⟨rfl, rfl⟩

theorem persoBit_withRunning (w : State) (r : Option MbCommand) (b : Bytes) :
    (w.withRunning r).persoBit b = (w.persoBit b).map fun z => z.withRunning r := by
  have hid : (w.withRunning r).fuses = w.fuses := rfl
  have hoptions : (w.withRunning r).optionFuses = w.optionFuses := rfl
  unfold State.persoBit
  rw [hid, hoptions]
  cases blowBit w.fuses.oemId (tokOemId b) with
  | some x => rfl
  | none =>
    cases blowBit w.fuses.ctrlKeyHash (tokCtrlHash b) with
    | some x => rfl
    | none =>
      cases blowBit w.fuses.oemCodeKeyHash (tokCodeHash b) with
      | some x => rfl
      | none =>
        cases blowBit w.optionFuses (tokOptions b) <;> rfl

theorem persoBit_still {w z : State} {b : Bytes} (h : w.persoBit b = some z) : z.still = w.still := by
  unfold State.persoBit at h
  split at h
  · exact Option.some.inj h ▸ rfl
  · split at h
    · exact Option.some.inj h ▸ rfl
    · split at h
      · exact Option.some.inj h ▸ rfl
      · obtain ⟨x, -, rfl⟩ := Option.map_eq_some_iff.mp h
        rfl

/-- The fuse window turns engine domains off, and leaves clock, mailbox and mode alone (R487 step 4). -/
theorem fuseWindow_keeps (w : State) (target : Nat) :
    (w.fuseWindow target).clock = w.clock ∧ (w.fuseWindow target).mailbox = w.mailbox ∧ (w.fuseWindow target).power.mode = w.power.mode := by
  have hfold : ∀ (l : List Nat) (v : State),
      (l.foldl (fun s d => if s.domainOn d then s.domainOff d false else s) v).clock = v.clock ∧
      (l.foldl (fun s d => if s.domainOn d then s.domainOff d false else s) v).mailbox = v.mailbox ∧
      (l.foldl (fun s d => if s.domainOn d then s.domainOff d false else s) v).power.mode = v.power.mode := by
    intro l
    induction l with
    | nil => exact fun v => ⟨rfl, rfl, rfl⟩
    | cons d l ih =>
      intro v
      rw [List.foldl_cons]
      obtain ⟨hclock, hmailbox, hmode⟩ := ih (if v.domainOn d then v.domainOff d false else v)
      rw [hclock, hmailbox, hmode]
      split
      · have hoff := domainOff_still v d false
        exact ⟨congrArg (fun p : Power × Clock × Mailbox => p.2.1) hoff, congrArg (fun p : Power × Clock × Mailbox => p.2.2) hoff,
          congrArg (fun p : Power × Clock × Mailbox => p.1.mode) hoff⟩
      · exact ⟨rfl, rfl, rfl⟩
  unfold State.fuseWindow
  dsimp only
  generalize engineDomains = l
  exact hfold l w

/-- What the end of the window leaves as it was. -/
theorem closeWindow_keeps (w : State) (target : Nat) :
    (w.closeWindow target).clock = w.clock ∧ (w.closeWindow target).mailbox = w.mailbox ∧
      (w.closeWindow target).power.mode = w.power.mode := by
  have hkeeps := fuseWindow_keeps w target
  unfold State.closeWindow
  dsimp only
  generalize w.fuseWindow target = z at hkeeps ⊢
  exact hkeeps

theorem closeWindow_window (w : State) (target : Nat) :
    let z := w.closeWindow target
    z.fuses.lcA = target ∧ z.fuses.lcB = target ∧ z.fuses.lcC = target ∧ z.journal.lcPending = none ∧
      z.dbg.resetAt = some (z.clock.now + 10000000) := by
  have hfuses : (w.fuseWindow target).fuses = { w.fuses with lcA := target, lcB := target, lcC := target } := fuseWindow_fuses w target
  have hclock : (w.fuseWindow target).clock = w.clock := (fuseWindow_keeps w target).1
  unfold State.closeWindow
  dsimp only
  rw [hfuses, hclock]
  exact ⟨rfl, rfl, rfl, rfl, rfl⟩

section
variable {w : State} {y : MbCommand} {stage : Nat} {secret : Bytes} (hwait : y.wait = .fuses stage secret)
  (htok : w.tokenMatches y.bulk (y.par 8 1) = true)
include hwait htok

/-- An accepted transition whose token still fits goes on by one stage. -/
theorem mbLcTransition_stage (r : Option MbCommand) :
    mbLcTransition (w.withRunning r) y = (w.withRunning r).transitionStage y.bulk (y.par 8 1) stage secret := by
  have htok' : (w.withRunning r).tokenMatches y.bulk (y.par 8 1) = true := htok
  unfold mbLcTransition
  dsimp only
  rw [hwait]
  exact if_pos htok'

end

/-! ### The start of a transition (R486) -/

section
variable {v : State} {b : Bytes} {target : Nat}

theorem transitionFault_elsewhere (hm : v.power.mode ≠ .provisioning) : v.transitionFault b target = some .mbNotInMode :=
  if_pos (by simpa using hm)

variable (hm : v.power.mode = .provisioning)
include hm

theorem transitionFault_low (h : v.vinSteady = false) : v.transitionFault b target = some .mbVinLow :=
  (if_neg (by simp [hm])).trans (if_pos (by simp [h]))

variable (hv : v.vinSteady = true)
include hv

theorem transitionFault_unsigned (h : v.tokenSigned b = false) : v.transitionFault b target = some .signatureInvalid :=
  (if_neg (by simp [hm])).trans ((if_neg (by simp [hv])).trans (if_pos (by simp [h])))

variable (hs : v.tokenSigned b = true)
include hs

theorem transitionFault_unfit (h : v.tokenMatches b target = false) : v.transitionFault b target = some .mbLifecycleDenied :=
  (if_neg (by simp [hm])).trans ((if_neg (by simp [hv])).trans ((if_neg (by simp [hs])).trans (if_pos (by simp [h]))))

theorem transitionFault_none (h : v.tokenMatches b target = true) : v.transitionFault b target = none :=
  (if_neg (by simp [hm])).trans ((if_neg (by simp [hv])).trans ((if_neg (by simp [hs])).trans (if_neg (by simp [h]))))

end

section
variable {v : State} {c : MbCommand} (hc : c.wait = .none)
include hc

theorem mbLcTransition_refused {st : Status} (h : v.transitionFault c.bulk (c.par 8 1) = some st) :
    mbLcTransition v c = (v, .refuse st) := by
  unfold mbLcTransition
  dsimp only
  rw [hc]
  dsimp only
  rw [h]

theorem mbLcTransition_undrawn (h : v.transitionFault c.bulk (c.par 8 1) = none) (hd : tokenDraws c.bulk (c.par 8 1) = false) :
    mbLcTransition v c = v.startTransition (c.par 8 1) [] := by
  unfold mbLcTransition
  dsimp only
  rw [hc]
  dsimp only
  rw [h]
  exact if_pos (by simp [hd])

theorem mbLcTransition_drawn (h : v.transitionFault c.bulk (c.par 8 1) = none) (hd : tokenDraws c.bulk (c.par 8 1) = true)
    (hs : v.drawFate false = .served) :
    mbLcTransition v c = (v.serveDraw false 1).1.startTransition (c.par 8 1) (drawBytes (v.serveDraw false 1).2 32) := by
  unfold mbLcTransition
  dsimp only
  rw [hc]
  dsimp only
  rw [h]
  refine (if_neg (by simp [hd])).trans ?_
  rw [hs]

end

/-! ### A reset before the fuse window (R489) -/

theorem EventFrame.lcPending {u x : State} (h : EventFrame u x) : x.journal.lcPending = u.journal.lcPending := by rw [h]

/-- What the wipes of a preparation leave empty: nothing for TARGET 0x03 (R483). -/
theorem transitionWipe_empties (w : State) {target : Nat} (h : target ≠ 0x03) :
    (w.transitionWipe target).cellar.dir = [] ∧ (w.transitionWipe target).cellar.records = [] ∧
      (w.transitionWipe target).fabric.carriages = [] ∧ (w.transitionWipe target).book.tail = [] := by
  unfold State.transitionWipe
  split
  · exact absurd rfl h
  · exact ⟨rfl, rfl, rfl, rfl⟩
  · exact ⟨rfl, rfl, rfl, rfl⟩
  · exact ⟨rfl, rfl, rfl, rfl⟩

/-- The state of a cut transition once its wipes are done again. -/
def State.cutTransition (w : State) (target : Nat) : State :=
  let x := (w.transitionWipe target).dropUncertified
  { x with journal := { x.journal with lcPending := none, cause := w.journal.cause, holdEntered := w.journal.holdEntered } }

theorem bootTransition_cut {w : State} {f target : Nat} (h : w.journal.lcPending = some (f, target)) (hl : w.lcCode ≠ target) :
    EventFrame (w.cutTransition target) w.bootTransition := by
  have heq : w.bootTransition = (w.cutTransition target).raise 192 [f, target, 2] := by
    unfold State.bootTransition
    rw [h]
    exact if_neg (by simpa using hl)
  rw [heq]
  exact raise_events _ _ _

theorem bootTransition_wipes {w : State} {f target : Nat} (h : w.journal.lcPending = some (f, target)) (hl : w.lcCode ≠ target) :
    let z := w.bootTransition
    z.journal.lcPending = none ∧ z.fuses = w.fuses ∧
      (target ≠ 0x03 → z.cellar.dir = [] ∧ z.cellar.records = [] ∧ z.fabric.carriages = [] ∧ z.book.tail = []) ∧
      (z.cellar.identity = true → z.cellar.certMldsa ≠ [] ∨ z.cellar.certEcdsa ≠ []) := by
  intro z
  have hframe : EventFrame (w.cutTransition target) z := bootTransition_cut h hl
  refine ⟨hframe.lcPending, State.bootTransition_fuses w, fun ht => ?_, fun hid => ?_⟩
  · rw [hframe.cellar, hframe.carriages, hframe.book]
    exact transitionWipe_empties w ht
  · rw [hframe.cellar] at hid ⊢
    have hcerts := (Bool.and_eq_true_iff.mp hid).2
    show (w.transitionWipe target).cellar.certMldsa ≠ [] ∨ (w.transitionWipe target).cellar.certEcdsa ≠ []
    simpa using hcerts

/-! ### Provisioning and debug (R367, R502 to R506) -/

section
variable {v : State} {c : MbCommand}

theorem mbProvisioningEnter_enters (hm : v.power.mode = .service ∨ v.power.mode = .derated) :
    mbProvisioningEnter v c = ({ v with power.mode := .provisioning, power.crossedInM8 := false }, .ok) :=
  if_neg (by rcases hm with hm | hm <;> simp [hm])

theorem mbProvisioningEnter_elsewhere (hs : v.power.mode ≠ .service) (hd : v.power.mode ≠ .derated) :
    mbProvisioningEnter v c = (v, .refuse .mbNotInMode) := if_pos (by simp [hs, hd])

theorem mbProvisioningExit_exits (hm : v.power.mode = .provisioning) :
    mbProvisioningExit v c = (if entersDebug v.rights then v.enterDebug else v.returnToService, .ok) := by
  refine (if_neg (by simp [hm])).trans ?_
  split <;> rfl

theorem mbDebugChallenge_method (h : v.dbgAuthMode = 0) : mbDebugChallenge v c = (v, .refuse .mbStateConflict) := if_pos (by simp [h])

theorem mbDebugChallenge_served (h : v.dbgAuthMode ≠ 0) (hd : v.drawFate false = .served) :
    mbDebugChallenge v c =
      (let w := (v.serveDraw false 1).1
       let n := drawBytes (v.serveDraw false 1).2 32
       ({ w with dbg.challenge := some (n, w.clock.now) },
        .answer { result := mbFields [(0x08, n), (0x28, w.fuses.uniqueId)], effect := true })) := by
  refine (if_neg (by simp [h])).trans ?_
  rw [hd]

/-- The challenge has served (R504). -/
def State.challengeSpent (v : State) : State := { v with dbg.challenge := none }

/-- Why a DEBUG_AUTH is refused: by its certificate under method 0, by its response otherwise. -/
def State.debugFault (v : State) (b : Bytes) : Option Status := if v.dbgAuthMode = 0 then v.certificateFault b else v.responseFault b

theorem debugFault_eq (v : State) (b : Bytes) :
    (if (v.dbgAuthMode == 0) = true then v.certificateFault b else v.responseFault b) = v.debugFault b := by
  unfold State.debugFault
  simp only [beq_iff_eq]

theorem mbDebugAuth_refused {st : Status} (h : v.debugFault c.bulk = some st) :
    mbDebugAuth v c = (v.challengeSpent.raise 198 [], .refuse st) := by
  unfold mbDebugAuth
  dsimp only
  rw [debugFault_eq, h]
  rfl

theorem mbDebugAuth_certificate (hm : v.dbgAuthMode = 0) (h : v.certificateFault c.bulk = none) :
    mbDebugAuth v c =
      (let w := v.challengeSpent.grant { rights := byteAt c.bulk 2, notAfter := some (le c.bulk 0x18 8) } (byteAt c.bulk 3) (le c.bulk 0x20 8)
       (w, .answer { result := mbFields [(0x08, toLe 1 w.rights)], effect := true })) := by
  have hfault : v.debugFault c.bulk = none := (if_pos hm).trans h
  unfold mbDebugAuth
  dsimp only
  rw [debugFault_eq, hfault, hm]
  rfl

theorem mbDebugAuth_response (hm : v.dbgAuthMode ≠ 0) (h : v.responseFault c.bulk = none) :
    mbDebugAuth v c =
      (let w := v.challengeSpent.grant { rights := byteAt c.bulk 2, notAfter := none } 1 0
       (w, .answer { result := mbFields [(0x08, toLe 1 w.rights)], effect := true })) := by
  have hfault : v.debugFault c.bulk = none := (if_neg hm).trans h
  have hmethod : (v.dbgAuthMode == 0) = false := beq_eq_false_iff_ne.mpr hm
  unfold mbDebugAuth
  dsimp only
  rw [debugFault_eq, hfault, hmethod]
  rfl

end

/-! ### The rows -/

/-- A transition that runs goes on, its token fitting, by its stage (R487). -/
theorem transition_goes_on {w : State} {y : MbCommand} {stage : Nat} {secret : Bytes} (hy : w.mailbox.running = some y)
    (hwait : y.wait = .fuses stage secret) (hcode : y.code = 0x0602) (ha : w.mbAnswers = true) (hm : w.power.mode ≠ .hold)
    (htok : w.tokenMatches y.bulk (y.par 8 1) = true) :
    let tok := y.bulk
    let target := y.par 8 1
    let goes (z : State) (k : Nat) : Prop := w.idleFuses = { z with
      mailbox.running := some { y with wait := .fuses k [], since := if y.wait = .fuses k [] then y.since else w.clock.now } }
    (stage = 0 → goes (w.prepare tok target secret) 1) ∧
    (stage = 1 → target = 0x0F →
      (∀ z, w.persoBit tok = some z → goes z 1) ∧ (w.persoBit tok = none → goes (w.persoDone tok) 2)) ∧
    (stage = 1 → target = 0x07 → goes { w with cellar.certMldsa := tokMldsaCert tok, cellar.certEcdsa := tokEcdsaCert tok } 2) ∧
    (stage = 1 → target ≠ 0x0F → target ≠ 0x07 → goes w 2) ∧
    (2 ≤ stage → ∃ n, w.idleFuses =
      ((({ w with mailbox.running := none } : State).closeWindow target).mbAnswer y { effect := true }).mbPump n) := by
  intro tok target goes
  have hkey : mbKeyChange y.code = false := by rw [hcode]; rfl
  have hbody : mbBody (w.withRunning none) y = (w.withRunning none).transitionStage tok target stage secret := by
    rw [← mbLcTransition_stage hwait htok none]
    unfold mbBody mbBodyHigh
    rw [hcode]
    rfl
  have step {z : State} {k : Nat} (hstage : (w.withRunning none).transitionStage tok target stage secret = (z.withRunning none, .waits (.fuses k [])))
      (hmode : z.power.mode = w.power.mode) (hclock : z.clock = w.clock) : goes z k :=
    idleFuses_goes hy hwait hkey ha hm (by rw [hcode]; decide) (hbody.trans hstage) hmode hclock
  refine ⟨fun hs => ?prepare, fun hs ht => ⟨fun z hz => ?bit, fun hz => ?done⟩, fun hs ht => ?certs, fun hs hf hc => ?other, fun hs => ?close⟩
  case prepare =>
    obtain ⟨hmode, hclock⟩ := prepare_mode w tok target secret
    refine step ?_ hmode hclock
    subst hs
    exact congrArg (·, MbReply.waits (.fuses 1 [])) (prepare_withRunning w none tok target secret)
  case bit =>
    have hbit : (w.withRunning none).persoBit tok = some (z.withRunning none) := by rw [persoBit_withRunning, hz]; rfl
    have hstill := persoBit_still hz
    refine step ?_ (congrArg (fun p : Power × Clock × Mailbox => p.1.mode) hstill) (congrArg (fun p : Power × Clock × Mailbox => p.2.1) hstill)
    subst hs
    refine (if_pos (by simp [ht])).trans ?_
    rw [hbit]
  case done =>
    have hbit : (w.withRunning none).persoBit tok = none := by rw [persoBit_withRunning, hz]; rfl
    refine step ?_ rfl rfl
    subst hs
    refine (if_pos (by simp [ht])).trans ?_
    rw [hbit]
    rfl
  case certs =>
    refine step ?_ rfl rfl
    subst hs
    exact (if_neg (by simp [ht])).trans (if_pos (by simp [ht]))
  case other =>
    refine step ?_ rfl rfl
    subst hs
    exact (if_neg (by simpa using hf)).trans (if_neg (by simpa using hc))
  case close =>
    obtain ⟨-, hmailbox, hmode⟩ := closeWindow_keeps (w.withRunning none) target
    have hclose : (w.withRunning none).transitionStage tok target stage secret = ((w.withRunning none).closeWindow target, .ok) := by
      obtain ⟨k, rfl⟩ := Nat.exists_eq_add_of_le' hs
      rfl
    have hclosed : mbBody (w.withRunning none) y = ((w.withRunning none).closeWindow target, .answer { effect := true }) := hbody.trans hclose
    show ∃ n, w.idleFuses = (((w.withRunning none).closeWindow target).mbAnswer y { effect := true }).mbPump n
    generalize (w.withRunning none).closeWindow target = z at hclosed hmode hmailbox
    exact idleFuses_answers hy hwait hkey ha hm (by rw [hcode]; decide) hclosed rfl hmode (congrArg Mailbox.running hmailbox)

/-- An accepted transition waits for its first stage (R487). -/
theorem startTransition_held (w : State) (c : MbCommand) (target : Nat) (secret : Bytes) (hc : c.wait = .none) (hcode : c.code = 0x0602) :
    ({ w with journal.lcPending := some (w.lcCode, target) } : State).mbHold c (.fuses 0 secret) =
      { w with
        journal.lcPending := some (w.lcCode, target), mailbox.running := some { c with wait := .fuses 0 secret, since := w.clock.now } } := by
  unfold State.mbHold
  rw [hcode, hc]
  rfl

/-- Settles O46: a transition by `transitionFault` and then stage by stage, debug rights by the faults of the certificate or the response. -/
theorem mailboxLifeCycle : Obligations.MailboxLifeCycle := by
  unfold Obligations.MailboxLifeCycle
  rintro s _ _ t conn msg x rfl rfl
  intro c b m
  refine ⟨fun h => ⟨fun hm => command_replies mbProvisioningEnter h (mbProvisioningEnter_enters hm),
      fun hs hd => command_replies mbProvisioningEnter h (mbProvisioningEnter_elsewhere hs hd)⟩,
    fun h hm => command_replies mbProvisioningExit h (mbProvisioningExit_exits hm), fun h => ?transition,
    fun w y stage secret hy hwait hcode ha hm => transition_goes_on hy hwait hcode ha hm, closeWindow_window,
    fun w f target hp hl => bootTransition_wipes hp hl, fun at' hreset hdue => ?reset,
    fun h => ⟨fun hm => command_replies mbDebugChallenge h (mbDebugChallenge_method hm),
      fun hm hd => command_replies mbDebugChallenge h (mbDebugChallenge_served hm hd)⟩, fun n since hn hdue => ?expiry, fun h => ?auth, rfl⟩
  case transition =>
    have faulty {st : Status} (hf : ((s.advance t).taken x).transitionFault c.bulk (c.par 8 1) = some st) :
        Refuses (exec (.lcTransition t conn msg) s) c ((s.advance t).taken x) st :=
      command_replies mbLcTransition h (mbLcTransition_refused rfl hf)
    refine ⟨fun hm => faulty (transitionFault_elsewhere hm), fun hm hv => faulty (transitionFault_low hm hv),
      fun hm hv hs => faulty (transitionFault_unsigned hm hv hs),
      fun hm hv hs => ⟨fun hf => faulty (transitionFault_unfit hm hv hs hf), fun hf hd => ?undrawn, fun hf hd hserved => ?drawn⟩⟩
    case undrawn =>
      obtain ⟨y, n, hy, rfl⟩ := command_waits mbLcTransition h (mbLcTransition_undrawn (c := c) rfl (transitionFault_none hm hv hs hf) hd)
      exact ⟨_, n, hy, startTransition_held ((s.advance t).taken x) c _ _ rfl h.isCode⟩
    case drawn =>
      obtain ⟨y, n, hy, rfl⟩ :=
        command_waits mbLcTransition h (mbLcTransition_drawn (c := c) rfl (transitionFault_none hm hv hs hf) hd hserved)
      exact ⟨_, n, hy, startTransition_held (((s.advance t).taken x).serveDraw false 1).1 c _ _ rfl h.isCode⟩
  case reset =>
    refine congrArg Host.Outcome.next ?_
    rw [hreset]
    exact if_pos hdue
  case expiry =>
    refine congrArg Host.Outcome.next ?_
    rw [hn]
    exact if_pos hdue
  case auth =>
    exact ⟨fun st hf => command_replies mbDebugAuth h (mbDebugAuth_refused hf),
      fun hm hf => command_replies mbDebugAuth h (mbDebugAuth_certificate hm hf),
      fun hm hf => command_replies mbDebugAuth h (mbDebugAuth_response hm hf)⟩

end Sys2Proof.Machine
end

/-! Firmware staging, commit and confirmation, and patches by mailbox command (03 R104, R105, R108; 12 R369 to R371; 17 R495). -/
section
namespace Sys2Proof.Machine

/-! ### FW_STAGE (R369) -/

/-- Bytes of a FW_STAGE that staging goes on with. -/
def State.stageFits (v : State) (first off len : Nat) : Prop :=
  first ≤ 1 ∧ off = (if first = 1 then 0 else v.firmware.stagedLen) ∧ off + len ≤ bankSize

theorem stageRefused_iff (v : State) (first off len : Nat) :
    (decide (1 < first) || off != (if (first == 1) = true then 0 else v.firmware.stagedLen) || decide (bankSize < off + len)) = true ↔
      ¬ v.stageFits first off len := by
  simp only [State.stageFits, Bool.or_eq_true, decide_eq_true_eq, bne_iff_ne, beq_iff_eq]
  generalize (if first = 1 then 0 else v.firmware.stagedLen) = want
  generalize bankSize = size
  omega

/-- The state once bytes are staged at an offset; FIRST starts anew. -/
def State.staged (v : State) (first off : Nat) (b : Bytes) : State :=
  let w := if first = 1 then v.stageFirst else v
  let bytes := w.bank w.otherBank
  let w' := w.setBank w.otherBank (bytes.take off ++ b ++ bytes.drop (off + b.length)) (w.bankSerial w.otherBank)
  { w' with firmware.stagedLen := off + b.length }

section
variable {v : State} {c : MbCommand} (hb : c.bulk ≠ [])
include hb

theorem mbFwStage_refused (h : ¬ v.stageFits (c.par 0x0C 1) (c.par 8 4) c.bulk.length) :
    mbFwStage v c = (v, .answer { status := .mbRange, result := mbFields [(0x08, toLe 4 v.firmware.stagedLen)] }) :=
  (if_neg (by simpa using hb)).trans (if_pos ((stageRefused_iff ..).mpr h))

theorem mbFwStage_stages (h : v.stageFits (c.par 0x0C 1) (c.par 8 4) c.bulk.length) :
    mbFwStage v c =
      (v.staged (c.par 0x0C 1) (c.par 8 4) c.bulk,
       .answer { result := mbFields [(0x08, toLe 4 (c.par 8 4 + c.bulk.length))], effect := true }) := by
  refine (if_neg (by simpa using hb)).trans ((if_neg fun hbad => (stageRefused_iff ..).mp hbad h).trans ?_)
  dsimp only
  simp only [beq_iff_eq]
  rfl

end

/-! ### FW_COMMIT (R370) -/

/-- Bytes staged in the bank that does not run. -/
def State.stagedImage (v : State) : Bytes := (v.bank (1 - v.firmware.running)).take v.firmware.stagedLen

section
variable {v : State} {c : MbCommand}

theorem mbFwCommit_length (h : c.par 8 4 ≠ v.firmware.stagedLen) : mbFwCommit v c = (v, .refuse .mbStateConflict) :=
  if_pos (by simpa using h)

variable (hl : c.par 8 4 = v.firmware.stagedLen)
include hl

theorem mbFwCommit_unsigned (h : ¬ (v.signerPermitted (manSigner v.stagedImage) = true ∧ v.manifestSigned v.stagedImage = true)) :
    mbFwCommit v c = (v, .refuse .signatureInvalid) := by
  refine (if_neg (by simp [hl])).trans (if_pos ?_)
  rwa [Bool.or_eq_true, Bool.not_eq_true', Bool.not_eq_true', ← Bool.not_eq_true, ← Bool.not_eq_true, ← not_and_or]

variable (hp : v.signerPermitted (manSigner v.stagedImage) = true) (hs : v.manifestSigned v.stagedImage = true)
include hp hs

theorem mbFwCommit_malformed (h : manifestForm v.stagedImage = false) : mbFwCommit v c = (v, .refuse .malformedEncoding) := by
  have hsigned : ¬ (!v.signerPermitted (manSigner v.stagedImage) || !v.manifestSigned v.stagedImage) = true := by simp [hp, hs]
  have hform : (!manifestForm v.stagedImage) = true := by simp [h]
  exact (if_neg (by simp [hl])).trans ((if_neg hsigned).trans (if_pos hform))

theorem mbFwCommit_compared {w : State} (h : manifestForm v.stagedImage = true)
    (hw : v.compareAll v.stagedImage (components v.stagedImage) = (w, some true)) :
    mbFwCommit v c =
      if manSvn v.stagedImage < w.fusedSvn then (w, .refuse .mbRollback)
      else
        (let serial := (w.bankSerial w.firmware.running + 1) % 2 ^ 32
         (w.setBank w.otherBank (w.bank w.otherBank) serial,
          .answer { result := mbFields [(0x08, toLe 4 serial)], effect := true })) := by
  have hsigned : ¬ (!v.signerPermitted (manSigner v.stagedImage) || !v.manifestSigned v.stagedImage) = true := by simp [hp, hs]
  have hform : ¬ (!manifestForm v.stagedImage) = true := by simp [h]
  have hcompared : v.compareAll ((v.bank v.otherBank).take v.firmware.stagedLen) (components ((v.bank v.otherBank).take v.firmware.stagedLen)) =
      (w, some true) := hw
  refine (if_neg (by simp [hl])).trans ((if_neg hsigned).trans ((if_neg hform).trans ?_))
  rw [hcompared]
  rfl

end

/-! ### FW_CONFIRM (R371, R495) -/

/-- FW_SVN with one bit more. -/
def State.svnBlown (v : State) : State := { v with fuses.fwSvn := v.fusedSvn + 1 }

section
variable {v : State} {c : MbCommand}

theorem mbFwConfirm_low (hc : c.wait = .none) (h : v.power.vin < vinFull) : mbFwConfirm v c = (v, .refuse .mbVinLow) :=
  if_pos (by simp [hc, h])

variable (hv : c.wait = .none → vinFull ≤ v.power.vin)
include hv

theorem vinJudged : ¬ (c.wait == .none && decide (v.power.vin < vinFull)) = true := by
  rw [Bool.and_eq_true, beq_iff_eq, decide_eq_true_eq]
  rintro ⟨hc, hlow⟩
  exact absurd (hv hc) (Nat.not_le.mpr hlow)

theorem mbFwConfirm_confirmed (h : v.firmware.svn ≤ v.fusedSvn) : mbFwConfirm v c = (v, .refuse .mbStateConflict) :=
  (if_neg (vinJudged hv)).trans (if_pos h)

theorem mbFwConfirm_more (h : v.fusedSvn + 1 < v.firmware.svn) : mbFwConfirm v c = (v.svnBlown, .waits (.fuses 0 [])) :=
  (if_neg (vinJudged hv)).trans ((if_neg (by omega)).trans (if_pos h))

theorem mbFwConfirm_last (h : v.fusedSvn + 1 = v.firmware.svn) :
    mbFwConfirm v c =
      (({ v with fuses.fwSvn := v.firmware.svn } : State).raise 201 [],
       .answer { result := mbFields [(0x08, toLe 4 v.firmware.svn)], effect := true }) := by
  refine (if_neg (vinJudged hv)).trans ((if_neg (by omega)).trans ((if_neg (?_ : ¬ v.fusedSvn + 1 < v.firmware.svn)).trans ?_))
  · omega
  · have hsvn : (v.svnBlown.raise 201 []).fusedSvn = v.fusedSvn + 1 := congrArg Fuses.fwSvn (raise_events _ _ _).fuses
    show (v.svnBlown.raise 201 [], MbReply.answer { result := mbFields [(0x08, toLe 4 (v.svnBlown.raise 201 []).fusedSvn)], effect := true }) = _
    rw [hsvn, State.svnBlown, h]

end

/-! ### PATCH_LOAD (R104, R105, R108) -/

section
variable {v : State} {c : MbCommand} {k : MicroKind} (hk : microKind (c.par 8 1) = some k)
include hk

theorem mbPatchLoad_unsigned (h : patchSigned (c.par 8 1) c.bulk = false) : mbPatchLoad v c = (v, .refuse .signatureInvalid) := by
  unfold mbPatchLoad
  rw [hk]
  exact if_pos (by simp [h])

variable (hs : patchSigned (c.par 8 1) c.bulk = true)
include hs

theorem mbPatchLoad_conflict (h : patchBase c.bulk ≠ (v.vintage k).base ∨ (v.vintage k).patchState = .loaded) :
    mbPatchLoad v c = (v, .refuse .mbStateConflict) := by
  unfold mbPatchLoad
  rw [hk]
  refine (if_neg (by simp [hs])).trans (if_pos ?_)
  rcases h with h | h <;> simp [h]

theorem mbPatchLoad_loads (hb : patchBase c.bulk = (v.vintage k).base) (hl : (v.vintage k).patchState ≠ .loaded)
    (hf : patchFits k c.bulk = true) : mbPatchLoad v c = (v.loadPatch k c.bulk, .ok) := by
  unfold mbPatchLoad
  rw [hk]
  exact (if_neg (by simp [hs])).trans ((if_neg (by simp [hb, hl])).trans (if_neg (by simp [hf])))

end

/-! ### A confirmation that runs (log entry 111) -/

section
variable {w : State} {y : MbCommand} (hy : w.mailbox.running = some y) (hwait : y.wait = .fuses 0 []) (hcode : y.code = 0x0702)
  (ha : w.mbAnswers = true) (hm : w.power.mode ≠ .hold)
include hy hwait hcode ha hm

theorem confirm_goes_on (h : w.fusedSvn + 1 < w.firmware.svn) : w.idleFuses = w.svnBlown := by
  have hbody : mbBody (w.withRunning none) y = (w.svnBlown.withRunning none, .waits (.fuses 0 [])) := by
    refine Eq.trans ?_ (mbFwConfirm_more (v := w.withRunning none) (c := y) (fun hc => by simp [hwait] at hc) h)
    unfold mbBody mbBodyHigh
    rw [hcode]
    rfl
  have hsame : ({ y with wait := .fuses 0 [], since := if y.wait = .fuses 0 [] then y.since else w.clock.now } : MbCommand) = y := by
    rw [if_pos hwait, ← hwait]
  have hback : ∀ r, r = w.svnBlown.mailbox.running → ({ w.svnBlown with mailbox.running := r } : State) = w.svnBlown := by
    rintro _ rfl
    rfl
  refine (idleFuses_goes (z := w.svnBlown) hy hwait (by rw [hcode]; rfl) ha hm (by rw [hcode]; decide) hbody rfl rfl).trans ?_
  rw [hsame]
  exact hback _ hy.symm

theorem confirm_ends (h : w.fusedSvn + 1 = w.firmware.svn) :
    ∃ n, w.idleFuses =
      ((({ w with mailbox.running := none, fuses.fwSvn := w.firmware.svn } : State).raise 201 []).mbAnswer y
        { result := mbFields [(0x08, toLe 4 w.firmware.svn)], effect := true }).mbPump n := by
  have hbody : mbBody (w.withRunning none) y = (({ w.withRunning none with fuses.fwSvn := w.firmware.svn } : State).raise 201 [],
      .answer { result := mbFields [(0x08, toLe 4 w.firmware.svn)], effect := true }) := by
    refine Eq.trans ?_ (mbFwConfirm_last (v := w.withRunning none) (c := y) (fun hc => by simp [hwait] at hc) h)
    unfold mbBody mbBodyHigh
    rw [hcode]
    rfl
  have hraised := raise_events ({ w.withRunning none with fuses.fwSvn := w.firmware.svn } : State) 201 []
  exact idleFuses_answers hy hwait (by rw [hcode]; rfl) ha hm (by rw [hcode]; decide) hbody rfl (congrArg Power.mode hraised.power)
    (congrArg Mailbox.running hraised.mailbox)

end

/-- Settles O47: each command by its checks in order, a confirmation that runs by one bit at a time. -/
theorem mailboxFirmware : Obligations.MailboxFirmware := by
  unfold Obligations.MailboxFirmware
  rintro s _ _ t conn msg x rfl rfl
  intro c p b other
  refine ⟨fun h hb => ?stage, fun h => ?commit, fun h => ?confirm,
    fun w y hy hwait hcode ha hm => ⟨confirm_goes_on hy hwait hcode ha hm, confirm_ends hy hwait hcode ha hm⟩, fun h => ?patch⟩
  case stage =>
    exact ⟨fun hbad => command_replies mbFwStage h (mbFwStage_refused hb hbad),
      fun hok => command_replies mbFwStage h (mbFwStage_stages hb hok)⟩
  case commit =>
    refine ⟨fun hl => command_replies mbFwCommit h (mbFwCommit_length hl),
      fun hl hsigned => command_replies mbFwCommit h (mbFwCommit_unsigned hl hsigned),
      fun hl hsigned hform => command_replies mbFwCommit h (mbFwCommit_malformed hl hsigned.1 hsigned.2 hform),
      fun hl hsigned hform w hw => ?_⟩
    have hb := mbFwCommit_compared (c := c) hl hsigned.1 hsigned.2 hform hw
    exact ⟨fun hold => command_replies mbFwCommit h (hb.trans (if_pos hold)),
      fun hnew => command_replies mbFwCommit h (hb.trans (if_neg (Nat.not_lt.mpr hnew)))⟩
  case confirm =>
    refine ⟨fun hv => command_replies mbFwConfirm h (mbFwConfirm_low rfl hv),
      fun hv hs => command_replies mbFwConfirm h (mbFwConfirm_confirmed (fun _ => hv) hs),
      fun hv hs => command_replies mbFwConfirm h (mbFwConfirm_last (fun _ => hv) hs), fun hv hs => ?_⟩
    obtain ⟨y, n, hy, rfl⟩ := command_waits mbFwConfirm h (mbFwConfirm_more (c := c) (fun _ => hv) hs)
    have hcode : c.code = 0x0702 := h.isCode
    exact ⟨_, n, hy, if_neg (by rw [hcode]; decide)⟩
  case patch =>
    intro e k hk
    exact ⟨fun hs => command_replies mbPatchLoad h (mbPatchLoad_unsigned hk hs),
      fun hs hbad => command_replies mbPatchLoad h (mbPatchLoad_conflict hk hs hbad),
      fun hs hbase hl hf => command_replies mbPatchLoad h (mbPatchLoad_loads hk hs hbase hl hf)⟩

end Sys2Proof.Machine
end

/-! Ports, Express, Tasting and repair by mailbox command (12 R373; 13 R374 to R384, R405; 16 R462, R463; 18 R525, R530). -/
section
namespace Sys2Proof.Machine

/-! ### Express (R462, R463) -/

section
variable {v : State} {c : MbCommand}

theorem mbExpressEnable_in_mask (hlow : 1 ≤ c.par 8 1) (hhigh : c.par 8 1 ≤ 3) :
    mbExpressEnable v c =
      (let w := { v with
         journal.expressMask := c.par 8 1, journal.addrP0 := c.par 0x0C 4, journal.addrP4 := c.par 0x10 4
         express.enabled := true, express.closing := false, power.expressReady := true }
       (w.reserveExpress, .ok)) := by
  refine if_neg ?_
  simp only [Bool.or_eq_true, beq_iff_eq, decide_eq_true_eq]
  omega

/-! ### PORT_CONFIG (R374, R377, R384) -/

/-- Settings of a PORT_CONFIG (R377). -/
def MbCommand.portSettings (c : MbCommand) : PortSettings :=
  { laneMode := c.par 9 1, mtu := c.par 0x0A 2, vlan := c.par 0x0C 2 % 4096, pfcMask := c.par 0x0E 1
    ets := (List.range 8).map fun i => c.par (0x10 + i) 1 }

/-- Settings that a port takes. -/
def State.portTakes (v : State) (p : Nat) (x : PortSettings) : Prop :=
  p ≤ 7 ∧ laneModeOk p x.laneMode = true ∧ v.memberUnder Port.heldMode p = false ∧ 1500 ≤ x.mtu ∧ x.mtu ≤ 9216 ∧ x.vlan ≤ 4094 ∧
    etsOk x.ets = true

theorem portRefused_iff (v : State) (p : Nat) (x : PortSettings) :
    (decide (7 < p) || !laneModeOk p x.laneMode || v.memberUnder Port.heldMode p || decide (x.mtu < 1500) || decide (9216 < x.mtu) ||
      decide (4094 < x.vlan) || !etsOk x.ets) = true ↔ ¬ v.portTakes p x := by
  unfold State.portTakes
  generalize laneModeOk p x.laneMode = a, v.memberUnder Port.heldMode p = b, etsOk x.ets = d
  simp only [Bool.or_eq_true, decide_eq_true_eq, Bool.not_eq_true']
  cases a <;> cases b <;> cases d <;> simp <;> omega

theorem mbPortConfig_refused (h : ¬ v.portTakes (c.par 8 1) c.portSettings) : mbPortConfig v c = (v, .refuse .mbRange) :=
  if_pos ((portRefused_iff v _ c.portSettings).mpr h)

theorem mbPortConfig_writes (h : v.portTakes (c.par 8 1) c.portSettings) :
    mbPortConfig v c = (v.writePort (c.par 8 1) c.portSettings, .ok) :=
  if_neg fun hbad => (portRefused_iff v _ c.portSettings).mp hbad h

end

/-- With its island on, a port takes its settings at once (R377). -/
theorem writePort_on {v : State} {p : Nat} {x : PortSettings} {y : Port} (hy : v.port? p = some y) (hon : v.domainOn (portDomain p) = true) :
    v.writePort p x =
      (((if y.laneMode = x.laneMode then v else v.setLanes p x.laneMode).modPort p fun y =>
        { y with mtu := x.mtu, vlan := x.vlan, pfcMask := x.pfcMask, ets := x.ets, shadow := none }).tooSmall p x.mtu) := by
  refine (if_pos hon).trans ?_
  unfold State.setPort
  rw [hy]
  simp only [beq_iff_eq]

/-- With its island off, a port alone holds its settings until it comes on (R33, R36). -/
theorem writePort_off {v : State} {p : Nat} {x : PortSettings} (hoff : v.domainOn (portDomain p) = false) (hn : groupSize x.laneMode = 1) :
    v.writePort p x = v.modPort p fun y => { y with shadow := some x } := by
  refine (if_neg (ne_true_of_eq_false hoff)).trans ?_
  rw [hn]
  rfl

/-! ### CLASSIFIER_LOAD (R405, R407) -/

section
variable {v : State} {c : MbCommand}

theorem mbClassifierLoad_length (hp : c.par 8 1 ≤ 7) (h : c.par 9 1 = 0 ∨ 64 < c.par 9 1 ∨ c.bulk.length ≠ 8 * c.par 9 1) :
    mbClassifierLoad v c = (v, .refuse .lengthMismatch) := by
  refine (if_neg (Nat.not_lt.mpr hp)).trans (if_pos ?_)
  simpa only [Bool.or_eq_true, beq_iff_eq, decide_eq_true_eq, bne_iff_ne, or_assoc] using h

theorem mbClassifierLoad_loads (hp : c.par 8 1 ≤ 7) (hlow : 1 ≤ c.par 9 1) (hhigh : c.par 9 1 ≤ 64) (hlen : c.bulk.length = 8 * c.par 9 1) :
    mbClassifierLoad v c = (v.writeProgram (c.par 8 1) (programOf c.bulk (c.par 9 1)), .ok) := by
  refine (if_neg (Nat.not_lt.mpr hp)).trans (if_neg ?_)
  simp only [Bool.or_eq_true, beq_iff_eq, decide_eq_true_eq, bne_iff_ne]
  omega

/-! ### TASTING_SET and TASTING_LOAD (R525) -/

/-- Budgets that TASTING_SET takes. -/
def tastingTakes (total slice : Nat) : Prop := 500 ≤ total ∧ total ≤ 10000 ∧ 1000 ≤ slice ∧ slice ≤ 100000

theorem tastingRefused_iff (total slice : Nat) :
    (decide (total < 500) || decide (10000 < total) || decide (slice < 1000) || decide (100000 < slice)) = true ↔ ¬ tastingTakes total slice := by
  simp only [tastingTakes, Bool.or_eq_true, decide_eq_true_eq]
  omega

theorem mbTastingSet_refused (h : ¬ tastingTakes (c.par 8 4) (c.par 0x0C 4)) : mbTastingSet v c = (v, .refuse .mbRange) :=
  if_pos ((tastingRefused_iff ..).mpr h)

theorem mbTastingSet_sets (h : tastingTakes (c.par 8 4) (c.par 0x0C 4)) :
    mbTastingSet v c = ({ v with tasting.totalMs := c.par 8 4, tasting.sliceUs := c.par 0x0C 4 }, .ok) :=
  if_neg fun hbad => (tastingRefused_iff ..).mp hbad h

theorem mbTastingLoad_of_length (hlow : 1 ≤ c.par 8 2) (hhigh : c.par 8 2 ≤ 1024) (hlen : c.bulk.length = 16 * c.par 8 2) :
    mbTastingLoad v c =
      if (chunks 16 (c.par 8 2) c.bulk).all stepOk then (v.loadSteps (chunks 16 (c.par 8 2) c.bulk), .ok)
      else (v, .refuse .malformedEncoding) := by
  refine if_neg ?_
  simp only [Bool.or_eq_true, beq_iff_eq, decide_eq_true_eq, bne_iff_ne]
  omega

/-! ### FUSE_REPAIR (R373, R530) -/

/-- Entries of a repair list. -/
def MbCommand.repairs (c : MbCommand) : List Nat := (List.range (c.par 8 2)).map fun i => le c.bulk (4 * i) 4

theorem mbFuseRepair_elsewhere (hm : v.power.mode ≠ .provisioning) : mbFuseRepair v c = (v, .refuse .mbNotInMode) :=
  if_pos (by simpa using hm)

variable (hm : v.power.mode = .provisioning)
include hm

theorem mbFuseRepair_low (hv : v.power.vin < vinFull) : mbFuseRepair v c = (v, .refuse .mbVinLow) :=
  (if_neg (by simp [hm])).trans (if_pos hv)

variable (hv : vinFull ≤ v.power.vin)
include hv

theorem mbFuseRepair_denied (ht : v.inTest = false) (hr : v.hasRight rFuseRepair = false) :
    mbFuseRepair v c = (v, .refuse .mbRightsDenied) :=
  (if_neg (by simp [hm])).trans ((if_neg (Nat.not_lt.mpr hv)).trans (if_pos (by simp [ht, hr])))

/-- A list that the checks pass is blown if the array holds it (R530). -/
theorem mbFuseRepair_sound (hr : v.inTest = true ∨ v.hasRight rFuseRepair = true) (hlen : c.bulk.length = 4 * c.par 8 2)
    (hok : c.repairs.all repairOk = true) (hfree : spareTaken v.fuses.repair c.repairs = false) :
    mbFuseRepair v c =
      if 64 < v.fuses.repair.length + c.par 8 2 then (v, .refuse .quotaExceeded)
      else (({ v with fuses.repair := v.fuses.repair ++ c.repairs } : State).raise 200 [], .ok) := by
  have hrights : ¬ (!v.inTest && !v.hasRight rFuseRepair) = true := by rcases hr with hr | hr <;> simp [hr]
  have hform : ¬ (!c.repairs.all repairOk) = true := by simp only [hok]; decide
  exact (if_neg (by simp [hm])).trans ((if_neg (Nat.not_lt.mpr hv)).trans ((if_neg hrights).trans ((if_neg (by simp [hlen])).trans
    ((if_neg hform).trans (if_neg (ne_true_of_eq_false hfree))))))

end

/-- Settles O48: each command by what its body does under the clause's conditions; EXPRESS_DISABLE waits for the epoch. -/
theorem mailboxPorts : Obligations.MailboxPorts := by
  unfold Obligations.MailboxPorts
  rintro s _ _ t conn msg x rfl rfl
  intro c p b n done
  refine ⟨fun h hlow hhigh => command_replies mbExpressEnable h (mbExpressEnable_in_mask hlow hhigh),
    fun h => command_waits mbExpressDisable h rfl, fun h => ?port, fun h hp => ?classifier,
    fun h => ⟨fun hbad => command_replies mbTastingSet h (mbTastingSet_refused hbad),
      fun hok => command_replies mbTastingSet h (mbTastingSet_sets hok)⟩, fun h hlow hhigh hlen => ?tasting, fun h => ?repair⟩
  case port =>
    refine ⟨fun hbad => command_replies mbPortConfig h (mbPortConfig_refused hbad), fun hok y hy => ?_⟩
    have hb := mbPortConfig_writes (c := c) hok
    exact ⟨fun hon => command_replies mbPortConfig h
        (hb.trans (congrArg (·, MbReply.ok) (writePort_on (p := c.par 8 1) (x := c.portSettings) hy hon))),
      fun hoff hn => command_replies mbPortConfig h
        (hb.trans (congrArg (·, MbReply.ok) (writePort_off (p := c.par 8 1) (x := c.portSettings) hoff hn)))⟩
  case classifier =>
    refine ⟨fun hbad => command_replies mbClassifierLoad h (mbClassifierLoad_length hp hbad), fun hlow hhigh hlen => ?_⟩
    have hb := mbClassifierLoad_loads (v := (s.advance t).taken x) (c := c) hp hlow hhigh hlen
    exact ⟨fun hon => command_replies mbClassifierLoad h (hb.trans (congrArg (·, MbReply.ok) (if_pos hon))),
      fun hoff => command_replies mbClassifierLoad h (hb.trans (congrArg (·, MbReply.ok) (if_neg (ne_true_of_eq_false hoff))))⟩
  case tasting =>
    have hb := mbTastingLoad_of_length (v := (s.advance t).taken x) (c := c) hlow hhigh hlen
    exact ⟨fun hbad => command_replies mbTastingLoad h (hb.trans (if_neg (ne_true_of_eq_false hbad))),
      fun hok => command_replies mbTastingLoad h (hb.trans (if_pos hok))⟩
  case repair =>
    refine ⟨fun hm => command_replies mbFuseRepair h (mbFuseRepair_elsewhere hm),
      fun hm hv => command_replies mbFuseRepair h (mbFuseRepair_low hm hv),
      fun hm hv ht hr => command_replies mbFuseRepair h (mbFuseRepair_denied hm hv ht hr), fun hm hv hr hlen hok hfree => ?_⟩
    have hb := mbFuseRepair_sound (c := c) hm hv hr hlen hok hfree
    exact ⟨fun hfull => command_replies mbFuseRepair h (hb.trans (if_pos hfull)),
      fun hroom => command_replies mbFuseRepair h (hb.trans (if_neg (Nat.not_lt.mpr hroom)))⟩

end Sys2Proof.Machine
end

/-!
ML-DSA (04 R100 to R102, R121 to R129). O9 turns on the verdict of an opaque check, `Config.stdHolds .dsaSig`: it holds where every search finds
a candidate (`mlDsaResults_of_candidates`), and implies a verdict of that check (`dsaValid_of_mlDsaResults`). Its clauses on keys, on signatures
that a round gives and on verification hold in either case.
-/
section
namespace Sys2Proof.Machine

/-! ### The search for a candidate (R100) -/

section
variable {p : Nat} {seed mu rnd : Bytes}

/-- The counter of candidate `k`, counted from 0 over all rounds. -/
def dsaCounter (p k : Nat) : Nat := k * mlDsaEll p

theorem dsaCounters_eq (p i : Nat) :
    dsaCounters p (i + 1) = [dsaCounter p (4 * i), dsaCounter p (4 * i + 1), dsaCounter p (4 * i + 2), dsaCounter p (4 * i + 3)] := rfl

/-- A round without a valid candidate is followed by the next. -/
theorem dsaSearch_skip {fuel i : Nat} (h : ∀ d, d < 4 → dsaValid p seed mu rnd (dsaCounter p (4 * i + d)) = false) :
    dsaSearch p seed mu rnd (fuel + 1) (i + 1) = dsaSearch p seed mu rnd fuel (i + 2) := by
  have h0 := h 0 (by decide)
  rw [dsaSearch, dsaCounters_eq]
  simp only [List.find?_cons, List.find?_nil, h 1 (by decide), h 2 (by decide), h 3 (by decide)]
  rw [Nat.add_zero] at h0
  rw [h0]

/-- A round whose candidate `d` is its first valid one ends the search. -/
theorem dsaSearch_stop {fuel i d : Nat} (hd : d < 4) (hv : dsaValid p seed mu rnd (dsaCounter p (4 * i + d)) = true)
    (hf : ∀ e, e < d → dsaValid p seed mu rnd (dsaCounter p (4 * i + e)) = false) :
    dsaSearch p seed mu rnd (fuel + 1) (i + 1) = some (i + 1, dsaCounter p (4 * i + d)) := by
  rw [dsaSearch, dsaCounters_eq]
  match d, hd with
  | 0, _ => simp only [List.find?_cons, Nat.add_zero] at hv ⊢; rw [hv]
  | 1, _ =>
    have h0 := hf 0 (by decide)
    rw [Nat.add_zero] at h0
    simp only [List.find?_cons, h0, hv]
  | 2, _ =>
    have h0 := hf 0 (by decide)
    rw [Nat.add_zero] at h0
    simp only [List.find?_cons, h0, hf 1 (by decide), hv]
  | 3, _ =>
    have h0 := hf 0 (by decide)
    rw [Nat.add_zero] at h0
    simp only [List.find?_cons, h0, hf 1 (by decide), hf 2 (by decide), hv]

/-- The search finds the first valid candidate within its rounds. -/
theorem dsaSearch_finds {k : Nat} (hv : dsaValid p seed mu rnd (dsaCounter p k) = true)
    (hf : ∀ i, i < k → dsaValid p seed mu rnd (dsaCounter p i) = false) :
    ∀ fuel i, 4 * i ≤ k → k < 4 * i + 4 * fuel → ∃ n, dsaSearch p seed mu rnd fuel (i + 1) = some (n, dsaCounter p k) := by
  intro fuel
  induction fuel with
  | zero => intro i hlow hhigh; omega
  | succ fuel ih =>
    intro i hlow hhigh
    by_cases hround : k < 4 * i + 4
    · obtain ⟨d, rfl⟩ := Nat.exists_eq_add_of_le hlow
      exact ⟨i + 1, dsaSearch_stop (by omega) hv fun e he => hf _ (by omega)⟩
    · obtain ⟨n, hn⟩ := ih (i + 1) (by omega) (by omega)
      exact ⟨n, (dsaSearch_skip fun d hd => hf _ (by omega)).trans hn⟩

/-- With every candidate invalid the search finds none. -/
theorem dsaSearch_fails : ∀ fuel i, (∀ k, k < 4 * i + 4 * fuel → dsaValid p seed mu rnd (dsaCounter p k) = false) →
    dsaSearch p seed mu rnd fuel (i + 1) = none := by
  intro fuel
  induction fuel with
  | zero => intro i h; rfl
  | succ fuel ih =>
    intro i h
    exact (dsaSearch_skip fun d hd => h _ (by omega)).trans (ih (i + 1) fun k hk => h k (by omega))

end

/-! ### Results -/

theorem dsaSign_finds {j : Job} {mu : Bytes} {k : Nat} (hk : k < 1024)
    (hv : dsaValid j.param j.material mu j.rnd (dsaCounter j.param k) = true)
    (hf : ∀ i, i < k → dsaValid j.param j.material mu j.rnd (dsaCounter j.param i) = false) :
    (dsaSign j mu).status = .success ∧ (dsaSign j mu).output = dsaSigOf j.param j.material mu j.rnd (dsaCounter j.param k) := by
  obtain ⟨n, hn⟩ := dsaSearch_finds hv hf 256 0 (by omega) (by omega)
  have hkept : dsaKept j.param j.material mu j.rnd = some (n, dsaCounter j.param k) := hn
  unfold dsaSign
  dsimp only
  rw [hkept]
  exact ⟨rfl, rfl⟩

theorem dsaSign_fails {j : Job} {mu : Bytes} (h : ∀ k, k < 1024 → dsaValid j.param j.material mu j.rnd (dsaCounter j.param k) = false) :
    dsaSign j mu = .failed .faultUnrecovered [some (mlDsaBase j.param + 256 * mlDsaRound j.param)] := by
  have hkept : dsaKept j.param j.material mu j.rnd = none := dsaSearch_fails 256 0 fun k hk => h k (by omega)
  unfold dsaSign
  dsimp only
  rw [hkept]

theorem dsaKey_eq {j : Job} {pk b : Bytes} (hnone : j.kind = .none → pk = j.input.take (mlDsaPk j.param) ∧ b = j.input.drop (mlDsaPk j.param))
    (hkey : j.kind ≠ .none → pk = dsaPkOf j.param j.material ∧ b = j.input) : j.dsaKey = (pk, b) := by
  unfold Job.dsaKey
  by_cases hk : j.kind = .none
  · obtain ⟨rfl, rfl⟩ := hnone hk
    exact if_pos (beq_iff_eq.mpr hk)
  · obtain ⟨rfl, rfl⟩ := hkey hk
    exact if_neg fun h => hk (eq_of_beq h)

/-- Where every signature has a candidate in its 256 rounds, each operation ends as O9 says. -/
theorem mlDsaResults_of_candidates (hv : ∀ p m mu rnd, ∃ k, k < 1024 ∧ dsaValid p m mu rnd (dsaCounter p k) = true) :
    Obligations.MlDsaResults := by
  unfold Obligations.MlDsaResults
  refine ⟨?signs, ?verifies⟩
  case signs =>
    rintro s _ t id j rfl
    intro c mu rnd signs
    have sign {i : Instr} {op : Op} {f : State → Job → OpResult} {m : Bytes} (h : Running (s.advance t) id op j)
        (hi : exec i s = .next ((s.advance t).runSign id op f)) (hfm : f (s.advance t) j = dsaSign j m) : signs i m := by
      refine ⟨fun k hk hvk hf => ?_, fun hall => ?_⟩
      · obtain ⟨hs, ho⟩ := dsaSign_finds (j := j) (mu := m) hk hvk hf
        exact hi ▸ runSign_yields h (hfm ▸ hs) (hfm ▸ ho)
      · obtain ⟨k, hk, hkv⟩ := hv j.param j.material m j.rnd
        exact absurd (hkv.symm.trans (hall k hk)) (by decide)
    exact ⟨fun h => runOp_yields_of_output h rfl, fun h => sign h rfl rfl, fun h => sign h rfl rfl, fun h => sign h rfl rfl,
      fun h => runOp_yields_of_output h rfl⟩
  case verifies =>
    rintro s _ t id j pk b rfl hnone hkey
    have hdsa : j.dsaKey = (pk, b) := dsaKey_eq hnone hkey
    intro c m checks
    have verify {i : Instr} {op : Op} {f : State → Job → OpResult} {mu sig : Bytes} (h : Running (s.advance t) id op j)
        (hi : exec i s = .next ((s.advance t).runOp id op f)) (hfm : f (s.advance t) j = dsaVerify op j.param pk mu sig) : checks i mu sig :=
      ⟨fun ht => hi ▸ runOp_yields_of_output h (hfm.trans (if_pos ht)),
        fun hf => hi ▸ runOp_endsWith_of_failed h (by decide) (hfm.trans (if_neg (ne_true_of_eq_false hf)))⟩
    refine ⟨fun h => verify h rfl ?message, fun h => verify h rfl ?digest, fun h => verify h rfl ?mu⟩
    case message =>
      unfold mlDsaVerifyResult
      rw [hdsa]
    case digest =>
      unfold mlDsaVerifyPrehashResult
      rw [hdsa]
    case mu =>
      unfold mlDsaVerifyMuResult
      rw [hdsa]

/-! ### The end of a search without a candidate (R102) -/

/-- A tile with two faults in the last second, whose bank holds the part of job 5. -/
def faultyTile : Engine := { banks := [.job 5 0], faultTimes := [0, 0] }

/-- A SIGN_MU job that runs although its part has committed, which O9 does not exclude. -/
def committedJob : Job :=
  { id := 5, queue := 0, entry := [], op := some .mlDsaSignMu, seq := 0, tConsume := 0, nConsume := 0, phase := .running
    parts := [{ pool := .press, engine := some 0, committed := true }] }

/-- The module in Service with that job on that tile. -/
def committedState : State := { power.mode := .service, engines.tiles := [faultyTile], fabric.jobs := [committedJob] }

theorem committedJob_running : Running committedState 5 .mlDsaSignMu committedJob :=
  ⟨rfl, rfl, rfl, by simp [committedJob], by decide, rfl⟩

/-- The trap of R102 takes the tile offline, and what has committed crosses to staging: the job has not the phase that `Failed` asks for. -/
theorem committedJob_staged :
    (((committedState.finish 5 (.failed .faultUnrecovered [some (mlDsaBase committedJob.param + 256 * mlDsaRound committedJob.param)])).dsaTrap 5).job? 5).map (·.phase) = some .staged := by
  rfl

/-- O9 says that a candidate is valid: with the verdict of the one candidate of that job, its clause on 256 rounds would be false. -/
theorem dsaValid_of_mlDsaResults (hall : Obligations.MlDsaResults) : dsaValid 0 [] [] [] 0 = true := by
  by_contra hv
  have hinvalid : ∀ k, dsaValid committedJob.param committedJob.material [] committedJob.rnd (dsaCounter committedJob.param k) = false := by
    intro k
    have hcounter : dsaCounter committedJob.param k = 0 := Nat.mul_zero k
    rw [hcounter]
    exact Bool.eq_false_of_not_eq_true hv
  unfold Obligations.MlDsaResults at hall
  obtain ⟨hsign, -⟩ := hall
  obtain ⟨-, -, -, hmu, -⟩ := hsign committedState committedState 0 5 committedJob rfl
  obtain ⟨-, hfail⟩ := hmu committedJob_running
  obtain ⟨x, hx, j, hj, hphase, -⟩ := hfail fun k _ => hinvalid k
  have hend : (committedState.finish 5 (dsaSign committedJob [])).dsaTrap 5 = x := Host.Outcome.next.inj hx
  have hstaged := committedJob_staged
  rw [← dsaSign_fails fun k _ => hinvalid k, hend, hj, Option.map_some, hphase] at hstaged
  exact absurd hstaged (by decide)

end Sys2Proof.Machine
end
